-- ==== Sys2Proof/Word.lean ====
section
/-! DEFINITION. The word types of the block and the type of its sparse tables. -/

namespace Sys2Proof

/-- A register of BAR 0 is 32 bits wide (R9). -/
abbrev Word := BitVec 32

/-- A byte of host memory, of a descriptor or of a frame. -/
abbrev Byte := BitVec 8

/-- A sparse table: (key, value) pairs, keys strictly rising, no entry equal to the table's default. Machine/Tbl.lean
reads and writes it; an unlisted key reads as the default that the reader names. -/
abbrev Tbl (α : Type) := List (Nat × α)

end Sys2Proof
end

