-- ==== Sys2Proof/Syntax.lean ====
section
/-! DEFINITION. The commands of the block: one constructor of Instr for each row of spec/opcode_table.json, in the order of
the table, and the types of the operands that a command brings from outside (measured values, blocks of bytes, verdicts). -/

namespace Sys2Proof

/-- Who reads or writes a register (R541): the host through BAR 0, the host through BAR 4, or the Housekeeper. -/
inductive Master where
  | hostBar0 | hostBar4 | housekeeper
  deriving DecidableEq, Repr

/-- The twelve major modes (R513). -/
inductive Mode where
  | off | sleep | coldStart | warmStart | ready | scan | hold | calibrate | service | limp | halt | diagnose
  deriving DecidableEq, Repr

/-- The sums of the 512 conversions of each point of a slice calibration run (R135): five offset points, five gain points,
32 linearity points. -/
structure SliceMeas where
  off  : List Int
  gain : List Int
  inl  : List Int
  deriving DecidableEq, Repr

/-- The residual fit of an overlap (R145): sample span, offset in 1/512 code, gain as a fraction. -/
structure ResidualFit where
  span  : Nat
  roff  : Int
  rgNum : Int
  rgDen : Nat
  deriving DecidableEq, Repr

/-- One sample as the tap's slice delivers it: the code, the over-range flag, and whether a shading read met an
uncorrectable word (R109, R180). -/
structure Sample where
  code : Nat
  ovr  : Bool
  deriving DecidableEq, Repr

/-- The result of one flash or memory operation that the outside world reports. -/
inductive OpResult where
  | ok | failed
  deriving DecidableEq, Repr

/-- The four clock faults of R54. -/
inductive ClockFault where
  | refLost | rootUnlock | celUnlock | pcieRefLost
  deriving DecidableEq, Repr

/-- What the supply monitors see when a RESET condition is detected (R498): the rails below UV_RESET (bit order of
PWR_RSTCAUSE.UV, bit 9 VMON) and the RST_N pin. -/
structure ResetCause where
  uv  : BitVec 10
  pin : Bool
  deriving DecidableEq, Repr

/-- The fuse block as a cold start reads it (R257): 256 tap words, 16 repair map entries, the default of FUSE_COMPAT, and
whether the CRC over them is correct. -/
structure FuseBlock where
  taps   : List Nat
  repair : List Nat
  compat : Bool
  crcOk  : Bool
  deriving DecidableEq, Repr

/-- What a step of a start reports as it ends (R522). Each step reads only its own fields. -/
structure StepReport where
  /-- The step met its failure condition (R526). -/
  failed : Bool := false
  /-- Step 3 of a cold start: the fuse block (R257). -/
  fuses : Option FuseBlock := none
  /-- Steps 5 and 7: failing rows (bank, row) or failing lanes (lane, 0). Step 14: Attic banks (1 A, 2 B) that the flash does
  not return as they were written. -/
  pairs : List (Nat × Nat) := []
  /-- Step 8: the runs of each slice (group, slice, runs in order). -/
  runs : List (Nat × Nat × List SliceMeas) := []
  /-- Step 4 of a cold start: what the flash holds: slot A valid (1), its SEQ and VERSION, the same of slot B, then mode and
  Mbit of ATT_FLASH. Step 6 of a cold start: RATE, DENS and CH_FAIL of CEL_STATUS. -/
  nums : List Nat := []
  deriving DecidableEq, Repr

/-- A ring entry as it was read: the buffer descriptor of an image ring (R369). -/
structure BufDesc where
  addr  : Nat
  len   : Nat
  flags : Nat
  deriving DecidableEq, Repr

/-- A document-sensor or encoder observation: the level, and TIME and POS of the run's first sample (R273). -/
structure EdgeObs where
  level : Bool
  time  : Nat
  deriving DecidableEq, Repr

/-- What a pulse diagnosis measures (R325): current in 0.01 mA, forward voltage in mV, headroom in mV. -/
structure PulseMeas where
  current : Nat
  vf      : Nat
  head    : Nat
  deriving DecidableEq, Repr

/-- What the Pantry's monitors measured over the epoch just ended (R504): the core energy in uJ, the sum over the servo
periods of VMEAS x IRAIL x period in mV x mA x us, the highest 10 us total power in mW, and per axis the steps and the
milliseconds (in 1/100) at rest while enabled, and the sum over the hundred 10 us instants of max(0, code) of its bound aux
entry. -/
structure PantryMeas where
  core   : Nat
  lamp   : Nat
  peak   : Nat
  steps  : List Nat
  rest   : List Nat
  bound  : List Nat
  deriving DecidableEq, Repr

/-- The outcome of a firmware operation (R536, R537): the check of the image header and signature, its SEQ and VERSION, a
flash failure, a failed host read. -/
structure FwReport where
  valid   : Bool
  seq     : Nat
  version : Nat
  flashOk : Bool
  readOk  : Bool
  deriving DecidableEq, Repr

/-- An error that a scrubber pass found (R179): bank, row, and whether it was uncorrectable. -/
structure ScrubFind where
  bank : Fin 17
  row  : Fin 4096
  ue   : Bool
  deriving DecidableEq, Repr

/-- What the self-tests of DIAGNOSE found (R521): failing lanes (spares 32 and 33), the slices' runs, errors of the shading
store. -/
structure DiagReport where
  lanes : List (Fin 34)
  runs  : List (Nat × Nat × List SliceMeas)
  found : List ScrubFind
  deriving DecidableEq, Repr

/-- The geometry-set registers of a head (R82). -/
inductive GeomReg where
  | taps | read | clk | sp | ctl | trig
  deriving DecidableEq, Repr

/-- What inline ECC found while a packet was read from the Cellar (R534), with the byte address. -/
inductive CelEcc where
  | clean | corrected (addr : Nat) | uncorrectable (addr : Nat)
  deriving DecidableEq, Repr

/-- The commands (spec/opcode_table.json, one constructor for each row, in the table's order). h a head, t a tap, g a tap
group, i a slice, m an axis, e an encoder, k a string, sensor or comparator, c a converter, r a ring, cl a class, v the
value written. -/
inductive Instr where
  | regWrite (byHk : Bool) (off : Nat) (v : Word)
  | badAccess (read : Bool) (bar : Nat) (off : Nat)
  | rootStoppedAccess (bar : Nat) (write : Bool) (off : Nat) (v : Word)
  | pairLowRead (ms : Master) (off : Nat)
  | pairHighRead (ms : Master) (off : Nat)
  | headTrigstatRead (h : Fin 16)
  | tapOvrRead (t : Fin 256)
  | pipeEccCeRead
  | pipeEccUeRead
  | pipeClipRead (h : Fin 16)
  | lndLostRead (cl : Fin 4)
  | lndFlushcntRead
  | motAdmstatRead
  | motEerrRead (e : Fin 4)
  | lmpCntRead
  | auxDropsRead
  | auxWcStatRead (k : Fin 16)
  | recRejRead
  | hwyErrcntRead
  | lnkErrcntRead
  | celCeRead
  | celUeRead
  | powerOnResetRelease (straps : Word) (bankFault : List (Fin 8))
  | reset (cause : ResetCause)
  | warn (rails : BitVec 10) (vmon : Nat)
  | warnClear (vmon : Nat)
  | railOvervoltage (rail : Fin 10)
  | bandgapCheck (ok : Bool)
  | dieTempCheck (temp : Int)
  | pantryEpoch (m : PantryMeas)
  | pwrBudgetWrite (peak : Bool) (v : Word)
  | rootLock
  | startStepDone (step : Fin 17) (rep : StepReport)
  | atticBackgroundCheck (ok : Bool)
  | sysModereq (v : Word)
  | startCold
  | startWarm
  | heldStartBegin
  | wake
  | selftest (tests : BitVec 4)
  | selftestDone (pass : BitVec 4) (rep : DiagReport)
  | sysLock
  | sysLimpCelClear
  | fwWrite
  | fwWriteDone (rep : FwReport)
  | fwSwap
  | fwSwapReady (rep : FwReport)
  | fwSwapExecute
  | fwSwapCancel
  | revertWindowEnd
  | housekeeperFault
  | hkPauseEnd
  | linkDown
  | perst
  | linkUp (width speed : Nat)
  | busMasterEnable (on : Bool)
  | clockFault (f : List ClockFault)
  | xsyncEdge (falling : Bool)
  | headOnline (h : Fin 16)
  | headSettleDone (h : Fin 16)
  | headWarmupDone (h : Fin 16)
  | headOffline (h : Fin 16)
  | headStopDone (h : Fin 16)
  | headCommit (h : Fin 16)
  | headSwtrig (h : Fin 16)
  | headTimerTrigger (h : Fin 16)
  | headGeometryWrite (h : Fin 16) (reg : GeomReg) (v : Word)
  | triggerFire (h : Fin 16)
  | exposureEnd (h : Fin 16)
  | tapPhaseActivate (h : Fin 16)
  | readoutEnd (h : Fin 16)
  | busyWindowClose (h : Fin 16)
  | headConnFault (t : Fin 256)
  | cmAverageDone (t : Fin 256) (mv last : Nat)
  | tapFixedWrite (t : Fin 256) (clamp : Bool) (v : Word)
  | tapLiveWrite (t : Fin 256) (pga : Bool) (v : Word)
  | slcCmwinWrite (g : Fin 16) (v : Word)
  | rotationStep (g : Fin 16)
  | guestHandover (g : Fin 16)
  | sliceCalRunEnd (g : Fin 16) (meas : SliceMeas)
  | guestHandback (g : Fin 16) (fit : ResidualFit)
  | overlapTimeout (g : Fin 16)
  | sliceFault (g : Fin 16) (i : Fin 17)
  | guestStandin (g : Fin 16)
  | sliceFaultReport (g : Fin 16)
  | slcCmdRun (g : Fin 16) (i : Fin 32)
  | slcCmdReinstate (g : Fin 16) (i : Fin 32)
  | bandLineRecordStore (h : Fin 16) (samples : List Sample)
  | packetTimeout (h : Fin 16)
  | scrubPass (found : List ScrubFind)
  | laneFault (l : Fin 34)
  | spareLaneTakeover (l : Fin 34)
  | laneFaultReport (l : Fin 34)
  | spareLaneFault (sp : Fin 2)
  | coefLoad (slot : Nat)
  | stagingGrant
  | coefFetchDone (bytes : List Byte) (celUe : Bool)
  | coefCommit (slot : Nat)
  | commitCopyStart
  | commitCopyEnd
  | coefRead (slot : Nat)
  | calRun (slot : Nat)
  | calRunTrigger (h : Fin 16)
  | calRunMeasureEnd (h : Fin 16)
  | calRunComplete (h : Fin 16)
  | gapSearchTimeout (h : Fin 16)
  | darkTrackUpdate (t : Fin 256) (b : Fin 8) (samples : List Sample)
  | whiteTrackDue (h : Fin 16) (b : Fin 8)
  | attSave (slot : Nat)
  | attSaveStepDone (flashOk : Bool)
  | posChange (m : Fin 8) (fwd : Bool)
  | encoderEdge (e : Fin 4) (a b i : Bool)
  | docSensorEdge (k : Fin 16) (level : Bool) (runTime : Nat) (runPos : List Int)
  | admissionGrant
  | releasePulseEnd
  | motHdocWrite (h : Fin 16) (v : Word)
  | fillEval
  | axisAtRest (m : Fin 8)
  | backupMoveDone (m : Fin 8)
  | runupDone (m : Fin 8)
  | holdTimeout
  | motProfile (slot : Nat) (bytes : List Byte)
  | motAcmdStart (m : Fin 8)
  | motAcmdStop (m : Fin 8)
  | motAcmdImmediateStop (m : Fin 8)
  | axisFault (m : Fin 8) (drv : Bool)
  | irefStandby (m : Fin 8)
  | motPaceWrite (v : Word)
  | lampLoad (slot : Nat) (bytes : List Byte)
  | lampLoadComplete
  | driveRecompute
  | lmpSbinWrite (k : Fin 16) (r : Fin 4) (v : Word)
  | stringDueTimeout (k : Nat)
  | diagLate (k : Nat)
  | strobeEnd (k : Nat)
  | lstbFall
  | lbandHoldEnd
  | pulseDiagnosed (k : Nat) (meas : PulseMeas)
  | redistApply (k : Nat)
  | redistSettleEnd (k : Nat)
  | servoPeriodEnd (vmeas irail : Nat)
  | railOkSet
  | railFault (kind : Fin 3)
  | lmpCmdRestore (sat str : BitVec 8)
  | lmpCmdRestoreAll
  | lmpCmdLampTest
  | lampTestPulse (meas : PulseMeas)
  | dbCmdPi (v : Word)
  | dbCplCi (v : Word)
  | dbEvtCi (v : Word)
  | dbImgPi (h : Fin 16) (v : Word)
  | hostRctlWrite (r : Fin 19) (v : Word)
  | ringIdle (r : Fin 19)
  | cmdFetchDone (d : List Byte)
  | ringFetchError (r : Fin 19)
  | cmdDataReadError (slot : Nat)
  | nop (slot : Nat)
  | skipDoc (slot : Nat)
  | skipDocDone (slot : Nat)
  | completionWrite
  | packetDeliver (h : Fin 16) (buf : BufDesc) (ecc : CelEcc)
  | msixSignal (src : Fin 22)
  | msixUnmask (vec : Fin 64)
  | landingDmaPop
  | lndDataLoRead (ms : Master)
  | lndDataHiRead (ms : Master)
  | lndDrop
  | lndFlush
  | lndCtlWrite (v : Word)
  | auxCvctlWrite (c : Fin 4) (v : Word)
  | auxSwtrig (c : Fin 4)
  | auxTimerTrigger (c : Fin 4)
  | auxInjWrite (c : Fin 2) (v : Word)
  | fcConversionDone (c : Fin 2) (raw : Int)
  | pcOutput (c : Fin 2) (raw : Int)
  | streamMsgTimeout (c : Fin 4)
  | refSettled (c : Fin 4)
  | refFault (c : Fin 4)
  | auxCalPeriod
  | auxCalcmd (v : Word)
  | auxCalRangeDone (c : Fin 4) (off gain : Int)
  | auxConvFault (c : Fin 4)
  | auxMigrate (c : Fin 4)
  | auxExcWrite (n : Fin 4) (v : Word)
  | auxResLoRead (ms : Master) (off : Nat)
  | recSignalChange (smp : BitVec 64)
  | recArm
  | recDisarm
  | recHostTrig
  | recCopy
  | recClearEnd
  | recCopyDone
  | recRd0Read (ms : Master)
  | recRd3Read (ms : Master)
  | superframeSend
  | superframeRx (port : Fin 2) (bytes : List Byte)
  | tokenRx (a b : BitVec 8)
  | replicaStep
  | hwyMsgSend (v : Word)
  | enumerationDone (index n err udly ddly : Nat)
  | hwyBreak (port : Fin 2)
  | foldComplete
  | hwyCutOff
  | hwyRejoin
  | hwyCtlWrite (v : Word)
  | linkCycleEnd (frames : List (List Byte))
  | linkSizingDone (count : Option Nat)
  | lnkResize
  | pmcSnap
  | pmcFreeze (b : Bool)
  | pmcClr
  | pmcLoadLow (k : Fin 9) (v : Word)
  | pmcLoadHigh (k : Fin 9) (v : Word)
  | pmcOverflow (k : Fin 8)
  | jtagExtest (on : Bool)
  | tmodeHigh (on : Bool)
  | porConditionsMet
  | trstNLow
  | perstRelease
  | hwySymbolLock (port : Fin 2)
  | railOkClear
  | recMaskedTrigger (smp : BitVec 64)
  deriving DecidableEq, Repr

end Sys2Proof
end

