-- ==== Sys2Proof/Decode.lean ====
section
/-! DEFINITION. Commands from words. The opcode table gives none of its rows any bits, so no word spells a command. -/

namespace Sys2Proof

/-- The command that a word of nbits bits spells by the opcode table: the table numbers no bits, so there is none. -/
def decodeTableWord (_nbits _w : Nat) : Option Instr := none

end Sys2Proof
end

