-- ==== Sys2Proof/Config.lean ====
section
/-! DEFINITION. What one implementation fixes and the spec leaves open: the free values. Each is a constant without a body, so
that a proof holds for every value it may have. -/

namespace Sys2Proof.Config

/-- Events per tick of the performance-counter types that the spec names but gives no rule for (R548: 0x0C refresh commands,
0x0D ticks with a waiting Cellar request, 0x3E and the xSPI byte counts 0x3C, 0x3D of an access under way), by event type and
draw number. Log entry 4. -/
opaque freeEvents : Nat → Nat → Nat

/-- Any other unstated value, by the place that needs it and the draw number. Log entry 4. -/
opaque freeValue : Nat → Nat → BitVec 32

/-- A free image value: what a cause-free rule leaves open in a stored pixel or coefficient. Log entry 4. -/
opaque freeInt : Nat → Nat → Int

end Sys2Proof.Config
end

