-- ==== Sys2Proof/Machine/Arith.lean ====
section
/-! DEFINITION. Bit fields, byte order, rounding and checksums: the arithmetic that the rules name. -/

namespace Sys2Proof.Machine

/-- Bits hi down to lo of v, as a number (R10). -/
def bitsOf (v hi lo : Nat) : Nat := v / 2 ^ lo % 2 ^ (hi + 1 - lo)

/-- v with bits hi down to lo replaced by x (taken modulo the field's width). -/
def withBits (v hi lo x : Nat) : Nat :=
  v - bitsOf v hi lo * 2 ^ lo + x % 2 ^ (hi + 1 - lo) * 2 ^ lo

/-- Bit i of v. -/
def bitOf (v i : Nat) : Bool := v / 2 ^ i % 2 == 1

/-- A truth value as a bit. -/
def b2n (b : Bool) : Nat := if b then 1 else 0

/-- v with bit i set. -/
def setBit (v i : Nat) : Nat := if bitOf v i then v else v + 2 ^ i

/-- v with bit i cleared. -/
def clearBit (v i : Nat) : Nat := if bitOf v i then v - 2 ^ i else v

/-- A w-bit field read as a two's-complement number (R8). -/
def signed (w v : Nat) : Int := if v % 2 ^ w < 2 ^ (w - 1) then (v % 2 ^ w : Nat) else (v % 2 ^ w : Nat) - (2 ^ w : Nat)

/-- An integer as a w-bit two's-complement field (R8). -/
def toField (w : Nat) (x : Int) : Nat := (x % (2 ^ w : Nat)).toNat

/-- n / d rounded to nearest, halves away from zero (R162); 0 when d is 0. -/
def roundDiv (n d : Int) : Int :=
  if d = 0 then 0
  else
    let a := n.natAbs
    let b := d.natAbs
    let q : Nat := (2 * a + b) / (2 * b)
    if (n < 0) = (d < 0) then (q : Int) else -(q : Int)

/-- n / d rounded to nearest, halves upward, for natural numbers (R171); 0 when d is 0. -/
def roundUpDiv (n d : Nat) : Nat := if d = 0 then 0 else (2 * n + d) / (2 * d)

/-- x limited to lo .. hi. -/
def clampInt (lo hi x : Int) : Int := if x < lo then lo else if hi < x then hi else x

/-- x limited to lo .. hi: the "values outside act as the nearer end" of the field tables. -/
def clampNat (lo hi x : Nat) : Nat := if x < lo then lo else if hi < x then hi else x

/-- Add n to a counter that saturates at top. -/
def satAdd (top v n : Nat) : Nat := if top ≤ v + n then top else v + n

/-- The byte at place i of a list of bytes, 0 beyond its end. -/
def byteAt (b : List Byte) (i : Nat) : Nat := (b.getD i 0).toNat

/-- The little-endian number in n bytes from place i. -/
def leAt (b : List Byte) (i : Nat) : Nat → Nat
  | 0 => 0
  | n + 1 => byteAt b i + 256 * leAt b (i + 1) n

/-- x as n bytes, little-endian. -/
def leBytes (x : Nat) : Nat → List Byte
  | 0 => []
  | n + 1 => BitVec.ofNat 8 x :: leBytes (x / 256) n

/-- Eight steps of a reflected CRC of polynomial p. -/
def crcBitsR (p : Nat) (c : Nat) : Nat → Nat
  | 0 => c
  | n + 1 => crcBitsR p (if c % 2 = 1 then (c / 2) ^^^ p else c / 2) n

/-- The running value of CRC-32/ISO-HDLC over bytes. -/
def crc32Run (c : Nat) : List Byte → Nat
  | [] => c
  | b :: r => crc32Run (crcBitsR 0xEDB88320 (c ^^^ b.toNat) 8) r

/-- CRC-32/ISO-HDLC (R184, R238, R289, R303). PRESUMED: the parameters are those of the published catalogue: polynomial
0x04C11DB7 reflected, initial and final value 0xFFFF_FFFF. -/
def crc32 (b : List Byte) : Nat := crc32Run 0xFFFFFFFF b ^^^ 0xFFFFFFFF

/-- Eight steps of a CRC-16 of polynomial 0x1021, most significant bit first. -/
def crc16Bits (c : Nat) : Nat → Nat
  | 0 => c
  | n + 1 => crc16Bits (if 0x8000 ≤ c then ((2 * c) % 0x10000) ^^^ 0x1021 else (2 * c) % 0x10000) n

/-- The running value of CRC-16/IBM-3740 over bytes. -/
def crc16Run (c : Nat) : List Byte → Nat
  | [] => c
  | b :: r => crc16Run (crc16Bits (c ^^^ (b.toNat * 256)) 8) r

/-- CRC-16/IBM-3740 (R461, R476). PRESUMED: the parameters are those of the published catalogue: polynomial 0x1021,
initial value 0xFFFF, no reflection, no final inversion. -/
def crc16 (b : List Byte) : Nat := crc16Run 0xFFFF b

/-- The bytes of an ASCII tag of four characters given by their codes. -/
def tagIs (b : List Byte) (a0 a1 a2 a3 : Nat) : Bool :=
  byteAt b 0 == a0 && byteAt b 1 == a1 && byteAt b 2 == a2 && byteAt b 3 == a3

/-- Every byte from place i, n of them, is 0. -/
def zeroBytes (b : List Byte) (i n : Nat) : Bool := (List.range n).all fun j => byteAt b (i + j) == 0

/-- The largest of a list of naturals, 0 for the empty list. -/
def maxOf (l : List Nat) : Nat := l.foldl max 0

/-- The sum of a list of integers. -/
def sumInt (l : List Int) : Int := l.foldl (· + ·) 0

/-- The length of a list, no further than n places into it (a bound check that need not walk a long list). -/
def lenAtMost {α : Type} (l : List α) (n : Nat) : Bool := decide (l.length ≤ n)

end Sys2Proof.Machine
end

