-- ==== Sys2Proof/Machine/Map.lean ====
section
/-! DEFINITION. The register map of BAR 0 (spec/01 R28 and the register and field tables of every block chapter):
the byte offset of each register as a function of its indexes (each counted modulo the number of registers, so that an offset
always lies in its block), each field as a (register, msb, lsb) triple, and one row
per register with its reset value and the access code of each bit (R12, R16). The texts of the tables are the source; the
masks are those tables written as numbers. -/
namespace Sys2Proof.Machine

/-- A named field: bits hi down to lo of the register at byte offset off of BAR 0 (R10). -/
structure Fld where
  off : Nat
  hi  : Nat
  lo  : Nat
  deriving DecidableEq, Repr

/-- One row of the register map: a register (or an array of n1 × n2 alike, s1 and s2 bytes apart), its value after
cold start, and one mask per access code of R12. Bits in no mask read as stored and ignore writes (RO, or reserved).
kept and held mark the bits that R16 keeps through a warm start, and through every start. -/
structure RegRow where
  name : String
  base : Nat
  n1 : Nat
  s1 : Nat
  n2 : Nat
  s2 : Nat
  reset : Nat
  rw : Nat
  rwl : Nat
  w1c : Nat
  w1s : Nat
  rc : Nat
  kept : Nat
  held : Nat
  deriving DecidableEq, Repr

def SYS_ID : Nat := 0x0
def SYS_ID_PART : Fld := ⟨SYS_ID, 31, 16⟩
def SYS_ID_STEP_MAJOR : Fld := ⟨SYS_ID, 7, 4⟩
def SYS_ID_STEP_MINOR : Fld := ⟨SYS_ID, 3, 0⟩
def SYS_MODE : Nat := 0x4
def SYS_MODE_ORIGIN : Fld := ⟨SYS_MODE, 15, 12⟩
def SYS_MODE_PREV : Fld := ⟨SYS_MODE, 11, 8⟩
def SYS_MODE_MODE : Fld := ⟨SYS_MODE, 3, 0⟩
def SYS_MODEREQ : Nat := 0x8
def SYS_MODEREQ_TARGET : Fld := ⟨SYS_MODEREQ, 3, 0⟩
def SYS_CMD : Nat := 0xc
def SYS_CMD_TESTS : Fld := ⟨SYS_CMD, 11, 8⟩
def SYS_CMD_SELFTEST : Fld := ⟨SYS_CMD, 3, 3⟩
def SYS_CMD_WAKE : Fld := ⟨SYS_CMD, 2, 2⟩
def SYS_CMD_START_WARM : Fld := ⟨SYS_CMD, 1, 1⟩
def SYS_CMD_START_COLD : Fld := ⟨SYS_CMD, 0, 0⟩
def SYS_EVENTS : Nat := 0x10
def SYS_EVENTS_DIAG_DONE : Fld := ⟨SYS_EVENTS, 8, 8⟩
def SYS_EVENTS_FW_REVERT : Fld := ⟨SYS_EVENTS, 7, 7⟩
def SYS_EVENTS_FW_FAIL : Fld := ⟨SYS_EVENTS, 6, 6⟩
def SYS_EVENTS_FW_DONE : Fld := ⟨SYS_EVENTS, 5, 5⟩
def SYS_EVENTS_HALT : Fld := ⟨SYS_EVENTS, 4, 4⟩
def SYS_EVENTS_LIMP : Fld := ⟨SYS_EVENTS, 3, 3⟩
def SYS_EVENTS_START_FAIL : Fld := ⟨SYS_EVENTS, 2, 2⟩
def SYS_EVENTS_REQ_REJ : Fld := ⟨SYS_EVENTS, 1, 1⟩
def SYS_EVENTS_MODE_CHG : Fld := ⟨SYS_EVENTS, 0, 0⟩
def SYS_LOCK : Nat := 0x14
def SYS_LOCK_LOCK : Fld := ⟨SYS_LOCK, 0, 0⟩
def SYS_STARTS : Nat := 0x18
def SYS_STARTS_FAILS : Fld := ⟨SYS_STARTS, 25, 24⟩
def SYS_STARTS_WARM : Fld := ⟨SYS_STARTS, 23, 12⟩
def SYS_STARTS_COLD : Fld := ⟨SYS_STARTS, 11, 0⟩
def SYS_STARTSTAT : Nat := 0x1c
def SYS_STARTSTAT_VALID : Fld := ⟨SYS_STARTSTAT, 31, 31⟩
def SYS_STARTSTAT_FKIND : Fld := ⟨SYS_STARTSTAT, 30, 30⟩
def SYS_STARTSTAT_FSTEP : Fld := ⟨SYS_STARTSTAT, 28, 24⟩
def SYS_STARTSTAT_CODE : Fld := ⟨SYS_STARTSTAT, 23, 16⟩
def SYS_STARTSTAT_STEP : Fld := ⟨SYS_STARTSTAT, 12, 8⟩
def SYS_STARTSTAT_KIND : Fld := ⟨SYS_STARTSTAT, 0, 0⟩
def SYS_FAULT : Nat := 0x20
def SYS_FAULT_VALID : Fld := ⟨SYS_FAULT, 31, 31⟩
def SYS_FAULT_SRC : Fld := ⟨SYS_FAULT, 13, 8⟩
def SYS_FAULT_CODE : Fld := ⟨SYS_FAULT, 7, 0⟩
def SYS_LIMP : Nat := 0x24
def SYS_LIMP_CEL : Fld := ⟨SYS_LIMP, 6, 6⟩
def SYS_LIMP_HWY : Fld := ⟨SYS_LIMP, 5, 5⟩
def SYS_LIMP_LNK : Fld := ⟨SYS_LIMP, 4, 4⟩
def SYS_LIMP_AUX : Fld := ⟨SYS_LIMP, 3, 3⟩
def SYS_LIMP_LAMP : Fld := ⟨SYS_LIMP, 2, 2⟩
def SYS_LIMP_LANE : Fld := ⟨SYS_LIMP, 1, 1⟩
def SYS_LIMP_SLICE : Fld := ⟨SYS_LIMP, 0, 0⟩
def SYS_DIAG : Nat := 0x28
def SYS_DIAG_BUSY : Fld := ⟨SYS_DIAG, 31, 31⟩
def SYS_DIAG_PASS : Fld := ⟨SYS_DIAG, 7, 4⟩
def SYS_DIAG_FAIL : Fld := ⟨SYS_DIAG, 3, 0⟩
def SYS_STRAP : Nat := 0x2c
def SYS_STRAP_IO_SEL : Fld := ⟨SYS_STRAP, 15, 8⟩
def SYS_STRAP_HWY_MASTER_N : Fld := ⟨SYS_STRAP, 2, 2⟩
def SYS_STRAP_BOOT_SRC : Fld := ⟨SYS_STRAP, 1, 0⟩
def SYS_FWADDR_LO : Nat := 0x30
def SYS_FWADDR_LO_ADDR_LO : Fld := ⟨SYS_FWADDR_LO, 31, 3⟩
def SYS_FWADDR_HI : Nat := 0x34
def SYS_FWADDR_HI_ADDR_HI : Fld := ⟨SYS_FWADDR_HI, 31, 0⟩
def SYS_FWLEN : Nat := 0x38
def SYS_FWLEN_LEN : Fld := ⟨SYS_FWLEN, 31, 0⟩
def SYS_FWCMD : Nat := 0x3c
def SYS_FWCMD_OP : Fld := ⟨SYS_FWCMD, 1, 0⟩
def SYS_FWSTAT : Nat := 0x40
def SYS_FWSTAT_BUSY : Fld := ⟨SYS_FWSTAT, 31, 31⟩
def SYS_FWSTAT_ACTIVE : Fld := ⟨SYS_FWSTAT, 30, 30⟩
def SYS_FWSTAT_SWAP_PEND : Fld := ⟨SYS_FWSTAT, 29, 29⟩
def SYS_FWSTAT_CODE : Fld := ⟨SYS_FWSTAT, 7, 0⟩
def SYS_FWVER : Nat := 0x44
def SYS_FWVER_VERSION : Fld := ⟨SYS_FWVER, 31, 0⟩
def CLK_CTL : Nat := 0x1000
def CLK_CTL_XSYNC_EDGE : Fld := ⟨CLK_CTL, 1, 1⟩
def CLK_CTL_XSYNC_EN : Fld := ⟨CLK_CTL, 0, 0⟩
def CLK_STATUS : Nat := 0x1004
def CLK_STATUS_HOPS : Fld := ⟨CLK_STATUS, 11, 8⟩
def CLK_STATUS_TIME_ALIGNED : Fld := ⟨CLK_STATUS, 4, 4⟩
def CLK_STATUS_PCIE_REF_OK : Fld := ⟨CLK_STATUS, 3, 3⟩
def CLK_STATUS_CEL_LOCK : Fld := ⟨CLK_STATUS, 2, 2⟩
def CLK_STATUS_ROOT_LOCK : Fld := ⟨CLK_STATUS, 1, 1⟩
def CLK_STATUS_REF_OK : Fld := ⟨CLK_STATUS, 0, 0⟩
def CLK_EVENTS : Nat := 0x1008
def CLK_EVENTS_PCIE_REF_LOST : Fld := ⟨CLK_EVENTS, 3, 3⟩
def CLK_EVENTS_CEL_UNLOCK : Fld := ⟨CLK_EVENTS, 2, 2⟩
def CLK_EVENTS_ROOT_UNLOCK : Fld := ⟨CLK_EVENTS, 1, 1⟩
def CLK_EVENTS_REF_LOST : Fld := ⟨CLK_EVENTS, 0, 0⟩
def CLK_TIME_LO : Nat := 0x1010
def CLK_TIME_HI : Nat := 0x1014
def CLK_TIME_ERR : Nat := 0x1018
def CLK_TIME_ERR_ERR : Fld := ⟨CLK_TIME_ERR, 15, 0⟩
def CLK_STEER : Nat := 0x101c
def CLK_STEER_STEER : Fld := ⟨CLK_STEER, 15, 0⟩
def CLK_FAULT_TIME_LO : Nat := 0x1020
def CLK_FAULT_TIME_HI : Nat := 0x1024
def PWR_CTL : Nat := 0x2000
def PWR_CTL_PANTRY_EN : Fld := ⟨PWR_CTL, 31, 31⟩
def PWR_CTL_REPORT : Fld := ⟨PWR_CTL, 15, 0⟩
def PWR_STATUS : Nat := 0x2004
def PWR_STATUS_WARN : Fld := ⟨PWR_STATUS, 31, 31⟩
def PWR_STATUS_BG_OK : Fld := ⟨PWR_STATUS, 30, 30⟩
def PWR_STATUS_OVER : Fld := ⟨PWR_STATUS, 29, 29⟩
def PWR_STATUS_TJ_HIGH : Fld := ⟨PWR_STATUS, 28, 28⟩
def PWR_STATUS_LEVEL : Fld := ⟨PWR_STATUS, 22, 20⟩
def PWR_STATUS_RAIL_OK : Fld := ⟨PWR_STATUS, 9, 0⟩
def PWR_EVENTS : Nat := 0x2008
def PWR_EVENTS_OVER : Fld := ⟨PWR_EVENTS, 6, 6⟩
def PWR_EVENTS_SHED_CHG : Fld := ⟨PWR_EVENTS, 5, 5⟩
def PWR_EVENTS_TJ_HIGH : Fld := ⟨PWR_EVENTS, 4, 4⟩
def PWR_EVENTS_BG_FAULT : Fld := ⟨PWR_EVENTS, 3, 3⟩
def PWR_EVENTS_OV : Fld := ⟨PWR_EVENTS, 2, 2⟩
def PWR_EVENTS_WARN_CLR : Fld := ⟨PWR_EVENTS, 1, 1⟩
def PWR_EVENTS_WARN : Fld := ⟨PWR_EVENTS, 0, 0⟩
def PWR_VMON : Nat := 0x200c
def PWR_VMON_CLR_MS : Fld := ⟨PWR_VMON, 31, 24⟩
def PWR_VMON_HYST_PCT : Fld := ⟨PWR_VMON, 23, 16⟩
def PWR_VMON_WARN_PCT : Fld := ⟨PWR_VMON, 15, 8⟩
def PWR_VMON_RESET_PCT : Fld := ⟨PWR_VMON, 7, 0⟩
def PWR_VMEAS : Nat := 0x2010
def PWR_VMEAS_VMON : Fld := ⟨PWR_VMEAS, 15, 0⟩
def PWR_RSTCAUSE : Nat := 0x2014
def PWR_RSTCAUSE_VDDH_POR : Fld := ⟨PWR_RSTCAUSE, 17, 17⟩
def PWR_RSTCAUSE_PIN : Fld := ⟨PWR_RSTCAUSE, 16, 16⟩
def PWR_RSTCAUSE_UV : Fld := ⟨PWR_RSTCAUSE, 9, 0⟩
def PWR_AVG : Nat := 0x2020
def PWR_PEAK : Nat := 0x2024
def PWR_SURV : Nat := 0x2028
def PWR_SHEDC : Nat := 0x202c
def PWR_SHEDC_BG_UJ : Fld := ⟨PWR_SHEDC, 31, 16⟩
def PWR_SHEDC_ROT_UJ : Fld := ⟨PWR_SHEDC, 15, 0⟩
def PWR_LIFT : Nat := 0x2030
def PWR_LIFT_LIFT_PCT : Fld := ⟨PWR_LIFT, 15, 8⟩
def PWR_LIFT_LIFT_N : Fld := ⟨PWR_LIFT, 7, 0⟩
def PWR_LAMPEFF : Nat := 0x2034
def PWR_LAMPEFF_EFF : Fld := ⟨PWR_LAMPEFF, 15, 0⟩
def PWR_LCORE : Nat := 0x2040
def PWR_LLAMP : Nat := 0x2044
def PWR_LMOT : Nat := 0x2048
def PWR_PLAN : Nat := 0x204c
def PWR_PEAKMEAS : Nat := 0x2050
def PWR_ETOT_LO : Nat := 0x2054
def PWR_ETOT_HI : Nat := 0x2058
def PWR_AXE (i : Nat) : Nat := 0x2080 + i % 8 * 4
def PWR_AXE_HOLD_MW (i : Nat) : Fld := ⟨(PWR_AXE i), 31, 20⟩
def PWR_AXE_EPS (i : Nat) : Fld := ⟨(PWR_AXE i), 15, 0⟩
def PWR_AXA (i : Nat) : Nat := 0x20a0 + i % 8 * 4
def PWR_AXA_BIND (i : Nat) : Fld := ⟨(PWR_AXA i), 31, 31⟩
def PWR_AXA_CONV (i : Nat) : Fld := ⟨(PWR_AXA i), 27, 26⟩
def PWR_AXA_ENTRY (i : Nat) : Fld := ⟨(PWR_AXA i), 25, 22⟩
def PWR_AXA_SCALE (i : Nat) : Fld := ⟨(PWR_AXA i), 15, 0⟩
def HOST_CTL : Nat := 0x3000
def HOST_CTL_RO_EN : Fld := ⟨HOST_CTL, 0, 0⟩
def HOST_STATUS : Nat := 0x3004
def HOST_STATUS_LINK_UP : Fld := ⟨HOST_STATUS, 31, 31⟩
def HOST_STATUS_BME : Fld := ⟨HOST_STATUS, 30, 30⟩
def HOST_STATUS_WIDTH : Fld := ⟨HOST_STATUS, 11, 8⟩
def HOST_STATUS_SPEED : Fld := ⟨HOST_STATUS, 3, 0⟩
def HOST_EVENTS : Nat := 0x3008
def HOST_EVENTS_CPL_STALL : Fld := ⟨HOST_EVENTS, 6, 6⟩
def HOST_EVENTS_WR_REJ : Fld := ⟨HOST_EVENTS, 5, 5⟩
def HOST_EVENTS_ACC_ERR : Fld := ⟨HOST_EVENTS, 4, 4⟩
def HOST_EVENTS_LINK_DOWN : Fld := ⟨HOST_EVENTS, 3, 3⟩
def HOST_EVENTS_DMA_RD_ERR : Fld := ⟨HOST_EVENTS, 2, 2⟩
def HOST_EVENTS_FETCH_ERR : Fld := ⟨HOST_EVENTS, 1, 1⟩
def HOST_EVENTS_DB_ERR : Fld := ⟨HOST_EVENTS, 0, 0⟩
def HOST_ERRINFO : Nat := 0x300c
def HOST_ERRINFO_VALID : Fld := ⟨HOST_ERRINFO, 31, 31⟩
def HOST_ERRINFO_KIND : Fld := ⟨HOST_ERRINFO, 30, 28⟩
def HOST_ERRINFO_RING : Fld := ⟨HOST_ERRINFO, 27, 23⟩
def HOST_ERRINFO_IDX : Fld := ⟨HOST_ERRINFO, 16, 0⟩
def HOST_ISRC (i : Nat) : Nat := 0x3040 + i % 22 * 4
def HOST_ISRC_EN (i : Nat) : Fld := ⟨(HOST_ISRC i), 31, 31⟩
def HOST_ISRC_VEC (i : Nat) : Fld := ⟨(HOST_ISRC i), 21, 16⟩
def HOST_ISRC_HOLDOFF (i : Nat) : Fld := ⟨(HOST_ISRC i), 15, 0⟩
def HOST_RBASE_LO (i : Nat) : Nat := 0x3100 + i % 19 * 32
def HOST_RBASE_LO_BASE_LO (i : Nat) : Fld := ⟨(HOST_RBASE_LO i), 31, 12⟩
def HOST_RBASE_HI (i : Nat) : Nat := 0x3104 + i % 19 * 32
def HOST_RBASE_HI_BASE_HI (i : Nat) : Fld := ⟨(HOST_RBASE_HI i), 31, 0⟩
def HOST_RCTL (i : Nat) : Nat := 0x3108 + i % 19 * 32
def HOST_RCTL_EN (i : Nat) : Fld := ⟨(HOST_RCTL i), 31, 31⟩
def HOST_RCTL_LOG2N (i : Nat) : Fld := ⟨(HOST_RCTL i), 20, 16⟩
def HOST_RSTAT (i : Nat) : Nat := 0x310c + i % 19 * 32
def HOST_RSTAT_IDLE (i : Nat) : Fld := ⟨(HOST_RSTAT i), 31, 31⟩
def HOST_RSTAT_ERR (i : Nat) : Fld := ⟨(HOST_RSTAT i), 30, 30⟩
def HOST_RSTAT_DIDX (i : Nat) : Fld := ⟨(HOST_RSTAT i), 16, 0⟩
def HOST_RPKT (i : Nat) : Nat := 0x3110 + i % 19 * 32
def HOST_RPKT_PKTMAX (i : Nat) : Fld := ⟨(HOST_RPKT i), 14, 0⟩
def HOST_RPKTCTL (i : Nat) : Nat := 0x3114 + i % 19 * 32
def HOST_RPKTCTL_PKT_TO (i : Nat) : Fld := ⟨(HOST_RPKTCTL i), 31, 16⟩
def HOST_RPKTCTL_PKTLINES (i : Nat) : Fld := ⟨(HOST_RPKTCTL i), 15, 0⟩
def HOST_RHIDX (i : Nat) : Nat := 0x3118 + i % 19 * 32
def HOST_RHIDX_HIDX (i : Nat) : Fld := ⟨(HOST_RHIDX i), 16, 0⟩
def LND_CTL : Nat := 0x4000
def LND_CTL_DMA_EN : Fld := ⟨LND_CTL, 0, 0⟩
def LND_STATUS : Nat := 0x4004
def LND_STATUS_AVAIL : Fld := ⟨LND_STATUS, 31, 31⟩
def LND_STATUS_RD_OPEN : Fld := ⟨LND_STATUS, 30, 30⟩
def LND_STATUS_NEXT_CLASS : Fld := ⟨LND_STATUS, 29, 28⟩
def LND_STATUS_NEXT_LEN : Fld := ⟨LND_STATUS, 20, 16⟩
def LND_STATUS_USED : Fld := ⟨LND_STATUS, 12, 0⟩
def LND_EVENTS : Nat := 0x4008
def LND_EVENTS_WR_REJ : Fld := ⟨LND_EVENTS, 2, 2⟩
def LND_EVENTS_FLUSHED : Fld := ⟨LND_EVENTS, 1, 1⟩
def LND_EVENTS_LOST : Fld := ⟨LND_EVENTS, 0, 0⟩
def LND_CMD : Nat := 0x400c
def LND_CMD_FLUSH : Fld := ⟨LND_CMD, 1, 1⟩
def LND_CMD_DROP : Fld := ⟨LND_CMD, 0, 0⟩
def LND_DATA_LO : Nat := 0x4010
def LND_DATA_HI : Nat := 0x4014
def LND_LOST (i : Nat) : Nat := 0x4020 + i % 4 * 4
def LND_FLUSHCNT : Nat := 0x4030
def LND_FLUSHT_LO : Nat := 0x4034
def LND_FLUSHT_HI : Nat := 0x4038
def PMC_CTL : Nat := 0x5000
def PMC_CTL_USER_READ : Fld := ⟨PMC_CTL, 31, 31⟩
def PMC_CTL_FREEZE : Fld := ⟨PMC_CTL, 8, 8⟩
def PMC_CTL_CLR : Fld := ⟨PMC_CTL, 1, 1⟩
def PMC_CTL_SNAP : Fld := ⟨PMC_CTL, 0, 0⟩
def PMC_OVF : Nat := 0x5004
def PMC_OVF_OVF : Fld := ⟨PMC_OVF, 7, 0⟩
def PMC_OVFEN : Nat := 0x5008
def PMC_OVFEN_OVFEN : Fld := ⟨PMC_OVFEN, 7, 0⟩
def PMC_CYC_LO : Nat := 0x5010
def PMC_CYC_HI : Nat := 0x5014
def PMC_LO (i : Nat) : Nat := 0x5020 + i % 8 * 8
def PMC_HI (i : Nat) : Nat := 0x5024 + i % 8 * 8
def PMC_HI_COUNT_HI (i : Nat) : Fld := ⟨(PMC_HI i), 15, 0⟩
def PMC_SEL (i : Nat) : Nat := 0x5080 + i % 8 * 16
def PMC_SEL_PRIV_EN (i : Nat) : Fld := ⟨(PMC_SEL i), 31, 31⟩
def PMC_SEL_MST_EN (i : Nat) : Fld := ⟨(PMC_SEL i), 30, 30⟩
def PMC_SEL_ADDR_EN (i : Nat) : Fld := ⟨(PMC_SEL i), 29, 29⟩
def PMC_SEL_CLS_EN (i : Nat) : Fld := ⟨(PMC_SEL i), 28, 28⟩
def PMC_SEL_SPACE (i : Nat) : Fld := ⟨(PMC_SEL i), 27, 27⟩
def PMC_SEL_PRIV (i : Nat) : Fld := ⟨(PMC_SEL i), 22, 20⟩
def PMC_SEL_MST (i : Nat) : Fld := ⟨(PMC_SEL i), 19, 16⟩
def PMC_SEL_CLS (i : Nat) : Fld := ⟨(PMC_SEL i), 11, 8⟩
def PMC_SEL_EN (i : Nat) : Fld := ⟨(PMC_SEL i), 7, 7⟩
def PMC_SEL_EVSEL (i : Nat) : Fld := ⟨(PMC_SEL i), 5, 0⟩
def PMC_ABASE (i : Nat) : Nat := 0x5084 + i % 8 * 16
def PMC_AMASK (i : Nat) : Nat := 0x5088 + i % 8 * 16
def PMC_SNAP_TIME_LO : Nat := 0x5100
def PMC_SNAP_TIME_HI : Nat := 0x5104
def PMC_SNAP_TIME_HI_TIME_HI : Fld := ⟨PMC_SNAP_TIME_HI, 15, 0⟩
def PMC_SNAP_CYC_LO : Nat := 0x5108
def PMC_SNAP_CYC_HI : Nat := 0x510c
def PMC_SNAP_LO (i : Nat) : Nat := 0x5110 + i % 8 * 8
def PMC_SNAP_HI (i : Nat) : Nat := 0x5114 + i % 8 * 8
def PMC_SNAP_HI_SNAP (i : Nat) : Fld := ⟨(PMC_SNAP_HI i), 15, 0⟩
def HEAD_CTL (i : Nat) : Nat := 0x6000 + i % 16 * 256
def HEAD_CTL_WARMUP (i : Nat) : Fld := ⟨(HEAD_CTL i), 23, 20⟩
def HEAD_CTL_CONN_ACT (i : Nat) : Fld := ⟨(HEAD_CTL i), 16, 16⟩
def HEAD_CTL_READ_MODE (i : Nat) : Fld := ⟨(HEAD_CTL i), 8, 8⟩
def HEAD_CTL_SWTRIG (i : Nat) : Fld := ⟨(HEAD_CTL i), 2, 2⟩
def HEAD_CTL_COMMIT (i : Nat) : Fld := ⟨(HEAD_CTL i), 1, 1⟩
def HEAD_CTL_ONLINE (i : Nat) : Fld := ⟨(HEAD_CTL i), 0, 0⟩
def HEAD_STATUS (i : Nat) : Nat := 0x6004 + i % 16 * 256
def HEAD_STATUS_CFG_ERR (i : Nat) : Fld := ⟨(HEAD_STATUS i), 23, 16⟩
def HEAD_STATUS_CM_OUT (i : Nat) : Fld := ⟨(HEAD_STATUS i), 8, 8⟩
def HEAD_STATUS_BAND (i : Nat) : Fld := ⟨(HEAD_STATUS i), 6, 4⟩
def HEAD_STATUS_STATE (i : Nat) : Fld := ⟨(HEAD_STATUS i), 1, 0⟩
def HEAD_EVENTS (i : Nat) : Nat := 0x6008 + i % 16 * 256
def HEAD_EVENTS_WR_REJ (i : Nat) : Fld := ⟨(HEAD_EVENTS i), 3, 3⟩
def HEAD_EVENTS_START_FAIL (i : Nat) : Fld := ⟨(HEAD_EVENTS i), 2, 2⟩
def HEAD_EVENTS_TRIG_OVR (i : Nat) : Fld := ⟨(HEAD_EVENTS i), 1, 1⟩
def HEAD_EVENTS_CONN_FAULT (i : Nat) : Fld := ⟨(HEAD_EVENTS i), 0, 0⟩
def HEAD_TAPS (i : Nat) : Nat := 0x600c + i % 16 * 256
def HEAD_TAPS_LAST_TAP (i : Nat) : Fld := ⟨(HEAD_TAPS i), 23, 16⟩
def HEAD_TAPS_FIRST_TAP (i : Nat) : Fld := ⟨(HEAD_TAPS i), 7, 0⟩
def HEAD_READ (i : Nat) : Nat := 0x6010 + i % 16 * 256
def HEAD_READ_DUMMY (i : Nat) : Fld := ⟨(HEAD_READ i), 31, 24⟩
def HEAD_READ_DARK (i : Nat) : Fld := ⟨(HEAD_READ i), 22, 16⟩
def HEAD_READ_PPT (i : Nat) : Fld := ⟨(HEAD_READ i), 11, 0⟩
def HEAD_CLK (i : Nat) : Nat := 0x6014 + i % 16 * 256
def HEAD_CLK_CLK_POL (i : Nat) : Fld := ⟨(HEAD_CLK i), 16, 16⟩
def HEAD_CLK_CLK2X (i : Nat) : Fld := ⟨(HEAD_CLK i), 8, 8⟩
def HEAD_CLK_DIV (i : Nat) : Fld := ⟨(HEAD_CLK i), 6, 0⟩
def HEAD_SP (i : Nat) : Nat := 0x6018 + i % 16 * 256
def HEAD_SP_SP_POL (i : Nat) : Fld := ⟨(HEAD_SP i), 24, 24⟩
def HEAD_SP_READ_DELAY (i : Nat) : Fld := ⟨(HEAD_SP i), 19, 16⟩
def HEAD_SP_SP_HOLD (i : Nat) : Fld := ⟨(HEAD_SP i), 15, 12⟩
def HEAD_SP_SP_SETUP (i : Nat) : Fld := ⟨(HEAD_SP i), 11, 8⟩
def HEAD_SP_SP_WIDTH (i : Nat) : Fld := ⟨(HEAD_SP i), 4, 0⟩
def HEAD_TRIG (i : Nat) : Nat := 0x601c + i % 16 * 256
def HEAD_TRIG_NBANDS (i : Nat) : Fld := ⟨(HEAD_TRIG i), 11, 8⟩
def HEAD_TRIG_TRIG_SRC (i : Nat) : Fld := ⟨(HEAD_TRIG i), 5, 4⟩
def HEAD_TRIG_AXIS (i : Nat) : Fld := ⟨(HEAD_TRIG i), 2, 0⟩
def HEAD_PITCH (i : Nat) : Nat := 0x6020 + i % 16 * 256
def HEAD_PITCH_PITCH (i : Nat) : Fld := ⟨(HEAD_PITCH i), 31, 0⟩
def HEAD_TIMER (i : Nat) : Nat := 0x6024 + i % 16 * 256
def HEAD_TIMER_PERIOD (i : Nat) : Fld := ⟨(HEAD_TIMER i), 23, 0⟩
def HEAD_AUX (i : Nat) : Nat := 0x6028 + i % 16 * 256
def HEAD_AUX_IDLE (i : Nat) : Fld := ⟨(HEAD_AUX i), 2, 2⟩
def HEAD_AUX_STATIC (i : Nat) : Fld := ⟨(HEAD_AUX i), 1, 1⟩
def HEAD_AUX_AUX_MODE (i : Nat) : Fld := ⟨(HEAD_AUX i), 0, 0⟩
def HEAD_TRIGSTAT (i : Nat) : Nat := 0x602c + i % 16 * 256
def HEAD_TRIGSTAT_IGNORED (i : Nat) : Fld := ⟨(HEAD_TRIGSTAT i), 31, 16⟩
def HEAD_TRIGSTAT_OVERRUN (i : Nat) : Fld := ⟨(HEAD_TRIGSTAT i), 15, 0⟩
def HEAD_LINE (i : Nat) : Nat := 0x6030 + i % 16 * 256
def HEAD_LINE_LINE (i : Nat) : Fld := ⟨(HEAD_LINE i), 31, 0⟩
def HEAD_PERIOD (i : Nat) : Nat := 0x6034 + i % 16 * 256
def HEAD_PERIOD_PERIOD (i : Nat) : Fld := ⟨(HEAD_PERIOD i), 31, 0⟩
def HEAD_CONN (i : Nat) : Nat := 0x6038 + i % 16 * 256
def HEAD_CONN_VALID (i : Nat) : Fld := ⟨(HEAD_CONN i), 31, 31⟩
def HEAD_CONN_TAP (i : Nat) : Fld := ⟨(HEAD_CONN i), 7, 0⟩
def HEAD_BAND (i : Nat) (j : Nat) : Nat := 0x6040 + i % 16 * 256 + j % 8 * 4
def HEAD_BAND_AUX (i : Nat) (j : Nat) : Fld := ⟨(HEAD_BAND i j), 24, 24⟩
def HEAD_BAND_EXPOSURE (i : Nat) (j : Nat) : Fld := ⟨(HEAD_BAND i j), 19, 0⟩
def TAP_CTL (i : Nat) : Nat := 0x8000 + i % 256 * 32
def TAP_CTL_REV (i : Nat) : Fld := ⟨(TAP_CTL i), 24, 24⟩
def TAP_CTL_RESTORE (i : Nat) : Fld := ⟨(TAP_CTL i), 16, 16⟩
def TAP_CTL_REF_LEAD (i : Nat) : Fld := ⟨(TAP_CTL i), 13, 8⟩
def TAP_CTL_INV (i : Nat) : Fld := ⟨(TAP_CTL i), 1, 1⟩
def TAP_CTL_MODE (i : Nat) : Fld := ⟨(TAP_CTL i), 0, 0⟩
def TAP_PHASE (i : Nat) : Nat := 0x8004 + i % 256 * 32
def TAP_PHASE_BASE (i : Nat) : Fld := ⟨(TAP_PHASE i), 22, 16⟩
def TAP_PHASE_COARSE (i : Nat) : Fld := ⟨(TAP_PHASE i), 14, 8⟩
def TAP_PHASE_FINE (i : Nat) : Fld := ⟨(TAP_PHASE i), 2, 0⟩
def TAP_CLAMP (i : Nat) : Nat := 0x8008 + i % 256 * 32
def TAP_CLAMP_CLAMP (i : Nat) : Fld := ⟨(TAP_CLAMP i), 9, 0⟩
def TAP_PGA (i : Nat) : Nat := 0x800c + i % 256 * 32
def TAP_PGA_PGA_B7 (i : Nat) : Fld := ⟨(TAP_PGA i), 23, 21⟩
def TAP_PGA_PGA_B6 (i : Nat) : Fld := ⟨(TAP_PGA i), 20, 18⟩
def TAP_PGA_PGA_B5 (i : Nat) : Fld := ⟨(TAP_PGA i), 17, 15⟩
def TAP_PGA_PGA_B4 (i : Nat) : Fld := ⟨(TAP_PGA i), 14, 12⟩
def TAP_PGA_PGA_B3 (i : Nat) : Fld := ⟨(TAP_PGA i), 11, 9⟩
def TAP_PGA_PGA_B2 (i : Nat) : Fld := ⟨(TAP_PGA i), 8, 6⟩
def TAP_PGA_PGA_B1 (i : Nat) : Fld := ⟨(TAP_PGA i), 5, 3⟩
def TAP_PGA_PGA_B0 (i : Nat) : Fld := ⟨(TAP_PGA i), 2, 0⟩
def TAP_STATUS (i : Nat) : Nat := 0x8010 + i % 256 * 32
def TAP_STATUS_OWNED (i : Nat) : Fld := ⟨(TAP_STATUS i), 31, 31⟩
def TAP_STATUS_HEAD (i : Nat) : Fld := ⟨(TAP_STATUS i), 27, 24⟩
def TAP_STATUS_PEND (i : Nat) : Fld := ⟨(TAP_STATUS i), 8, 8⟩
def TAP_STATUS_GUEST (i : Nat) : Fld := ⟨(TAP_STATUS i), 4, 4⟩
def TAP_STATUS_CM_OUT (i : Nat) : Fld := ⟨(TAP_STATUS i), 0, 0⟩
def TAP_EVENTS (i : Nat) : Nat := 0x8014 + i % 256 * 32
def TAP_EVENTS_WR_REJ (i : Nat) : Fld := ⟨(TAP_EVENTS i), 2, 2⟩
def TAP_EVENTS_OVR_SEEN (i : Nat) : Fld := ⟨(TAP_EVENTS i), 1, 1⟩
def TAP_EVENTS_CM_FAULT (i : Nat) : Fld := ⟨(TAP_EVENTS i), 0, 0⟩
def TAP_OVR (i : Nat) : Nat := 0x8018 + i % 256 * 32
def TAP_OVR_COUNT (i : Nat) : Fld := ⟨(TAP_OVR i), 31, 0⟩
def TAP_CM (i : Nat) : Nat := 0x801c + i % 256 * 32
def TAP_CM_VALID (i : Nat) : Fld := ⟨(TAP_CM i), 15, 15⟩
def TAP_CM_CM_MV (i : Nat) : Fld := ⟨(TAP_CM i), 11, 0⟩
def SLC_CTL : Nat := 0xa000
def SLC_CTL_AGE_LIM : Fld := ⟨SLC_CTL, 31, 24⟩
def SLC_CTL_INTERVAL : Fld := ⟨SLC_CTL, 19, 8⟩
def SLC_CTL_ROT_EN : Fld := ⟨SLC_CTL, 0, 0⟩
def SLC_STATUS : Nat := 0xa004
def SLC_STATUS_SHED : Fld := ⟨SLC_STATUS, 21, 20⟩
def SLC_STATUS_RETIRED : Fld := ⟨SLC_STATUS, 12, 8⟩
def SLC_STATUS_FACTORY : Fld := ⟨SLC_STATUS, 4, 0⟩
def SLC_EVENTS : Nat := 0xa008
def SLC_EVENTS_CMD_REJ : Fld := ⟨SLC_EVENTS, 5, 5⟩
def SLC_EVENTS_PRECOND : Fld := ⟨SLC_EVENTS, 4, 4⟩
def SLC_EVENTS_CAL_FAIL : Fld := ⟨SLC_EVENTS, 3, 3⟩
def SLC_EVENTS_UNCOVERED : Fld := ⟨SLC_EVENTS, 2, 2⟩
def SLC_EVENTS_FAULT : Fld := ⟨SLC_EVENTS, 1, 1⟩
def SLC_EVENTS_RETIRE : Fld := ⟨SLC_EVENTS, 0, 0⟩
def SLC_SUSP : Nat := 0xa00c
def SLC_SUSP_SUSP : Fld := ⟨SLC_SUSP, 15, 0⟩
def SLC_CMD : Nat := 0xa010
def SLC_CMD_OP : Fld := ⟨SLC_CMD, 17, 16⟩
def SLC_CMD_GROUP : Fld := ⟨SLC_CMD, 11, 8⟩
def SLC_CMD_SLICE : Fld := ⟨SLC_CMD, 4, 0⟩
def SLC_CMDSTAT : Nat := 0xa014
def SLC_CMDSTAT_BUSY : Fld := ⟨SLC_CMDSTAT, 31, 31⟩
def SLC_CMDSTAT_CODE : Fld := ⟨SLC_CMDSTAT, 7, 0⟩
def SLC_GSTATE (i : Nat) : Nat := 0xa100 + i % 16 * 16
def SLC_GSTATE_PHASE (i : Nat) : Fld := ⟨(SLC_GSTATE i), 26, 24⟩
def SLC_GSTATE_FAILS (i : Nat) : Fld := ⟨(SLC_GSTATE i), 21, 20⟩
def SLC_GSTATE_GUEST_TAP (i : Nat) : Fld := ⟨(SLC_GSTATE i), 12, 8⟩
def SLC_GSTATE_VISIT (i : Nat) : Fld := ⟨(SLC_GSTATE i), 4, 0⟩
def SLC_GRETIRE (i : Nat) : Nat := 0xa104 + i % 16 * 16
def SLC_GRETIRE_VALID (i : Nat) : Fld := ⟨(SLC_GRETIRE i), 31, 31⟩
def SLC_GRETIRE_FACTORY (i : Nat) : Fld := ⟨(SLC_GRETIRE i), 30, 30⟩
def SLC_GRETIRE_SLICE (i : Nat) : Fld := ⟨(SLC_GRETIRE i), 4, 0⟩
def SLC_GAGE (i : Nat) : Nat := 0xa108 + i % 16 * 16
def SLC_GAGE_AGE_MS (i : Nat) : Fld := ⟨(SLC_GAGE i), 31, 0⟩
def SLC_GLAST (i : Nat) : Nat := 0xa10c + i % 16 * 16
def SLC_GLAST_CODE (i : Nat) : Fld := ⟨(SLC_GLAST i), 31, 24⟩
def SLC_GLAST_COUNT (i : Nat) : Fld := ⟨(SLC_GLAST i), 23, 16⟩
def SLC_GLAST_SLICE (i : Nat) : Fld := ⟨(SLC_GLAST i), 4, 0⟩
def SLC_CMWIN (i : Nat) : Nat := 0xaf00 + i % 16 * 4
def SLC_CMWIN_CM_EN (i : Nat) : Fld := ⟨(SLC_CMWIN i), 31, 31⟩
def SLC_CMWIN_CM_HI (i : Nat) : Fld := ⟨(SLC_CMWIN i), 27, 16⟩
def SLC_CMWIN_CM_LO (i : Nat) : Fld := ⟨(SLC_CMWIN i), 11, 0⟩
def PIPE_CTL : Nat := 0xb000
def PIPE_CTL_SCRUB_EN : Fld := ⟨PIPE_CTL, 0, 0⟩
def PIPE_STATUS : Nat := 0xb004
def PIPE_STATUS_STAGE_HEAD : Fld := ⟨PIPE_STATUS, 27, 24⟩
def PIPE_STATUS_STAGE_BAND : Fld := ⟨PIPE_STATUS, 22, 20⟩
def PIPE_STATUS_STAGE : Fld := ⟨PIPE_STATUS, 17, 16⟩
def PIPE_STATUS_SPARES : Fld := ⟨PIPE_STATUS, 1, 0⟩
def PIPE_EVENTS : Nat := 0xb008
def PIPE_EVENTS_CLIP : Fld := ⟨PIPE_EVENTS, 6, 6⟩
def PIPE_EVENTS_SPARES_OUT : Fld := ⟨PIPE_EVENTS, 5, 5⟩
def PIPE_EVENTS_ROW_REMAP : Fld := ⟨PIPE_EVENTS, 4, 4⟩
def PIPE_EVENTS_ECC_UE : Fld := ⟨PIPE_EVENTS, 3, 3⟩
def PIPE_EVENTS_ECC_CE : Fld := ⟨PIPE_EVENTS, 2, 2⟩
def PIPE_EVENTS_LANE_UNCOVERED : Fld := ⟨PIPE_EVENTS, 1, 1⟩
def PIPE_EVENTS_LANE_FAULT : Fld := ⟨PIPE_EVENTS, 0, 0⟩
def PIPE_LANEMAP : Nat := 0xb00c
def PIPE_LANEMAP_SP_FAIL : Fld := ⟨PIPE_LANEMAP, 23, 22⟩
def PIPE_LANEMAP_SP1_LANE : Fld := ⟨PIPE_LANEMAP, 21, 16⟩
def PIPE_LANEMAP_SP0_LANE : Fld := ⟨PIPE_LANEMAP, 5, 0⟩
def PIPE_LANEFAIL : Nat := 0xb010
def PIPE_LANEFAIL_FAIL : Fld := ⟨PIPE_LANEFAIL, 31, 0⟩
def PIPE_ECC_CE : Nat := 0xb014
def PIPE_ECC_CE_COUNT : Fld := ⟨PIPE_ECC_CE, 31, 0⟩
def PIPE_ECC_UE : Nat := 0xb018
def PIPE_ECC_UE_COUNT : Fld := ⟨PIPE_ECC_UE, 31, 0⟩
def PIPE_ECC_ROW : Nat := 0xb01c
def PIPE_ECC_ROW_VALID : Fld := ⟨PIPE_ECC_ROW, 31, 31⟩
def PIPE_ECC_ROW_UE : Fld := ⟨PIPE_ECC_ROW, 30, 30⟩
def PIPE_ECC_ROW_BANK : Fld := ⟨PIPE_ECC_ROW, 28, 24⟩
def PIPE_ECC_ROW_ROW : Fld := ⟨PIPE_ECC_ROW, 11, 0⟩
def PIPE_HCTL (i : Nat) : Nat := 0xb040 + i % 16 * 4
def PIPE_HCTL_PCAP (i : Nat) : Fld := ⟨(PIPE_HCTL i), 15, 8⟩
def PIPE_HCTL_BIN (i : Nat) : Fld := ⟨(PIPE_HCTL i), 6, 4⟩
def PIPE_HCTL_LUT_EN (i : Nat) : Fld := ⟨(PIPE_HCTL i), 3, 3⟩
def PIPE_HCTL_FMT (i : Nat) : Fld := ⟨(PIPE_HCTL i), 1, 0⟩
def PIPE_SPROW (i : Nat) : Nat := 0xb080 + i % 17 * 4
def PIPE_SPROW_PENDING (i : Nat) : Fld := ⟨(PIPE_SPROW i), 23, 16⟩
def PIPE_SPROW_USED (i : Nat) : Fld := ⟨(PIPE_SPROW i), 6, 0⟩
def PIPE_BGO (i : Nat) : Nat := 0xb100 + i % 128 * 8
def PIPE_BGO_BOFF (i : Nat) : Fld := ⟨(PIPE_BGO i), 31, 16⟩
def PIPE_BGO_BGAIN (i : Nat) : Fld := ⟨(PIPE_BGO i), 15, 0⟩
def PIPE_THR (i : Nat) : Nat := 0xb104 + i % 128 * 8
def PIPE_THR_THRESH (i : Nat) : Fld := ⟨(PIPE_THR i), 15, 0⟩
def PIPE_GEN (i : Nat) : Nat := 0xb500 + i % 64 * 4
def PIPE_GEN_GEN_HI (i : Nat) : Fld := ⟨(PIPE_GEN i), 31, 16⟩
def PIPE_GEN_GEN_LO (i : Nat) : Fld := ⟨(PIPE_GEN i), 15, 0⟩
def PIPE_CLIP (i : Nat) : Nat := 0xb600 + i % 16 * 4
def PIPE_CLIP_COUNT (i : Nat) : Fld := ⟨(PIPE_CLIP i), 31, 0⟩
def SHD_CTL : Nat := 0xc000
def SHD_CTL_BGW_EN : Fld := ⟨SHD_CTL, 0, 0⟩
def SHD_STATUS : Nat := 0xc004
def SHD_STATUS_DEFER : Fld := ⟨SHD_STATUS, 31, 31⟩
def SHD_STATUS_WCOPY : Fld := ⟨SHD_STATUS, 30, 30⟩
def SHD_STATUS_RUN : Fld := ⟨SHD_STATUS, 15, 0⟩
def SHD_EVENTS : Nat := 0xc008
def SHD_EVENTS_DEFERRED : Fld := ⟨SHD_EVENTS, 5, 5⟩
def SHD_EVENTS_TRK_LIMIT : Fld := ⟨SHD_EVENTS, 4, 4⟩
def SHD_EVENTS_WFAIL : Fld := ⟨SHD_EVENTS, 3, 3⟩
def SHD_EVENTS_WCOMMIT : Fld := ⟨SHD_EVENTS, 2, 2⟩
def SHD_EVENTS_RUN_FAIL : Fld := ⟨SHD_EVENTS, 1, 1⟩
def SHD_EVENTS_RUN_DONE : Fld := ⟨SHD_EVENTS, 0, 0⟩
def SHD_LAST : Nat := 0xc00c
def SHD_LAST_CODE : Fld := ⟨SHD_LAST, 31, 24⟩
def SHD_LAST_KIND : Fld := ⟨SHD_LAST, 22, 20⟩
def SHD_LAST_HEAD : Fld := ⟨SHD_LAST, 19, 16⟩
def SHD_LAST_BAND : Fld := ⟨SHD_LAST, 10, 8⟩
def SHD_LASTCNT : Nat := 0xc010
def SHD_LASTCNT_COUNT : Fld := ⟨SHD_LASTCNT, 31, 0⟩
def SHD_DLIM : Nat := 0xc014
def SHD_DLIM_D0_LIM : Fld := ⟨SHD_DLIM, 15, 0⟩
def SHD_TRKSEL : Nat := 0xc018
def SHD_TRKSEL_BAND : Fld := ⟨SHD_TRKSEL, 10, 8⟩
def SHD_TRKSEL_TAP : Fld := ⟨SHD_TRKSEL, 7, 0⟩
def SHD_TRKVAL : Nat := 0xc01c
def SHD_TRKVAL_TRK : Fld := ⟨SHD_TRKVAL, 31, 0⟩
def SHD_HTRK (i : Nat) : Nat := 0xc100 + i % 16 * 32
def SHD_HTRK_TRK_EN (i : Nat) : Fld := ⟨(SHD_HTRK i), 31, 31⟩
def SHD_HTRK_K (i : Nat) : Fld := ⟨(SHD_HTRK i), 27, 24⟩
def SHD_HTRK_SUSP_K (i : Nat) : Fld := ⟨(SHD_HTRK i), 23, 20⟩
def SHD_HTRK_TRK_LIM (i : Nat) : Fld := ⟨(SHD_HTRK i), 10, 0⟩
def SHD_HREF (i : Nat) : Nat := 0xc104 + i % 16 * 32
def SHD_HREF_GUARD_EN (i : Nat) : Fld := ⟨(SHD_HREF i), 31, 31⟩
def SHD_HREF_GUARD_DS (i : Nat) : Fld := ⟨(SHD_HREF i), 27, 24⟩
def SHD_HREF_MARGIN (i : Nat) : Fld := ⟨(SHD_HREF i), 15, 0⟩
def SHD_HDIST (i : Nat) : Nat := 0xc108 + i % 16 * 32
def SHD_HDIST_DIST (i : Nat) : Fld := ⟨(SHD_HDIST i), 31, 0⟩
def SHD_HWHT (i : Nat) : Nat := 0xc10c + i % 16 * 32
def SHD_HWHT_BANDS (i : Nat) : Fld := ⟨(SHD_HWHT i), 31, 24⟩
def SHD_HWHT_WK (i : Nat) : Fld := ⟨(SHD_HWHT i), 19, 16⟩
def SHD_HWHT_WMIN (i : Nat) : Fld := ⟨(SHD_HWHT i), 15, 0⟩
def SHD_HTGT (i : Nat) : Nat := 0xc110 + i % 16 * 32
def SHD_HTGT_WTGT (i : Nat) : Fld := ⟨(SHD_HTGT i), 15, 0⟩
def SHD_HPHS (i : Nat) : Nat := 0xc114 + i % 16 * 32
def SHD_HPHS_PH_BAND (i : Nat) : Fld := ⟨(SHD_HPHS i), 26, 24⟩
def SHD_HPHS_SPAN (i : Nat) : Fld := ⟨(SHD_HPHS i), 14, 8⟩
def SHD_HPHS_STEP (i : Nat) : Fld := ⟨(SHD_HPHS i), 3, 0⟩
def SHD_HSTAT (i : Nat) : Nat := 0xc118 + i % 16 * 32
def SHD_HSTAT_DUE (i : Nat) : Fld := ⟨(SHD_HSTAT i), 31, 24⟩
def SHD_HSTAT_TRK_AT_LIM (i : Nat) : Fld := ⟨(SHD_HSTAT i), 23, 23⟩
def SHD_HSTAT_RUN (i : Nat) : Fld := ⟨(SHD_HSTAT i), 22, 22⟩
def SHD_HSTAT_QUAL (i : Nat) : Fld := ⟨(SHD_HSTAT i), 15, 0⟩
def SHD_HWAGE (i : Nat) : Nat := 0xc11c + i % 16 * 32
def SHD_HWAGE_AGE_S (i : Nat) : Fld := ⟨(SHD_HWAGE i), 15, 0⟩
def ATT_CTL : Nat := 0xd000
def ATT_CTL_FUSE_COMPAT : Fld := ⟨ATT_CTL, 0, 0⟩
def ATT_STATUS : Nat := 0xd004
def ATT_STATUS_BUSY : Fld := ⟨ATT_STATUS, 31, 31⟩
def ATT_STATUS_STEP : Fld := ⟨ATT_STATUS, 18, 16⟩
def ATT_STATUS_RESULT : Fld := ⟨ATT_STATUS, 10, 8⟩
def ATT_STATUS_SOURCE : Fld := ⟨ATT_STATUS, 1, 0⟩
def ATT_EVENTS : Nat := 0xd008
def ATT_EVENTS_JRNL_FULL : Fld := ⟨ATT_EVENTS, 5, 5⟩
def ATT_EVENTS_FUSE_BAD : Fld := ⟨ATT_EVENTS, 4, 4⟩
def ATT_EVENTS_FUSE_USED : Fld := ⟨ATT_EVENTS, 3, 3⟩
def ATT_EVENTS_BANK_BAD : Fld := ⟨ATT_EVENTS, 2, 2⟩
def ATT_EVENTS_SAVE_FAIL : Fld := ⟨ATT_EVENTS, 1, 1⟩
def ATT_EVENTS_SAVE_DONE : Fld := ⟨ATT_EVENTS, 0, 0⟩
def ATT_FLASH : Nat := 0xd00c
def ATT_FLASH_VALID : Fld := ⟨ATT_FLASH, 31, 31⟩
def ATT_FLASH_MODE : Fld := ⟨ATT_FLASH, 25, 24⟩
def ATT_FLASH_MBIT : Fld := ⟨ATT_FLASH, 9, 0⟩
def ATT_SEQ_LO : Nat := 0xd010
def ATT_SEQ_HI : Nat := 0xd014
def ATT_JRNL : Nat := 0xd018
def ATT_JRNL_ENTRIES : Fld := ⟨ATT_JRNL, 17, 0⟩
def ATT_USED : Nat := 0xd01c
def ATT_USED_BYTES : Fld := ⟨ATT_USED, 31, 0⟩
def MOT_CTL : Nat := 0xe000
def MOT_CTL_V_FLOOR : Fld := ⟨MOT_CTL, 23, 16⟩
def MOT_CTL_PACE_MODE : Fld := ⟨MOT_CTL, 9, 8⟩
def MOT_PACE : Nat := 0xe004
def MOT_PACE_RESUME : Fld := ⟨MOT_PACE, 22, 16⟩
def MOT_PACE_HOLD : Fld := ⟨MOT_PACE, 14, 8⟩
def MOT_PACE_FOLLOW : Fld := ⟨MOT_PACE, 6, 0⟩
def MOT_PACERATE : Nat := 0xe008
def MOT_PACERATE_KJ : Fld := ⟨MOT_PACERATE, 31, 16⟩
def MOT_PACERATE_KA : Fld := ⟨MOT_PACERATE, 15, 0⟩
def MOT_HOLDTO : Nat := 0xe00c
def MOT_HOLDTO_TIMEOUT : Fld := ⟨MOT_HOLDTO, 15, 0⟩
def MOT_STATUS : Nat := 0xe010
def MOT_STATUS_PSTATE : Fld := ⟨MOT_STATUS, 25, 24⟩
def MOT_STATUS_LIM_P : Fld := ⟨MOT_STATUS, 18, 18⟩
def MOT_STATUS_LIM_C : Fld := ⟨MOT_STATUS, 17, 17⟩
def MOT_STATUS_LIM_D : Fld := ⟨MOT_STATUS, 16, 16⟩
def MOT_STATUS_K : Fld := ⟨MOT_STATUS, 15, 0⟩
def MOT_FILL : Nat := 0xe014
def MOT_FILL_RSV : Fld := ⟨MOT_FILL, 25, 16⟩
def MOT_FILL_FILL : Fld := ⟨MOT_FILL, 9, 0⟩
def MOT_EVENTS : Nat := 0xe018
def MOT_EVENTS_END_LATE : Fld := ⟨MOT_EVENTS, 10, 10⟩
def MOT_EVENTS_CFG_REJ : Fld := ⟨MOT_EVENTS, 9, 9⟩
def MOT_EVENTS_SYNC_LATE : Fld := ⟨MOT_EVENTS, 8, 8⟩
def MOT_EVENTS_ENC_ERR : Fld := ⟨MOT_EVENTS, 7, 7⟩
def MOT_EVENTS_AXIS_FAULT : Fld := ⟨MOT_EVENTS, 6, 6⟩
def MOT_EVENTS_AREA_FULL : Fld := ⟨MOT_EVENTS, 5, 5⟩
def MOT_EVENTS_ADM_WAIT : Fld := ⟨MOT_EVENTS, 4, 4⟩
def MOT_EVENTS_RESUMED : Fld := ⟨MOT_EVENTS, 3, 3⟩
def MOT_EVENTS_HOLD_TO : Fld := ⟨MOT_EVENTS, 2, 2⟩
def MOT_EVENTS_HELD : Fld := ⟨MOT_EVENTS, 1, 1⟩
def MOT_EVENTS_FOLLOW : Fld := ⟨MOT_EVENTS, 0, 0⟩
def MOT_ADM : Nat := 0xe01c
def MOT_ADM_TO_SEL : Fld := ⟨MOT_ADM, 26, 24⟩
def MOT_ADM_FEED_DS : Fld := ⟨MOT_ADM, 19, 16⟩
def MOT_ADM_REL_W : Fld := ⟨MOT_ADM, 15, 0⟩
def MOT_ADMKIB : Nat := 0xe020
def MOT_ADMKIB_ADM_KIB : Fld := ⟨MOT_ADMKIB, 31, 0⟩
def MOT_ADMMARGIN : Nat := 0xe024
def MOT_ADMMARGIN_MARGIN_KIB : Fld := ⟨MOT_ADMMARGIN, 31, 0⟩
def MOT_ADMSTAT : Nat := 0xe028
def MOT_ADMSTAT_WAITS : Fld := ⟨MOT_ADMSTAT, 31, 16⟩
def MOT_ADMSTAT_ADMITTED : Fld := ⟨MOT_ADMSTAT, 15, 0⟩
def MOT_PANTRY : Nat := 0xe02c
def MOT_PANTRY_REFUSE : Fld := ⟨MOT_PANTRY, 31, 31⟩
def MOT_PANTRY_KP : Fld := ⟨MOT_PANTRY, 15, 0⟩
def MOT_DSPOL : Nat := 0xe030
def MOT_DSPOL_POL : Fld := ⟨MOT_DSPOL, 15, 0⟩
def MOT_DSFILT (i : Nat) : Nat := 0xe034 + i % 2 * 4
def MOT_DSFILT_FILT (i : Nat) : Fld := ⟨(MOT_DSFILT i), 31, 0⟩
def MOT_DSSTATE : Nat := 0xe03c
def MOT_DSSTATE_COVERED : Fld := ⟨MOT_DSSTATE, 15, 0⟩
def MOT_TO : Nat := 0xe040
def MOT_TO_LEVEL : Fld := ⟨MOT_TO, 7, 0⟩
def MOT_ACTL (i : Nat) : Nat := 0xe100 + i % 8 * 64
def MOT_ACTL_EN (i : Nat) : Fld := ⟨(MOT_ACTL i), 31, 31⟩
def MOT_ACTL_FE_ACT (i : Nat) : Fld := ⟨(MOT_ACTL i), 24, 24⟩
def MOT_ACTL_PACE_EN (i : Nat) : Fld := ⟨(MOT_ACTL i), 23, 23⟩
def MOT_ACTL_BIND (i : Nat) : Fld := ⟨(MOT_ACTL i), 22, 22⟩
def MOT_ACTL_ENC (i : Nat) : Fld := ⟨(MOT_ACTL i), 21, 20⟩
def MOT_ACTL_DIR_POL (i : Nat) : Fld := ⟨(MOT_ACTL i), 17, 17⟩
def MOT_ACTL_STEP_POL (i : Nat) : Fld := ⟨(MOT_ACTL i), 16, 16⟩
def MOT_ACTL_EN_DLY (i : Nat) : Fld := ⟨(MOT_ACTL i), 15, 8⟩
def MOT_ASTATUS (i : Nat) : Nat := 0xe104 + i % 8 * 64
def MOT_ASTATUS_STATE (i : Nat) : Fld := ⟨(MOT_ASTATUS i), 31, 30⟩
def MOT_ASTATUS_REST (i : Nat) : Fld := ⟨(MOT_ASTATUS i), 29, 29⟩
def MOT_ASTATUS_DIR (i : Nat) : Fld := ⟨(MOT_ASTATUS i), 28, 28⟩
def MOT_ASTATUS_SEG (i : Nat) : Fld := ⟨(MOT_ASTATUS i), 27, 24⟩
def MOT_ASTATUS_MOVE (i : Nat) : Fld := ⟨(MOT_ASTATUS i), 1, 0⟩
def MOT_AEVENTS (i : Nat) : Nat := 0xe108 + i % 8 * 64
def MOT_AEVENTS_CAPPED (i : Nat) : Fld := ⟨(MOT_AEVENTS i), 4, 4⟩
def MOT_AEVENTS_BACKUP_DONE (i : Nat) : Fld := ⟨(MOT_AEVENTS i), 3, 3⟩
def MOT_AEVENTS_PROF_DONE (i : Nat) : Fld := ⟨(MOT_AEVENTS i), 2, 2⟩
def MOT_AEVENTS_DRV_FAULT (i : Nat) : Fld := ⟨(MOT_AEVENTS i), 1, 1⟩
def MOT_AEVENTS_FE_FAULT (i : Nat) : Fld := ⟨(MOT_AEVENTS i), 0, 0⟩
def MOT_APOS_LO (i : Nat) : Nat := 0xe10c + i % 8 * 64
def MOT_APOS_LO_POS_LO (i : Nat) : Fld := ⟨(MOT_APOS_LO i), 31, 0⟩
def MOT_APOS_HI (i : Nat) : Nat := 0xe110 + i % 8 * 64
def MOT_APOS_HI_POS_HI (i : Nat) : Fld := ⟨(MOT_APOS_HI i), 15, 0⟩
def MOT_AVEL (i : Nat) : Nat := 0xe114 + i % 8 * 64
def MOT_AVEL_VEL (i : Nat) : Fld := ⟨(MOT_AVEL i), 31, 0⟩
def MOT_AVMAX (i : Nat) : Nat := 0xe118 + i % 8 * 64
def MOT_AVMAX_VMAX (i : Nat) : Fld := ⟨(MOT_AVMAX i), 22, 0⟩
def MOT_ASTEP (i : Nat) : Nat := 0xe11c + i % 8 * 64
def MOT_ASTEP_DIR_SET (i : Nat) : Fld := ⟨(MOT_ASTEP i), 23, 16⟩
def MOT_ASTEP_SW (i : Nat) : Fld := ⟨(MOT_ASTEP i), 7, 0⟩
def MOT_AIREF (i : Nat) : Nat := 0xe120 + i % 8 * 64
def MOT_AIREF_STBY_DLY (i : Nat) : Fld := ⟨(MOT_AIREF i), 31, 24⟩
def MOT_AIREF_STBY_DUTY (i : Nat) : Fld := ⟨(MOT_AIREF i), 15, 8⟩
def MOT_AIREF_RUN_DUTY (i : Nat) : Fld := ⟨(MOT_AIREF i), 7, 0⟩
def MOT_ARATIO (i : Nat) : Nat := 0xe124 + i % 8 * 64
def MOT_ARATIO_RATIO (i : Nat) : Fld := ⟨(MOT_ARATIO i), 31, 0⟩
def MOT_AFE (i : Nat) : Nat := 0xe128 + i % 8 * 64
def MOT_AFE_FE_T (i : Nat) : Fld := ⟨(MOT_AFE i), 31, 16⟩
def MOT_AFE_FE_LIM (i : Nat) : Fld := ⟨(MOT_AFE i), 15, 0⟩
def MOT_AFERR (i : Nat) : Nat := 0xe12c + i % 8 * 64
def MOT_AFERR_FE (i : Nat) : Fld := ⟨(MOT_AFERR i), 31, 0⟩
def MOT_ABACK (i : Nat) : Nat := 0xe130 + i % 8 * 64
def MOT_ABACK_BACKLASH (i : Nat) : Fld := ⟨(MOT_ABACK i), 31, 16⟩
def MOT_ABACK_BACK (i : Nat) : Fld := ⟨(MOT_ABACK i), 15, 0⟩
def MOT_AVCAP (i : Nat) : Nat := 0xe134 + i % 8 * 64
def MOT_AVCAP_VCAP (i : Nat) : Fld := ⟨(MOT_AVCAP i), 22, 0⟩
def MOT_ACMD (i : Nat) : Nat := 0xe138 + i % 8 * 64
def MOT_ACMD_OP (i : Nat) : Fld := ⟨(MOT_ACMD i), 1, 0⟩
def MOT_ECTL (i : Nat) : Nat := 0xe300 + i % 4 * 16
def MOT_ECTL_EN (i : Nat) : Fld := ⟨(MOT_ECTL i), 31, 31⟩
def MOT_ECTL_INV (i : Nat) : Fld := ⟨(MOT_ECTL i), 8, 8⟩
def MOT_ECTL_DEC (i : Nat) : Fld := ⟨(MOT_ECTL i), 5, 4⟩
def MOT_ECTL_IDX_EN (i : Nat) : Fld := ⟨(MOT_ECTL i), 3, 3⟩
def MOT_ECTL_FILT (i : Nat) : Fld := ⟨(MOT_ECTL i), 2, 0⟩
def MOT_ECNT (i : Nat) : Nat := 0xe304 + i % 4 * 16
def MOT_ECNT_COUNT (i : Nat) : Fld := ⟨(MOT_ECNT i), 31, 0⟩
def MOT_EIDX (i : Nat) : Nat := 0xe308 + i % 4 * 16
def MOT_EIDX_IDX (i : Nat) : Fld := ⟨(MOT_EIDX i), 31, 0⟩
def MOT_EERR (i : Nat) : Nat := 0xe30c + i % 4 * 16
def MOT_EERR_ERRS (i : Nat) : Fld := ⟨(MOT_EERR i), 31, 0⟩
def MOT_HDOC (i : Nat) : Nat := 0xe400 + i % 16 * 16
def MOT_HDOC_DOC_EN (i : Nat) : Fld := ⟨(MOT_HDOC i), 31, 31⟩
def MOT_HDOC_GRID_SYNC (i : Nat) : Fld := ⟨(MOT_HDOC i), 30, 30⟩
def MOT_HDOC_GAP_CAP (i : Nat) : Fld := ⟨(MOT_HDOC i), 29, 29⟩
def MOT_HDOC_DOC_DS (i : Nat) : Fld := ⟨(MOT_HDOC i), 19, 16⟩
def MOT_HDDIST (i : Nat) : Nat := 0xe404 + i % 16 * 16
def MOT_HDDIST_DIST (i : Nat) : Fld := ⟨(MOT_HDDIST i), 31, 0⟩
def MOT_HEDGE (i : Nat) : Nat := 0xe408 + i % 16 * 16
def MOT_HEDGE_TRAIL (i : Nat) : Fld := ⟨(MOT_HEDGE i), 31, 16⟩
def MOT_HEDGE_LEAD (i : Nat) : Fld := ⟨(MOT_HEDGE i), 15, 0⟩
def MOT_HDOCNUM (i : Nat) : Nat := 0xe40c + i % 16 * 16
def MOT_HDOCNUM_DOCNUM (i : Nat) : Fld := ⟨(MOT_HDOCNUM i), 31, 0⟩
def LMP_CTL : Nat := 0xf000
def LMP_CTL_EN : Fld := ⟨LMP_CTL, 31, 31⟩
def LMP_CTL_BUS_EN : Fld := ⟨LMP_CTL, 28, 28⟩
def LMP_CTL_BUS_HEAD : Fld := ⟨LMP_CTL, 27, 24⟩
def LMP_CTL_STB_W : Fld := ⟨LMP_CTL, 13, 8⟩
def LMP_STATUS : Nat := 0xf004
def LMP_STATUS_RAIL_ON : Fld := ⟨LMP_STATUS, 31, 31⟩
def LMP_STATUS_RAIL_OK : Fld := ⟨LMP_STATUS, 30, 30⟩
def LMP_STATUS_SERVO_LIM : Fld := ⟨LMP_STATUS, 29, 29⟩
def LMP_STATUS_TABLE : Fld := ⟨LMP_STATUS, 28, 28⟩
def LMP_STATUS_LOADING : Fld := ⟨LMP_STATUS, 27, 27⟩
def LMP_STATUS_DROPPED : Fld := ⟨LMP_STATUS, 26, 16⟩
def LMP_EVENTS : Nat := 0xf008
def LMP_EVENTS_DIAG_LATE : Fld := ⟨LMP_EVENTS, 7, 7⟩
def LMP_EVENTS_BUS_SUPPR : Fld := ⟨LMP_EVENTS, 6, 6⟩
def LMP_EVENTS_DRIVE_SAT : Fld := ⟨LMP_EVENTS, 5, 5⟩
def LMP_EVENTS_SERVO_LIM : Fld := ⟨LMP_EVENTS, 4, 4⟩
def LMP_EVENTS_RAIL_FAULT : Fld := ⟨LMP_EVENTS, 3, 3⟩
def LMP_EVENTS_NO_SIB : Fld := ⟨LMP_EVENTS, 2, 2⟩
def LMP_EVENTS_REDIST : Fld := ⟨LMP_EVENTS, 1, 1⟩
def LMP_EVENTS_DROP : Fld := ⟨LMP_EVENTS, 0, 0⟩
def LMP_RAIL : Nat := 0xf00c
def LMP_RAIL_VMIN : Fld := ⟨LMP_RAIL, 24, 16⟩
def LMP_RAIL_VMAX : Fld := ⟨LMP_RAIL, 8, 0⟩
def LMP_SERVO : Nat := 0xf010
def LMP_SERVO_DEADBAND : Fld := ⟨LMP_SERVO, 31, 24⟩
def LMP_SERVO_DOWN_STEP : Fld := ⟨LMP_SERVO, 23, 16⟩
def LMP_SERVO_PERIOD : Fld := ⟨LMP_SERVO, 15, 10⟩
def LMP_SERVO_HR_TGT : Fld := ⟨LMP_SERVO, 9, 0⟩
def LMP_VSET : Nat := 0xf014
def LMP_VSET_VMEAS : Fld := ⟨LMP_VSET, 31, 16⟩
def LMP_VSET_VSET : Fld := ⟨LMP_VSET, 15, 0⟩
def LMP_HMIN : Nat := 0xf018
def LMP_HMIN_SAT : Fld := ⟨LMP_HMIN, 31, 24⟩
def LMP_HMIN_STR : Fld := ⟨LMP_HMIN, 23, 20⟩
def LMP_HMIN_HMIN : Fld := ⟨LMP_HMIN, 15, 0⟩
def LMP_SW : Nat := 0xf01c
def LMP_SW_ILIM : Fld := ⟨LMP_SW, 31, 16⟩
def LMP_SW_RSHUNT : Fld := ⟨LMP_SW, 15, 8⟩
def LMP_SW_DIV : Fld := ⟨LMP_SW, 7, 0⟩
def LMP_IRAIL : Nat := 0xf020
def LMP_IRAIL_IRAIL : Fld := ⟨LMP_IRAIL, 15, 0⟩
def LMP_DIAG : Nat := 0xf024
def LMP_DIAG_SHORT_PCT : Fld := ⟨LMP_DIAG, 31, 24⟩
def LMP_DIAG_OPEN_PCT : Fld := ⟨LMP_DIAG, 23, 16⟩
def LMP_DIAG_DUE_T : Fld := ⟨LMP_DIAG, 15, 8⟩
def LMP_DIAG_DUE_N : Fld := ⟨LMP_DIAG, 7, 0⟩
def LMP_RECOMP : Nat := 0xf028
def LMP_RECOMP_PERIOD : Fld := ⟨LMP_RECOMP, 15, 0⟩
def LMP_CMD : Nat := 0xf02c
def LMP_CMD_OP : Fld := ⟨LMP_CMD, 25, 24⟩
def LMP_CMD_SAT : Fld := ⟨LMP_CMD, 23, 16⟩
def LMP_CMD_STR : Fld := ⟨LMP_CMD, 3, 0⟩
def LMP_CMDSTAT : Nat := 0xf030
def LMP_CMDSTAT_BUSY : Fld := ⟨LMP_CMDSTAT, 31, 31⟩
def LMP_CMDSTAT_CODE : Fld := ⟨LMP_CMDSTAT, 7, 0⟩
def LMP_LAST : Nat := 0xf034
def LMP_LAST_KIND : Fld := ⟨LMP_LAST, 31, 28⟩
def LMP_LAST_BAND : Fld := ⟨LMP_LAST, 26, 24⟩
def LMP_LAST_SAT : Fld := ⟨LMP_LAST, 23, 16⟩
def LMP_LAST_STR : Fld := ⟨LMP_LAST, 3, 0⟩
def LMP_CNT : Nat := 0xf038
def LMP_CNT_DIAG_LATE : Fld := ⟨LMP_CNT, 31, 16⟩
def LMP_CNT_SUPPR : Fld := ⟨LMP_CNT, 15, 0⟩
def LMP_SSTAT (i : Nat) : Nat := 0xf100 + i % 16 * 64
def LMP_SSTAT_STATE (i : Nat) : Fld := ⟨(LMP_SSTAT i), 31, 30⟩
def LMP_SSTAT_SCOUNT (i : Nat) : Fld := ⟨(LMP_SSTAT i), 23, 16⟩
def LMP_SSTAT_CODE (i : Nat) : Fld := ⟨(LMP_SSTAT i), 9, 0⟩
def LMP_SMEAS (i : Nat) : Nat := 0xf104 + i % 16 * 64
def LMP_SMEAS_TEMP (i : Nat) : Fld := ⟨(LMP_SMEAS i), 31, 16⟩
def LMP_SMEAS_VF (i : Nat) : Fld := ⟨(LMP_SMEAS i), 15, 0⟩
def LMP_SBIN0 (i : Nat) : Nat := 0xf108 + i % 16 * 64
def LMP_SBIN0_WL (i : Nat) : Fld := ⟨(LMP_SBIN0 i), 31, 16⟩
def LMP_SBIN0_IREF (i : Nat) : Fld := ⟨(LMP_SBIN0 i), 15, 0⟩
def LMP_SBIN1 (i : Nat) : Nat := 0xf10c + i % 16 * 64
def LMP_SBIN1_FLUX (i : Nat) : Fld := ⟨(LMP_SBIN1 i), 31, 16⟩
def LMP_SBIN1_VF (i : Nat) : Fld := ⟨(LMP_SBIN1 i), 15, 0⟩
def LMP_SBIN2 (i : Nat) : Nat := 0xf110 + i % 16 * 64
def LMP_SBIN2_KT (i : Nat) : Fld := ⟨(LMP_SBIN2 i), 31, 16⟩
def LMP_SBIN2_KV (i : Nat) : Fld := ⟨(LMP_SBIN2 i), 15, 0⟩
def LMP_SBIN3 (i : Nat) : Nat := 0xf114 + i % 16 * 64
def LMP_SBIN3_VALID (i : Nat) : Fld := ⟨(LMP_SBIN3 i), 31, 31⟩
def LMP_SBIN3_RD (i : Nat) : Fld := ⟨(LMP_SBIN3 i), 15, 0⟩
def LMP_SDRV (i : Nat) (j : Nat) : Nat := 0xf120 + i % 16 * 64 + j % 8 * 4
def LMP_SDRV_WIDTH (i : Nat) (j : Nat) : Fld := ⟨(LMP_SDRV i j), 29, 10⟩
def LMP_SDRV_CODE (i : Nat) (j : Nat) : Fld := ⟨(LMP_SDRV i j), 9, 0⟩
def LNK_CTL : Nat := 0x10000
def LNK_CTL_EN : Fld := ⟨LNK_CTL, 31, 31⟩
def LNK_CTL_MODE : Fld := ⟨LNK_CTL, 0, 0⟩
def LNK_STATUS : Nat := 0x10004
def LNK_STATUS_STATE : Fld := ⟨LNK_STATUS, 31, 30⟩
def LNK_STATUS_N : Fld := ⟨LNK_STATUS, 23, 16⟩
def LNK_STATUS_CYCLE : Fld := ⟨LNK_STATUS, 15, 0⟩
def LNK_EVENTS : Nat := 0x10008
def LNK_EVENTS_RENUM : Fld := ⟨LNK_EVENTS, 3, 3⟩
def LNK_EVENTS_CHAIN : Fld := ⟨LNK_EVENTS, 2, 2⟩
def LNK_EVENTS_SIZE_FAULT : Fld := ⟨LNK_EVENTS, 1, 1⟩
def LNK_EVENTS_LINK_FAULT : Fld := ⟨LNK_EVENTS, 0, 0⟩
def LNK_CMD : Nat := 0x1000c
def LNK_CMD_RESIZE : Fld := ⟨LNK_CMD, 0, 0⟩
def LNK_CHK : Nat := 0x10010
def LNK_CHK_CHK : Fld := ⟨LNK_CHK, 31, 0⟩
def LNK_ERRCNT : Nat := 0x10014
def LNK_ERRCNT_COUNT : Fld := ⟨LNK_ERRCNT, 31, 0⟩
def HWY_CTL : Nat := 0x11000
def HWY_CTL_EN : Fld := ⟨HWY_CTL, 31, 31⟩
def HWY_CTL_AXMASK : Fld := ⟨HWY_CTL, 7, 0⟩
def HWY_STATUS : Nat := 0x11004
def HWY_STATUS_MASTER : Fld := ⟨HWY_STATUS, 31, 31⟩
def HWY_STATUS_FOLDED : Fld := ⟨HWY_STATUS, 30, 30⟩
def HWY_STATUS_LANE : Fld := ⟨HWY_STATUS, 29, 29⟩
def HWY_STATUS_ENUM_ERR : Fld := ⟨HWY_STATUS, 23, 20⟩
def HWY_STATUS_N : Fld := ⟨HWY_STATUS, 12, 8⟩
def HWY_STATUS_INDEX : Fld := ⟨HWY_STATUS, 3, 0⟩
def HWY_EVENTS : Nat := 0x11008
def HWY_EVENTS_CMD_REJ : Fld := ⟨HWY_EVENTS, 7, 7⟩
def HWY_EVENTS_MEMBER_LOST : Fld := ⟨HWY_EVENTS, 6, 6⟩
def HWY_EVENTS_CUT_OFF : Fld := ⟨HWY_EVENTS, 5, 5⟩
def HWY_EVENTS_BREAK : Fld := ⟨HWY_EVENTS, 4, 4⟩
def HWY_EVENTS_POS_SYNC : Fld := ⟨HWY_EVENTS, 3, 3⟩
def HWY_EVENTS_TOK_DROP : Fld := ⟨HWY_EVENTS, 2, 2⟩
def HWY_EVENTS_MSG_RX : Fld := ⟨HWY_EVENTS, 1, 1⟩
def HWY_EVENTS_ENUM_FAIL : Fld := ⟨HWY_EVENTS, 0, 0⟩
def HWY_CMD : Nat := 0x1100c
def HWY_CMD_REJOIN : Fld := ⟨HWY_CMD, 0, 0⟩
def HWY_LINK : Nat := 0x11010
def HWY_LINK_U_DLY : Fld := ⟨HWY_LINK, 23, 16⟩
def HWY_LINK_D_DLY : Fld := ⟨HWY_LINK, 7, 0⟩
def HWY_ERRCNT : Nat := 0x11014
def HWY_ERRCNT_CRC : Fld := ⟨HWY_ERRCNT, 31, 16⟩
def HWY_ERRCNT_CODE : Fld := ⟨HWY_ERRCNT, 15, 0⟩
def HWY_MCTL : Nat := 0x11018
def HWY_MCTL_SEND : Fld := ⟨HWY_MCTL, 8, 8⟩
def HWY_MCTL_BCAST : Fld := ⟨HWY_MCTL, 4, 4⟩
def HWY_MCTL_DST : Fld := ⟨HWY_MCTL, 3, 0⟩
def HWY_MSTAT : Nat := 0x1101c
def HWY_MSTAT_TX_BUSY : Fld := ⟨HWY_MSTAT, 31, 31⟩
def HWY_MSTAT_RX_FULL : Fld := ⟨HWY_MSTAT, 30, 30⟩
def HWY_MSTAT_SRC : Fld := ⟨HWY_MSTAT, 3, 0⟩
def HWY_MTX (i : Nat) : Nat := 0x11040 + i % 16 * 4
def HWY_MRX (i : Nat) : Nat := 0x11080 + i % 16 * 4
def AUX_CTL : Nat := 0x12000
def AUX_CTL_CALPER : Fld := ⟨AUX_CTL, 31, 16⟩
def AUX_STATUS : Nat := 0x12004
def AUX_STATUS_REF_SETTLED : Fld := ⟨AUX_STATUS, 31, 28⟩
def AUX_STATUS_FAULT : Fld := ⟨AUX_STATUS, 27, 24⟩
def AUX_STATUS_MIGR : Fld := ⟨AUX_STATUS, 23, 20⟩
def AUX_STATUS_CAL : Fld := ⟨AUX_STATUS, 19, 16⟩
def AUX_STATUS_RUN : Fld := ⟨AUX_STATUS, 15, 12⟩
def AUX_EVENTS : Nat := 0x12008
def AUX_EVENTS_DROP : Fld := ⟨AUX_EVENTS, 10, 10⟩
def AUX_EVENTS_WR_REJ : Fld := ⟨AUX_EVENTS, 9, 9⟩
def AUX_EVENTS_CAL_FAIL : Fld := ⟨AUX_EVENTS, 8, 8⟩
def AUX_EVENTS_SEQ_OVR : Fld := ⟨AUX_EVENTS, 7, 7⟩
def AUX_EVENTS_INJ_OVF : Fld := ⟨AUX_EVENTS, 6, 6⟩
def AUX_EVENTS_UNCOVERED : Fld := ⟨AUX_EVENTS, 5, 5⟩
def AUX_EVENTS_CONV_FAULT : Fld := ⟨AUX_EVENTS, 4, 4⟩
def AUX_EVENTS_REF_FAULT : Fld := ⟨AUX_EVENTS, 3, 3⟩
def AUX_EVENTS_OPEN_WIRE : Fld := ⟨AUX_EVENTS, 2, 2⟩
def AUX_EVENTS_WC_ENTRY : Fld := ⟨AUX_EVENTS, 1, 1⟩
def AUX_EVENTS_WC_EXIT : Fld := ⟨AUX_EVENTS, 0, 0⟩
def AUX_CALCMD : Nat := 0x1200c
def AUX_CALCMD_GO : Fld := ⟨AUX_CALCMD, 8, 8⟩
def AUX_CALCMD_CONV : Fld := ⟨AUX_CALCMD, 1, 0⟩
def AUX_CALSTAT : Nat := 0x12010
def AUX_CALSTAT_BUSY : Fld := ⟨AUX_CALSTAT, 31, 31⟩
def AUX_CALSTAT_CONV : Fld := ⟨AUX_CALSTAT, 25, 24⟩
def AUX_CALSTAT_RANGE : Fld := ⟨AUX_CALSTAT, 22, 20⟩
def AUX_CALSTAT_CODE : Fld := ⟨AUX_CALSTAT, 7, 0⟩
def AUX_DROPS : Nat := 0x12014
def AUX_DROPS_COUNT : Fld := ⟨AUX_DROPS, 31, 0⟩
def AUX_CVCTL (i : Nat) : Nat := 0x12020 + i % 4 * 4
def AUX_CVCTL_EN (i : Nat) : Fld := ⟨(AUX_CVCTL i), 31, 31⟩
def AUX_CVCTL_STREAM (i : Nat) : Fld := ⟨(AUX_CVCTL i), 30, 30⟩
def AUX_CVCTL_REFSEL (i : Nat) : Fld := ⟨(AUX_CVCTL i), 29, 28⟩
def AUX_CVCTL_TRIG (i : Nat) : Fld := ⟨(AUX_CVCTL i), 27, 26⟩
def AUX_CVCTL_SWTRIG (i : Nat) : Fld := ⟨(AUX_CVCTL i), 25, 25⟩
def AUX_CVCTL_LAST (i : Nat) : Fld := ⟨(AUX_CVCTL i), 23, 20⟩
def AUX_CVCTL_AXIS (i : Nat) : Fld := ⟨(AUX_CVCTL i), 18, 16⟩
def AUX_CVCTL_PERIOD (i : Nat) : Fld := ⟨(AUX_CVCTL i), 15, 0⟩
def AUX_EXC (i : Nat) : Nat := 0x12040 + i % 4 * 4
def AUX_EXC_OWNER (i : Nat) : Fld := ⟨(AUX_EXC i), 31, 30⟩
def AUX_EXC_LVL (i : Nat) : Fld := ⟨(AUX_EXC i), 29, 27⟩
def AUX_EXC_STATE (i : Nat) : Fld := ⟨(AUX_EXC i), 26, 24⟩
def AUX_INJ (i : Nat) : Nat := 0x12060 + i % 2 * 4
def AUX_INJ_CH (i : Nat) : Fld := ⟨(AUX_INJ i), 31, 26⟩
def AUX_INJ_SLOT (i : Nat) : Fld := ⟨(AUX_INJ i), 25, 24⟩
def AUX_INJ_DIS (i : Nat) : Fld := ⟨(AUX_INJ i), 23, 16⟩
def AUX_INJ_PULL (i : Nat) : Fld := ⟨(AUX_INJ i), 15, 13⟩
def AUX_INJ_GAIN (i : Nat) : Fld := ⟨(AUX_INJ i), 12, 10⟩
def AUX_SEQA (i : Nat) (j : Nat) : Nat := 0x12100 + i % 4 * 128 + j % 16 * 8
def AUX_SEQA_CH (i : Nat) (j : Nat) : Fld := ⟨(AUX_SEQA i j), 31, 26⟩
def AUX_SEQA_CHN (i : Nat) (j : Nat) : Fld := ⟨(AUX_SEQA i j), 25, 20⟩
def AUX_SEQA_GAIN (i : Nat) (j : Nat) : Fld := ⟨(AUX_SEQA i j), 19, 17⟩
def AUX_SEQA_AUTO (i : Nat) (j : Nat) : Fld := ⟨(AUX_SEQA i j), 16, 16⟩
def AUX_SEQA_PULL (i : Nat) (j : Nat) : Fld := ⟨(AUX_SEQA i j), 15, 13⟩
def AUX_SEQA_UNS_DEL (i : Nat) (j : Nat) : Fld := ⟨(AUX_SEQA i j), 12, 12⟩
def AUX_SEQA_EXC_SEL (i : Nat) (j : Nat) : Fld := ⟨(AUX_SEQA i j), 11, 10⟩
def AUX_SEQA_EXC_LVL (i : Nat) (j : Nat) : Fld := ⟨(AUX_SEQA i j), 9, 7⟩
def AUX_SEQB (i : Nat) (j : Nat) : Nat := 0x12104 + i % 4 * 128 + j % 16 * 8
def AUX_SEQB_DIS (i : Nat) (j : Nat) : Fld := ⟨(AUX_SEQB i j), 31, 24⟩
def AUX_SEQB_NRES (i : Nat) (j : Nat) : Fld := ⟨(AUX_SEQB i j), 31, 24⟩
def AUX_SEQB_ACQ (i : Nat) (j : Nat) : Fld := ⟨(AUX_SEQB i j), 23, 16⟩
def AUX_SEQB_EXC_DLY (i : Nat) (j : Nat) : Fld := ⟨(AUX_SEQB i j), 23, 16⟩
def AUX_SEQB_DIV (i : Nat) (j : Nat) : Fld := ⟨(AUX_SEQB i j), 12, 0⟩
def AUX_RES_LO (i : Nat) (j : Nat) : Nat := 0x12400 + i % 4 * 256 + j % 16 * 16
def AUX_RES_HI (i : Nat) (j : Nat) : Nat := 0x12404 + i % 4 * 256 + j % 16 * 16
def AUX_RES_HI_COUNT (i : Nat) (j : Nat) : Fld := ⟨(AUX_RES_HI i j), 31, 16⟩
def AUX_RES_HI_VALID (i : Nat) (j : Nat) : Fld := ⟨(AUX_RES_HI i j), 15, 15⟩
def AUX_RES_HI_UNS (i : Nat) (j : Nat) : Fld := ⟨(AUX_RES_HI i j), 14, 14⟩
def AUX_RES_HI_OVR (i : Nat) (j : Nat) : Fld := ⟨(AUX_RES_HI i j), 13, 13⟩
def AUX_RES_HI_OPEN (i : Nat) (j : Nat) : Fld := ⟨(AUX_RES_HI i j), 12, 12⟩
def AUX_RES_HI_MIGR (i : Nat) (j : Nat) : Fld := ⟨(AUX_RES_HI i j), 11, 11⟩
def AUX_RES_HI_INJ (i : Nat) (j : Nat) : Fld := ⟨(AUX_RES_HI i j), 10, 10⟩
def AUX_RES_HI_RANGE (i : Nat) (j : Nat) : Fld := ⟨(AUX_RES_HI i j), 9, 7⟩
def AUX_RES_HI_CH (i : Nat) (j : Nat) : Fld := ⟨(AUX_RES_HI i j), 5, 0⟩
def AUX_TS_LO (i : Nat) (j : Nat) : Nat := 0x12408 + i % 4 * 256 + j % 16 * 16
def AUX_TS_HI (i : Nat) (j : Nat) : Nat := 0x1240c + i % 4 * 256 + j % 16 * 16
def AUX_TS_HI_TIME_HI (i : Nat) (j : Nat) : Fld := ⟨(AUX_TS_HI i j), 15, 0⟩
def AUX_IRES_LO (i : Nat) (j : Nat) : Nat := 0x12800 + i % 2 * 64 + j % 4 * 16
def AUX_IRES_HI (i : Nat) (j : Nat) : Nat := 0x12804 + i % 2 * 64 + j % 4 * 16
def AUX_IRES_HI_COUNT (i : Nat) (j : Nat) : Fld := ⟨(AUX_IRES_HI i j), 31, 16⟩
def AUX_IRES_HI_VALID (i : Nat) (j : Nat) : Fld := ⟨(AUX_IRES_HI i j), 15, 15⟩
def AUX_IRES_HI_UNS (i : Nat) (j : Nat) : Fld := ⟨(AUX_IRES_HI i j), 14, 14⟩
def AUX_IRES_HI_OVR (i : Nat) (j : Nat) : Fld := ⟨(AUX_IRES_HI i j), 13, 13⟩
def AUX_IRES_HI_OPEN (i : Nat) (j : Nat) : Fld := ⟨(AUX_IRES_HI i j), 12, 12⟩
def AUX_IRES_HI_MIGR (i : Nat) (j : Nat) : Fld := ⟨(AUX_IRES_HI i j), 11, 11⟩
def AUX_IRES_HI_INJ (i : Nat) (j : Nat) : Fld := ⟨(AUX_IRES_HI i j), 10, 10⟩
def AUX_IRES_HI_RANGE (i : Nat) (j : Nat) : Fld := ⟨(AUX_IRES_HI i j), 9, 7⟩
def AUX_IRES_HI_CH (i : Nat) (j : Nat) : Fld := ⟨(AUX_IRES_HI i j), 5, 0⟩
def AUX_ITS_LO (i : Nat) (j : Nat) : Nat := 0x12808 + i % 2 * 64 + j % 4 * 16
def AUX_ITS_HI (i : Nat) (j : Nat) : Nat := 0x1280c + i % 2 * 64 + j % 4 * 16
def AUX_ITS_HI_TIME_HI (i : Nat) (j : Nat) : Fld := ⟨(AUX_ITS_HI i j), 15, 0⟩
def AUX_WC_CTL (i : Nat) : Nat := 0x12900 + i % 16 * 16
def AUX_WC_CTL_EN (i : Nat) : Fld := ⟨(AUX_WC_CTL i), 31, 31⟩
def AUX_WC_CTL_RE_EN (i : Nat) : Fld := ⟨(AUX_WC_CTL i), 30, 30⟩
def AUX_WC_CTL_CLASS (i : Nat) : Fld := ⟨(AUX_WC_CTL i), 29, 28⟩
def AUX_WC_CTL_CONV (i : Nat) : Fld := ⟨(AUX_WC_CTL i), 27, 26⟩
def AUX_WC_CTL_ENTRY (i : Nat) : Fld := ⟨(AUX_WC_CTL i), 25, 22⟩
def AUX_WC_CTL_QUAL (i : Nat) : Fld := ⟨(AUX_WC_CTL i), 15, 8⟩
def AUX_WC_LO (i : Nat) : Nat := 0x12904 + i % 16 * 16
def AUX_WC_HI (i : Nat) : Nat := 0x12908 + i % 16 * 16
def AUX_WC_STAT (i : Nat) : Nat := 0x1290c + i % 16 * 16
def AUX_WC_STAT_OUT (i : Nat) : Fld := ⟨(AUX_WC_STAT i), 31, 31⟩
def AUX_WC_STAT_ABOVE (i : Nat) : Fld := ⟨(AUX_WC_STAT i), 30, 30⟩
def AUX_WC_STAT_CNT (i : Nat) : Fld := ⟨(AUX_WC_STAT i), 23, 16⟩
def AUX_WC_STAT_EXITS (i : Nat) : Fld := ⟨(AUX_WC_STAT i), 15, 0⟩
def AUX_TRIM (i : Nat) (j : Nat) : Nat := 0x12a00 + i % 4 * 32 + j % 8 * 4
def AUX_TRIM_OFF (i : Nat) (j : Nat) : Fld := ⟨(AUX_TRIM i j), 31, 16⟩
def AUX_TRIM_GC (i : Nat) (j : Nat) : Fld := ⟨(AUX_TRIM i j), 15, 0⟩
def REC_CTL : Nat := 0x13000
def REC_CTL_RPT_EN : Fld := ⟨REC_CTL, 1, 1⟩
def REC_CTL_AUTO : Fld := ⟨REC_CTL, 0, 0⟩
def REC_STATUS : Nat := 0x13004
def REC_STATUS_COUNTING : Fld := ⟨REC_STATUS, 31, 31⟩
def REC_STATUS_PARTIAL : Fld := ⟨REC_STATUS, 30, 30⟩
def REC_STATUS_STATE : Fld := ⟨REC_STATUS, 2, 0⟩
def REC_EVENTS : Nat := 0x13008
def REC_EVENTS_CMD_REJ : Fld := ⟨REC_EVENTS, 5, 5⟩
def REC_EVENTS_RD_REJ : Fld := ⟨REC_EVENTS, 4, 4⟩
def REC_EVENTS_COPY_DONE : Fld := ⟨REC_EVENTS, 3, 3⟩
def REC_EVENTS_REJ : Fld := ⟨REC_EVENTS, 2, 2⟩
def REC_EVENTS_CLAMPED : Fld := ⟨REC_EVENTS, 1, 1⟩
def REC_EVENTS_DONE : Fld := ⟨REC_EVENTS, 0, 0⟩
def REC_CMD : Nat := 0x1300c
def REC_CMD_COPY : Fld := ⟨REC_CMD, 3, 3⟩
def REC_CMD_TRIG : Fld := ⟨REC_CMD, 2, 2⟩
def REC_CMD_DISARM : Fld := ⟨REC_CMD, 1, 1⟩
def REC_CMD_ARM : Fld := ⟨REC_CMD, 0, 0⟩
def REC_SPAN : Nat := 0x13010
def REC_SPAN_PRE : Fld := ⟨REC_SPAN, 29, 16⟩
def REC_SPAN_POST : Fld := ⟨REC_SPAN, 13, 0⟩
def REC_TRIG : Nat := 0x13014
def REC_TRIG_EDGE_EN : Fld := ⟨REC_TRIG, 31, 31⟩
def REC_TRIG_PAT_EN : Fld := ⟨REC_TRIG, 30, 30⟩
def REC_TRIG_WC_EN : Fld := ⟨REC_TRIG, 29, 29⟩
def REC_TRIG_FLT_EN : Fld := ⟨REC_TRIG, 28, 28⟩
def REC_TRIG_EDGE : Fld := ⟨REC_TRIG, 25, 24⟩
def REC_TRIG_SIG : Fld := ⟨REC_TRIG, 21, 16⟩
def REC_TRIG_WCMASK : Fld := ⟨REC_TRIG, 15, 0⟩
def REC_MASK_LO : Nat := 0x13018
def REC_MASK_HI : Nat := 0x1301c
def REC_PMASK_LO : Nat := 0x13020
def REC_PMASK_HI : Nat := 0x13024
def REC_PVAL_LO : Nat := 0x13028
def REC_PVAL_HI : Nat := 0x1302c
def REC_INFO : Nat := 0x13030
def REC_INFO_POST_CLAMPED : Fld := ⟨REC_INFO, 31, 31⟩
def REC_INFO_TRIGGERED : Fld := ⟨REC_INFO, 30, 30⟩
def REC_INFO_PRE_ACT : Fld := ⟨REC_INFO, 29, 16⟩
def REC_INFO_COUNT : Fld := ⟨REC_INFO, 14, 0⟩
def REC_LOST : Nat := 0x13034
def REC_LOST_LOST : Fld := ⟨REC_LOST, 31, 0⟩
def REC_REJ : Nat := 0x13038
def REC_CAPNUM : Nat := 0x1303c
def REC_TTRIG_LO : Nat := 0x13040
def REC_TTRIG_HI : Nat := 0x13044
def REC_REJT_LO : Nat := 0x13048
def REC_REJT_HI : Nat := 0x1304c
def REC_DEAD_CAP : Nat := 0x13050
def REC_DEAD_CAP_DEAD : Fld := ⟨REC_DEAD_CAP, 31, 0⟩
def REC_DEAD_ARM : Nat := 0x13054
def REC_DEAD_ARM_DEAD : Fld := ⟨REC_DEAD_ARM, 31, 0⟩
def REC_DMA_LO : Nat := 0x13058
def REC_DMA_LO_ADDR_LO : Fld := ⟨REC_DMA_LO, 31, 12⟩
def REC_DMA_HI : Nat := 0x1305c
def REC_DMA_HI_ADDR_HI : Fld := ⟨REC_DMA_HI, 31, 0⟩
def REC_RDIDX : Nat := 0x13060
def REC_RDIDX_IDX : Fld := ⟨REC_RDIDX, 13, 0⟩
def REC_RD (i : Nat) : Nat := 0x13064 + i % 4 * 4
def CEL_STATUS : Nat := 0x14000
def CEL_STATUS_TRAINED : Fld := ⟨CEL_STATUS, 31, 31⟩
def CEL_STATUS_SREF : Fld := ⟨CEL_STATUS, 30, 30⟩
def CEL_STATUS_RATE : Fld := ⟨CEL_STATUS, 25, 24⟩
def CEL_STATUS_DENS : Fld := ⟨CEL_STATUS, 18, 16⟩
def CEL_STATUS_CH_FAIL : Fld := ⟨CEL_STATUS, 1, 0⟩
def CEL_EVENTS : Nat := 0x14004
def CEL_EVENTS_RATE_LOW : Fld := ⟨CEL_EVENTS, 2, 2⟩
def CEL_EVENTS_UE : Fld := ⟨CEL_EVENTS, 1, 1⟩
def CEL_EVENTS_CE : Fld := ⟨CEL_EVENTS, 0, 0⟩
def CEL_CE : Nat := 0x14008
def CEL_CE_COUNT : Fld := ⟨CEL_CE, 31, 0⟩
def CEL_UE : Nat := 0x1400c
def CEL_UE_COUNT : Fld := ⟨CEL_UE, 31, 0⟩
def CEL_ERRADDR_LO : Nat := 0x14010
def CEL_ERRADDR_LO_ADDR_LO : Fld := ⟨CEL_ERRADDR_LO, 31, 0⟩
def CEL_ERRADDR_HI : Nat := 0x14014
def CEL_ERRADDR_HI_VALID : Fld := ⟨CEL_ERRADDR_HI, 31, 31⟩
def CEL_ERRADDR_HI_UE : Fld := ⟨CEL_ERRADDR_HI, 30, 30⟩
def CEL_ERRADDR_HI_ADDR_HI : Fld := ⟨CEL_ERRADDR_HI, 1, 0⟩
def MSIX_ADDR_LO (i : Nat) : Nat := 0x3800 + i % 64 * 16
def MSIX_ADDR_LO_ADDR (i : Nat) : Fld := ⟨(MSIX_ADDR_LO i), 31, 2⟩
def MSIX_ADDR_HI (i : Nat) : Nat := 0x3804 + i % 64 * 16
def MSIX_DATA (i : Nat) : Nat := 0x3808 + i % 64 * 16
def MSIX_CTRL (i : Nat) : Nat := 0x380c + i % 64 * 16
def MSIX_CTRL_MASK (i : Nat) : Fld := ⟨(MSIX_CTRL i), 0, 0⟩
def MSIX_PBA (i : Nat) : Nat := 0x3c00 + i % 2 * 4

/-- The registers of the BAR 0 block at 0x0 (R28). -/
def rowsOfBlock0 : List RegRow := [
  ⟨"SYS_ID", 0x0, 1, 0, 1, 0, 0x725600b0, 0x0, 0x0, 0x0, 0x0, 0x0, 0x0, 0x0⟩,
  ⟨"SYS_MODE", 0x4, 1, 0, 1, 0, 0x2, 0x0, 0x0, 0x0, 0x0, 0x0, 0x0, 0x0⟩,
  ⟨"SYS_MODEREQ", 0x8, 1, 0, 1, 0, 0x0, 0x0, 0x0, 0x0, 0x0, 0x0, 0x0, 0x0⟩,
  ⟨"SYS_CMD", 0xc, 1, 0, 1, 0, 0x0, 0x0, 0x0, 0x0, 0x0, 0x0, 0x0, 0x0⟩,
  ⟨"SYS_EVENTS", 0x10, 1, 0, 1, 0, 0x0, 0x0, 0x0, 0x1ff, 0x0, 0x0, 0x0, 0x0⟩,
  ⟨"SYS_LOCK", 0x14, 1, 0, 1, 0, 0x0, 0x0, 0x0, 0x0, 0x1, 0x0, 0x0, 0x0⟩,
  ⟨"SYS_STARTS", 0x18, 1, 0, 1, 0, 0x0, 0x0, 0x0, 0x0, 0x0, 0x0, 0x0, 0x3ffffff⟩,
  ⟨"SYS_STARTSTAT", 0x1c, 1, 0, 1, 0, 0x0, 0x0, 0x0, 0x80000000, 0x0, 0x0, 0x0, 0xdfff0000⟩,
  ⟨"SYS_FAULT", 0x20, 1, 0, 1, 0, 0x0, 0x0, 0x0, 0x80000000, 0x0, 0x0, 0x80003fff, 0x0⟩,
  ⟨"SYS_LIMP", 0x24, 1, 0, 1, 0, 0x0, 0x0, 0x0, 0x40, 0x0, 0x0, 0x0, 0x0⟩,
  ⟨"SYS_DIAG", 0x28, 1, 0, 1, 0, 0x0, 0x0, 0x0, 0x0, 0x0, 0x0, 0x0, 0x0⟩,
  ⟨"SYS_STRAP", 0x2c, 1, 0, 1, 0, 0x4, 0x0, 0x0, 0x0, 0x0, 0x0, 0x0, 0x0⟩,
  ⟨"SYS_FWADDR_LO", 0x30, 1, 0, 1, 0, 0x0, 0xfffffff8, 0x0, 0x0, 0x0, 0x0, 0x0, 0x0⟩,
  ⟨"SYS_FWADDR_HI", 0x34, 1, 0, 1, 0, 0x0, 0xffffffff, 0x0, 0x0, 0x0, 0x0, 0x0, 0x0⟩,
  ⟨"SYS_FWLEN", 0x38, 1, 0, 1, 0, 0x0, 0xffffffff, 0x0, 0x0, 0x0, 0x0, 0x0, 0x0⟩,
  ⟨"SYS_FWCMD", 0x3c, 1, 0, 1, 0, 0x0, 0x0, 0x0, 0x0, 0x0, 0x0, 0x0, 0x0⟩,
  ⟨"SYS_FWSTAT", 0x40, 1, 0, 1, 0, 0x0, 0x0, 0x0, 0x0, 0x0, 0x0, 0x0, 0x0⟩,
  ⟨"SYS_FWVER", 0x44, 1, 0, 1, 0, 0x0, 0x0, 0x0, 0x0, 0x0, 0x0, 0x0, 0x0⟩]

/-- The registers of the BAR 0 block at 0x1000 (R28). -/
def rowsOfBlock1 : List RegRow := [
  ⟨"CLK_CTL", 0x1000, 1, 0, 1, 0, 0x0, 0x3, 0x0, 0x0, 0x0, 0x0, 0x0, 0x0⟩,
  ⟨"CLK_STATUS", 0x1004, 1, 0, 1, 0, 0x0, 0x0, 0x0, 0x0, 0x0, 0x0, 0x0, 0x0⟩,
  ⟨"CLK_EVENTS", 0x1008, 1, 0, 1, 0, 0x0, 0x0, 0x0, 0xf, 0x0, 0x0, 0x0, 0xf⟩,
  ⟨"CLK_TIME_LO", 0x1010, 1, 0, 1, 0, 0x0, 0x0, 0x0, 0x0, 0x0, 0x0, 0x0, 0x0⟩,
  ⟨"CLK_TIME_HI", 0x1014, 1, 0, 1, 0, 0x0, 0x0, 0x0, 0x0, 0x0, 0x0, 0x0, 0x0⟩,
  ⟨"CLK_TIME_ERR", 0x1018, 1, 0, 1, 0, 0x0, 0x0, 0x0, 0x0, 0x0, 0x0, 0x0, 0x0⟩,
  ⟨"CLK_STEER", 0x101c, 1, 0, 1, 0, 0x0, 0x0, 0x0, 0x0, 0x0, 0x0, 0x0, 0x0⟩,
  ⟨"CLK_FAULT_TIME_LO", 0x1020, 1, 0, 1, 0, 0x0, 0x0, 0x0, 0x0, 0x0, 0x0, 0x0, 0xffffffff⟩,
  ⟨"CLK_FAULT_TIME_HI", 0x1024, 1, 0, 1, 0, 0x0, 0x0, 0x0, 0x0, 0x0, 0x0, 0x0, 0xffffffff⟩]

/-- The registers of the BAR 0 block at 0x2000 (R28). -/
def rowsOfBlock2 : List RegRow := [
  ⟨"PWR_CTL", 0x2000, 1, 0, 1, 0, 0x80000000, 0x8000ffff, 0x0, 0x0, 0x0, 0x0, 0x8000ffff, 0x0⟩,
  ⟨"PWR_STATUS", 0x2004, 1, 0, 1, 0, 0x400003ff, 0x0, 0x0, 0x0, 0x0, 0x0, 0x0, 0x0⟩,
  ⟨"PWR_EVENTS", 0x2008, 1, 0, 1, 0, 0x0, 0x0, 0x0, 0x7f, 0x0, 0x0, 0x0, 0x0⟩,
  ⟨"PWR_VMON", 0x200c, 1, 0, 1, 0, 0xa025a50, 0x0, 0xffffffff, 0x0, 0x0, 0x0, 0xffffffff, 0x0⟩,
  ⟨"PWR_VMEAS", 0x2010, 1, 0, 1, 0, 0x0, 0x0, 0x0, 0x0, 0x0, 0x0, 0x0, 0x0⟩,
  ⟨"PWR_RSTCAUSE", 0x2014, 1, 0, 1, 0, 0x20000, 0x0, 0x0, 0x303ff, 0x0, 0x0, 0x0, 0x303ff⟩,
  ⟨"PWR_AVG", 0x2020, 1, 0, 1, 0, 0x0, 0xffffffff, 0x0, 0x0, 0x0, 0x0, 0xffffffff, 0x0⟩,
  ⟨"PWR_PEAK", 0x2024, 1, 0, 1, 0, 0x0, 0xffffffff, 0x0, 0x0, 0x0, 0x0, 0xffffffff, 0x0⟩,
  ⟨"PWR_SURV", 0x2028, 1, 0, 1, 0, 0x1770, 0xffffffff, 0x0, 0x0, 0x0, 0x0, 0xffffffff, 0x0⟩,
  ⟨"PWR_SHEDC", 0x202c, 1, 0, 1, 0, 0xc800a0, 0xffffffff, 0x0, 0x0, 0x0, 0x0, 0xffffffff, 0x0⟩,
  ⟨"PWR_LIFT", 0x2030, 1, 0, 1, 0, 0x5a04, 0xffff, 0x0, 0x0, 0x0, 0x0, 0xffff, 0x0⟩,
  ⟨"PWR_LAMPEFF", 0x2034, 1, 0, 1, 0, 0x75c3, 0xffff, 0x0, 0x0, 0x0, 0x0, 0xffff, 0x0⟩,
  ⟨"PWR_LCORE", 0x2040, 1, 0, 1, 0, 0x0, 0x0, 0x0, 0x0, 0x0, 0x0, 0x0, 0x0⟩,
  ⟨"PWR_LLAMP", 0x2044, 1, 0, 1, 0, 0x0, 0x0, 0x0, 0x0, 0x0, 0x0, 0x0, 0x0⟩,
  ⟨"PWR_LMOT", 0x2048, 1, 0, 1, 0, 0x0, 0x0, 0x0, 0x0, 0x0, 0x0, 0x0, 0x0⟩,
  ⟨"PWR_PLAN", 0x204c, 1, 0, 1, 0, 0x0, 0x0, 0x0, 0x0, 0x0, 0x0, 0x0, 0x0⟩,
  ⟨"PWR_PEAKMEAS", 0x2050, 1, 0, 1, 0, 0x0, 0x0, 0x0, 0x0, 0x0, 0x0, 0x0, 0x0⟩,
  ⟨"PWR_ETOT_LO", 0x2054, 1, 0, 1, 0, 0x0, 0x0, 0x0, 0x0, 0x0, 0x0, 0x0, 0x0⟩,
  ⟨"PWR_ETOT_HI", 0x2058, 1, 0, 1, 0, 0x0, 0x0, 0x0, 0x0, 0x0, 0x0, 0x0, 0x0⟩,
  ⟨"PWR_AXE", 0x2080, 8, 4, 1, 0, 0x0, 0xfff0ffff, 0x0, 0x0, 0x0, 0x0, 0xfff0ffff, 0x0⟩,
  ⟨"PWR_AXA", 0x20a0, 8, 4, 1, 0, 0x8000000, 0x8fc0ffff, 0x0, 0x0, 0x0, 0x0, 0x8fc0ffff, 0x0⟩]

/-- The registers of the BAR 0 block at 0x3000 (R28). -/
def rowsOfBlock3 : List RegRow := [
  ⟨"HOST_CTL", 0x3000, 1, 0, 1, 0, 0x0, 0x1, 0x0, 0x0, 0x0, 0x0, 0x1, 0x0⟩,
  ⟨"HOST_STATUS", 0x3004, 1, 0, 1, 0, 0x0, 0x0, 0x0, 0x0, 0x0, 0x0, 0x0, 0x0⟩,
  ⟨"HOST_EVENTS", 0x3008, 1, 0, 1, 0, 0x0, 0x0, 0x0, 0x7f, 0x0, 0x0, 0x0, 0x0⟩,
  ⟨"HOST_ERRINFO", 0x300c, 1, 0, 1, 0, 0x0, 0x0, 0x0, 0x0, 0x0, 0x0, 0x0, 0x0⟩,
  ⟨"HOST_ISRC", 0x3040, 22, 4, 1, 0, 0x0, 0x803fffff, 0x0, 0x0, 0x0, 0x0, 0x803fffff, 0x0⟩,
  ⟨"HOST_RBASE_LO", 0x3100, 19, 32, 1, 0, 0x0, 0xfffff000, 0x0, 0x0, 0x0, 0x0, 0xfffff000, 0x0⟩,
  ⟨"HOST_RBASE_HI", 0x3104, 19, 32, 1, 0, 0x0, 0xffffffff, 0x0, 0x0, 0x0, 0x0, 0xffffffff, 0x0⟩,
  ⟨"HOST_RCTL", 0x3108, 19, 32, 1, 0, 0x60000, 0x801f0000, 0x0, 0x0, 0x0, 0x0, 0x1f0000, 0x0⟩,
  ⟨"HOST_RSTAT", 0x310c, 19, 32, 1, 0, 0x80000000, 0x0, 0x0, 0x0, 0x0, 0x0, 0x0, 0x0⟩,
  ⟨"HOST_RPKT", 0x3170, 16, 32, 1, 0, 0x40, 0x7fff, 0x0, 0x0, 0x0, 0x0, 0x7fff, 0x0⟩,
  ⟨"HOST_RPKTCTL", 0x3174, 16, 32, 1, 0, 0x3e80000, 0xffffffff, 0x0, 0x0, 0x0, 0x0, 0xffffffff, 0x0⟩,
  ⟨"HOST_RHIDX", 0x3118, 19, 32, 1, 0, 0x0, 0x0, 0x0, 0x0, 0x0, 0x0, 0x0, 0x0⟩,
  ⟨"MSIX_ADDR_LO", 0x3800, 64, 16, 1, 0, 0x0, 0xfffffffc, 0x0, 0x0, 0x0, 0x0, 0x0, 0xfffffffc⟩,
  ⟨"MSIX_ADDR_HI", 0x3804, 64, 16, 1, 0, 0x0, 0xffffffff, 0x0, 0x0, 0x0, 0x0, 0x0, 0xffffffff⟩,
  ⟨"MSIX_DATA", 0x3808, 64, 16, 1, 0, 0x0, 0xffffffff, 0x0, 0x0, 0x0, 0x0, 0x0, 0xffffffff⟩,
  ⟨"MSIX_CTRL", 0x380c, 64, 16, 1, 0, 0x1, 0x1, 0x0, 0x0, 0x0, 0x0, 0x0, 0x1⟩,
  ⟨"MSIX_PBA", 0x3c00, 2, 4, 1, 0, 0x0, 0x0, 0x0, 0x0, 0x0, 0x0, 0x0, 0xffffffff⟩]

/-- The registers of the BAR 0 block at 0x4000 (R28). -/
def rowsOfBlock4 : List RegRow := [
  ⟨"LND_CTL", 0x4000, 1, 0, 1, 0, 0x0, 0x1, 0x0, 0x0, 0x0, 0x0, 0x1, 0x0⟩,
  ⟨"LND_STATUS", 0x4004, 1, 0, 1, 0, 0x0, 0x0, 0x0, 0x0, 0x0, 0x0, 0x0, 0x0⟩,
  ⟨"LND_EVENTS", 0x4008, 1, 0, 1, 0, 0x0, 0x0, 0x0, 0x7, 0x0, 0x0, 0x0, 0x0⟩,
  ⟨"LND_CMD", 0x400c, 1, 0, 1, 0, 0x0, 0x0, 0x0, 0x0, 0x0, 0x0, 0x0, 0x0⟩,
  ⟨"LND_DATA_LO", 0x4010, 1, 0, 1, 0, 0x0, 0x0, 0x0, 0x0, 0x0, 0x0, 0x0, 0x0⟩,
  ⟨"LND_DATA_HI", 0x4014, 1, 0, 1, 0, 0x0, 0x0, 0x0, 0x0, 0x0, 0x0, 0x0, 0x0⟩,
  ⟨"LND_LOST", 0x4020, 4, 4, 1, 0, 0x0, 0x0, 0x0, 0x0, 0x0, 0xffffffff, 0xffffffff, 0x0⟩,
  ⟨"LND_FLUSHCNT", 0x4030, 1, 0, 1, 0, 0x0, 0x0, 0x0, 0x0, 0x0, 0xffffffff, 0x0, 0x0⟩,
  ⟨"LND_FLUSHT_LO", 0x4034, 1, 0, 1, 0, 0x0, 0x0, 0x0, 0x0, 0x0, 0x0, 0x0, 0x0⟩,
  ⟨"LND_FLUSHT_HI", 0x4038, 1, 0, 1, 0, 0x0, 0x0, 0x0, 0x0, 0x0, 0x0, 0x0, 0x0⟩]

/-- The registers of the BAR 0 block at 0x5000 (R28). -/
def rowsOfBlock5 : List RegRow := [
  ⟨"PMC_CTL", 0x5000, 1, 0, 1, 0, 0x0, 0x80000100, 0x0, 0x0, 0x0, 0x0, 0x80000000, 0x0⟩,
  ⟨"PMC_OVF", 0x5004, 1, 0, 1, 0, 0x0, 0x0, 0x0, 0xff, 0x0, 0x0, 0x0, 0x0⟩,
  ⟨"PMC_OVFEN", 0x5008, 1, 0, 1, 0, 0x0, 0xff, 0x0, 0x0, 0x0, 0x0, 0xff, 0x0⟩,
  ⟨"PMC_CYC_LO", 0x5010, 1, 0, 1, 0, 0x0, 0xffffffff, 0x0, 0x0, 0x0, 0x0, 0x0, 0x0⟩,
  ⟨"PMC_CYC_HI", 0x5014, 1, 0, 1, 0, 0x0, 0xffffffff, 0x0, 0x0, 0x0, 0x0, 0x0, 0x0⟩,
  ⟨"PMC_LO", 0x5020, 8, 8, 1, 0, 0x0, 0xffffffff, 0x0, 0x0, 0x0, 0x0, 0x0, 0x0⟩,
  ⟨"PMC_HI", 0x5024, 8, 8, 1, 0, 0x0, 0xffff, 0x0, 0x0, 0x0, 0x0, 0x0, 0x0⟩,
  ⟨"PMC_SEL", 0x5080, 8, 16, 1, 0, 0x0, 0xf87f0fbf, 0x0, 0x0, 0x0, 0x0, 0xf87f0fbf, 0x0⟩,
  ⟨"PMC_ABASE", 0x5084, 8, 16, 1, 0, 0x0, 0xffffffff, 0x0, 0x0, 0x0, 0x0, 0xffffffff, 0x0⟩,
  ⟨"PMC_AMASK", 0x5088, 8, 16, 1, 0, 0x0, 0xffffffff, 0x0, 0x0, 0x0, 0x0, 0xffffffff, 0x0⟩,
  ⟨"PMC_SNAP_TIME_LO", 0x5100, 1, 0, 1, 0, 0x0, 0x0, 0x0, 0x0, 0x0, 0x0, 0x0, 0x0⟩,
  ⟨"PMC_SNAP_TIME_HI", 0x5104, 1, 0, 1, 0, 0x0, 0x0, 0x0, 0x0, 0x0, 0x0, 0x0, 0x0⟩,
  ⟨"PMC_SNAP_CYC_LO", 0x5108, 1, 0, 1, 0, 0x0, 0x0, 0x0, 0x0, 0x0, 0x0, 0x0, 0x0⟩,
  ⟨"PMC_SNAP_CYC_HI", 0x510c, 1, 0, 1, 0, 0x0, 0x0, 0x0, 0x0, 0x0, 0x0, 0x0, 0x0⟩,
  ⟨"PMC_SNAP_LO", 0x5110, 8, 8, 1, 0, 0x0, 0x0, 0x0, 0x0, 0x0, 0x0, 0x0, 0x0⟩,
  ⟨"PMC_SNAP_HI", 0x5114, 8, 8, 1, 0, 0x0, 0x0, 0x0, 0x0, 0x0, 0x0, 0x0, 0x0⟩]

/-- The registers of the BAR 0 block at 0x6000 (R28). -/
def rowsOfBlock6 : List RegRow := [
  ⟨"HEAD_CTL", 0x6000, 16, 256, 1, 0, 0x200000, 0xf10101, 0x0, 0x0, 0x2, 0x0, 0xf10100, 0x0⟩,
  ⟨"HEAD_STATUS", 0x6004, 16, 256, 1, 0, 0x0, 0x0, 0x0, 0x0, 0x0, 0x0, 0x0, 0x0⟩,
  ⟨"HEAD_EVENTS", 0x6008, 16, 256, 1, 0, 0x0, 0x0, 0x0, 0xf, 0x0, 0x0, 0x0, 0x0⟩,
  ⟨"HEAD_TAPS", 0x600c, 16, 256, 1, 0, 0x0, 0xff00ff, 0x0, 0x0, 0x0, 0x0, 0xff00ff, 0x0⟩,
  ⟨"HEAD_READ", 0x6010, 16, 256, 1, 0, 0x800, 0xff7f0fff, 0x0, 0x0, 0x0, 0x0, 0xff7f0fff, 0x0⟩,
  ⟨"HEAD_CLK", 0x6014, 16, 256, 1, 0, 0x5, 0x1017f, 0x0, 0x0, 0x0, 0x0, 0x1017f, 0x0⟩,
  ⟨"HEAD_SP", 0x6018, 16, 256, 1, 0, 0x22601, 0x10fff1f, 0x0, 0x0, 0x0, 0x0, 0x10fff1f, 0x0⟩,
  ⟨"HEAD_TRIG", 0x601c, 16, 256, 1, 0, 0x100, 0xf37, 0x0, 0x0, 0x0, 0x0, 0xf37, 0x0⟩,
  ⟨"HEAD_PITCH", 0x6020, 16, 256, 1, 0, 0x100, 0xffffffff, 0x0, 0x0, 0x0, 0x0, 0xffffffff, 0x0⟩,
  ⟨"HEAD_TIMER", 0x6024, 16, 256, 1, 0, 0xbb8, 0xffffff, 0x0, 0x0, 0x0, 0x0, 0xffffff, 0x0⟩,
  ⟨"HEAD_AUX", 0x6028, 16, 256, 1, 0, 0x0, 0x7, 0x0, 0x0, 0x0, 0x0, 0x7, 0x0⟩,
  ⟨"HEAD_TRIGSTAT", 0x602c, 16, 256, 1, 0, 0x0, 0x0, 0x0, 0x0, 0x0, 0xffffffff, 0x0, 0x0⟩,
  ⟨"HEAD_LINE", 0x6030, 16, 256, 1, 0, 0x0, 0x0, 0x0, 0x0, 0x0, 0x0, 0x0, 0x0⟩,
  ⟨"HEAD_PERIOD", 0x6034, 16, 256, 1, 0, 0x0, 0x0, 0x0, 0x0, 0x0, 0x0, 0x0, 0x0⟩,
  ⟨"HEAD_CONN", 0x6038, 16, 256, 1, 0, 0x0, 0x0, 0x0, 0x0, 0x0, 0x0, 0x0, 0x0⟩,
  ⟨"HEAD_BAND", 0x6040, 16, 256, 8, 4, 0x960, 0x10fffff, 0x0, 0x0, 0x0, 0x0, 0x10fffff, 0x0⟩]

/-- The registers of the BAR 0 block at 0x8000 (R28). -/
def rowsOfBlock8 : List RegRow := [
  ⟨"TAP_CTL", 0x8000, 256, 32, 1, 0, 0x1800, 0x1013f03, 0x0, 0x0, 0x0, 0x0, 0x1013f03, 0x0⟩,
  ⟨"TAP_PHASE", 0x8004, 256, 32, 1, 0, 0x3c00, 0x7f7f07, 0x0, 0x0, 0x0, 0x0, 0x7f7f07, 0x0⟩,
  ⟨"TAP_CLAMP", 0x8008, 256, 32, 1, 0, 0x40, 0x3ff, 0x0, 0x0, 0x0, 0x0, 0x3ff, 0x0⟩,
  ⟨"TAP_PGA", 0x800c, 256, 32, 1, 0, 0x0, 0xffffff, 0x0, 0x0, 0x0, 0x0, 0xffffff, 0x0⟩,
  ⟨"TAP_STATUS", 0x8010, 256, 32, 1, 0, 0x0, 0x0, 0x0, 0x0, 0x0, 0x0, 0x0, 0x0⟩,
  ⟨"TAP_EVENTS", 0x8014, 256, 32, 1, 0, 0x0, 0x0, 0x0, 0x7, 0x0, 0x0, 0x0, 0x0⟩,
  ⟨"TAP_OVR", 0x8018, 256, 32, 1, 0, 0x0, 0x0, 0x0, 0x0, 0x0, 0xffffffff, 0x0, 0x0⟩,
  ⟨"TAP_CM", 0x801c, 256, 32, 1, 0, 0x0, 0x0, 0x0, 0x0, 0x0, 0x0, 0x0, 0x0⟩]

/-- The registers of the BAR 0 block at 0xa000 (R28). -/
def rowsOfBlock10 : List RegRow := [
  ⟨"SLC_CTL", 0xa000, 1, 0, 1, 0, 0x10004001, 0xff0fff01, 0x0, 0x0, 0x0, 0x0, 0xff0fff01, 0x0⟩,
  ⟨"SLC_STATUS", 0xa004, 1, 0, 1, 0, 0x0, 0x0, 0x0, 0x0, 0x0, 0x0, 0x0, 0x0⟩,
  ⟨"SLC_EVENTS", 0xa008, 1, 0, 1, 0, 0x0, 0x0, 0x0, 0x3f, 0x0, 0x0, 0x0, 0x0⟩,
  ⟨"SLC_SUSP", 0xa00c, 1, 0, 1, 0, 0x0, 0x0, 0x0, 0x0, 0x0, 0x0, 0xffff, 0x0⟩,
  ⟨"SLC_CMD", 0xa010, 1, 0, 1, 0, 0x0, 0x0, 0x0, 0x0, 0x0, 0x0, 0x0, 0x0⟩,
  ⟨"SLC_CMDSTAT", 0xa014, 1, 0, 1, 0, 0x0, 0x0, 0x0, 0x0, 0x0, 0x0, 0x0, 0x0⟩,
  ⟨"SLC_GSTATE", 0xa100, 16, 16, 1, 0, 0x1000, 0x0, 0x0, 0x0, 0x0, 0x0, 0x0, 0x0⟩,
  ⟨"SLC_GRETIRE", 0xa104, 16, 16, 1, 0, 0x0, 0x0, 0x0, 0x0, 0x0, 0x0, 0xc000001f, 0x0⟩,
  ⟨"SLC_GAGE", 0xa108, 16, 16, 1, 0, 0x0, 0x0, 0x0, 0x0, 0x0, 0x0, 0x0, 0x0⟩,
  ⟨"SLC_GLAST", 0xa10c, 16, 16, 1, 0, 0x0, 0x0, 0x0, 0x0, 0x0, 0x0, 0xffff001f, 0x0⟩,
  ⟨"SLC_CMWIN", 0xaf00, 16, 4, 1, 0, 0x85aa015e, 0x8fff0fff, 0x0, 0x0, 0x0, 0x0, 0x8fff0fff, 0x0⟩]

/-- The registers of the BAR 0 block at 0xb000 (R28). -/
def rowsOfBlock11 : List RegRow := [
  ⟨"PIPE_CTL", 0xb000, 1, 0, 1, 0, 0x1, 0x1, 0x0, 0x0, 0x0, 0x0, 0x1, 0x0⟩,
  ⟨"PIPE_STATUS", 0xb004, 1, 0, 1, 0, 0x2, 0x0, 0x0, 0x0, 0x0, 0x0, 0x0, 0x0⟩,
  ⟨"PIPE_EVENTS", 0xb008, 1, 0, 1, 0, 0x0, 0x0, 0x0, 0x7f, 0x0, 0x0, 0x0, 0x0⟩,
  ⟨"PIPE_LANEMAP", 0xb00c, 1, 0, 1, 0, 0x3f003f, 0x0, 0x0, 0x0, 0x0, 0x0, 0xff003f, 0x0⟩,
  ⟨"PIPE_LANEFAIL", 0xb010, 1, 0, 1, 0, 0x0, 0x0, 0x0, 0x0, 0x0, 0x0, 0xffffffff, 0x0⟩,
  ⟨"PIPE_ECC_CE", 0xb014, 1, 0, 1, 0, 0x0, 0x0, 0x0, 0x0, 0x0, 0xffffffff, 0x0, 0x0⟩,
  ⟨"PIPE_ECC_UE", 0xb018, 1, 0, 1, 0, 0x0, 0x0, 0x0, 0x0, 0x0, 0xffffffff, 0x0, 0x0⟩,
  ⟨"PIPE_ECC_ROW", 0xb01c, 1, 0, 1, 0, 0x0, 0x0, 0x0, 0x0, 0x0, 0x0, 0x0, 0x0⟩,
  ⟨"PIPE_HCTL", 0xb040, 16, 4, 1, 0, 0xff00, 0xff7b, 0x0, 0x0, 0x0, 0x0, 0xff7b, 0x0⟩,
  ⟨"PIPE_SPROW", 0xb080, 17, 4, 1, 0, 0x0, 0x0, 0x0, 0x0, 0x0, 0x0, 0xff007f, 0x0⟩,
  ⟨"PIPE_BGO", 0xb100, 128, 8, 1, 0, 0x1000, 0xffffffff, 0x0, 0x0, 0x0, 0x0, 0xffffffff, 0x0⟩,
  ⟨"PIPE_THR", 0xb104, 128, 8, 1, 0, 0x8000, 0xffff, 0x0, 0x0, 0x0, 0x0, 0xffff, 0x0⟩,
  ⟨"PIPE_GEN", 0xb500, 64, 4, 1, 0, 0x0, 0x0, 0x0, 0x0, 0x0, 0x0, 0xffffffff, 0x0⟩,
  ⟨"PIPE_CLIP", 0xb600, 16, 4, 1, 0, 0x0, 0x0, 0x0, 0x0, 0x0, 0xffffffff, 0x0, 0x0⟩]

/-- The registers of the BAR 0 block at 0xc000 (R28). -/
def rowsOfBlock12 : List RegRow := [
  ⟨"SHD_CTL", 0xc000, 1, 0, 1, 0, 0x1, 0x1, 0x0, 0x0, 0x0, 0x0, 0x1, 0x0⟩,
  ⟨"SHD_STATUS", 0xc004, 1, 0, 1, 0, 0x0, 0x0, 0x0, 0x0, 0x0, 0x0, 0x0, 0x0⟩,
  ⟨"SHD_EVENTS", 0xc008, 1, 0, 1, 0, 0x0, 0x0, 0x0, 0x3f, 0x0, 0x0, 0x0, 0x0⟩,
  ⟨"SHD_LAST", 0xc00c, 1, 0, 1, 0, 0x0, 0x0, 0x0, 0x0, 0x0, 0x0, 0xff7f0700, 0x0⟩,
  ⟨"SHD_LASTCNT", 0xc010, 1, 0, 1, 0, 0x0, 0x0, 0x0, 0x0, 0x0, 0x0, 0xffffffff, 0x0⟩,
  ⟨"SHD_DLIM", 0xc014, 1, 0, 1, 0, 0x800, 0xffff, 0x0, 0x0, 0x0, 0x0, 0xffff, 0x0⟩,
  ⟨"SHD_TRKSEL", 0xc018, 1, 0, 1, 0, 0x0, 0x7ff, 0x0, 0x0, 0x0, 0x0, 0x0, 0x0⟩,
  ⟨"SHD_TRKVAL", 0xc01c, 1, 0, 1, 0, 0x0, 0x0, 0x0, 0x0, 0x0, 0x0, 0x0, 0x0⟩,
  ⟨"SHD_HTRK", 0xc100, 16, 32, 1, 0, 0x86300100, 0x8ff007ff, 0x0, 0x0, 0x0, 0x0, 0x8ff007ff, 0x0⟩,
  ⟨"SHD_HREF", 0xc104, 16, 32, 1, 0, 0x0, 0x8f00ffff, 0x0, 0x0, 0x0, 0x0, 0x8f00ffff, 0x0⟩,
  ⟨"SHD_HDIST", 0xc108, 16, 32, 1, 0, 0x0, 0xffffffff, 0x0, 0x0, 0x0, 0x0, 0xffffffff, 0x0⟩,
  ⟨"SHD_HWHT", 0xc10c, 16, 32, 1, 0, 0x40100, 0xff0fffff, 0x0, 0x0, 0x0, 0x0, 0xff0fffff, 0x0⟩,
  ⟨"SHD_HTGT", 0xc110, 16, 32, 1, 0, 0xcb20, 0xffff, 0x0, 0x0, 0x0, 0x0, 0xffff, 0x0⟩,
  ⟨"SHD_HPHS", 0xc114, 16, 32, 1, 0, 0xc04, 0x7007f0f, 0x0, 0x0, 0x0, 0x0, 0x7007f0f, 0x0⟩,
  ⟨"SHD_HSTAT", 0xc118, 16, 32, 1, 0, 0x0, 0x0, 0x0, 0x0, 0x0, 0x0, 0x0, 0x0⟩,
  ⟨"SHD_HWAGE", 0xc11c, 16, 32, 1, 0, 0x0, 0x0, 0x0, 0x0, 0x0, 0x0, 0x0, 0x0⟩]

/-- The registers of the BAR 0 block at 0xd000 (R28). -/
def rowsOfBlock13 : List RegRow := [
  ⟨"ATT_CTL", 0xd000, 1, 0, 1, 0, 0x0, 0x0, 0x1, 0x0, 0x0, 0x0, 0x1, 0x0⟩,
  ⟨"ATT_STATUS", 0xd004, 1, 0, 1, 0, 0x0, 0x0, 0x0, 0x0, 0x0, 0x0, 0x703, 0x0⟩,
  ⟨"ATT_EVENTS", 0xd008, 1, 0, 1, 0, 0x0, 0x0, 0x0, 0x3f, 0x0, 0x0, 0x0, 0x0⟩,
  ⟨"ATT_FLASH", 0xd00c, 1, 0, 1, 0, 0x0, 0x0, 0x0, 0x0, 0x0, 0x0, 0x0, 0x0⟩,
  ⟨"ATT_SEQ_LO", 0xd010, 1, 0, 1, 0, 0x0, 0x0, 0x0, 0x0, 0x0, 0x0, 0xffffffff, 0x0⟩,
  ⟨"ATT_SEQ_HI", 0xd014, 1, 0, 1, 0, 0x0, 0x0, 0x0, 0x0, 0x0, 0x0, 0xffffffff, 0x0⟩,
  ⟨"ATT_JRNL", 0xd018, 1, 0, 1, 0, 0x0, 0x0, 0x0, 0x0, 0x0, 0x0, 0x0, 0x0⟩,
  ⟨"ATT_USED", 0xd01c, 1, 0, 1, 0, 0x0, 0x0, 0x0, 0x0, 0x0, 0x0, 0xffffffff, 0x0⟩]

/-- The registers of the BAR 0 block at 0xe000 (R28). -/
def rowsOfBlock14 : List RegRow := [
  ⟨"MOT_CTL", 0xe000, 1, 0, 1, 0, 0x190100, 0xff0300, 0x0, 0x0, 0x0, 0x0, 0xff0300, 0x0⟩,
  ⟨"MOT_PACE", 0xe004, 1, 0, 1, 0, 0x375528, 0x7f7f7f, 0x0, 0x0, 0x0, 0x0, 0x7f7f7f, 0x0⟩,
  ⟨"MOT_PACERATE", 0xe008, 1, 0, 1, 0, 0x14000200, 0xffffffff, 0x0, 0x0, 0x0, 0x0, 0xffffffff, 0x0⟩,
  ⟨"MOT_HOLDTO", 0xe00c, 1, 0, 1, 0, 0x7530, 0xffff, 0x0, 0x0, 0x0, 0x0, 0xffff, 0x0⟩,
  ⟨"MOT_STATUS", 0xe010, 1, 0, 1, 0, 0x8000, 0x0, 0x0, 0x0, 0x0, 0x0, 0x0, 0x0⟩,
  ⟨"MOT_FILL", 0xe014, 1, 0, 1, 0, 0x0, 0x0, 0x0, 0x0, 0x0, 0x0, 0x0, 0x0⟩,
  ⟨"MOT_EVENTS", 0xe018, 1, 0, 1, 0, 0x0, 0x0, 0x0, 0x7ff, 0x0, 0x0, 0x0, 0x0⟩,
  ⟨"MOT_ADM", 0xe01c, 1, 0, 1, 0, 0x7d0, 0x70fffff, 0x0, 0x0, 0x0, 0x0, 0x70fffff, 0x0⟩,
  ⟨"MOT_ADMKIB", 0xe020, 1, 0, 1, 0, 0x0, 0xffffffff, 0x0, 0x0, 0x0, 0x0, 0xffffffff, 0x0⟩,
  ⟨"MOT_ADMMARGIN", 0xe024, 1, 0, 1, 0, 0x4000, 0xffffffff, 0x0, 0x0, 0x0, 0x0, 0xffffffff, 0x0⟩,
  ⟨"MOT_ADMSTAT", 0xe028, 1, 0, 1, 0, 0x0, 0x0, 0x0, 0x0, 0x0, 0xffffffff, 0x0, 0x0⟩,
  ⟨"MOT_PANTRY", 0xe02c, 1, 0, 1, 0, 0x8000, 0x0, 0x0, 0x0, 0x0, 0x0, 0x0, 0x0⟩,
  ⟨"MOT_DSPOL", 0xe030, 1, 0, 1, 0, 0x0, 0xffff, 0x0, 0x0, 0x0, 0x0, 0xffff, 0x0⟩,
  ⟨"MOT_DSFILT", 0xe034, 2, 4, 1, 0, 0x66666666, 0xffffffff, 0x0, 0x0, 0x0, 0x0, 0xffffffff, 0x0⟩,
  ⟨"MOT_DSSTATE", 0xe03c, 1, 0, 1, 0, 0x0, 0x0, 0x0, 0x0, 0x0, 0x0, 0x0, 0x0⟩,
  ⟨"MOT_TO", 0xe040, 1, 0, 1, 0, 0x0, 0xff, 0x0, 0x0, 0x0, 0x0, 0x0, 0x0⟩,
  ⟨"MOT_ACTL", 0xe100, 8, 64, 1, 0, 0x1800a00, 0x81f3ff00, 0x0, 0x0, 0x0, 0x0, 0x1f3ff00, 0x0⟩,
  ⟨"MOT_ASTATUS", 0xe104, 8, 64, 1, 0, 0x20000000, 0x0, 0x0, 0x0, 0x0, 0x0, 0x0, 0x0⟩,
  ⟨"MOT_AEVENTS", 0xe108, 8, 64, 1, 0, 0x0, 0x0, 0x0, 0x1f, 0x0, 0x0, 0x0, 0x0⟩,
  ⟨"MOT_APOS_LO", 0xe10c, 8, 64, 1, 0, 0x0, 0x0, 0x0, 0x0, 0x0, 0x0, 0xffffffff, 0x0⟩,
  ⟨"MOT_APOS_HI", 0xe110, 8, 64, 1, 0, 0x0, 0x0, 0x0, 0x0, 0x0, 0x0, 0xffff, 0x0⟩,
  ⟨"MOT_AVEL", 0xe114, 8, 64, 1, 0, 0x0, 0x0, 0x0, 0x0, 0x0, 0x0, 0x0, 0x0⟩,
  ⟨"MOT_AVMAX", 0xe118, 8, 64, 1, 0, 0x186a0, 0x7fffff, 0x0, 0x0, 0x0, 0x0, 0x7fffff, 0x0⟩,
  ⟨"MOT_ASTEP", 0xe11c, 8, 64, 1, 0, 0x78003c, 0xff00ff, 0x0, 0x0, 0x0, 0x0, 0xff00ff, 0x0⟩,
  ⟨"MOT_AIREF", 0xe120, 8, 64, 1, 0, 0xa0040c0, 0xff00ffff, 0x0, 0x0, 0x0, 0x0, 0xff00ffff, 0x0⟩,
  ⟨"MOT_ARATIO", 0xe124, 8, 64, 1, 0, 0x1000000, 0xffffffff, 0x0, 0x0, 0x0, 0x0, 0xffffffff, 0x0⟩,
  ⟨"MOT_AFE", 0xe128, 8, 64, 1, 0, 0x640040, 0xffffffff, 0x0, 0x0, 0x0, 0x0, 0xffffffff, 0x0⟩,
  ⟨"MOT_AFERR", 0xe12c, 8, 64, 1, 0, 0x0, 0x0, 0x0, 0x0, 0x0, 0x0, 0x0, 0x0⟩,
  ⟨"MOT_ABACK", 0xe130, 8, 64, 1, 0, 0x0, 0xffffffff, 0x0, 0x0, 0x0, 0x0, 0xffffffff, 0x0⟩,
  ⟨"MOT_AVCAP", 0xe134, 8, 64, 1, 0, 0x3d0900, 0x0, 0x0, 0x0, 0x0, 0x0, 0x0, 0x0⟩,
  ⟨"MOT_ACMD", 0xe138, 8, 64, 1, 0, 0x0, 0x0, 0x0, 0x0, 0x0, 0x0, 0x0, 0x0⟩,
  ⟨"MOT_ECTL", 0xe300, 4, 16, 1, 0, 0x20, 0x8000013f, 0x0, 0x0, 0x0, 0x0, 0x8000013f, 0x0⟩,
  ⟨"MOT_ECNT", 0xe304, 4, 16, 1, 0, 0x0, 0x0, 0x0, 0x0, 0x0, 0x0, 0x0, 0x0⟩,
  ⟨"MOT_EIDX", 0xe308, 4, 16, 1, 0, 0x0, 0x0, 0x0, 0x0, 0x0, 0x0, 0x0, 0x0⟩,
  ⟨"MOT_EERR", 0xe30c, 4, 16, 1, 0, 0x0, 0x0, 0x0, 0x0, 0x0, 0xffffffff, 0x0, 0x0⟩,
  ⟨"MOT_HDOC", 0xe400, 16, 16, 1, 0, 0x0, 0xe00f0000, 0x0, 0x0, 0x0, 0x0, 0xe00f0000, 0x0⟩,
  ⟨"MOT_HDDIST", 0xe404, 16, 16, 1, 0, 0x0, 0xffffffff, 0x0, 0x0, 0x0, 0x0, 0xffffffff, 0x0⟩,
  ⟨"MOT_HEDGE", 0xe408, 16, 16, 1, 0, 0x0, 0xffffffff, 0x0, 0x0, 0x0, 0x0, 0xffffffff, 0x0⟩,
  ⟨"MOT_HDOCNUM", 0xe40c, 16, 16, 1, 0, 0x0, 0x0, 0x0, 0x0, 0x0, 0x0, 0x0, 0x0⟩]

/-- The registers of the BAR 0 block at 0xf000 (R28). -/
def rowsOfBlock15 : List RegRow := [
  ⟨"LMP_CTL", 0xf000, 1, 0, 1, 0, 0x1e00, 0x9f003f00, 0x0, 0x0, 0x0, 0x0, 0x9f003f00, 0x0⟩,
  ⟨"LMP_STATUS", 0xf004, 1, 0, 1, 0, 0x0, 0x0, 0x0, 0x0, 0x0, 0x0, 0x0, 0x0⟩,
  ⟨"LMP_EVENTS", 0xf008, 1, 0, 1, 0, 0x0, 0x0, 0x0, 0xff, 0x0, 0x0, 0x0, 0x0⟩,
  ⟨"LMP_RAIL", 0xf00c, 1, 0, 1, 0, 0x3201e0, 0x1ff01ff, 0x0, 0x0, 0x0, 0x0, 0x1ff01ff, 0x0⟩,
  ⟨"LMP_SERVO", 0xf010, 1, 0, 1, 0, 0x6414292c, 0xffffffff, 0x0, 0x0, 0x0, 0x0, 0xffffffff, 0x0⟩,
  ⟨"LMP_VSET", 0xf014, 1, 0, 1, 0, 0x0, 0x0, 0x0, 0x0, 0x0, 0x0, 0x0, 0x0⟩,
  ⟨"LMP_HMIN", 0xf018, 1, 0, 1, 0, 0x0, 0x0, 0x0, 0x0, 0x0, 0x0, 0x0, 0x0⟩,
  ⟨"LMP_SW", 0xf01c, 1, 0, 1, 0, 0x12c1432, 0xffffffff, 0x0, 0x0, 0x0, 0x0, 0xffffffff, 0x0⟩,
  ⟨"LMP_IRAIL", 0xf020, 1, 0, 1, 0, 0x0, 0x0, 0x0, 0x0, 0x0, 0x0, 0x0, 0x0⟩,
  ⟨"LMP_DIAG", 0xf024, 1, 0, 1, 0, 0x4b0a0a40, 0xffffffff, 0x0, 0x0, 0x0, 0x0, 0xffffffff, 0x0⟩,
  ⟨"LMP_RECOMP", 0xf028, 1, 0, 1, 0, 0x64, 0xffff, 0x0, 0x0, 0x0, 0x0, 0xffff, 0x0⟩,
  ⟨"LMP_CMD", 0xf02c, 1, 0, 1, 0, 0x0, 0x0, 0x0, 0x0, 0x0, 0x0, 0x0, 0x0⟩,
  ⟨"LMP_CMDSTAT", 0xf030, 1, 0, 1, 0, 0x0, 0x0, 0x0, 0x0, 0x0, 0x0, 0x0, 0x0⟩,
  ⟨"LMP_LAST", 0xf034, 1, 0, 1, 0, 0x0, 0x0, 0x0, 0x0, 0x0, 0x0, 0xf7ff000f, 0x0⟩,
  ⟨"LMP_CNT", 0xf038, 1, 0, 1, 0, 0x0, 0x0, 0x0, 0x0, 0x0, 0xffffffff, 0x0, 0x0⟩,
  ⟨"LMP_SSTAT", 0xf100, 16, 64, 1, 0, 0x0, 0x0, 0x0, 0x0, 0x0, 0x0, 0x0, 0x0⟩,
  ⟨"LMP_SMEAS", 0xf104, 16, 64, 1, 0, 0x0, 0x0, 0x0, 0x0, 0x0, 0x0, 0x0, 0x0⟩,
  ⟨"LMP_SBIN0", 0xf108, 16, 64, 1, 0, 0x1f4, 0xffffffff, 0x0, 0x0, 0x0, 0x0, 0xffffffff, 0x0⟩,
  ⟨"LMP_SBIN1", 0xf10c, 16, 64, 1, 0, 0x10000000, 0xffffffff, 0x0, 0x0, 0x0, 0x0, 0xffffffff, 0x0⟩,
  ⟨"LMP_SBIN2", 0xf110, 16, 64, 1, 0, 0x0, 0xffffffff, 0x0, 0x0, 0x0, 0x0, 0xffffffff, 0x0⟩,
  ⟨"LMP_SBIN3", 0xf114, 16, 64, 1, 0, 0x0, 0x8000ffff, 0x0, 0x0, 0x0, 0x0, 0x8000ffff, 0x0⟩,
  ⟨"LMP_SDRV", 0xf120, 16, 64, 8, 4, 0x0, 0x0, 0x0, 0x0, 0x0, 0x0, 0x0, 0x0⟩]

/-- The registers of the BAR 0 block at 0x10000 (R28). -/
def rowsOfBlock16 : List RegRow := [
  ⟨"LNK_CTL", 0x10000, 1, 0, 1, 0, 0x0, 0x0, 0x80000001, 0x0, 0x0, 0x0, 0x80000001, 0x0⟩,
  ⟨"LNK_STATUS", 0x10004, 1, 0, 1, 0, 0x0, 0x0, 0x0, 0x0, 0x0, 0x0, 0xff0000, 0x0⟩,
  ⟨"LNK_EVENTS", 0x10008, 1, 0, 1, 0, 0x0, 0x0, 0x0, 0xf, 0x0, 0x0, 0x0, 0x0⟩,
  ⟨"LNK_CMD", 0x1000c, 1, 0, 1, 0, 0x0, 0x0, 0x0, 0x0, 0x0, 0x0, 0x0, 0x0⟩,
  ⟨"LNK_CHK", 0x10010, 1, 0, 1, 0, 0x0, 0x0, 0x0, 0x0, 0x0, 0x0, 0xffffffff, 0x0⟩,
  ⟨"LNK_ERRCNT", 0x10014, 1, 0, 1, 0, 0x0, 0x0, 0x0, 0x0, 0x0, 0xffffffff, 0x0, 0x0⟩]

/-- The registers of the BAR 0 block at 0x11000 (R28). -/
def rowsOfBlock17 : List RegRow := [
  ⟨"HWY_CTL", 0x11000, 1, 0, 1, 0, 0x0, 0x800000ff, 0x0, 0x0, 0x0, 0x0, 0x800000ff, 0x0⟩,
  ⟨"HWY_STATUS", 0x11004, 1, 0, 1, 0, 0x0, 0x0, 0x0, 0x0, 0x0, 0x0, 0x0, 0x0⟩,
  ⟨"HWY_EVENTS", 0x11008, 1, 0, 1, 0, 0x0, 0x0, 0x0, 0xff, 0x0, 0x0, 0x0, 0x0⟩,
  ⟨"HWY_CMD", 0x1100c, 1, 0, 1, 0, 0x0, 0x0, 0x0, 0x0, 0x0, 0x0, 0x0, 0x0⟩,
  ⟨"HWY_LINK", 0x11010, 1, 0, 1, 0, 0x0, 0x0, 0x0, 0x0, 0x0, 0x0, 0x0, 0x0⟩,
  ⟨"HWY_ERRCNT", 0x11014, 1, 0, 1, 0, 0x0, 0x0, 0x0, 0x0, 0x0, 0xffffffff, 0x0, 0x0⟩,
  ⟨"HWY_MCTL", 0x11018, 1, 0, 1, 0, 0x0, 0x1f, 0x0, 0x0, 0x100, 0x0, 0x0, 0x0⟩,
  ⟨"HWY_MSTAT", 0x1101c, 1, 0, 1, 0, 0x0, 0x0, 0x0, 0x40000000, 0x0, 0x0, 0x0, 0x0⟩,
  ⟨"HWY_MTX", 0x11040, 16, 4, 1, 0, 0x0, 0xffffffff, 0x0, 0x0, 0x0, 0x0, 0x0, 0x0⟩,
  ⟨"HWY_MRX", 0x11080, 16, 4, 1, 0, 0x0, 0x0, 0x0, 0x0, 0x0, 0x0, 0x0, 0x0⟩]

/-- The registers of the BAR 0 block at 0x12000 (R28). -/
def rowsOfBlock18 : List RegRow := [
  ⟨"AUX_CTL", 0x12000, 1, 0, 1, 0, 0x3c0000, 0xffff0000, 0x0, 0x0, 0x0, 0x0, 0xffff0000, 0x0⟩,
  ⟨"AUX_STATUS", 0x12004, 1, 0, 1, 0, 0x0, 0x0, 0x0, 0x0, 0x0, 0x0, 0x0, 0x0⟩,
  ⟨"AUX_EVENTS", 0x12008, 1, 0, 1, 0, 0x0, 0x0, 0x0, 0x7ff, 0x0, 0x0, 0x0, 0x0⟩,
  ⟨"AUX_CALCMD", 0x1200c, 1, 0, 1, 0, 0x0, 0x0, 0x0, 0x0, 0x0, 0x0, 0x0, 0x0⟩,
  ⟨"AUX_CALSTAT", 0x12010, 1, 0, 1, 0, 0x0, 0x0, 0x0, 0x0, 0x0, 0x0, 0x37000ff, 0x0⟩,
  ⟨"AUX_DROPS", 0x12014, 1, 0, 1, 0, 0x0, 0x0, 0x0, 0x0, 0x0, 0xffffffff, 0x0, 0x0⟩,
  ⟨"AUX_CVCTL", 0x12020, 4, 4, 1, 0, 0x0, 0xfcf7ffff, 0x0, 0x0, 0x0, 0x0, 0x7cf7ffff, 0x0⟩,
  ⟨"AUX_EXC", 0x12040, 4, 4, 1, 0, 0x0, 0xf8000000, 0x0, 0x0, 0x0, 0x0, 0xf8000000, 0x0⟩,
  ⟨"AUX_INJ", 0x12060, 2, 4, 1, 0, 0x0, 0x0, 0x0, 0x0, 0x0, 0x0, 0x0, 0x0⟩,
  ⟨"AUX_SEQA", 0x12100, 4, 128, 16, 8, 0x8e400380, 0xffffff80, 0x0, 0x0, 0x0, 0x0, 0xffffff80, 0x0⟩,
  ⟨"AUX_SEQB_FC", 0x12104, 2, 128, 16, 8, 0x140000, 0xffff1fff, 0x0, 0x0, 0x0, 0x0, 0xffff1fff, 0x0⟩,
  ⟨"AUX_SEQB_PC", 0x12204, 2, 128, 16, 8, 0x1000001, 0xffff1fff, 0x0, 0x0, 0x0, 0x0, 0xffff1fff, 0x0⟩,
  ⟨"AUX_RES_LO", 0x12400, 4, 256, 16, 16, 0x0, 0x0, 0x0, 0x0, 0x0, 0x0, 0x0, 0x0⟩,
  ⟨"AUX_RES_HI", 0x12404, 4, 256, 16, 16, 0x0, 0x0, 0x0, 0x0, 0x0, 0x0, 0x0, 0x0⟩,
  ⟨"AUX_TS_LO", 0x12408, 4, 256, 16, 16, 0x0, 0x0, 0x0, 0x0, 0x0, 0x0, 0x0, 0x0⟩,
  ⟨"AUX_TS_HI", 0x1240c, 4, 256, 16, 16, 0x0, 0x0, 0x0, 0x0, 0x0, 0x0, 0x0, 0x0⟩,
  ⟨"AUX_IRES_LO", 0x12800, 2, 64, 4, 16, 0x0, 0x0, 0x0, 0x0, 0x0, 0x0, 0x0, 0x0⟩,
  ⟨"AUX_IRES_HI", 0x12804, 2, 64, 4, 16, 0x0, 0x0, 0x0, 0x0, 0x0, 0x0, 0x0, 0x0⟩,
  ⟨"AUX_ITS_LO", 0x12808, 2, 64, 4, 16, 0x0, 0x0, 0x0, 0x0, 0x0, 0x0, 0x0, 0x0⟩,
  ⟨"AUX_ITS_HI", 0x1280c, 2, 64, 4, 16, 0x0, 0x0, 0x0, 0x0, 0x0, 0x0, 0x0, 0x0⟩,
  ⟨"AUX_WC_CTL", 0x12900, 16, 16, 1, 0, 0x100, 0xffc0ff00, 0x0, 0x0, 0x0, 0x0, 0xffc0ff00, 0x0⟩,
  ⟨"AUX_WC_LO", 0x12904, 16, 16, 1, 0, 0x0, 0xffffffff, 0x0, 0x0, 0x0, 0x0, 0xffffffff, 0x0⟩,
  ⟨"AUX_WC_HI", 0x12908, 16, 16, 1, 0, 0x0, 0xffffffff, 0x0, 0x0, 0x0, 0x0, 0xffffffff, 0x0⟩,
  ⟨"AUX_WC_STAT", 0x1290c, 16, 16, 1, 0, 0x0, 0x0, 0x0, 0x0, 0x0, 0xffff, 0x0, 0x0⟩,
  ⟨"AUX_TRIM", 0x12a00, 4, 32, 8, 4, 0x8000, 0xffffffff, 0x0, 0x0, 0x0, 0x0, 0xffffffff, 0x0⟩]

/-- The registers of the BAR 0 block at 0x13000 (R28). -/
def rowsOfBlock19 : List RegRow := [
  ⟨"REC_CTL", 0x13000, 1, 0, 1, 0, 0x0, 0x3, 0x0, 0x0, 0x0, 0x0, 0x3, 0x0⟩,
  ⟨"REC_STATUS", 0x13004, 1, 0, 1, 0, 0x0, 0x0, 0x0, 0x0, 0x0, 0x0, 0x0, 0x0⟩,
  ⟨"REC_EVENTS", 0x13008, 1, 0, 1, 0, 0x0, 0x0, 0x0, 0x3f, 0x0, 0x0, 0x0, 0x0⟩,
  ⟨"REC_CMD", 0x1300c, 1, 0, 1, 0, 0x0, 0x0, 0x0, 0x0, 0x0, 0x0, 0x0, 0x0⟩,
  ⟨"REC_SPAN", 0x13010, 1, 0, 1, 0, 0x20001fff, 0x3fff3fff, 0x0, 0x0, 0x0, 0x0, 0x3fff3fff, 0x0⟩,
  ⟨"REC_TRIG", 0x13014, 1, 0, 1, 0, 0x0, 0xf33fffff, 0x0, 0x0, 0x0, 0x0, 0xf33fffff, 0x0⟩,
  ⟨"REC_MASK_LO", 0x13018, 1, 0, 1, 0, 0x0, 0xffffffff, 0x0, 0x0, 0x0, 0x0, 0xffffffff, 0x0⟩,
  ⟨"REC_MASK_HI", 0x1301c, 1, 0, 1, 0, 0x0, 0xffffffff, 0x0, 0x0, 0x0, 0x0, 0xffffffff, 0x0⟩,
  ⟨"REC_PMASK_LO", 0x13020, 1, 0, 1, 0, 0x0, 0xffffffff, 0x0, 0x0, 0x0, 0x0, 0xffffffff, 0x0⟩,
  ⟨"REC_PMASK_HI", 0x13024, 1, 0, 1, 0, 0x0, 0xffffffff, 0x0, 0x0, 0x0, 0x0, 0xffffffff, 0x0⟩,
  ⟨"REC_PVAL_LO", 0x13028, 1, 0, 1, 0, 0x0, 0xffffffff, 0x0, 0x0, 0x0, 0x0, 0xffffffff, 0x0⟩,
  ⟨"REC_PVAL_HI", 0x1302c, 1, 0, 1, 0, 0x0, 0xffffffff, 0x0, 0x0, 0x0, 0x0, 0xffffffff, 0x0⟩,
  ⟨"REC_INFO", 0x13030, 1, 0, 1, 0, 0x0, 0x0, 0x0, 0x0, 0x0, 0x0, 0xffff7fff, 0x0⟩,
  ⟨"REC_LOST", 0x13034, 1, 0, 1, 0, 0x0, 0x0, 0x0, 0x0, 0x0, 0x0, 0xffffffff, 0x0⟩,
  ⟨"REC_REJ", 0x13038, 1, 0, 1, 0, 0x0, 0x0, 0x0, 0x0, 0x0, 0xffffffff, 0x0, 0x0⟩,
  ⟨"REC_CAPNUM", 0x1303c, 1, 0, 1, 0, 0x0, 0x0, 0x0, 0x0, 0x0, 0x0, 0xffffffff, 0x0⟩,
  ⟨"REC_TTRIG_LO", 0x13040, 1, 0, 1, 0, 0x0, 0x0, 0x0, 0x0, 0x0, 0x0, 0xffffffff, 0x0⟩,
  ⟨"REC_TTRIG_HI", 0x13044, 1, 0, 1, 0, 0x0, 0x0, 0x0, 0x0, 0x0, 0x0, 0xffffffff, 0x0⟩,
  ⟨"REC_REJT_LO", 0x13048, 1, 0, 1, 0, 0x0, 0x0, 0x0, 0x0, 0x0, 0x0, 0x0, 0x0⟩,
  ⟨"REC_REJT_HI", 0x1304c, 1, 0, 1, 0, 0x0, 0x0, 0x0, 0x0, 0x0, 0x0, 0x0, 0x0⟩,
  ⟨"REC_DEAD_CAP", 0x13050, 1, 0, 1, 0, 0x0, 0x0, 0x0, 0x0, 0x0, 0x0, 0xffffffff, 0x0⟩,
  ⟨"REC_DEAD_ARM", 0x13054, 1, 0, 1, 0, 0x0, 0x0, 0x0, 0x0, 0x0, 0x0, 0xffffffff, 0x0⟩,
  ⟨"REC_DMA_LO", 0x13058, 1, 0, 1, 0, 0x0, 0xfffff000, 0x0, 0x0, 0x0, 0x0, 0xfffff000, 0x0⟩,
  ⟨"REC_DMA_HI", 0x1305c, 1, 0, 1, 0, 0x0, 0xffffffff, 0x0, 0x0, 0x0, 0x0, 0xffffffff, 0x0⟩,
  ⟨"REC_RDIDX", 0x13060, 1, 0, 1, 0, 0x0, 0x3fff, 0x0, 0x0, 0x0, 0x0, 0x0, 0x0⟩,
  ⟨"REC_RD", 0x13064, 4, 4, 1, 0, 0x0, 0x0, 0x0, 0x0, 0x0, 0x0, 0x0, 0x0⟩]

/-- The registers of the BAR 0 block at 0x14000 (R28). -/
def rowsOfBlock20 : List RegRow := [
  ⟨"CEL_STATUS", 0x14000, 1, 0, 1, 0, 0x0, 0x0, 0x0, 0x0, 0x0, 0x0, 0x0, 0x0⟩,
  ⟨"CEL_EVENTS", 0x14004, 1, 0, 1, 0, 0x0, 0x0, 0x0, 0x7, 0x0, 0x0, 0x0, 0x0⟩,
  ⟨"CEL_CE", 0x14008, 1, 0, 1, 0, 0x0, 0x0, 0x0, 0x0, 0x0, 0xffffffff, 0x0, 0x0⟩,
  ⟨"CEL_UE", 0x1400c, 1, 0, 1, 0, 0x0, 0x0, 0x0, 0x0, 0x0, 0xffffffff, 0x0, 0x0⟩,
  ⟨"CEL_ERRADDR_LO", 0x14010, 1, 0, 1, 0, 0x0, 0x0, 0x0, 0x0, 0x0, 0x0, 0x0, 0x0⟩,
  ⟨"CEL_ERRADDR_HI", 0x14014, 1, 0, 1, 0, 0x0, 0x0, 0x0, 0x0, 0x0, 0x0, 0x0, 0x0⟩]

/-- The rows of the block that holds byte offset off; reserved blocks of R28 have none. -/
def rowsAt (off : Nat) : List RegRow :=
  match off / 0x1000 with
  | 0 => rowsOfBlock0
  | 1 => rowsOfBlock1
  | 2 => rowsOfBlock2
  | 3 => rowsOfBlock3
  | 4 => rowsOfBlock4
  | 5 => rowsOfBlock5
  | 6 => rowsOfBlock6
  | 8 => rowsOfBlock8
  | 9 => rowsOfBlock8
  | 10 => rowsOfBlock10
  | 11 => rowsOfBlock11
  | 12 => rowsOfBlock12
  | 13 => rowsOfBlock13
  | 14 => rowsOfBlock14
  | 15 => rowsOfBlock15
  | 16 => rowsOfBlock16
  | 17 => rowsOfBlock17
  | 18 => rowsOfBlock18
  | 19 => rowsOfBlock19
  | 20 => rowsOfBlock20
  | _ => []

/-- Every row of the map. -/
def allRows : List RegRow :=
  rowsOfBlock0 ++ rowsOfBlock1 ++ rowsOfBlock2 ++ rowsOfBlock3 ++ rowsOfBlock4 ++ rowsOfBlock5 ++ rowsOfBlock6 ++ rowsOfBlock8 ++ rowsOfBlock10 ++ rowsOfBlock11 ++ rowsOfBlock12 ++ rowsOfBlock13 ++ rowsOfBlock14 ++ rowsOfBlock15 ++ rowsOfBlock16 ++ rowsOfBlock17 ++ rowsOfBlock18 ++ rowsOfBlock19 ++ rowsOfBlock20

/-- off is the offset of one register of the row. -/
def RegRow.covers (r : RegRow) (off : Nat) : Bool :=
  (List.range r.n2).any fun j =>
    let d := off - (r.base + j * r.s2)
    r.base + j * r.s2 ≤ off && (if r.s1 = 0 then d == 0 else d % r.s1 == 0 && d / r.s1 < r.n1)

/-- The row of a register, or none for a reserved offset (R11). -/
def rowOf (off : Nat) : Option RegRow := (rowsAt off).find? (fun r => r.covers off)

/-- The value a register takes at a cold start (R16); reserved offsets read 0 (R11). -/
def regReset (off : Nat) : BitVec 32 :=
  match rowOf off with
  | some r => BitVec.ofNat 32 r.reset
  | none => 0

end Sys2Proof.Machine
end

