-- ==== Sys2Proof/Machine/Tbl.lean ====
section
/-! DEFINITION. Reading and writing a sparse table. One canonical form: keys strictly rising, and no entry equal to the
default d, so that equal contents are equal data. d may depend on the key (the reset value of a register). -/

namespace Sys2Proof.Machine

/-- The entry at key k, or the default of k. -/
def tget {α : Type} (d : Nat → α) (t : Tbl α) (k : Nat) : α :=
  match t with
  | [] => d k
  | (j, v) :: r => if j = k then v else tget d r k

/-- Put the entry (k, v) in its place, over the entry that k has. -/
def tput {α : Type} (t : Tbl α) (k : Nat) (v : α) : Tbl α :=
  match t with
  | [] => [(k, v)]
  | (j, w) :: r => if j = k then (k, v) :: r else if k < j then (k, v) :: (j, w) :: r else (j, w) :: tput r k v

/-- Write v at key k: writing the default removes the entry. -/
def tset {α : Type} [DecidableEq α] (d : Nat → α) (t : Tbl α) (k : Nat) (v : α) : Tbl α :=
  match t with
  | [] => if v = d k then [] else [(k, v)]
  | p :: r => if v = d k then (p :: r).filter (fun q => q.1 != k) else tput (p :: r) k v

/-- The canonical form, from a lower bound on the keys. -/
def tblWfFrom {α : Type} [DecidableEq α] (d : Nat → α) : Nat → Tbl α → Bool
  | _, [] => true
  | lo, (k, v) :: r => decide (lo ≤ k) && decide (v ≠ d k) && tblWfFrom d (k + 1) r

/-- A table is in canonical form. -/
def tblWf {α : Type} [DecidableEq α] (d : Nat → α) (t : Tbl α) : Bool := tblWfFrom d 0 t

/-- The natural-number table whose unlisted entries are 0. -/
def nget (t : Tbl Nat) (k : Nat) : Nat := tget (fun _ => 0) t k
/-- Write an entry of a table whose unlisted entries are 0. -/
def nset (t : Tbl Nat) (k v : Nat) : Tbl Nat := tset (fun _ => 0) t k v
/-- The integer table whose unlisted entries are 0. -/
def iget (t : Tbl Int) (k : Nat) : Int := tget (fun _ => 0) t k
/-- Write an entry of an integer table whose unlisted entries are 0. -/
def iset (t : Tbl Int) (k : Nat) (v : Int) : Tbl Int := tset (fun _ => 0) t k v
/-- The Boolean table whose unlisted entries are false. -/
def bget (t : Tbl Bool) (k : Nat) : Bool := tget (fun _ => false) t k
/-- Write an entry of a Boolean table whose unlisted entries are false. -/
def bset (t : Tbl Bool) (k : Nat) (v : Bool) : Tbl Bool := tset (fun _ => false) t k v

end Sys2Proof.Machine
end

