-- ==== Sys2Proof/Machine/State.lean ====
section
/-! DEFINITION. The state of the block as plain data, the reasons a step can stop, and State.reset. Registers of BAR 0 live in
one sparse table by byte offset; every other piece of state that the spec names has a field of its own. Fields marked MODEL
are the model's own (the free-value counter, the queue, the agenda, the outputs). -/

namespace Sys2Proof.Machine

/-- The reasons a step can stop with a fault. No command of the table ends in one: an event whose occasion does not hold
changes nothing (DESIGN CHOICE, log entry 1). -/
inductive Fault where
  /-- Raised by nothing: the block has no command that stops it. Safe. -/
  | stuck
  deriving DecidableEq, Repr

/-- The reasons a command can be refused. -/
inductive Refusal where
  /-- Raised by exec for a command that has no meaning yet, by its mnemonic. Safe. -/
  | notModelled (mnemonic : String)
  deriving DecidableEq, Repr

/-- What the device sends out, oldest first in the list: a memory write to the host (R343), an MSI-X message (R378), a Hallway
superframe or token on its lanes (R461, R463), a command frame of the lamp link for a position (R475, R478). -/
inductive Emit where
  | memWrite (addr : Nat) (bytes : List Byte)
  | msix (vec : Nat) (addr : Nat) (data : Nat)
  | superframe (lane : Nat) (bytes : List Byte)
  | token (a b : Nat)
  | lampFrame (pos : Nat) (bytes : List Byte)
  deriving DecidableEq, Repr

/-- A shadow of a reading master (R541): the low register's offset of the quantity it names, and bits 63:32. -/
structure Shadow where
  /-- offset of the low register of the quantity named (R541) -/
  low  : Nat
  /-- bits 63:32 of the value at the low read (R542) -/
  high : Nat
  deriving DecidableEq, Repr

/-- The major mode, as SYS_MODE reports it (R513). -/
structure ModeSt where
  /-- present mode (R513) -/
  mode   : Mode := .off
  /-- mode left at the last change (R513) -/
  prev   : Mode := .off
  /-- mode from which DIAGNOSE or SERVICE was entered (R515) -/
  origin : Mode := .off
  /-- a start requested while the root was stopped (R594) -/
  heldStart : Bool := false
  /-- tests of the self-test in progress; bit 4: test 3 is not run (R521) -/
  tests : Nat := 0
  deriving DecidableEq, Repr

/-- A cold or warm start in progress (R522). -/
structure StartSt where
  /-- a start is in progress -/
  on    : Bool := false
  /-- kind of the start: true warm (R522) -/
  warm  : Bool := false
  /-- steps that have ended, or were skipped (R522) -/
  done  : Tbl Bool := []
  /-- steps that have begun: 1 + TIME of the beginning (R526) -/
  begun : Tbl Nat := []
  /-- the steps are over and a joined member waits for ALL_READY (R487) -/
  waitAll : Bool := false
  /-- slices that the start pass retired: group and slice (R155) -/
  retired : List (Nat × Nat) := []
  /-- step 14 restored a bank (R255) -/
  restored : Bool := false
  /-- HWY_CTL, LNK_CTL and CLK_CTL as step 9 applied them (R523) -/
  early : List Nat := []
  deriving DecidableEq, Repr

/-- The firmware slots and the Housekeeper's pause (R528, R536 to R538). -/
structure FwSt where
  /-- slot A holds a valid image (R528) -/
  validA : Bool := false
  /-- slot B holds a valid image (R528) -/
  validB : Bool := false
  /-- SEQ of the image in slot A -/
  seqA : Nat := 0
  /-- SEQ of the image in slot B -/
  seqB : Nat := 0
  /-- VERSION of the image in slot A -/
  verA : Nat := 0
  /-- VERSION of the image in slot B -/
  verB : Nat := 0
  /-- command in progress: 0 none, 1 write, 2 swap (R536, R537) -/
  op : Nat := 0
  /-- the Housekeeper is paused (R23, R537, R538) -/
  paused : Bool := false
  /-- the revert window of a swap is open (R538) -/
  window : Bool := false
  deriving DecidableEq, Repr

/-- A message as a rule raises it (R386, R389): the class, the producer, the code, the TIME of word 1 and the items. -/
structure Msg where
  /-- class P0 to P3 (R383) -/
  cls   : Nat
  /-- producer: BAR 0 block offset shifted right by 12, 0x3F the Housekeeper (R386) -/
  src   : Nat
  /-- message code (R388) -/
  code  : Nat
  /-- TIME of word 1 (R389) -/
  time  : Nat
  /-- words 2 onward (R389) -/
  items : List (BitVec 64)
  deriving DecidableEq, Repr

/-- A message that has opened: its sequence number, and how far its producer has pushed it (R384, R387). -/
structure OpenMsg where
  /-- the message -/
  msg    : Msg
  /-- SEQ taken as it opened (R387) -/
  seq    : Nat
  /-- words pushed so far -/
  pushed : Nat
  /-- the message was lost or flushed: its remaining words are swallowed (R390, R400) -/
  lost   : Bool
  deriving DecidableEq, Repr

/-- A message that has closed (R385). -/
structure DoneMsg where
  /-- the message -/
  msg   : Msg
  /-- SEQ (R387) -/
  seq   : Nat
  /-- closing tick (R385) -/
  close : Nat
  deriving DecidableEq, Repr

/-- The message open on the register port (R395). -/
structure PortMsg where
  /-- the message -/
  msg : Msg
  /-- SEQ (R387) -/
  seq : Nat
  /-- current word -/
  idx : Nat
  deriving DecidableEq, Repr

/-- The Landing (R383 to R402). -/
structure LndSt where
  /-- messages being pushed, one per producer (R384) -/
  opened : List OpenMsg := []
  /-- messages whose producer has another one open, oldest first (R384) -/
  waiting : List Msg := []
  /-- closed messages, in order of closing tick and SRC (R385) -/
  queue : List DoneMsg := []
  /-- message open on the port (R392, R395) -/
  port : Option PortMsg := none
  /-- next SEQ of each class (R387) -/
  seqs : Tbl Nat := []
  deriving DecidableEq, Repr

/-- The performance counters (R545 to R556). -/
structure PmcSt where
  /-- PMC_CYCLE, 64 bits (R545) -/
  cyc  : Nat := 0
  /-- PMC0 to PMC7, 48 bits each (R545) -/
  cnt  : Tbl Nat := []
  /-- write buffers of the nine counters, 8 for PMC_CYCLE (R553) -/
  buf  : Tbl Nat := []
  /-- wraps whose overflow is still to be recorded: counter and its value after the wrap (R555) -/
  wrapped : List (Nat × Nat) := []
  /-- snapshot of the nine counters, 8 for PMC_CYCLE (R550) -/
  snap : Tbl Nat := []
  /-- TIME[47:0] of the snapshot (R550) -/
  snapTime : Nat := 0
  deriving DecidableEq, Repr

/-- A command in progress (R361): the CMD slot, and the descriptor's fields. -/
structure CmdEntry where
  /-- slot of the CMD ring, i mod N (R365) -/
  slot : Nat
  /-- opcode (R362) -/
  op   : Nat
  /-- FLAGS bit 0 (R360) -/
  irq  : Bool
  /-- FLAGS bit 1 (R361) -/
  fence : Bool
  /-- the 64 descriptor bytes (R360) -/
  desc : List Byte
  deriving DecidableEq, Repr

/-- A completion entry that has been formed or waits for a CPL slot (R359, R365). -/
structure Cpl where
  /-- RESULT (R365) -/
  result : Nat
  /-- IDX, slot of the completed entry (R365) -/
  idx    : Nat
  /-- SRC without PHASE: 0 CMD, 0x10 + h IMGh (R365) -/
  src    : Nat
  /-- STATUS (R368) -/
  status : Nat
  /-- the entry or command asked for an interrupt (R377) -/
  irq    : Bool
  /-- bytes of the packet that leaves the fill with this completion (R374) -/
  bytes  : Nat
  /-- TIME at which it was formed (R39, R365) -/
  time   : Nat
  /-- the command had FENCE = 1 (R361) -/
  fence  : Bool
  deriving DecidableEq, Repr

/-- A band-line record of a line packet (R370). -/
structure LineRec where
  /-- document key: number, and whether the record lies inside a document (R274, R376) -/
  doc   : Nat
  /-- FLAGS (R372) -/
  flags : Nat
  /-- header bytes 4 to 31 and payload -/
  bytes : List Byte
  deriving DecidableEq, Repr

/-- A packet of one head, open or closed (R370, R373). -/
structure Packet where
  /-- head -/
  head : Nat
  /-- records, oldest first -/
  recs : List LineRec
  /-- TIME at which its first record was stored (R373 item 3) -/
  since : Nat
  deriving DecidableEq, Repr

/-- A SKIP_DOC in progress (R376). -/
structure Skip where
  /-- command slot -/
  slot  : Nat
  /-- head -/
  head  : Nat
  /-- document number -/
  doc   : Nat
  /-- records discarded so far -/
  count : Nat
  deriving DecidableEq, Repr

/-- The host interface (R341 to R382, R597). -/
structure HostSt where
  /-- PERST_N is low (R530) -/
  perst : Bool := true
  /-- pending interrupt sources s (R377) -/
  isr  : Tbl Bool := []
  /-- TIME at which the holdoff of source s ends (R378) -/
  holdEnd : Tbl Nat := []
  /-- commands in progress, in ring order (R361) -/
  cmds : List CmdEntry := []
  /-- completions that wait to be written (R359) -/
  cplq : List Cpl := []
  /-- open packet of each head (R373) -/
  openPkt : List Packet := []
  /-- closed packets not yet delivered, in closing order (R374) -/
  closed : List Packet := []
  /-- completions at the end of cplq that have not yet met the full ring (R359) -/
  unmet : Nat := 0
  /-- bytes of packets written whose completion waits (R359) -/
  heldBytes : Nat := 0
  /-- SKIP_DOC commands in progress (R376) -/
  skips : List Skip := []
  deriving DecidableEq, Repr

/-- How far a band-line has come (spec/01, main road). -/
inductive Stage where
  | accepted | exposing | sensor | reading | lanes
  deriving DecidableEq, Repr

/-- A band-line in flight: what it carries from its trigger to its record (R64, R175, R271, R371, R372). -/
structure BandLine where
  /-- band -/
  band : Nat
  /-- line number (R79) -/
  line : Nat
  /-- position tag (R271) -/
  pos  : Nat
  /-- TIME tag: tick of the cause (R271) -/
  time : Nat
  /-- measured line period in ticks (R81, R163) -/
  period : Nat
  /-- document number it belongs to; 0 none (R274) -/
  doc  : Nat
  /-- FLAGS gathered so far (R372) -/
  flags : Nat
  /-- exposure width in ticks (R71) -/
  exposure : Nat
  /-- PIPE_HCTL of its band set (R175) -/
  hctl : Nat
  /-- PIPE_BGO of its band set (R175) -/
  bgo : Nat
  /-- PIPE_THR of its band set (R175) -/
  thr : Nat
  /-- generation number when its first sample entered the lanes; none before that (R190) -/
  gen : Option Nat
  /-- a sample came from a guest whose residual set is unfitted (R148) -/
  unfit : Bool
  /-- the band-line belongs to a wipe or a calibration run and produces no record (R64, R204) -/
  noRecord : Bool
  /-- stage -/
  stage : Stage
  /-- tick on which HnSP rises (R51, R68) -/
  fireAt : Nat
  /-- tick on which the exposure window closes (R71) -/
  expEnd : Nat
  /-- tick on which its first readout pixel period begins (R68) -/
  readAt : Nat
  /-- tick on which its last readout pixel period ends (R68) -/
  readLast : Nat
  /-- taps whose samples of it are replaced by the pedestal from a tick to a tick: tap, from, to (R152) -/
  pedestal : List (Nat × Nat × Nat) := []
  /-- its LSTB was suppressed (R317) -/
  suppressed : Bool := false
  /-- it was read at a trial phase of a phase search (R218, R227) -/
  trial : Bool := false
  /-- outside every document with GAP_CAP 0: it is not stored (R277) -/
  drop : Bool := false
  /-- TRK of each tap of the head as its readout began (R165) -/
  trk : List Int := []
  /-- PGA step of each tap for its readout (R100) -/
  pga : List Nat := []
  /-- taps that the guest served (R147) -/
  guests : List Nat := []
  /-- lanes whose output is 0 from a tick to a tick: lane, from, to (R194) -/
  dead : List (Nat × Nat × Nat) := []
  /-- 1 + the measuring point of the run that this band-line belongs to; 0 for a settle line or none (R204, R223, R229) -/
  tag : Nat := 0
  /-- measuring point of the run at its trigger (R229) -/
  point : Nat := 0
  deriving DecidableEq, Repr

/-- An open busy window (R65). -/
structure Busy where
  /-- opening tick -/
  opens  : Nat
  /-- closing tick -/
  closes : Nat
  /-- tick on which the readout that its start pulse began ends; 0 while not yet known (R65 item a) -/
  readEnd : Nat
  deriving DecidableEq, Repr

/-- A sensor head beside its registers (R57 to R95). -/
structure HeadSt where
  /-- tick on which the head became ONLINE (R163) -/
  onlineAt : Nat := 0
  /-- the first B0 cause after ONLINE has been accepted (R79) -/
  seenB0 : Bool := false
  /-- a line has been numbered since ONLINE (R79, R204) -/
  numbered : Bool := false
  /-- tick of the latest trigger of each band since ONLINE (R81) -/
  lastTrig : Tbl Nat := []
  /-- tick of the write that set COMMIT (R84) -/
  commitAt : Nat := 0
  /-- band-lines in flight, in trigger order -/
  lines : List BandLine := []
  /-- open busy windows (R65) -/
  busy : List Busy := []
  /-- the next readout in ROLLING mode is a wipe (R64) -/
  wipe : Bool := true
  /-- STOPPING has issued its final start pulse (R90) -/
  finalSp : Bool := false
  /-- becomes STOPPING at the close of the busy window (R95) -/
  stopAtClose : Bool := false
  /-- tick at which the settling ends (R86 step 3) -/
  settleAt : Nat := 0
  /-- wipe start pulses of the warm-up still to come (R86 step 4) -/
  wipesLeft : Nat := 0
  /-- tick at which the next wipe start pulse rises or the warm-up ends; 0 before the settling ends (R86 step 4) -/
  wipeAt : Nat := 0
  /-- the warm-up has ended (R86 step 5) -/
  warm : Bool := false
  /-- next tick of the head timer (R74) -/
  timerAt : Nat := 0
  /-- tick of the pending TAP_PHASE activation: one pixel period before the first readout pixel period (R123) -/
  phaseAt : Option Nat := none
  /-- tick on which the last readout pixel period of the readout under way ends, for TAP_PGA (R123) -/
  pgaAt : Option Nat := none
  /-- HnCLK runs, from tick clkAt on (R66) -/
  clkOn : Bool := false
  /-- tick on which HnCLK starts and HnAUX takes its first level (R86 step 2) -/
  clkAt : Nat := 0
  /-- latest HnSP pulse: the ticks on which it rises and falls (R68) -/
  sp : Option (Nat × Nat) := none
  /-- level of HnAUX (R70) -/
  aux : Bool := false
  deriving DecidableEq, Repr

/-- A tap beside its registers (R96 to R128). -/
structure TapSt where
  /-- consecutive outside decisions, saturating at 64 (R93, R117) -/
  outside : Nat := 0
  /-- a TAP_PHASE write awaits its activation tick: TIME of the write (R123) -/
  phasePend : Option Nat := none
  /-- a TAP_PGA write awaits its activation tick: TIME of the write (R123) -/
  pgaPend : Option Nat := none
  /-- tick from which the stand-in serves after a slice fault; samples are the pedestal meanwhile (R152) -/
  pedestal : Bool := false
  deriving DecidableEq, Repr

/-- The trims of one slice (R133, R136): offsets in 1/512 code, gain denominators (GC = 2^24 / den), INL points over den
at x2. -/
structure Trims where
  /-- OFF[s] in 1/512 code -/
  off : List Int := []
  /-- measured gain times 2^24 / 2^24: GC[s] = 2^24 / den -/
  den : List Int := []
  /-- INL points as numerators over den[1] -/
  inl : List Int := []
  deriving DecidableEq, Repr

/-- The residual set of one tap (R133, R145): ROFF in 1/512 code, RG as a fraction. -/
structure Residual where
  /-- ROFF[t] in 1/512 code -/
  roff : Int := 0
  /-- RG[t], numerator -/
  rgNum : Int := 1
  /-- RG[t], denominator -/
  rgDen : Nat := 1
  deriving DecidableEq, Repr

/-- A slice fault whose report is still to be raised (R152). -/
structure FaultRep where
  /-- slice -/
  slice : Nat
  /-- detection tick -/
  time  : Nat
  /-- heads and line numbers of the band-lines that carry a replaced sample -/
  lines : List (Nat × Nat)
  /-- the guest serves or is committed -/
  served : Bool
  /-- TIME at which the guest takes the tap -/
  due : Nat
  deriving DecidableEq, Repr

/-- A tap group beside its registers (R129 to R156). -/
structure GroupSt where
  /-- trims of slices 0 to 16 -/
  trims : Tbl Trims := []
  /-- residual sets of the sixteen taps -/
  resid : Tbl Residual := []
  /-- residual set of the tap has been written by a passing overlap (R148) -/
  fitted : Tbl Bool := []
  /-- consecutive failures of each slice (R150) -/
  fails : Tbl Nat := []
  /-- TIME of the last passing run of each slice (R153) -/
  passAt : Tbl Nat := []
  /-- a rotation step is pending (R142) -/
  stepPend : Bool := false
  /-- TIME at which the run in progress ends (R135) -/
  runEnd : Nat := 0
  /-- slice whose run is in progress, 17 none -/
  running : Nat := 17
  /-- overlap band-lines that have closed (R144) -/
  overlap : Nat := 0
  /-- slice of a run that a command made, 17 none (R156) -/
  cmdSlice : Nat := 17
  /-- tick at which that run ends -/
  cmdEnd : Nat := 0
  /-- that run reinstates the slice (R156) -/
  reinstate : Bool := false
  /-- slices that have failed or are retired (R150, R152, R153) -/
  failed : Tbl Bool := []
  /-- taps of the group that keep a failed server (R153) -/
  uncovered : Tbl Bool := []
  /-- the guest is committed for good to GUEST_TAP (R150, R152) -/
  committed : Bool := false
  /-- fault whose stand-in or report is pending (R152) -/
  report : List FaultRep := []
  deriving DecidableEq, Repr

/-- What staging holds (R186). -/
structure Staged where
  /-- block kind (R185) -/
  kind : Nat
  /-- head -/
  head : Nat
  /-- band -/
  band : Nat
  /-- entries, two's complement taken modulo the entry's width -/
  entries : List Nat
  /-- Npix geometry at the check: FIRST_TAP, LAST_TAP, PPT (R189) -/
  geom : Nat × Nat × Nat
  /-- command slot that waits for the commit, or none for a background commit -/
  slot : Option Nat
  /-- a commit is asked for -/
  commit : Bool
  /-- a background white commit (R220) -/
  background : Bool
  deriving DecidableEq, Repr

/-- A request for the staging area (R186, R192). -/
inductive StageReq where
  | load (slot : Nat)
  | background (head band : Nat)
  | calRun (head : Nat)
  deriving DecidableEq, Repr

/-- A lane fault whose takeover or report is pending (R194). -/
structure LaneRep where
  /-- failed lane, 32 and 33 the spares -/
  lane : Nat
  /-- active lane whose taps it served -/
  serves : Nat
  /-- detection tick -/
  time : Nat
  /-- the spare serves (R194 item 3) -/
  served : Bool
  /-- heads and line numbers marked with SPARE_LANE -/
  lines : List (Nat × Nat)
  deriving DecidableEq, Repr

/-- The pixel pipeline and the shading store (R157 to R197). -/
structure PipeSt where
  /-- G of store entry E; unlisted 0x4000 (R158, R177) -/
  g    : Tbl Nat := []
  /-- D0 of store entry E, signed; unlisted 0 (R158, R177) -/
  d0   : Tbl Int := []
  /-- D1 of byte 2048t + j, signed; unlisted 0 (R158, R177) -/
  d1   : Tbl Int := []
  /-- LUT byte 4096hb + k; unlisted k >> 4 (R168) -/
  lut  : Tbl Nat := []
  /-- TRK[8t + b] in S12.4 (R161, R165) -/
  trk  : Tbl Int := []
  /-- hard rows, key 4096 * bank + row, with 1 for uncorrectable words (R179, R180) -/
  hard : Tbl Nat := []
  /-- rows whose latest pass corrected an error (R179) -/
  once : Tbl Bool := []
  /-- lanes whose output is 0 (R194, R195) -/
  zero : Tbl Bool := []
  /-- lane faults to be reported (R194) -/
  laneRep : List LaneRep := []
  /-- staging contents (R186) -/
  stage : Option Staged := none
  /-- requests for staging, oldest first (R192) -/
  reqs : List StageReq := []
  deriving DecidableEq, Repr

/-- Supplies and the Pantry beside their registers (R490 to R512). -/
structure PwrSt where
  /-- the conditions of R492 hold together and the 1 ms count to release runs -/
  por : Bool := false
  /-- a bank supplied at the wrong voltage holds OFF until RST_N is low (R564) -/
  heldOff : Bool := false
  /-- EXTEST is loaded (R572) -/
  extest : Bool := false
  /-- TMODE is high (R572) -/
  tmode : Bool := false
  /-- average budget in force, mW; 0 none (R505) -/
  avg : Nat := 0
  /-- peak budget in force, mW; 0 none (R505) -/
  peak : Nat := 0
  /-- TIME of a write of PWR_AVG that is not yet in force (R505) -/
  avgAt : Option Nat := none
  /-- TIME of a write of PWR_PEAK that is not yet in force (R505) -/
  peakAt : Option Nat := none
  /-- TIME at which WARN arose (R497) -/
  warnAt : Nat := 0
  /-- consecutive epochs whose forecast allows a lower level (R508) -/
  lift : Nat := 0
  /-- epochs since the latest ledger message (R510) -/
  report : Nat := 0
  /-- energy in uJ of each axis in the epoch just ended (R506) -/
  axis : Tbl Rat := []
  /-- steps of each axis in the epoch just ended (R506) -/
  steps : Tbl Nat := []
  deriving DecidableEq, Repr

/-- W of one pixel of a head-band under white tracking (R219). -/
structure White where
  /-- W, exact -/
  w : Rat := 0
  /-- included samples n (R219) -/
  n : Nat := 0
  deriving DecidableEq, Repr

/-- Where a foreground run stands (R199 to R206). -/
inductive RunStage where
  | measuring | deriving | committing | ended
  deriving DecidableEq, Repr

/-- A foreground calibration run of one head (R199 to R230). -/
structure RunSt where
  /-- head -/
  head : Nat
  /-- kind: 1 dark, 2 white, 3 phase, 4 lamp (R199) -/
  kind : Nat
  /-- CMD slot of its CAL_RUN -/
  slot : Nat
  /-- mask of bands -/
  bands : Nat
  /-- band whose frames yield D1 -/
  d1Band : Nat
  /-- each measurement averages 2^F lines -/
  f : Nat
  /-- first line period -/
  p1 : Nat
  /-- second line period; 0 none -/
  p2 : Nat
  /-- a gap search (R227) -/
  gap : Bool
  /-- string measured: SAT and STR; STR 0xFF every string (R362) -/
  sat : Nat
  /-- STR -/
  str : Nat
  /-- stage -/
  stage : RunStage
  /-- which point is measured: period index, sweep point, or string and current point -/
  point : Nat
  /-- line within the point; line 0 is the settle line (R204) -/
  line : Nat
  /-- band of the run's next trigger (R204) -/
  band : Nat
  /-- trial points already swept, 0 to 3 * (points - 1) (R223) -/
  trial : Nat
  /-- phases at the start of the run, per tap (R223) -/
  phi0 : Tbl Nat
  /-- sums of what the run measures, by its own keys -/
  acc : Tbl Int
  /-- counts that belong to the sums -/
  cnt : Tbl Nat
  /-- pixels, taps or points that carried OVR or a failed lane (R215, R230) -/
  bad : Tbl Bool
  /-- failing count (R202) -/
  failing : Nat
  /-- result code so far (R234) -/
  code : Nat
  /-- blocks still to be committed: kind, band, entries (R216, R222) -/
  todo : List (Nat × Nat × List Nat)
  /-- tick at which the run started, for the 10 s of R227 -/
  started : Nat
  deriving DecidableEq, Repr

/-- Image calibration beside its registers (R198 to R235). -/
structure ShdSt where
  /-- DREF[8t + b] in 1/16 code (R207, R214) -/
  dref : Tbl Int := []
  /-- DSLOPE[t] in 1/256 code per 100 us (R207, R214) -/
  dslope : Tbl Int := []
  /-- DPER of each head in ticks (R207) -/
  dper : Tbl Nat := []
  /-- W and n of pixel p of head-band hb, key 524288 hb + p (R219) -/
  white : Tbl White := []
  /-- included band-lines of each head-band since its restart (R220) -/
  incl : Tbl Nat := []
  /-- TIME of the last white commit of each head-band (R232) -/
  whiteAt : Tbl Nat := []
  /-- results of due head-bands that wait for staging: head-band and entries (R220, R232) -/
  dueG : List (Nat × List Nat) := []
  /-- covered spans of each head's guard sensor: POS of the covered edge and of the clear edge, none while covered (R217) -/
  spans : Tbl (List (Nat × Option Nat)) := []
  /-- clamped TRK values, key 8t + b (R209) -/
  clamped : Tbl Bool := []
  /-- TIME since which background work is deferred (R231) -/
  deferAt : Option Nat := none
  /-- runs in progress, one per head at most (R200) -/
  runs : List RunSt := []
  deriving DecidableEq, Repr

/-- A profile segment (R289). -/
structure Seg where
  /-- V_END, steps/s -/
  vEnd : Int
  /-- A_MAX, steps/s^2 -/
  aMax : Nat
  /-- J, 1,024 steps/s^3 -/
  jerk : Nat
  /-- DIST -/
  dist : Nat
  /-- END_KIND -/
  kind : Nat
  /-- END_DS -/
  ds : Nat
  deriving DecidableEq, Repr

/-- A motion axis beside its registers (R262 to R296). -/
structure AxisSt where
  /-- POS, 48 bits (R262) -/
  pos : Nat := 0
  /-- loaded profile (R289) -/
  loaded : List Seg := []
  /-- profile in execution (R290) -/
  segs : List Seg := []
  /-- steps made since the segment began (R290) -/
  made : Nat := 0
  /-- commanded steps since the bind (R294) -/
  cmdSteps : Int := 0
  /-- encoder counts since the bind (R294) -/
  encCounts : Int := 0
  /-- TIME of the latest POS change or coming to rest (R283) -/
  lastMove : Nat := 0
  /-- TIME of the latest standstill (R283) -/
  still : Option Nat := none
  /-- position units left of a back-up or run-up move (R282) -/
  moveLeft : Nat := 0
  /-- a back-up still owes its forward take-up (R282) -/
  takeUp : Nat := 0
  /-- the axis stood aside for a hold and owes a run-up (R282) -/
  owesRunup : Bool := false
  /-- tick before which no step is made after EN was set (R292) -/
  readyAt : Nat := 0
  /-- MnEN is active (R292) -/
  enPin : Bool := false
  /-- duty of MnIREF in 1/256; 0 inactive (R293) -/
  iref : Nat := 0
  deriving DecidableEq, Repr

/-- An encoder's accepted levels (R264). -/
structure EncSt where
  /-- accepted level of A -/
  a : Bool := false
  /-- accepted level of B -/
  b : Bool := false
  /-- accepted level of index -/
  i : Bool := false
  deriving DecidableEq, Repr

/-- The grid and the documents of one head (R267 to R277). -/
structure DocSt where
  /-- ORG, 56 bits (R268, R270) -/
  org : Nat := 0
  /-- G0, the B0 grid point of the present line, 56 bits (R270) -/
  g0 : Nat := 0
  /-- band of gnext (R269) -/
  gband : Nat := 0
  /-- point at which the next B0 grid point lies once the present line is complete (R276) -/
  syncAt : Option Nat := none
  /-- covered edges c and their clear edges e of documents that have not started, oldest first (R274, R275) -/
  edges : List (Nat × Option Nat) := []
  /-- edges of the open document (R274) -/
  cur : Option (Nat × Option Nat) := none
  /-- the document ends with the earliest line whose last cause is unresolved (R274, R596) -/
  endNow : Bool := false
  /-- covered edges whose re-origin waits for the end of the open document (R276) -/
  syncPend : List Nat := []
  /-- B0 tag of the present line (R274) -/
  lineTag : Nat := 0
  /-- the last band's cause of the present line is resolved (R274) -/
  lineDone : Bool := true
  /-- position tag of the latest band-line of the document -/
  lastTag : Nat := 0
  deriving DecidableEq, Repr

/-- An admission reservation (R287). -/
structure Resv where
  /-- bytes reserved -/
  bytes : Nat
  /-- heads whose document of it has started -/
  startedBy : List Nat
  /-- heads whose document of it has ended -/
  endedBy : List Nat
  deriving DecidableEq, Repr

/-- The motion block beside its registers (R262 to R298). -/
structure MotSt where
  /-- axes M0 to M7 -/
  axes : Tbl AxisSt := []
  /-- encoders ENC0 to ENC3 -/
  encs : Tbl EncSt := []
  /-- grids and documents of the heads -/
  docs : Tbl DocSt := []
  /-- k (R278, R279) -/
  k : Rat := 1
  /-- dk/dt per second (R279) -/
  kSlope : Rat := 0
  /-- the fill stands above FOLLOW -/
  aboveFollow : Bool := false
  /-- the fill has reached HOLD and has not yet fallen to RESUME (R280) -/
  aboveHold : Bool := false
  /-- WARN in admission mode: axes with PACE_EN = 0 stop once the admitted document is complete (R496) -/
  admStop : Bool := false
  /-- the state is STOPPING because of WARN (R496) -/
  warnStop : Bool := false
  /-- HOLD mode began at this TIME (R284) -/
  holdAt : Nat := 0
  /-- reservations, oldest first (R287) -/
  resv : List Resv := []
  /-- an admission request waits (R286) -/
  admReq : Bool := false
  /-- TIME at which the release pulse ends; 0 none (R287) -/
  relEnd : Nat := 0
  /-- levels of TO0 to TO7 driven by the release pulse (R287) -/
  relOut : Tbl Bool := []
  deriving DecidableEq, Repr

/-- A drive of a string in a band (R312, R313): code and width fraction in 1/65536, and whether it is saturated. -/
structure Drive where
  /-- CODE -/
  code : Nat := 0
  /-- WF in U1.16 -/
  wf : Nat := 0
  /-- DRIVE_SAT (R312) or a binding cap (R332) -/
  short : Bool := false
  deriving DecidableEq, Repr

/-- An entry of the lamp target block (R304). -/
structure LampEntry where
  /-- SAT -/
  sat : Nat
  /-- STR -/
  str : Nat
  /-- HEAD -/
  head : Nat
  /-- SIB -/
  sib : Nat
  /-- BANDS -/
  bands : Nat
  /-- TGT0 to TGT7 -/
  tgt : List Nat
  deriving DecidableEq, Repr

/-- A bin record (R307). -/
structure Bin where
  /-- WL -/
  wl : Nat := 0
  /-- IREF in 0.1 mA -/
  iref : Nat := 0
  /-- FLUX, U4.12 -/
  flux : Nat := 0
  /-- VF in mV -/
  vf : Nat := 0
  /-- KT in 0.001 %/C -/
  kt : Int := 0
  /-- KV in 0.01 mV/C -/
  kv : Int := 0
  /-- RD in mOhm -/
  rd : Nat := 0
  /-- VALID -/
  valid : Bool := false
  deriving DecidableEq, Repr

/-- One lamp string, key 16 SAT + STR (R299 to R335). -/
structure StrSt where
  /-- drives in force per band -/
  drv : Tbl Drive := []
  /-- drives loaded for the next B0 cause -/
  nxt : Tbl Drive := []
  /-- TIME at which nxt was loaded; none when nothing waits (R314) -/
  nxtAt : Option Nat := none
  /-- raised drives that wait for their 20 us (R333) -/
  rise : Tbl Drive := []
  /-- TIME from which the raised drives apply (R333) -/
  riseAt : Option Nat := none
  /-- 0 lit, 1 dropped open, 2 dropped short (R331) -/
  drop : Nat := 0
  /-- a restore waits for the head's next B0 cause (R335) -/
  restore : Bool := false
  /-- SCOUNT (R326) -/
  scount : Nat := 0
  /-- TIME of the first of the consecutive short strobes (R326) -/
  firstShort : Nat := 0
  /-- the string is due, since this TIME (R326, R328) -/
  due : Option Nat := none
  /-- DIAG_LATE was already counted for this due (R328) -/
  late : Bool := false
  /-- Tf in C, exact (R309) -/
  tf : Rat := 25
  /-- bands in which the string was dropped without a sibling (R334) -/
  alone : Nat := 0
  /-- defaults reported since the start (R308) -/
  reported : Bool := false
  /-- strobe under way: opening tick, width, commanded code, head and band, diagnostic pulse -/
  strobe : Option (Nat × Nat × Nat × Nat × Nat × Bool) := none
  /-- pulse that reaches or has reached t_DIAG and is not yet diagnosed (R325), as strobe -/
  toDiag : Option (Nat × Nat × Nat × Nat × Nat × Bool) := none
  /-- bin record of a satellite string (R307) -/
  bin : Bin := {}
  /-- FS of a satellite string in 0.1 mA (R301) -/
  fs : Nat := 0
  deriving DecidableEq, Repr

/-- A response table (R337). -/
structure Resp where
  /-- EXP -/
  exp : Nat := 0
  /-- RSP25, RSP50, RSP75, RSP100 in 1/16 code -/
  rsp : List Nat := []
  /-- RESP in 1/16 code -/
  resp : Nat := 0
  deriving DecidableEq, Repr

/-- A redistribution whose flags are running (R333). -/
structure Redist where
  /-- key of the dropped string -/
  key : Nat
  /-- head and band flagged -/
  head : Nat
  /-- band -/
  band : Nat
  /-- detection tick -/
  time : Nat
  /-- raised drives apply -/
  applied : Bool
  deriving DecidableEq, Repr

/-- The lamp drive beside its registers (R299 to R340). -/
structure LmpSt where
  /-- lamp target block (R303) -/
  entries : List LampEntry := []
  /-- strings -/
  strs : Tbl StrSt := []
  /-- response tables, key 128 * (16 SAT + STR) + head-band (R337) -/
  resps : Tbl Resp := []
  /-- LAMP_LOADs that wait for drives and satellites: slot and entries (R306) -/
  load : List (Nat × Nat) := []
  /-- redistributions under way (R333) -/
  redist : List Redist := []
  /-- local head-bands whose drop left a deficit for good: head-band (R334) -/
  deficit : Tbl Bool := []
  /-- LSTB level (R316) -/
  lstb : Bool := false
  /-- LBAND[2:0] (R316) -/
  lband : Nat := 0
  /-- TIME of the latest LBAND change (R317) -/
  lbandAt : Nat := 0
  /-- TIME at which the LBAND hold ends; none while no hold runs (R316) -/
  hold : Option Nat := none
  /-- headroom samples of the servo period: value, SAT, STR (R321) -/
  hr : List (Nat × Nat × Nat) := []
  /-- satellite tables of the bus head are pending after an EXPOSURE commit (R319) -/
  satPend : Bool := false
  /-- lamp test: strings left and pulses made of the first (R339) -/
  test : List Nat := []
  /-- pulses made of the string under test (R339) -/
  testPulses : Nat := 0
  /-- TIME at which RAIL_OK cleared; 0 while it has not been set since the rail started (R323) -/
  railSince : Nat := 0
  deriving DecidableEq, Repr
/-- A record of an Attic bank as it stands in the flash (R240, R241). -/
structure BankRec where
  /-- the 16 header bytes (R240) -/
  hdr : List Byte
  /-- payload -/
  payload : List Byte
  deriving DecidableEq, Repr

/-- An Attic bank in the flash; an erased bank is empty (R238). -/
structure Bank where
  /-- the 64 header bytes; empty while erased (R239) -/
  hdr : List Byte := []
  /-- records in bank order (R240) -/
  recs : List BankRec := []
  /-- the 64 bytes of the commit record; empty while not written (R243) -/
  commit : List Byte := []
  deriving DecidableEq, Repr

/-- The Attic beside its registers (R236 to R261). -/
structure AttSt where
  /-- step of R249 in progress, 1 to 7; 0 idle -/
  step : Nat := 0
  /-- CMD slot of the ATT_SAVE in progress; none for a save of the Housekeeper -/
  slot : Option Nat := none
  /-- records of the snapshot (R249 step 1) -/
  snap : List BankRec := []
  /-- bank A -/
  bankA : Bank := {}
  /-- bank B -/
  bankB : Bank := {}
  /-- journal entries of 64 bytes, in order (R254) -/
  jrnl : List (List Byte) := []
  /-- retirement lists that wait for the end of a save to be appended (R256) -/
  late : List (List Byte) := []
  /-- the Housekeeper wants a save (R249, R256) -/
  want : Bool := false
  /-- fuse block as read at the cold start (R257) -/
  fuses : FuseBlock := ⟨[], [], false, false⟩
  /-- banks that were written and failed a check at the latest start; P0 messages follow in READY (R245) -/
  bad : List Nat := []
  deriving DecidableEq, Repr

/-- What a converter converts: an injected request, or an entry of the sequence of a converter (R411, R412, R433). -/
inductive Conv where
  | inj (owner word : Nat)
  | entry (owner : Nat) (e : Nat)
  deriving DecidableEq, Repr

/-- A converter of the aux block (R403 to R436). -/
structure CvSt where
  /-- a pass of its regular sequence is in progress (R411) -/
  pass : Bool := false
  /-- entry the pass converts next -/
  entry : Nat := 0
  /-- the entries of the pass, SEQA and SEQB as the pass began (R411) -/
  seq : List (Nat × Nat) := []
  /-- POS of AXIS at the trigger of the pass (R424) -/
  pos : Nat := 0
  /-- a regular trigger held by a calibration (R431) -/
  held : Bool := false
  /-- TIME at which EN was set (R411) -/
  enAt : Nat := 0
  /-- POS0: POS of AXIS when EN was set (R411) -/
  pos0 : Nat := 0
  /-- own range of each entry with AUTO (R413) -/
  range : Tbl Nat := []
  /-- consecutive small samples of each entry (R413) -/
  small : Tbl Nat := []
  /-- injected requests that wait, oldest first: converter whose AUX_INJ took it, and the word (R412, R433) -/
  inj : List (Nat × Nat) := []
  /-- conversion under way on this converter -/
  cur : Option Conv := none
  /-- the twin's sequence is served next (R433) -/
  turn : Bool := false
  /-- a calibration waits to begin (R431) -/
  calPend : Bool := false
  /-- range that the calibration measures now or next; none when it does not calibrate -/
  calRange : Option Nat := none
  /-- a range is being measured: TIME at which it ends (R430) -/
  calEnd : Option Nat := none
  /-- first failing range and its code (R431) -/
  calFail : Option (Nat × Nat) := none
  /-- failing ranges so far -/
  calFails : Nat := 0
  /-- the first calibration after the start has run (R429) -/
  calDone : Bool := false
  /-- TIME of the latest switch of the reference (R422) -/
  refAt : Nat := 0
  /-- change tick of the filter (R416) -/
  changeAt : Nat := 0
  /-- channel pair that the multiplexer holds -/
  chan : Nat × Nat := (36, 36)
  /-- settled results of the entry under way (R416) -/
  settled : Nat := 0
  /-- results of the message under assembly, 32-bit items (R424) -/
  stream : List Nat := []
  /-- TIME of the first of them -/
  streamAt : Nat := 0
  /-- POS for word 2 of the message -/
  streamPos : Nat := 0
  deriving DecidableEq, Repr

/-- The aux block beside its registers (R403 to R436). -/
structure AuxSt where
  /-- converters FC0, FC1, PC0, PC1 -/
  cvs : Tbl CvSt := []
  /-- shadow of AUX_TS of one result slot, per reading master: offset of AUX_RES_LO and the 48-bit time (R423) -/
  ts : Tbl (Nat × Nat) := []
  /-- a background calibration that the Pantry deferred is due (R429) -/
  calDue : Bool := false
  deriving DecidableEq, Repr

/-- A record of the transport recorder (R439). -/
structure RecEntry where
  /-- STATE -/
  st : BitVec 64
  /-- TIME of the sample -/
  time : Nat
  /-- TRIG -/
  trig : Bool := false
  /-- ARM -/
  arm : Bool := false
  /-- RESUME -/
  resume : Bool := false
  /-- REPEAT -/
  rep : Nat := 0
  deriving DecidableEq, Repr

/-- The transport recorder beside its registers (R437 to R457). -/
structure RecSt where
  /-- records in memory, oldest first (R453) -/
  mem : List RecEntry := []
  /-- previous sample (R440) -/
  prev : BitVec 64 := 0
  /-- tick of the latest sample that a command brought -/
  sampled : Option Nat := none
  /-- state before the change of the latest record (R441) -/
  before : BitVec 64 := 0
  /-- sample number of the last change that the latest record represents (R441) -/
  lastK : Nat := 0
  /-- sample number of the last change that the record before it represents (R441) -/
  lastJ : Nat := 0
  /-- the ARM record is owed (R440) -/
  armOwed : Bool := false
  /-- trigger causes that wait for the next sample (R443) -/
  causes : Nat := 0
  /-- the next sample is the first after SLEEP (R455) -/
  resume : Bool := false
  /-- post records stored (R446) -/
  post : Nat := 0
  /-- POST_EFF (R446) -/
  postEff : Nat := 0
  /-- changes still to be counted in REC_LOST (R447) -/
  toCount : Nat := 0
  /-- TIME of the trigger sample -/
  trigAt : Nat := 0
  /-- TIME of completion; none outside a completed capture -/
  doneAt : Option Nat := none
  /-- the message of R448 is owed -/
  msgOwed : Bool := false
  /-- a cause has been rejected since PRE was last left (R449) -/
  rejected : Bool := false
  /-- DISARM waits for the end of CLEAR or COPY (R452) -/
  disarm : Bool := false
  /-- REC_SPAN in force (R450) -/
  span : Nat := 0
  /-- REC_TRIG in force -/
  trig : Nat := 0
  /-- REC_MASK in force -/
  mask : Nat := 0
  /-- REC_PMASK in force -/
  pmask : Nat := 0
  /-- REC_PVAL in force -/
  pval : Nat := 0
  /-- RPT_EN in force -/
  rpt : Bool := false
  /-- latched record of each reading master: 0 BAR 0, 1 BAR 4, 2 Housekeeper (R453) -/
  latch : Tbl (List Byte) := []
  deriving DecidableEq, Repr

/-- A scheduled replica change (R465): the master tick of the cause, and what it does on the tick + 150. -/
structure TokStep where
  /-- master tick t of the cause -/
  cause : Nat
  /-- master axis -/
  axis : Nat
  /-- TYPE: an XSYNC cause instead of a POS change -/
  xsync : Bool
  /-- direction forward -/
  fwd : Bool
  deriving DecidableEq, Repr

/-- The Hallway beside its registers (R458 to R473). -/
structure HwySt where
  /-- symbol lock of receivers U and D (R469) -/
  lock : Tbl Bool := []
  /-- receivers declared broken (R471) -/
  broken : Tbl Bool := []
  /-- replicas of the master axes, 48 bits (R465) -/
  repl : Tbl Nat := []
  /-- replica changes to come, oldest first (R465) -/
  steps : List TokStep := []
  /-- tokens sent in the present superframe (R464) -/
  sent : Nat := 0
  /-- tick of the latest forwarded cause (R464) -/
  lastFwd : Option Nat := none
  /-- superframe count (R461) -/
  seq : Nat := 0
  /-- message slot that the master carries into its next superframe: MCTL bytes and MDATA (R467) -/
  slot : Option (Nat × Nat × List Byte) := none
  /-- part of the host message that goes next, 0 to 3; none when no message is in transit (R468) -/
  txPart : Option Nat := none
  /-- a part has been placed and not yet taken -/
  txOut : Bool := false
  /-- parts of a host message received so far, in order (R468) -/
  rx : List Byte := []
  /-- sender of those parts -/
  rxSrc : Nat := 0
  /-- K received (R466) -/
  k : Nat := 32768
  /-- FILL received or merged, in 1/1,024 (R462) -/
  fill : Nat := 0
  /-- KLIM received or merged, U1.15 (R462) -/
  klim : Nat := 65535
  /-- FLAGS received or merged (R462) -/
  flags : Nat := 0
  /-- TIME of the latest valid superframe (R472) -/
  lastSf : Option Nat := none
  /-- enumeration has completed: the ring is joined (R469) -/
  joined : Bool := false
  /-- enumeration is under way (R469, R473) -/
  enuming : Bool := false
  /-- ALL_READY has been seen since the latest enumeration (R472) -/
  allSeen : Bool := false
  /-- the fold is not yet complete (R471) -/
  folding : Bool := false
  /-- HOP of the latest valid superframe of each receiver, own repeat added; unlisted 0 none yet (R461, R471) -/
  hops : Tbl Nat := []
  /-- FILL, KLIM and FLAGS that came back to the master on each receiver (R462) -/
  rets : List (Nat × Nat × Nat × Nat) := []
  /-- TIME is loaded at the next superframe (R470) -/
  timeLoad : Bool := false
  /-- what a warm start found of the ring: unchanged or not; none before the first valid superframe (R525) -/
  same : Option Bool := none
  /-- lines lost during the fold: head, first and last line number (R471) -/
  lost : List (Nat × Nat × Nat) := []
  deriving DecidableEq, Repr

/-- A lamp satellite (R474 to R486). -/
structure Sat where
  /-- identity image bytes read so far (R481) -/
  ident : List Byte := []
  /-- SERIAL recorded at this position (R485) -/
  serial : Option Nat := none
  /-- STATUS of its latest valid response: TABLE_ACTIVE, TABLE_PENDING, CMD_ERR (R476) -/
  status : Nat := 0
  /-- LIT of its last report with a valid CRC (R483, R212); none before one -/
  lit : Option Nat := none
  /-- TEMP of its last report (R483) -/
  temp : Int := 0
  /-- table pages still to be written; none when no table waits (R482) -/
  pages : List Nat := []
  /-- LATCH_TABLE follows the pages (R477) -/
  latch : Bool := false
  /-- command whose response the cycle under way returns; 255 where it returns none (R475, R477) -/
  sent : Nat := 255
  /-- page of that command -/
  sentPage : Nat := 0
  /-- command sent in the cycle under way -/
  out : Nat := 0
  /-- page of that command -/
  outPage : Nat := 0
  /-- identity page 0 is to be read again (R485, R486) -/
  check : Bool := false
  /-- a replaced or renumbered satellite: dark until a latch (R486) -/
  dark : Bool := false
  /-- renumbered: no table is written until the next LAMP_LOAD (R486) -/
  renum : Bool := false
  deriving DecidableEq, Repr

/-- The lamp link beside its registers (R474 to R489). -/
structure LnkSt where
  /-- satellites by position -/
  sats : Tbl Sat := []
  /-- consecutive cycles with a failed CRC (R485) -/
  streak : Nat := 0
  /-- MARK count of the latest cycle (R479) -/
  marks : Option Nat := none
  /-- band-lines carry LAMP_DEFICIT because of a link fault (R485) -/
  deficit : Bool := false
  /-- identity pages are all read and bin records stand (R481) -/
  known : Bool := false
  deriving DecidableEq, Repr


/-- The whole block. -/
structure State where
  /-- MODEL: the commands that are waiting, first in, first out -/
  pending : List Instr := []
  /-- MODEL: deadlines the device itself has set: tick and command, in the order they were set -/
  agenda : List (Nat × Instr) := []
  /-- TIME, the 64-bit counter of CORE ticks (R40) -/
  time : Nat := 0
  /-- MODEL: number of free values drawn so far; no rule reads it -/
  fresh : Nat := 0
  /-- registers of BAR 0 by byte offset; unlisted ones hold the reset value of the register map (R9, R16) -/
  regs : Tbl Word := []
  /-- active copies of the band-set and live-class registers by byte offset (R83, R123, R175) -/
  active : Tbl Word := []
  /-- tick of the latest write to a pending copy of a band set (R85) -/
  bandTick : Nat := 0
  /-- pending copies written on tick bandTick, by byte offset, with what each held before that tick (R85) -/
  bandLog : Tbl (Option Word) := []
  /-- MODEL: what the device has sent to the host, oldest first (R343, R378) -/
  emits : List Emit := []
  /-- MODEL: data of the latest register read -/
  rdata : Word := 0
  /-- shadow of the host's BAR 0 reads (R541) -/
  shadow0 : Option Shadow := none
  /-- shadow of the host's BAR 4 reads (R541) -/
  shadow4 : Option Shadow := none
  /-- shadow of the Housekeeper's reads (R541) -/
  shadowK : Option Shadow := none
  /-- major mode -/
  mode : ModeSt := {}
  /-- start in progress -/
  start : StartSt := {}
  /-- firmware slots and Housekeeper pause -/
  fw : FwSt := {}
  /-- Landing -/
  lnd : LndSt := {}
  /-- performance counters -/
  pmc : PmcSt := {}
  /-- host interface -/
  host : HostSt := {}
  /-- sensor heads H0 to H15 -/
  heads : Tbl HeadSt := []
  /-- taps T0 to T255 -/
  taps : Tbl TapSt := []
  /-- tap groups G0 to G15 -/
  groups : Tbl GroupSt := []
  /-- pixel pipeline and shading store -/
  pipe : PipeSt := {}
  /-- supplies and Pantry -/
  pwr : PwrSt := {}
  /-- image calibration -/
  shd : ShdSt := {}
  /-- motion -/
  mot : MotSt := {}
  /-- lamp drive -/
  lmp : LmpSt := {}
  /-- Attic -/
  att : AttSt := {}
  /-- aux block -/
  aux : AuxSt := {}
  /-- transport recorder -/
  recd : RecSt := {}
  /-- Hallway -/
  hwy : HwySt := {}
  /-- lamp link -/
  lnk : LnkSt := {}
  deriving DecidableEq, Repr

/-- The block right after VDDH power-on: OFF, held in reset (R492, R502). Every register holds its reset value, every
queue is empty and nothing runs. -/
def State.reset : State := {}

end Sys2Proof.Machine
end

