-- ==== Sys2Proof/Machine/Ops.lean ====
section
/-! DEFINITION. The operations that every family of commands shares: reading and writing register fields, event bits, the
agenda of deadlines, the performance counters' event input, messages of the Landing, interrupt sources, and who may reach
which register in which mode. -/

namespace Sys2Proof.Machine

/-- The next state of a command that has one. -/
abbrev ok (s : State) : Host.Outcome State Fault Refusal := .next s

/-- The register at byte offset off, as a number. -/
def raw (s : State) (off : Nat) : Nat := (tget regReset s.regs off).toNat

/-- Store v at byte offset off. -/
def setRaw (s : State) (off v : Nat) : State := { s with regs := tset regReset s.regs off (BitVec.ofNat 32 v) }

/-- A field of a register (R10). -/
def fget (s : State) (f : Fld) : Nat := bitsOf (raw s f.off) f.hi f.lo

/-- Replace a field of a register, the other bits unchanged. -/
def fset (s : State) (f : Fld) (x : Nat) : State := setRaw s f.off (withBits (raw s f.off) f.hi f.lo x)

/-- A one-bit field reads 1. -/
def flag (s : State) (f : Fld) : Bool := fget s f == 1

/-- Set or clear a one-bit field. -/
def setFlag (s : State) (f : Fld) (b : Bool) : State := fset s f (b2n b)

/-- A 64-bit value into a register pair. -/
def setPair (lo hi v : Nat) (s : State) : State := setRaw (setRaw s lo (v % 2 ^ 32)) hi (v / 2 ^ 32 % 2 ^ 32)

/-- The 64-bit value of a register pair. -/
def getPair (s : State) (lo hi : Nat) : Nat := raw s lo + raw s hi * 2 ^ 32

/-- Apply several field writes in order. -/
def fsets (s : State) (l : List (Fld × Nat)) : State := l.foldl (fun a p => fset a p.1 p.2) s

/-- The active copy of a register that has one (R83, R123). -/
def act (s : State) (off : Nat) : Nat := (tget regReset s.active off).toNat

/-- A field of the active copy. -/
def actField (s : State) (f : Fld) : Nat := bitsOf (act s f.off) f.hi f.lo

/-- Make the pending copy at off the active one. -/
def activate (s : State) (off : Nat) : State :=
  { s with active := tset regReset s.active off (tget regReset s.regs off) }

/-- Make the pending copies at several offsets the active ones. -/
def activateAll (s : State) (l : List Nat) : State := l.foldl activate s

/-- The next free value's draw number, and the state that has used it up. -/
def draw (s : State) : Nat × State := (s.fresh, { s with fresh := s.fresh + 1 })

/-- Note that command c falls due at tick t. -/
def schedule (s : State) (t : Nat) (c : Instr) : State := { s with agenda := s.agenda ++ [(t, c)] }

/-- Forget a deadline. -/
def cancel (s : State) (c : Instr) : State := { s with agenda := s.agenda.filter fun p => decide (p.2 ≠ c) }

/-- Send something out of the device. -/
def emit (s : State) (e : Emit) : State := { s with emits := s.emits ++ [e] }

/-- Do f for 0 .. n - 1 in order. -/
def forN (n : Nat) (f : Nat → State → State) (s : State) : State := (List.range n).foldl (fun a k => f k a) s

/-- k as an index below n, if it is one. -/
def finOf (n k : Nat) : Option (Fin n) := if h : k < n then some ⟨k, h⟩ else none

/-- f when b holds. -/
def whenS (b : Bool) (f : State → State) (s : State) : State := if b then f s else s

/-! Modes and access (R29, R30, R593). -/

/-- The number of a mode (R513). -/
def modeNum : Mode → Nat
  | .off => 0 | .sleep => 1 | .coldStart => 2 | .warmStart => 3 | .ready => 4 | .scan => 5 | .hold => 6
  | .calibrate => 7 | .service => 8 | .limp => 9 | .halt => 10 | .diagnose => 11

/-- The mode of a number; 12 to 15 are reserved (R513). -/
def modeOf : Nat → Option Mode
  | 0 => some .off | 1 => some .sleep | 2 => some .coldStart | 3 => some .warmStart | 4 => some .ready
  | 5 => some .scan | 6 => some .hold | 7 => some .calibrate | 8 => some .service | 9 => some .limp
  | 10 => some .halt | 11 => some .diagnose | _ => none

/-- The present mode. -/
abbrev modeIs (s : State) (m : Mode) : Bool := decide (s.mode.mode = m)

/-- One of the modes. -/
def modeIn (s : State) (l : List Mode) : Bool := l.any fun m => modeIs s m

/-- The modes of R364 and R535 in which the machine is up. -/
def upModes : List Mode := [.ready, .scan, .hold, .calibrate, .service, .limp, .diagnose]

/-- A start is in progress. -/
def starting (s : State) : Bool := modeIs s .coldStart || modeIs s .warmStart

/-- The root PLL is locked, so that the divided clocks and TIME run (R35, R36). -/
def rootRuns (s : State) : Bool := flag s CLK_STATUS_ROOT_LOCK

/-- The MSI-X table and PBA of BAR 0 (R30, R377). -/
def msixOff (off : Nat) : Bool := decide (0x3800 ≤ off) && decide (off < 0x3C08)

/-- BAR 0 block of an offset (R28). -/
def blockOf (off : Nat) : Nat := off / 0x1000

/-- A host write to this offset acts in the present mode (R29, R30, R593). -/
def hostMay (s : State) (off : Nat) : Bool :=
  if modeIs s .off then false
  else if msixOff off then true
  else if !rootRuns s then false
  else if modeIs s .sleep then decide (blockOf off = 0) || decide (blockOf off = 2)
  else if starting s then decide (blockOf off = 0) || (decide (2 ≤ blockOf off) && decide (blockOf off ≤ 4))
  else true

/-! Performance-counter events (R545 to R549). -/

/-- The attributes an event carries (R548): privilege bit, master bit, BAR 0 offset, Cellar address / 64, class. -/
structure Attr where
  priv : Option Nat := none
  mst  : Option Nat := none
  bar0 : Option Nat := none
  cel  : Option Nat := none
  cls  : Option Nat := none
  deriving DecidableEq, Repr

/-- A filter that is enabled passes only an event that carries a matching attribute (R549). -/
def filterPass (en : Bool) (mask : Nat) (a : Option Nat) : Bool :=
  !en || match a with | some k => bitOf mask k | none => false

/-- Counter k selects event type ev and its filters pass the attributes (R545, R549). -/
def pmcPass (s : State) (k ev : Nat) (a : Attr) : Bool :=
  let addr := if flag s (PMC_SEL_SPACE k) then a.cel else a.bar0
  flag s (PMC_SEL_EN k) && fget s (PMC_SEL_EVSEL k) == ev
    && filterPass (flag s (PMC_SEL_PRIV_EN k)) (fget s (PMC_SEL_PRIV k)) a.priv
    && filterPass (flag s (PMC_SEL_MST_EN k)) (fget s (PMC_SEL_MST k)) a.mst
    && (!flag s (PMC_SEL_ADDR_EN k) ||
        match addr with
        | some x => (x &&& raw s (PMC_AMASK k)) == (raw s (PMC_ABASE k) &&& raw s (PMC_AMASK k))
        | none => false)
    && filterPass (flag s (PMC_SEL_CLS_EN k)) (fget s (PMC_SEL_CLS k)) a.cls

/-- Counter k after n more events: modulo 2^48, a wrap noted (R546, R555). -/
def pmcAdd (n k : Nat) (s : State) : State :=
  let v := nget s.pmc.cnt k + n
  let w := v % 2 ^ 48
  let p := { s.pmc with cnt := nset s.pmc.cnt k w }
  if v < 2 ^ 48 then { s with pmc := p }
  else
    let s := { s with pmc := { p with wrapped := p.wrapped ++ [(k, w)] } }
    match finOf 8 k with
    | some i => schedule s s.time (.pmcOverflow i)
    | none => s

/-- n events of type ev with attributes a reach the counters (R545). -/
def pmcEvents (ev : Nat) (a : Attr) (n : Nat) (s : State) : State :=
  if flag s PMC_CTL_FREEZE || n == 0 || modeIs s .sleep then s
  else forN 8 (fun k s => whenS (pmcPass s k ev a) (pmcAdd n k) s) s

/-- One event without attributes. -/
def pmcEvent (ev : Nat) (s : State) : State := pmcEvents ev {} 1 s

/-! The Landing's input side (R384, R387, R390, R391). -/

/-- The words of a message: header, TIME and the items (R389). -/
def Msg.len (m : Msg) : Nat := m.items.length + 2

/-- Words of the store in use (R383, R392): closed messages, pushed words of open ones, the port's message. -/
def lndUsed (s : State) : Nat :=
  (s.lnd.queue.map fun d => d.msg.len).sum
    + (s.lnd.opened.map fun o => if o.lost then 0 else o.pushed).sum
    + (match s.lnd.port with | some p => p.msg.len | none => 0)

/-- A message of class c is lost (R391). -/
def lndLose (c : Nat) (s : State) : State :=
  let s := setRaw s (LND_LOST c) (satAdd 0xFFFFFFFF (raw s (LND_LOST c)) 1)
  let s := setFlag s LND_EVENTS_LOST true
  pmcEvents 0x34 { cls := some c } 1 s

/-- The oldest complete message of the lowest class not above c that has one: the victim of R390. -/
def lndVictim (s : State) (c : Nat) : Option DoneMsg :=
  let pick (k : Nat) := s.lnd.queue.find? fun d => decide (d.msg.cls = k) && decide (d.close < s.time)
  [3, 2, 1, 0].foldl (fun a k => match a with | some d => some d | none => if k < c then none else pick k) none

/-- Room for one more word for a message of class c: a free word, or a victim given up; none when the message needing the
word is itself lost (R390). -/
def lndRoom (c : Nat) (s : State) : Option State :=
  if lndUsed s < 4096 then some s
  else
    match lndVictim s c with
    | some d => some (lndLose d.msg.cls
        { s with lnd := { s.lnd with queue := s.lnd.queue.filter fun e => decide (e ≠ d) } })
    | none => none

/-- A producer's open message pushes one word; after its last word it closes (R384, R385, R390). -/
def lndPush (src : Nat) (s : State) : State :=
  match s.lnd.opened.find? fun o => decide (o.msg.src = src) with
  | none => s
  | some o =>
    let rest := s.lnd.opened.filter fun p => decide (p.msg.src ≠ src)
    let r : State × Bool :=
      if o.lost then (s, true)
      else match lndRoom o.msg.cls s with
        | some s => (pmcEvents 0x31 { cls := some o.msg.cls } 1 s, false)
        | none => (lndLose o.msg.cls s, true)
    let s := r.1
    let o := { o with pushed := o.pushed + 1, lost := r.2 }
    if o.pushed < o.msg.len then { s with lnd := { s.lnd with opened := o :: rest } }
    else if o.lost then { s with lnd := { s.lnd with opened := rest } }
    else
      let d : DoneMsg := ⟨o.msg, o.seq, s.time⟩
      let older := s.lnd.queue.filter fun e => decide (e.close < s.time) || decide (e.msg.src ≤ src)
      let newer := s.lnd.queue.filter fun e => !(decide (e.close < s.time) || decide (e.msg.src ≤ src))
      { s with lnd := { s.lnd with opened := rest, queue := older ++ [d] ++ newer } }

/-- A message opens with its first word: it takes the class's next SEQ (R384, R387). -/
def lndOpen (m : Msg) (s : State) : State :=
  let q := nget s.lnd.seqs m.cls
  let s := { s with lnd := { s.lnd with
    seqs := nset s.lnd.seqs m.cls ((q + 1) % 0x10000)
    opened := s.lnd.opened ++ [⟨m, q, 0, false⟩] } }
  lndPush m.src (pmcEvents 0x30 { cls := some m.cls } 1 s)

/-- A FAULT cause of the transport recorder (R443): it waits for the next sample. -/
def recFaultCause (s : State) : State :=
  if bitOf s.recd.trig 28 then { s with recd := { s.recd with causes := s.recd.causes + 1 } } else s

/-- Raise a message: it opens at once unless its producer has one open (R384). A P0 message is a recorder cause (R443). -/
def raiseMsg (m : Msg) (s : State) : State :=
  let s := if m.cls = 0 then recFaultCause s else s
  if s.lnd.opened.any fun o => decide (o.msg.src = m.src) then
    { s with lnd := { s.lnd with waiting := s.lnd.waiting ++ [m] } }
  else lndOpen m s

/-- One tick of every producer (R384): each open message pushes a word in SRC order; a waiting message opens once its
producer is free. -/
def lndTick (s : State) : State :=
  let srcs := (List.range 64).filter fun k => s.lnd.opened.any fun o => decide (o.msg.src = k)
  let s := srcs.foldl (fun a k => lndPush k a) s
  let ready := (List.range 64).filterMap fun k =>
    if srcs.contains k || s.lnd.opened.any (fun o => decide (o.msg.src = k)) then none
    else s.lnd.waiting.find? fun m => decide (m.src = k)
  ready.foldl (fun a m => lndOpen m { a with lnd := { a.lnd with waiting := a.lnd.waiting.erase m } }) s

/-- Raise a message of class cls from block src with its items; word 1 is the present TIME (R389). -/
def raise (cls src code : Nat) (items : List Nat) (s : State) : State :=
  raiseMsg ⟨cls, src, code, s.time, items.map (BitVec.ofNat 64)⟩ s

/-- As raise, with the TIME that the rule names (R389). -/
def raiseAt (t cls src code : Nat) (items : List Nat) (s : State) : State :=
  raiseMsg ⟨cls, src, code, t, items.map (BitVec.ofNat 64)⟩ s

/-- A signed item of a message (R389). -/
def item (x : Int) : Nat := toField 64 x

/-- The code of a message whose rule sets a bit and names no code (R388 item 2). -/
def evCode (f : Fld) : Nat := 0x80 + f.lo

/-- Set an event bit and raise a message with the code of that bit (R388). -/
def report (cls : Nat) (f : Fld) (items : List Nat) (s : State) : State :=
  raise cls (blockOf f.off) (evCode f) items (setFlag s f true)

/-! Interrupt sources and the host's error registers (R377, R378). -/

/-- Source k becomes pending; with EN it signals when its holdoff ends (R377, R378). -/
def pendIrq (k : Nat) (s : State) : State :=
  let s := { s with host := { s.host with isr := bset s.host.isr k true } }
  match finOf 22 k with
  | some i => schedule s (max s.time (nget s.host.holdEnd k)) (.msixSignal i)
  | none => s

/-- A bit of HOST_EVENTS sets (R377 source 21); a bit that stands sets nothing. -/
def hostEvent (f : Fld) (s : State) : State := if flag s f then s else pendIrq 21 (setFlag s f true)

/-- HOST_ERRINFO latches the first error while VALID is 0. -/
def errInfo (kind ring idx : Nat) (s : State) : State :=
  if flag s HOST_ERRINFO_VALID then s
  else fsets s [(HOST_ERRINFO_VALID, 1), (HOST_ERRINFO_KIND, kind), (HOST_ERRINFO_RING, ring), (HOST_ERRINFO_IDX, idx)]

/-- Bus Master Enable is set and the link is up, so that memory requests and MSI-X messages go out (R345, R597). -/
def busOn (s : State) : Bool := flag s HOST_STATUS_BME && flag s HOST_STATUS_LINK_UP && rootRuns s && !modeIs s .sleep

/-! Host accesses and rings. -/

/-- The row of a register, its masks zero for a reserved offset (R11). -/
def rowMasks (off : Nat) : RegRow := (rowOf off).getD ⟨"", 0, 0, 0, 0, 0, 0, 0, 0, 0, 0, 0, 0, 0⟩

/-- What a host write to off does: it counts as a BAR 0 write (R548) and acts where the mode lets it (R29, R30, R593). -/
def onWrite (off : Nat) (f : State → State) (s : State) : State :=
  let s := pmcEvents 0x11 { priv := some 0, mst := some 0, bar0 := some off } 1 s
  if hostMay s off then f s else s

/-- As onWrite, the event counted after the effect (R550, R551). -/
def onWriteThen (off : Nat) (f : State → State) (s : State) : State :=
  pmcEvents 0x11 { priv := some 0, mst := some 0, bar0 := some off } 1 (if hostMay s off then f s else s)

/-- What a register holds for a read that no computed value answers: during a start, a block that is not accessible reads as
its reset or kept value, and in SLEEP as 0 (R29, R30). -/
def plainRead (s : State) (off : Nat) : Nat :=
  if hostMay s off || !rootRuns s then raw s off
  else if modeIs s .sleep || modeIs s .off then 0
  else
    let r := rowMasks off
    let keep := r.kept ||| r.held
    (raw s off &&& keep) ||| ((regReset off).toNat &&& (0xFFFFFFFF ^^^ keep))

/-- A read of a register with RC fields: the value is returned, then the RC fields are 0 (R12, R14). A read that the mode
turns away, or of a stopped root, clears nothing (R29, R30, R593). -/
def rcRead (off : Nat) (s : State) : State :=
  let v := plainRead s off
  let s := { s with rdata := BitVec.ofNat 32 v }
  let s := if hostMay s off then setRaw s off (v &&& (0xFFFFFFFF ^^^ (rowMasks off).rc)) else s
  pmcEvents 0x10 { priv := some 0, mst := some 0, bar0 := some off } 1 s

/-- Entries of ring r (R352). -/
def ringN (s : State) (r : Nat) : Nat := 2 ^ clampNat 6 16 (fget s (HOST_RCTL_LOG2N r))

/-- Base address of ring r (R352). -/
def ringBase (s : State) (r : Nat) : Nat := raw s (HOST_RBASE_HI r) * 2 ^ 32 + fget s (HOST_RBASE_LO_BASE_LO r) * 4096

/-- Device index of ring r (R353). -/
def didx (s : State) (r : Nat) : Nat := fget s (HOST_RSTAT_DIDX r)

/-- Host index of ring r (R353). -/
def hidx (s : State) (r : Nat) : Nat := fget s (HOST_RHIDX_HIDX r)

/-- (a - b) mod 2N (R352). -/
def ringDiff (n a b : Nat) : Nat := (a + 2 * n - b % (2 * n)) % (2 * n)

/-- Ring r is enabled. -/
def ringOn (s : State) (r : Nat) : Bool := flag s (HOST_RCTL_EN r)

/-- CPL or EVT has a slot that the host has released (R359). -/
def slotFree (s : State) (r : Nat) : Bool :=
  ringOn s r && decide (ringDiff (ringN s r) (didx s r) (hidx s r) < ringN s r)

/-- An enabled CMD or IMG ring has an entry that the device has not taken (R352). -/
def entryPosted (s : State) (r : Nat) : Bool := ringOn s r && decide (didx s r ≠ hidx s r)

/-- The device index moves on by one (R352). -/
def ringAdvance (r : Nat) (s : State) : State := fset s (HOST_RSTAT_DIDX r) ((didx s r + 1) % (2 * ringN s r))

/-- PHASE of an entry written at the present device index (R366). -/
def ringPhase (s : State) (r : Nat) : Bool := didx s r / ringN s r % 2 == 0

/-- A memory write to the host; class as R548 gives it for 0x15. -/
def memWrite (cls addr : Nat) (b : List Byte) (s : State) : State :=
  pmcEvents 0x15 { priv := some 2, mst := some 3, cls := some cls } 1 (emit s (.memWrite addr b))

/-- Number of a reading master, for its latches. -/
def masterNum : Master → Nat
  | .hostBar0 => 0 | .hostBar4 => 1 | .housekeeper => 2

/-- A BAR read counts as an event of its master (R548). -/
def readEvent (ms : Master) (off : Nat) (s : State) : State :=
  match ms with
  | .hostBar0 => pmcEvents 0x10 { priv := some 0, mst := some 0, bar0 := some off } 1 s
  | .hostBar4 => pmcEvents 0x12 { priv := some 1, mst := some 0 } 1 s
  | .housekeeper => pmcEvents 0x10 { priv := some 2, mst := some 1, bar0 := some off } 1 s

/-- A master may read a register of a block in the present mode (R29, R30, R593). -/
def mayRead (s : State) (ms : Master) (off : Nat) : Bool :=
  decide (ms ≠ .hostBar4) && hostMay s off

end Sys2Proof.Machine
end

