-- ==== Sys2Proof/Machine/Landing.lean ====
section
/-! DEFINITION. The Landing's drains, its port, flush and control (spec/12, R392 to R401). -/

namespace Sys2Proof.Machine

/-- Word 0 of a message (R386). -/
def msgHeader (m : Msg) (seq : Nat) (phase : Bool) : Nat :=
  seq % 0x10000 * 2 ^ 48 + m.code % 256 * 2 ^ 40 + m.src % 64 * 2 ^ 24 + b2n phase * 256 + 128
    + m.cls % 4 * 32 + m.len % 32

/-- Word i of a message (R389). -/
def msgWord (m : Msg) (seq : Nat) (phase : Bool) (i : Nat) : Nat :=
  if i = 0 then msgHeader m seq phase
  else if i = 1 then m.time % 2 ^ 64
  else (m.items.getD (i - 2) 0).toNat

/-- Words 1 to LEN - 1 of a message as bytes (R393). -/
def msgBody (m : Msg) (seq : Nat) : List Byte :=
  (List.range (m.len - 1)).flatMap fun i => leBytes (msgWord m seq false (i + 1)) 8

/-- The message that a drain takes: the oldest complete one of the highest class (R385, R392). -/
def lndNext (s : State) : Option DoneMsg :=
  let pick (k : Nat) := s.lnd.queue.find? fun d => decide (d.msg.cls = k) && decide (d.close < s.time)
  [0, 1, 2, 3].foldl (fun a k => match a with | some d => some d | none => pick k) none

/-- A drain takes message d out of the queue (R392). -/
def lndTake (d : DoneMsg) (s : State) : State :=
  { s with lnd := { s.lnd with queue := s.lnd.queue.filter fun e => decide (e ≠ d) } }

/-- LND_STATUS (R386, R392, R396). -/
def lndStatus (s : State) : Nat :=
  let n := lndNext s
  b2n n.isSome * 2 ^ 31 + b2n s.lnd.port.isSome * 2 ^ 30
    + (match n with | some d => d.msg.cls % 4 * 2 ^ 28 + d.msg.len % 32 * 2 ^ 16 | none => 0)
    + lndUsed s % 2 ^ 13

/-- The DMA drain may pop: DMA_EN, EVT enabled with a released slot, Bus Master Enable (R393). -/
def dmaMayPop (s : State) : Bool := flag s LND_CTL_DMA_EN && slotFree s 2 && busOn s

/-- LANDING_DMA_POP (R393): the next message goes into the EVT slot at DIDX, words 1 onward first, then word 0 with LEN and
PHASE; DIDX advances and the class source becomes pending. -/
def execLandingDmaPop (s : State) : Host.Outcome State Fault Refusal :=
  match dmaMayPop s, lndNext s with
  | true, some d =>
    let a := ringBase s 2 + didx s 2 % ringN s 2 * 128
    let ph := ringPhase s 2
    let s := pmcEvents 0x32 { cls := some d.msg.cls } 1 (lndTake d s)
    let s := memWrite 2 (a + 8) (msgBody d.msg d.seq) s
    let s := memWrite 2 a (leBytes (msgHeader d.msg d.seq ph) 8) s
    ok (pendIrq (17 + d.msg.cls) (ringAdvance 2 s))
  | _, _ => ok s

/-- Read data, and the shadow of the host's BAR 0 reads. -/
def portAnswer (lo : Nat) (sh : Option Shadow) (s : State) : State :=
  let s := { s with rdata := BitVec.ofNat 32 lo }
  { s with shadow0 := sh }

/-- The port is read by the host through BAR 0 while DMA_EN is 0 (R395, R398). -/
def portReads (s : State) (ms : Master) : Bool :=
  decide (ms = .hostBar0) && !flag s LND_CTL_DMA_EN && hostMay s LND_DATA_LO

/-- The read of word i of the message on the port: low half returned, high half latched (R395). -/
def portLow (p : PortMsg) (s : State) : State :=
  let w := msgWord p.msg p.seq false p.idx
  portAnswer (w % 2 ^ 32) (some ⟨LND_DATA_LO, w / 2 ^ 32⟩) s

/-- A BAR 0 read event at off (R548). -/
def bar0Read (off : Nat) (s : State) : State := pmcEvents 0x10 { priv := some 0, mst := some 0, bar0 := some off } 1 s

/-- LND_DATA_LO_READ (R395). -/
def execLndDataLoRead (ms : Master) (s : State) : Host.Outcome State Fault Refusal :=
  let s := bar0Read LND_DATA_LO s
  if !portReads s ms then ok { s with rdata := 0 }
  else match s.lnd.port with
    | some p => ok (portLow p s)
    | none =>
      match lndNext s with
      | none => ok { s with rdata := 0 }
      | some d =>
        let p : PortMsg := ⟨d.msg, d.seq, 0⟩
        let s := pmcEvents 0x33 { cls := some d.msg.cls } 1 (lndTake d s)
        ok (portLow p { s with lnd := { s.lnd with port := some p } })

/-- The port moves to the next word; after the last the message is closed on the port (R396). -/
def portAdvance (s : State) : State :=
  match s.lnd.port with
  | none => s
  | some p =>
    { s with lnd := { s.lnd with port := if p.idx + 1 < p.msg.len then some { p with idx := p.idx + 1 } else none } }

/-- LND_DATA_HI_READ (R396). -/
def execLndDataHiRead (ms : Master) (s : State) : Host.Outcome State Fault Refusal :=
  let s := bar0Read LND_DATA_HI s
  if !portReads s ms then ok { s with rdata := 0 }
  else match s.shadow0 with
    | some sh =>
      if sh.low = LND_DATA_LO then ok (portAdvance (portAnswer sh.high none s))
      else ok { s with rdata := BitVec.ofNat 32 (match s.lnd.port with
        | some p => msgWord p.msg p.seq false p.idx / 2 ^ 32 | none => 0) }
    | none => ok { s with rdata := BitVec.ofNat 32 (match s.lnd.port with
        | some p => msgWord p.msg p.seq false p.idx / 2 ^ 32 | none => 0) }

/-- LND_DROP (R397): the message on the port is closed, its unread words discarded; it does not count as lost. -/
def execLndDrop (s : State) : Host.Outcome State Fault Refusal :=
  ok (onWrite LND_CMD (fun s =>
    match s.lnd.port with
    | none => s
    | some p => pmcEvents 0x37 { cls := some p.msg.cls } 1 { s with lnd := { s.lnd with port := none } }) s)

/-- The messages that a flush discards as complete: the queue and the port's (R400). -/
def flushed (s : State) : List Nat :=
  s.lnd.queue.map (fun d => d.msg.cls) ++ (match s.lnd.port with | some p => [p.msg.cls] | none => [])

/-- The open messages that a flush discards, by class (R400). -/
def flushedOpen (s : State) : List Nat := (s.lnd.opened.filter fun o => !o.lost).map fun o => o.msg.cls

/-- The effect of a flush (R400, R401). -/
def flush (s : State) : State :=
  let done := flushed s
  let cut := flushedOpen s
  let s := setRaw s LND_FLUSHCNT (satAdd 0xFFFFFFFF (raw s LND_FLUSHCNT) done.length)
  let s := cut.foldl (fun a c => setRaw a (LND_LOST c) (satAdd 0xFFFFFFFF (raw a (LND_LOST c)) 1)) s
  let s := (done ++ cut).foldl (fun a c => pmcEvents 0x35 { cls := some c } 1 a) s
  let s := { s with lnd := { s.lnd with
    queue := [], port := none, opened := s.lnd.opened.map fun o => { o with lost := true } } }
  let s := setFlag s LND_EVENTS_FLUSHED true
  setRaw (setRaw s LND_FLUSHT_LO (s.time % 2 ^ 32)) LND_FLUSHT_HI (s.time / 2 ^ 32)

/-- LND_FLUSH (R400, R401). -/
def execLndFlush (s : State) : Host.Outcome State Fault Refusal := ok (onWrite LND_CMD flush s)

/-- LND_CTL_WRITE (R398): DMA_EN is written, or the write is discarded with WR_REJ while a message is open on the port. -/
def execLndCtlWrite (v : Word) (s : State) : Host.Outcome State Fault Refusal :=
  ok (onWrite LND_CTL (fun s =>
    if s.lnd.port.isSome then setFlag s LND_EVENTS_WR_REJ true
    else fset s LND_CTL_DMA_EN (v.toNat % 2)) s)

/-- LND_LOST_READ (R391). -/
def execLndLostRead (cl : Fin 4) (s : State) : Host.Outcome State Fault Refusal := ok (rcRead (LND_LOST cl) s)

/-- LND_FLUSHCNT_READ (R14, R400). -/
def execLndFlushcntRead (s : State) : Host.Outcome State Fault Refusal := ok (rcRead LND_FLUSHCNT s)

end Sys2Proof.Machine
end

