-- ==== Sys2Proof/Machine/Pmc.lean ====
section
/-! DEFINITION. Snapshot, freeze, clear, load and overflow of the performance counters (spec/18, R550 to R555). -/

namespace Sys2Proof.Machine

/-- The snapshot bank takes the nine counters and TIME[47:0] (R550). -/
def pmcSnapshot (s : State) : State :=
  { s with pmc := { s.pmc with snap := nset s.pmc.cnt 8 s.pmc.cyc, snapTime := s.time % 2 ^ 48 } }

/-- PMC_SNAP (R550). -/
def execPmcSnap (s : State) : Host.Outcome State Fault Refusal := ok (onWriteThen PMC_CTL pmcSnapshot s)

/-- PMC_FREEZE (R551). -/
def execPmcFreeze (b : Bool) (s : State) : Host.Outcome State Fault Refusal :=
  ok (onWriteThen PMC_CTL (fun s => setFlag s PMC_CTL_FREEZE b) s)

/-- PMC_CLR (R552). -/
def execPmcClr (s : State) : Host.Outcome State Fault Refusal :=
  ok (onWrite PMC_CTL (fun s => { s with pmc := { s.pmc with cyc := 0, cnt := [] } }) s)

/-- Low register of counter k; 8 is PMC_CYCLE. -/
def pmcLowOff (k : Nat) : Nat := if k = 8 then PMC_CYC_LO else PMC_LO k

/-- PMC_LOAD_LOW (R553). -/
def execPmcLoadLow (k : Fin 9) (v : Word) (s : State) : Host.Outcome State Fault Refusal :=
  ok (onWrite (pmcLowOff k) (fun s => { s with pmc := { s.pmc with buf := nset s.pmc.buf k v.toNat } }) s)

/-- PMC_LOAD_HIGH (R553): the written high half and the buffer; PMC0 to PMC7 take bits 47:32 only. -/
def execPmcLoadHigh (k : Fin 9) (v : Word) (s : State) : Host.Outcome State Fault Refusal :=
  ok (onWrite (pmcLowOff k + 4) (fun s =>
    let b := nget s.pmc.buf k
    if k.val = 8 then { s with pmc := { s.pmc with cyc := v.toNat * 2 ^ 32 + b } }
    else { s with pmc := { s.pmc with cnt := nset s.pmc.cnt k (v.toNat % 2 ^ 16 * 2 ^ 32 + b) } }) s)

/-- PMC_OVERFLOW (R555): the flag of a counter that has wrapped sets; with its OVFEN bit a P3 message carries the value after
the wrap. -/
def execPmcOverflow (k : Fin 8) (s : State) : Host.Outcome State Fault Refusal :=
  match s.pmc.wrapped.find? fun p => decide (p.1 = k.val) with
  | none => ok s
  | some p =>
    let s := { s with pmc := { s.pmc with wrapped := s.pmc.wrapped.erase p } }
    let s := fset s PMC_OVF_OVF (setBit (fget s PMC_OVF_OVF) k)
    ok (whenS (bitOf (fget s PMC_OVFEN_OVFEN) k) (raise 3 5 (0x80 + k) [p.2]) s)

end Sys2Proof.Machine
end

