-- ==== Sys2Proof/Machine/UnitOps.lean ====
section
/-! DEFINITION. Operations on one unit that several families share: reading and writing a unit's record, tap ownership,
band-line boundaries, packets, completions, calibration aborts, and what taking a head offline does (R92, R128, R149). -/

namespace Sys2Proof.Machine

/-! Records of the units. -/

/-- Head n. -/
def getHead (s : State) (h : Nat) : HeadSt := tget (fun _ => {}) s.heads h
/-- Replace head n. -/
def setHead (h : Nat) (x : HeadSt) (s : State) : State := { s with heads := tset (fun _ => {}) s.heads h x }
/-- Tap t. -/
def getTap (s : State) (t : Nat) : TapSt := tget (fun _ => {}) s.taps t
/-- Replace tap t. -/
def setTap (t : Nat) (x : TapSt) (s : State) : State := { s with taps := tset (fun _ => {}) s.taps t x }
/-- Group g. -/
def getGroup (s : State) (g : Nat) : GroupSt := tget (fun _ => {}) s.groups g
/-- Replace group g. -/
def setGroup (g : Nat) (x : GroupSt) (s : State) : State := { s with groups := tset (fun _ => {}) s.groups g x }
/-- Axis m. -/
def getAxis (s : State) (m : Nat) : AxisSt := tget (fun _ => {}) s.mot.axes m
/-- Replace axis m. -/
def setAxis (m : Nat) (x : AxisSt) (s : State) : State :=
  { s with mot := { s.mot with axes := tset (fun _ => {}) s.mot.axes m x } }
/-- Grid and documents of head h. -/
def getDoc (s : State) (h : Nat) : DocSt := tget (fun _ => {}) s.mot.docs h
/-- Replace the grid and documents of head h. -/
def setDoc (h : Nat) (x : DocSt) (s : State) : State :=
  { s with mot := { s.mot with docs := tset (fun _ => {}) s.mot.docs h x } }
/-- String of key k = 16 SAT + STR. -/
def getStr (s : State) (k : Nat) : StrSt := tget (fun _ => {}) s.lmp.strs k
/-- Replace string k. -/
def setStr (k : Nat) (x : StrSt) (s : State) : State :=
  { s with lmp := { s.lmp with strs := tset (fun _ => {}) s.lmp.strs k x } }

/-! Heads and taps (R57 to R59, R65). -/

/-- STATE of head h: 0 OFFLINE, 1 STARTING, 2 ONLINE, 3 STOPPING. -/
def headState (s : State) (h : Nat) : Nat := fget s (HEAD_STATUS_STATE h)

/-- Taps of head h (R57). -/
def tapsOf (s : State) (h : Nat) : List Nat :=
  let a := fget s (HEAD_TAPS_FIRST_TAP h)
  let b := fget s (HEAD_TAPS_LAST_TAP h)
  (List.range (b + 1 - a)).map fun i => a + i

/-- Tap t lies in the range of head h (R57). -/
def inRange (s : State) (h t : Nat) : Bool :=
  decide (fget s (HEAD_TAPS_FIRST_TAP h) ≤ t) && decide (t ≤ fget s (HEAD_TAPS_LAST_TAP h))

/-- The head that is not OFFLINE and owns tap t (R58). -/
def tapOwner (s : State) (t : Nat) : Option Nat :=
  (List.range 16).find? fun h => decide (headState s h ≠ 0) && inRange s h t

/-- Ticks of one pixel period of head h (R59). -/
def pixTicks (s : State) (h : Nat) : Nat := 6 * fget s (HEAD_CLK_DIV h)

/-- Bands of head h in force (R73, R83). -/
def nbands (s : State) (h : Nat) : Nat := actField s (HEAD_TRIG_NBANDS h)

/-- PIPE_BGO and PIPE_THR index of a head-band. -/
def headBand (h b : Nat) : Nat := 8 * h + b

/-- Registers of the band set of head h (R83, R175). -/
def bandSet (h : Nat) : List Nat :=
  [HEAD_TRIG h, HEAD_PITCH h, HEAD_TIMER h, HEAD_AUX h, PIPE_HCTL h]
    ++ (List.range 8).map (fun b => HEAD_BAND h b)
    ++ (List.range 8).map (fun b => PIPE_BGO (headBand h b))
    ++ (List.range 8).map (fun b => PIPE_THR (headBand h b))

/-- A busy window of head h is open (R47, R65). -/
def headBusy (s : State) (h : Nat) : Bool :=
  (getHead s h).busy.any fun b => decide (b.opens ≤ s.time) && decide (s.time < b.closes)

/-- The present tick is a band-line boundary of head h: no busy window is open, or one closes (chapter 5). -/
def atBoundary (s : State) (h : Nat) : Bool :=
  !headBusy s h || (getHead s h).busy.any fun b => decide (b.closes = s.time)

/-- The tick of the next clock edge of period p at or after t (R37). -/
def edgeAt (p t : Nat) : Nat := if p = 0 then t else (t + p - 1) / p * p

/-! White tracking restarts (R221). -/

/-- The white accumulation of head-band hb restarts, and a pending background result is discarded (R221). -/
def whiteRestart (hb : Nat) (s : State) : State :=
  let s := { s with shd := { s.shd with
    white := s.shd.white.filter fun p => decide (p.1 / 524288 ≠ hb)
    incl := nset s.shd.incl hb 0
    dueG := s.shd.dueG.filter fun p => decide (p.1 ≠ hb) } }
  fset s (SHD_HSTAT_DUE (hb / 8)) (clearBit (fget s (SHD_HSTAT_DUE (hb / 8))) (hb % 8))

/-- Every head-band of head h restarts (R221). -/
def whiteRestartHead (h : Nat) (s : State) : State := forN 8 (fun b s => whiteRestart (headBand h b) s) s

/-- Every head whose range holds tap t restarts (R221). -/
def whiteRestartTap (t : Nat) (s : State) : State :=
  forN 16 (fun h s => whenS (inRange s h t) (whiteRestartHead h) s) s

/-! Calibration runs that end early (R205). -/

/-- Replace the run of its head. -/
def setRun (r : RunSt) (s : State) : State :=
  { s with shd := { s.shd with runs := s.shd.runs.map fun q => if q.head = r.head then r else q } }

/-- The run of head h. -/
def runOf (s : State) (h : Nat) : Option RunSt := s.shd.runs.find? fun r => decide (r.head = h)

/-- A run that still measures is aborted with a code (R205); its end is then due. -/
def abortRun (h code : Nat) (s : State) : State :=
  match runOf s h, finOf 16 h with
  | some r, some i =>
    if r.stage = .measuring then
      schedule (setRun { r with stage := .ended, code := code, failing := 0 } s) s.time (.calRunComplete i)
    else s
  | _, _ => s

/-! Packets (R370, R373). -/

/-- The open packet of head h closes; no packet is empty (R373). -/
def closePacket (h : Nat) (s : State) : State :=
  match s.host.openPkt.find? fun p => decide (p.head = h) with
  | none => s
  | some p =>
    let rest := s.host.openPkt.filter fun q => decide (q.head ≠ h)
    if p.recs.isEmpty then { s with host := { s.host with openPkt := rest } }
    else { s with host := { s.host with openPkt := rest, closed := s.host.closed ++ [p] } }

/-- Bytes of a packet (R370). -/
def Packet.size (p : Packet) : Nat := (p.recs.map fun r => r.bytes.length + 4).sum

/-- Bytes of line packets stored and not yet delivered: the fill (spec/09, R374). -/
def fillBytes (s : State) : Nat :=
  ((s.host.openPkt ++ s.host.closed).map Packet.size).sum + s.host.heldBytes

/-- Installed Cellar bytes: two channels of the density that training read (R21). -/
def installedBytes (s : State) : Nat := 2 * 2 ^ (30 + fget s CEL_STATUS_DENS)

/-- Usable capacity: eight ninths of the installed bytes (R20). -/
def usableBytes (s : State) : Nat := installedBytes s * 8 / 9

/-- Line area: the usable capacity less the coefficient area of 128 MiB (spec/09). -/
def lineArea (s : State) : Nat := usableBytes s - 134217728

/-! Completions (R359, R365). -/

/-- PIPE_STATUS shows the staged block. -/
def showStage (st : Nat) (h b : Nat) (s : State) : State :=
  fsets s [(PIPE_STATUS_STAGE, st), (PIPE_STATUS_STAGE_HEAD, h), (PIPE_STATUS_STAGE_BAND, b)]

/-- The staging area becomes free. -/
def freeStage (s : State) : State :=
  let s := showStage 0 0 0 s
  { s with pipe := { s.pipe with stage := none } }

/-- The command of a CMD slot ends: it leaves the list and its completion waits to be written (R361, R365). -/
def complete (slot result status : Nat) (s : State) : State :=
  match s.host.cmds.find? fun c => decide (c.slot = slot) with
  | none => s
  | some c =>
    let s := { s with host := { s.host with
      cmds := s.host.cmds.filter (fun d => decide (d.slot ≠ slot))
      cplq := s.host.cplq ++ [⟨result, slot, 0, status, c.irq, 0, s.time, c.fence⟩]
      unmet := s.host.unmet + 1 } }
    pmcEvent 0x3B s

/-! Documents and reservations (R274, R287). -/

/-- Head h forms documents (R274). -/
def docEn (s : State) (h : Nat) : Bool := flag s (MOT_HDOC_DOC_EN h)

/-- Heads that form documents. -/
def docHeads (s : State) : List Nat := (List.range 16).filter fun h => docEn s h

/-- A document of head h starts within the oldest reservation that it has not yet used (R287). -/
def resvStart (h : Nat) (s : State) : State :=
  let r := s.mot.resv
  match r.findIdx? fun x => !x.startedBy.contains h with
  | none => s
  | some i => { s with mot := { s.mot with resv := r.modify i fun x => { x with startedBy := x.startedBy ++ [h] } } }

/-- A document of head h ends: a reservation whose document every head with DOC_EN = 1 has ended is released (R287). -/
def resvEnd (h : Nat) (s : State) : State :=
  let r := s.mot.resv
  match r.findIdx? fun x => x.startedBy.contains h && !x.endedBy.contains h with
  | none => s
  | some i =>
    let r := r.modify i fun x => { x with endedBy := x.endedBy ++ [h] }
    let hs := docHeads s
    { s with mot := { s.mot with resv := r.filter fun x => !(hs.all fun k => x.endedBy.contains k) || x.endedBy.isEmpty } }

/-! Heads going offline (R89 to R92, R128, R149). -/

/-- A write to a pending copy of a band set is about to land: what the copy held before this tick is kept (R85). -/
def noteBand (off : Nat) (s : State) : State :=
  if !(List.range 16).any fun h => (bandSet h).contains off then s
  else
    let log := if s.bandTick = s.time then s.bandLog else []
    match tget (fun _ => none) log off with
    | some _ => s
    | none =>
      let s := { s with bandTick := s.time }
      { s with bandLog := tset (fun _ => none) log off (some (tget regReset s.regs off)) }

/-- The pending copy at off becomes active; a write of this very tick stays pending (R85). -/
def activatePending (s : State) (off : Nat) : State :=
  match (if s.bandTick = s.time then tget (fun _ => none) s.bandLog off else none) with
  | some w => { s with active := tset regReset s.active off w }
  | none => activate s off

/-- The pending band set of head h becomes active (R84, R85), and its white accumulation restarts (R221); changed exposures or
band counts ask for new drives (R314). -/
def activateBandSet (h : Nat) (s : State) : State :=
  let exps (s : State) : List Nat := (List.range 8).map fun b => actField s (HEAD_BAND_EXPOSURE h b)
  let t := (bandSet h).foldl activatePending s
  let t := whenS (exps t != exps s || nbands t h != nbands s h) (fun s => schedule s s.time .driveRecompute) t
  whiteRestartHead h (setFlag t (HEAD_CTL_COMMIT h) false)

/-- The live-class copies of tap t become active (R123, R128). -/
def activateTap (t : Nat) (s : State) : State :=
  let s := activateAll s [TAP_PHASE t, TAP_PGA t]
  setTap t { getTap s t with phasePend := none, pgaPend := none } s

/-- The guest of group g leaves its tap (R147, R149). -/
def releaseGuest (g : Nat) (s : State) : State :=
  let i := fget s (SLC_GSTATE_GUEST_TAP g)
  if i = 16 then s
  else fset (setFlag s (TAP_STATUS_GUEST (16 * g + i)) false) (SLC_GSTATE_GUEST_TAP g) 16

/-- The slice that the rotation visits next: after i, skipping a retired one (R141). -/
def nextVisit (s : State) (g i : Nat) : Nat :=
  let n := if 16 ≤ i then 0 else i + 1
  if flag s (SLC_GRETIRE_VALID g) && fget s (SLC_GRETIRE_SLICE g) == n then (if 16 ≤ n then 0 else n + 1) else n

/-- The resting visit state of group g: idle, or suspended (SLC_GSTATE.PHASE). -/
def restPhase (s : State) (g : Nat) : Nat := if bitOf (fget s SLC_SUSP_SUSP) g then 5 else 0

/-- The visit of group g is over and the next one moves on (R141); a step that waited for it falls due (R142). -/
def endVisit (g : Nat) (s : State) : State :=
  let v := fget s (SLC_GSTATE_VISIT g)
  let x := getGroup s g
  let s := setGroup g { x with running := 17, overlap := 0 } s
  let s := match finOf 16 g with
    | some i => whenS x.stepPend (fun s => schedule s s.time (.rotationStep i)) s
    | none => s
  fsets s [(SLC_GSTATE_PHASE g, restPhase s g), (SLC_GSTATE_VISIT g, nextVisit s g v), (SLC_GSTATE_FAILS g,
    nget (getGroup s g).fails (nextVisit s g v))]

/-- A tap of group g loses its head: what a visit to its slice does (R147, R149, R150). -/
def groupTapUnowned (g i : Nat) (s : State) : State :=
  let x := getGroup s g
  let ph := fget s (SLC_GSTATE_PHASE g)
  let here := fget s (SLC_GSTATE_GUEST_TAP g) == i
  if x.committed then whenS here (fun s => setFlag s (TAP_STATUS_GUEST (16 * g + i)) false) s
  else if ph == 1 && fget s (SLC_GSTATE_VISIT g) == i then
    -- the slice is parked now: the visit runs in place (R132, R143)
    setGroup g { x with running := i, runEnd := s.time + 1080000 } (fset s (SLC_GSTATE_PHASE g) 2)
  else if here then
    let s := releaseGuest g s
    if ph == 3 || ph == 4 then endVisit g s else s
  else s

/-- HnAUX of an OFFLINE head holds IDLE (R70). -/
def idleAux (s : State) (h : Nat) : Bool := actField s (HEAD_AUX_IDLE h) == 1

/-- Deadlines of head h. -/
def headEvents (h : Fin 16) : List Instr :=
  [.headSettleDone h, .headWarmupDone h, .headStopDone h, .headTimerTrigger h, .triggerFire h, .exposureEnd h,
   .tapPhaseActivate h, .readoutEnd h, .busyWindowClose h, .calRunTrigger h, .gapSearchTimeout h]

/-- Head h becomes OFFLINE on this tick (R66, R84, R92, R128, R149): its clocks go to their OFFLINE levels, pending copies
become active, band-lines that have not reached the lanes are discarded, guests on its taps are released, and its
calibration run is aborted. -/
def headToOffline (h : Nat) (s : State) : State :=
  if headState s h = 0 then s
  else
    let taps := tapsOf s h
    let s := whenS (flag s (HEAD_CTL_COMMIT h)) (activateBandSet h) s
    let s := taps.foldl (fun s t =>
      groupTapUnowned (t / 16) (t % 16)
        (fsets (setTap t { getTap s t with outside := 0, pedestal := false } (activateTap t s))
          [(TAP_STATUS_CM_OUT t, 0), (TAP_STATUS_PEND t, 0), (TAP_STATUS_OWNED t, 0), (TAP_STATUS_HEAD t, 0)])) s
    let x := getHead s h
    let s := setHead h { x with
      lines := x.lines.filter fun l => decide (l.stage = .lanes)
      busy := [], wipe := true, finalSp := false, stopAtClose := false, clkOn := false, sp := none, seenB0 := false, numbered := false, phaseAt := none, pgaAt := none
      lastTrig := [], aux := idleAux s h } s
    let s := setDoc h {} (whenS (getDoc s h).cur.isSome (resvEnd h) s)
    let s := fsets s [(HEAD_STATUS_STATE h, 0), (HEAD_CTL_ONLINE h, 0), (HEAD_STATUS_CM_OUT h, 0), (HEAD_STATUS_BAND h, 0)]
    let s := match finOf 16 h with
      | some i => (headEvents i).foldl cancel s
      | none => s
    let s := whenS (flag s LMP_CTL_BUS_EN && fget s LMP_CTL_BUS_HEAD == h) (fun s =>
      { s with lmp := { s.lmp with lstb := false, lband := 0, lbandAt := s.time, hold := none } }) s
    abortRun h 0x59 (whiteRestartHead h s)

/-! Lamps and axes at a stop (R33, R296, R338). -/

/-- Every strobe ends and the rail stops (R338). -/
def lampsDark (s : State) : State :=
  let s := { s with lmp := { s.lmp with
    strs := s.lmp.strs.foldl (fun t p => tset (fun _ => {}) t p.1 { p.2 with strobe := none }) s.lmp.strs
    lstb := false, test := [], hr := [] } }
  let s := fsets s [(LMP_STATUS_RAIL_ON, 0), (LMP_STATUS_RAIL_OK, 0)]
  cancel s .lstbFall

/-- Every step output stops, MnEN and the transport outputs go inactive (R296). -/
def axesOff (s : State) : State :=
  let s := forN 8 (fun m s =>
    let x := getAxis s m
    let s := setAxis m { x with enPin := false, iref := 0, segs := [], moveLeft := 0, takeUp := 0, owesRunup := false } s
    fsets s [(MOT_ACTL_EN m, 0), (MOT_ASTATUS_STATE m, if fget s (MOT_ASTATUS_STATE m) = 3 then 3 else 0), (MOT_ASTATUS_REST m, 1), (MOT_ASTATUS_MOVE m, 0),
      (MOT_AVEL_VEL m, 0)]) s
  let s := setRaw s MOT_TO 0
  { s with mot := { s.mot with relEnd := 0, relOut := [] } }

/-- Axis m is moving. -/
def axisMoving (s : State) (m : Nat) : Bool := fget s (MOT_ASTATUS_STATE m) == 2

/-- A controlled stop of axis m begins (R291). -/
def controlledStop (m : Nat) (s : State) : State :=
  whenS (axisMoving s m) (fun s => fset s (MOT_ASTATUS_MOVE m) 3) s

/-- Every moving axis makes a controlled stop (R296). -/
def stopAllAxes (s : State) : State := forN 8 controlledStop s

/-- An axis comes to rest on this tick (R283, R293): standby current follows after 10 STBY_DLY ms. -/
def axisRests (m : Nat) (s : State) : State :=
  let s := setAxis m { getAxis s m with moveLeft := 0, takeUp := 0, lastMove := s.time } s
  let s := fsets s [(MOT_ASTATUS_REST m, 1), (MOT_ASTATUS_MOVE m, 0), (MOT_AVEL_VEL m, 0)]
  let s := whenS (axisMoving s m) (fun s => fset s (MOT_ASTATUS_STATE m) 1) s
  match finOf 8 m with
  | some i => schedule s (s.time + 6000000 * fget s (MOT_AIREF_STBY_DLY m)) (.irefStandby i)
  | none => s

/-- The step output of axis m stops at once (R285, R291): its profile has ended. -/
def stopNow (m : Nat) (s : State) : State :=
  if axisMoving s m then
    let s := setAxis m { getAxis s m with segs := [], owesRunup := false } s
    setFlag (axisRests m s) (MOT_AEVENTS_PROF_DONE m) true
  else s

/-- A paced axis (R278). -/
def paced (s : State) (m : Nat) : Bool := flag s (MOT_ACTL_PACE_EN m)

/-! Slice visits at a stop (R149). -/

/-- Entry to SLEEP or HALT abandons every visit: the slice returns to its tap with its old trims, the guest is released. -/
def abandonVisits (s : State) : State :=
  forN 16 (fun g s =>
    let x := getGroup s g
    let s := whenS (!x.committed) (releaseGuest g) s
    setGroup g { getGroup s g with running := 17, overlap := 0, cmdSlice := 17, stepPend := false }
      (fset s (SLC_GSTATE_PHASE g) (restPhase s g))) (setFlag s SLC_CMDSTAT_BUSY false)

end Sys2Proof.Machine
end

