-- ==== Sys2Proof/Machine/Flags.lean ====
section
/-! DEFINITION. The flag word of a band-line record (spec/11, R372): the bit of each flag, and marking band-lines in flight. -/

namespace Sys2Proof.Machine

/-- SEAM (R283). -/
def flagSeam : Nat := 0
/-- SPARE_LANE (R194, R195). -/
def flagSpareLane : Nat := 1
/-- GUEST_ACTIVE (R147). -/
def flagGuest : Nat := 2
/-- DARK_TRACK_LIMIT (R209). -/
def flagTrkLimit : Nat := 3
/-- CAL_STALE (R152, R153, R180, R227). -/
def flagCalStale : Nat := 4
/-- LAMP_ADJ (R336). -/
def flagLampAdj : Nat := 5
/-- LAMP_DEFICIT (R336). -/
def flagLampDeficit : Nat := 6
/-- DOC_START (R274). -/
def flagDocStart : Nat := 7
/-- DOC_END (R274). -/
def flagDocEnd : Nat := 8
/-- GAP (R274, R277). -/
def flagGap : Nat := 9

/-- A band-line with one more flag. -/
def BandLine.mark (l : BandLine) (k : Nat) : BandLine := { l with flags := setBit l.flags k }

/-- A band-line carries flag k. -/
def BandLine.has (l : BandLine) (k : Nat) : Bool := bitOf l.flags k

/-- Mark the band-lines in flight of head h that satisfy p. -/
def markLines (h : Nat) (p : BandLine → Bool) (k : Nat) (s : State) : State :=
  let x := getHead s h
  setHead h { x with lines := x.lines.map fun l => if p l then l.mark k else l } s

end Sys2Proof.Machine
end

