-- ==== Sys2Proof/Machine/Docs.lean ====
section
/-! DEFINITION. Documents and grids of the heads (spec/09, R267 to R277, R596): the operations that causes, sensors and
positions share. -/

namespace Sys2Proof.Machine

/-- 2^48 and 2^56, the moduli of positions and grid points (R263, R270). -/
def posMod : Nat := 2 ^ 48
/-- Modulus of grid points. -/
def gridMod : Nat := 2 ^ 56

/-- a >= b as positions modulo 2^48: the difference lies in the lower half (R270, R274). -/
def posGe (a b : Nat) : Bool := decide ((a + posMod - b % posMod) % posMod < 2 ^ 47)

/-- A position moved by a signed distance, modulo 2^48. -/
def posAdd (a : Nat) (d : Int) : Nat := (((a : Int) + d) % (posMod : Int)).toNat

/-- DIST of head h, signed (R274). -/
def docDist (s : State) (h : Nat) : Int := signed 32 (raw s (MOT_HDDIST h))

/-- A document of head h is open. -/
def docOpen (s : State) (h : Nat) : Bool := (getDoc s h).cur.isSome

/-- Position of the head's axis: in a joined system the replica of the master's axis, else POS (R271, R465). -/
def headPos (s : State) (h : Nat) : Nat :=
  let a := fget s (HEAD_TRIG_AXIS h)
  if s.hwy.joined && bitOf (fget s HWY_CTL_AXMASK) a then nget s.hwy.repl a else (getAxis s a).pos

/-- gnext of head h (R269, R270). -/
def gnext (s : State) (h : Nat) : Nat :=
  let d := getDoc s h
  let n := max 1 (nbands s h)
  (d.g0 + act s (HEAD_PITCH h) * d.gband / n) % gridMod

/-- The grid moves to the next band's point (R269, R270): after the last band G0 advances by PITCH, or to the re-origin. -/
def gridAdvance (h : Nat) (s : State) : State :=
  let d := getDoc s h
  if d.gband + 1 < nbands s h then setDoc h { d with gband := d.gband + 1 } s
  else
    match d.syncAt with
    | some p => setDoc h { d with gband := 0, g0 := p, org := p, syncAt := none } s
    | none => setDoc h { d with gband := 0, g0 := (d.g0 + act s (HEAD_PITCH h)) % gridMod } s

/-- Tag of a B0 grid point (R271). -/
def gridTag (g : Nat) : Nat := (g + 255) / 256 % posMod

/-- ORG as a head becomes ONLINE (R268). -/
def gridStart (h : Nat) (s : State) : State :=
  let g := 256 * (headPos s h + 1) % gridMod
  setDoc h { org := g, g0 := g } s

/-- The re-origin of a covered edge at c (R276): it applies when the point lies beyond the present position and the line in
progress is complete before it. -/
def resync (h c : Nat) (s : State) : State :=
  if fget s (HEAD_TRIG_TRIG_SRC h) ≠ 0 then s
  else
    let x := posAdd c (docDist s h - fget s (MOT_HEDGE_LEAD h))
    let p := 256 * x
    let d := getDoc s h
    let n := max 1 (nbands s h)
    let lastPt := (d.g0 + act s (HEAD_PITCH h) * (n - 1) / n) % gridMod
    let ahead := posGe x (headPos s h) && decide (x ≠ headPos s h)
    let clear := d.gband == 0 || decide ((lastPt + gridMod - p) % gridMod ≥ 2 ^ 55)
    if ahead && clear then
      if d.gband = 0 then setDoc h { d with g0 := p, org := p, syncAt := none } s
      else setDoc h { d with syncAt := some p } s
    else setFlag s MOT_EVENTS_SYNC_LATE true

/-- A document of head h starts at a B0 band-line with this tag (R274, R277). -/
def docStart (h tag : Nat) (s : State) : State :=
  let d := getDoc s h
  match d.edges with
  | [] => s
  | e :: r =>
    let n := raw s (MOT_HDOCNUM h)
    let n := if n = 0xFFFFFFFF then 1 else n + 1
    let s := setRaw (setDoc h { d with edges := r, cur := some e, endNow := false } s) (MOT_HDOCNUM h) n
    raise 1 0xE 0xA0 [h, n, tag] (resvStart h s)

/-- A SKIP_DOC of the head's document is done: its last band-line has been handled (R376). -/
def skipFinish (h doc : Nat) (s : State) : State :=
  s.host.skips.foldl (fun s k =>
    if k.head = h ∧ k.doc = doc then
      let s := { s with host := { s.host with skips := s.host.skips.filter fun q => decide (q ≠ k) } }
      complete k.slot k.count 0 s
    else s) s

/-- The open document of head h ends on this tick; tag is the position tag of its last band-line (R274 to R277). -/
def docFinish (h tag : Nat) (s : State) : State :=
  let d := getDoc s h
  let s := setDoc h { d with cur := none, endNow := false } s
  resvEnd h (raise 1 0xE 0xA1 [h, raw s (MOT_HDOCNUM h), tag] s)

/-- A re-origin that waited for the end of the document is checked (R276). -/
def docAfterEnd (h : Nat) (s : State) : State :=
  let d := getDoc s h
  if d.cur.isSome then s
  else match d.syncPend with
  | [] => s
  | c :: r => resync h c (setDoc h { d with syncPend := r } s)

/-- The position from which a line no longer belongs to the open document: e + DIST + TRAIL (R274). -/
def docLimit (s : State) (h e : Nat) : Nat := posAdd e (docDist s h + fget s (MOT_HEDGE_TRAIL h))

/-- A record already stored takes one more flag: FLAGS lie at bytes 14 and 15 of the header. -/
def LineRec.mark (r : LineRec) (k : Nat) : LineRec :=
  let f := setBit r.flags k
  { r with flags := f, bytes := (r.bytes.set 10 (BitVec.ofNat 8 f)).set 11 (BitVec.ofNat 8 (f / 256)) }

/-- Mark the last band-line of a document that ended with the line before this one (heads that are not sourced by position,
whose next B0 tag is not known before it is taken): in flight, or the newest record of the open packet. -/
def markEnd (h doc : Nat) (s : State) : State :=
  let x := getHead s h
  let mine (l : BandLine) : Bool := l.doc == doc && !l.noRecord && !l.has flagGap
  match (x.lines.filter mine).getLast? with
  | some l => markLines h (fun q => decide (q = l)) flagDocEnd s
  | none =>
    let f (p : Packet) : Packet :=
      if p.head = h then
        match p.recs.getLast? with
        | some r => if r.doc = doc ∧ bitOf r.flags flagGap = false then { p with recs := p.recs.dropLast ++ [r.mark flagDocEnd] } else p
        | none => p
      else p
    let hit := s.host.openPkt.any fun p => decide (p.head = h)
    skipFinish h doc (whenS hit (closePacket h) { s with host := { s.host with openPkt := s.host.openPkt.map f } })

/-- The B0 tag of the line after the present one, where it is known (R274). -/
def nextLineTag (s : State) (h : Nat) : Option Nat :=
  if fget s (HEAD_TRIG_TRIG_SRC h) = 0 then
    let d := getDoc s h
    some (gridTag ((d.g0 + act s (HEAD_PITCH h)) % gridMod))
  else none

/-- A B0 cause of head h with this tag begins a line (R274): a document whose limit the tag has passed has ended with the
line before. -/
def docLine (h tag : Nat) (s : State) : State :=
  let d := getDoc s h
  let s := setDoc h { d with lineTag := tag, lineDone := decide (nbands s h ≤ 1) } s
  match d.cur with
  | some (_, some e) =>
    if posGe tag (docLimit s h e) && !d.endNow then
      docAfterEnd h (docFinish h d.lastTag (markEnd h (raw s (MOT_HDOCNUM h)) s))
    else s
  | _ => s

/-- The band-line of the last band is the last of its document (R274, R596). -/
def docEndsHere (s : State) (h : Nat) : Bool :=
  let d := getDoc s h
  match d.cur with
  | none => false
  | some (_, e) =>
    d.endNow || match e, nextLineTag s h with
      | some e, some t => posGe t (docLimit s h e)
      | _, _ => false

/-- What a band-line carries of the documents: document number, flags, and whether it is stored (R274, R277). -/
structure DocTag where
  doc : Nat := 0
  flags : List Nat := []
  store : Bool := true
  deriving DecidableEq, Repr

/-- An accepted cause of band b with this tag meets the documents of head h (R274 to R277). -/
def docAccept (h b tag : Nat) (s : State) : State × DocTag :=
  if !docEn s h && !docOpen s h then (s, {})
  else
    let d := getDoc s h
    let starts := b == 0 && d.cur.isNone && docEn s h && match d.edges with
      | (c, _) :: _ => posGe tag (posAdd c (docDist s h - fget s (MOT_HEDGE_LEAD h)))
      | [] => false
    let s := if starts then docStart h tag s else s
    let last := decide (nbands s h ≤ b + 1)
    let d := getDoc s h
    let s := setDoc h { d with lastTag := tag, lineDone := last } s
    let n := raw s (MOT_HDOCNUM h)
    if d.cur.isNone then (s, ⟨n, [flagGap], flag s (MOT_HDOC_GAP_CAP h)⟩)
    else
      let fl := if starts then [flagDocStart] else []
      if last && docEndsHere s h then (docFinish h tag s, ⟨n, fl ++ [flagDocEnd], true⟩) else (s, ⟨n, fl, true⟩)

/-- An overrun of band b: a document whose last band-line is lost ends on its tick (R274, R376). -/
def docOverrun (h b tag : Nat) (s : State) : State :=
  let last := decide (nbands s h ≤ b + 1)
  let s := setDoc h { getDoc s h with lineDone := last } s
  if last && docEndsHere s h then skipFinish h (raw s (MOT_HDOCNUM h)) (docFinish h tag s) else s

/-- A qualified covered edge of the head's sensor at position c (R274 to R276). -/
def docCovered (h c : Nat) (s : State) : State :=
  let d := getDoc s h
  let s := setDoc h { d with edges := d.edges ++ [(c, none)] } s
  if !flag s (MOT_HDOC_GRID_SYNC h) then s
  else if d.cur.isSome then setDoc h { getDoc s h with syncPend := d.syncPend ++ [c] } s
  else resync h c s

/-- A clear edge at e meets the open document: a last line already past moves the end (R274). -/
def docClearOpen (h e : Nat) (s : State) : State :=
  let d := getDoc s h
  let s := setDoc h { d with cur := d.cur.map fun p => (p.1, some e) } s
  let lim := docLimit s h e
  let late := posGe d.lineTag lim || (d.lineDone && match fget s (HEAD_TRIG_TRIG_SRC h) with
    | 0 => posGe (gridTag d.g0) lim
    | _ => false)
  if late then setFlag (setDoc h { getDoc s h with endNow := true } s) MOT_EVENTS_END_LATE true else s

/-- A qualified clear edge of the head's sensor at position e (R274). -/
def docClear (h e : Nat) (s : State) : State :=
  let d := getDoc s h
  match d.edges.getLast? with
  | some (c, none) => setDoc h { d with edges := d.edges.dropLast ++ [(c, some e)] } s
  | _ =>
    match d.cur with
    | some (_, none) => docClearOpen h e s
    | _ => s

/-- The head's axis makes a back-up or run-up move, during which edges do not count (R275). -/
def docBlind (s : State) (h : Nat) : Bool :=
  let m := fget s (MOT_ASTATUS_MOVE (fget s (HEAD_TRIG_AXIS h)))
  m == 1 || m == 2

/-- A write of 0 to DOC_EN: the open document ends with the earliest line not yet resolved; waiting edges go (R596). -/
def docDisable (h : Nat) (s : State) : State :=
  let d := getDoc s h
  setDoc h { d with edges := [], syncPend := [], endNow := d.cur.isSome } s

end Sys2Proof.Machine
end

