-- ==== Sys2Proof/Machine/CalOps.lean ====
section
/-! DEFINITION. What image calibration shares with the heads (spec/07): the strip rule, and the trial phases of a phase
search. -/

namespace Sys2Proof.Machine

/-- A band-line of head h triggered at position x is on the strip (R217): the guard sensor was clear at every position of
[x - DIST - MARGIN, x - DIST + MARGIN). -/
def onStrip (s : State) (h x : Nat) : Bool :=
  let d : Int := signed 32 (raw s (SHD_HDIST h))
  let m : Int := fget s (SHD_HREF_MARGIN h)
  let lo := posAdd x (-d - m)
  let hi := posAdd x (-d + m)
  let cov := tget (fun _ => []) s.shd.spans h
  flag s (SHD_HREF_GUARD_EN h) && cov.all fun p =>
    -- the covered span starts at or after hi, or ends at or before lo
    posGe p.1 hi || match p.2 with | some e => posGe lo e | none => false

/-- STEP of the phase search in FINE units, 1 to 8 (R223). -/
def phStep (s : State) (h : Nat) : Nat := clampNat 1 8 (fget s (SHD_HPHS_STEP h))

/-- SPAN of the phase search in root periods, 1 to 60 (R223). -/
def phSpan (s : State) (h : Nat) : Nat := clampNat 1 60 (fget s (SHD_HPHS_SPAN h))

/-- Points of a sweep (R223). -/
def phPoints (s : State) (h : Nat) : Nat := 16 * phSpan s h / phStep s h + 1

/-- Phase of a TAP_PHASE value in FINE units, eighths of a root period (R105). -/
def phaseOf (v : Nat) : Nat := 8 * (24 * min 99 (bitsOf v 22 16) + min 119 (bitsOf v 14 8)) + bitsOf v 2 0

/-- A TAP_PHASE value of a phase in FINE units, wrapped into the head's pixel period of 24 DIV root periods (R106). BASE is
0 while COARSE can hold it. -/
def phaseWord (div : Nat) (f : Int) : Nat :=
  let n : Nat := (f % ((192 * max 1 div : Nat) : Int)).toNat
  let root := n / 8
  let base := if root < 120 then 0 else root / 24
  base * 65536 + (root - 24 * base) * 256 + n % 8

/-- Trial phase of tap t at point i of a sweep of run r, in FINE units (R223). -/
def trialPhase (s : State) (r : RunSt) (t i : Nat) : Int :=
  (nget r.phi0 t : Int) - 8 * phSpan s r.head + i * phStep s r.head

/-- A phase search of head h applies a trial to the readout of this band-line: every band-line of PH_BAND in CALIBRATE; with
GAP those on the strip, while background work is not deferred (R223, R227, R231). -/
def trialLine (s : State) (h : Nat) (l : BandLine) : Option RunSt :=
  match runOf s h with
  | some r =>
    if r.kind = 3 ∧ r.stage = .measuring ∧ l.band = fget s (SHD_HPHS_PH_BAND h) ∧ r.trial < 3 * phPoints s h then
      if r.gap then
        if onStrip s h l.pos && modeIs s .scan && decide (fget s PWR_STATUS_LEVEL = 0) then some r else none
      else if l.noRecord && l.tag != 0 then some r else none
    else none
  | none => none

/-- A band-line read at the run's next trial phase; in a gap search it carries CAL_STALE (R223, R227). -/
def trialMark (r : RunSt) (q : BandLine) : BandLine :=
  let q := if r.gap then q.mark flagCalStale else q
  { q with trial := true, tag := r.trial + 1 }

/-- A gap search that may not apply a trial phase because background work is deferred (R231). -/
def trialHeld (h : Nat) (l : BandLine) (r : RunSt) (s : State) : State :=
  whenS (r.gap && onStrip s h l.pos && l.band == fget s (SHD_HPHS_PH_BAND h) && fget s PWR_STATUS_LEVEL != 0)
    (fun s => setFlag s SHD_EVENTS_DEFERRED true) s

/-- The active phases of the head's taps for the readout of this band-line: the trial point, or the tap's own (R223, R227). -/
def trialApply (h : Nat) (l : BandLine) (s : State) : State :=
  match runOf s h with
  | some r =>
    if r.kind = 3 ∧ r.stage = .measuring then
      let tr := (trialLine s h l).isSome
      let s := trialHeld h l r s
      let i := r.trial % phPoints s h
      let s := (tapsOf s h).foldl (fun s t =>
        let f : Int := if tr then trialPhase s r t i else nget r.phi0 t
        let w := BitVec.ofNat 32 (phaseWord (fget s (HEAD_CLK_DIV h)) f)
        { s with active := tset regReset s.active (TAP_PHASE t) w }) s
      if tr then
        let x := getHead s h
        setHead h { x with lines := x.lines.map fun q =>
          if q = l then trialMark r q else q } (setRun { r with trial := r.trial + 1 } s)
      else s
    else s
  | none => s

end Sys2Proof.Machine
end

