-- ==== Sys2Proof/Machine/LampOps.lean ====
section
/-! DEFINITION. The drive law of a lamp string (spec/10, R307 to R313, R332) and the start of the lamp rail (R322). -/

namespace Sys2Proof.Machine

/-- x rounded to nearest, halves away from zero (R162, R312). -/
def roundQ (x : Rat) : Int := if x < 0 then -((-x + 1 / 2).floor) else (x + 1 / 2).floor

/-- x limited to lo .. hi. -/
def clampQ (lo hi x : Rat) : Rat := if x < lo then lo else if hi < x then hi else x

/-- Key of string (SAT, STR). -/
def strKey (sat str : Nat) : Nat := 16 * sat + str

/-- FS of string k in 0.1 mA (R299, R301). -/
def fsOf (s : State) (k : Nat) : Nat := if k < 16 then 1000 else (getStr s k).fs

/-- The bin record as stored: registers of a local sink, or the satellite's record (R307). -/
def rawBin (s : State) (k : Nat) : Bin :=
  if k < 16 then
    { wl := fget s (LMP_SBIN0_WL k), iref := fget s (LMP_SBIN0_IREF k), flux := fget s (LMP_SBIN1_FLUX k)
      vf := fget s (LMP_SBIN1_VF k), kt := signed 16 (fget s (LMP_SBIN2_KT k)), kv := signed 16 (fget s (LMP_SBIN2_KV k))
      rd := fget s (LMP_SBIN3_RD k), valid := flag s (LMP_SBIN3_VALID k) }
  else (getStr s k).bin

/-- The bin values used: the record, or the defaults when VALID is 0 (R308). -/
def binOf (s : State) (k : Nat) : Bin :=
  let b := rawBin s k
  if b.valid then b else { b with iref := fsOf s k / 2, flux := 4096, vf := 0, kt := 0, kv := 0, rd := 0 }

/-- VF + RD x (I - IREF) in mV, with I and IREF in 0.1 mA (R309, R325). -/
def modelVf (b : Bin) (i : Rat) : Rat := (b.vf : Rat) + (b.rd : Rat) * (i - b.iref) / 10000

/-- Temperature estimate of a measurement (R309), clamped to -55 .. 150. -/
def tempOf (b : Bin) (vfm : Rat) (i : Rat) : Rat :=
  clampQ (-55) 150 (25 + (vfm - modelVf b i) * 100 / (b.kv : Rat))

/-- Tf of a string: 25 when VF or KV is 0 (R309). -/
def tfOf (s : State) (k : Nat) : Rat :=
  let b := binOf s k
  if b.vf = 0 ∨ b.kv = 0 then 25 else (getStr s k).tf

/-- Flux factor F (R310). -/
def fluxFactor (s : State) (k : Nat) : Rat :=
  let f : Rat := 1 + ((binOf s k).kt : Rat) * (tfOf s k - 25) / 100000
  if f < 1 / 4 then 1 / 4 else f

/-- Required charge q of a target (R310). The spec states no quotient for FLUX 0: a free value (DESIGN CHOICE, log entry 4). -/
def charge (s : State) (k : Nat) (tgt : Rat) : Rat :=
  let b := binOf s k
  if b.flux = 0 then ((Config.freeValue 1 k).toNat : Rat) / 4096 else tgt / ((b.flux : Rat) * fluxFactor s k)

/-- The points of S of R311: (0, 0), (0.25, RSP25) .. (1, RSP100). -/
def respPoint (r : Resp) (i : Nat) : Rat := if i = 0 then 0 else ((r.rsp.getD (i - 1) 0 : Nat) : Rat)

/-- S(c) of a response table: linear between its points (R311). -/
def respAt (r : Resp) (c : Rat) : Rat :=
  let i := clampInt 0 3 (c * 4).floor
  let a := respPoint r i.toNat
  let b := respPoint r (i.toNat + 1)
  a + (b - a) * (c * 4 - i)

/-- The valid response table of a string in a head-band (R311, R337). -/
def respOf (s : State) (k hb : Nat) : Option Resp :=
  let r := tget (fun _ => ({} : Resp)) s.lmp.resps (128 * k + hb)
  if r.rsp.isEmpty ∨ r.resp = 0 then none else some r

/-- L(c) of a string in a head-band (R311). The spec states no quotient for IREF 0: a free value (DESIGN CHOICE, log entry 4). -/
def shape (s : State) (k hb : Nat) (c : Rat) : Rat :=
  match respOf s k hb with
  | some r => respAt r c / r.resp
  | none =>
    let i := (binOf s k).iref
    if i = 0 then c * (Config.freeValue 2 k).toNat else c * (fsOf s k) / i

/-- c with L(c) = q, for a q between L(0) and L(1) (R312 item 1). -/
def shapeInv (s : State) (k hb : Nat) (q : Rat) : Rat :=
  match respOf s k hb with
  | some r =>
    let y := q * r.resp
    let i := if y ≤ respPoint r 1 then 0 else if y ≤ respPoint r 2 then 1 else if y ≤ respPoint r 3 then 2 else 3
    let a := respPoint r i
    let b := respPoint r (i + 1)
    ((i : Rat) + (y - a) / (b - a)) / 4
  | none => q / shape s k hb 1

/-- Dimming threshold c_th (R312). -/
def cTh : Rat := 128 / 1023

/-- Code and width fraction for a charge, given L at the threshold, L at full scale, and the inverse of L (R312, R313). -/
def driveFrom (q lth lone : Rat) (inv : Rat → Rat) : Drive :=
  if lone < q then ⟨1023, 65536, true⟩
  else if lth ≤ q then ⟨(roundQ (1023 * inv q)).toNat, 65536, false⟩
  else ⟨128, (roundQ (65536 * (q / lth))).toNat, false⟩

/-- The drive of string k for target tgt in head-band hb (R312). A target of 0 asks for no light. -/
def driveOf (s : State) (k hb : Nat) (tgt : Rat) : Drive :=
  let q := charge s k tgt
  driveFrom q (shape s k hb cTh) (shape s k hb 1) (shapeInv s k hb)

/-- Strobe width in ticks of a drive at an exposure (R313). -/
def strobeWidth (d : Drive) (exposure : Nat) : Nat := (2 * exposure * d.wf + 65536) / 131072

/-- Headroom target in mV (LMP_SERVO). -/
def hrTgt (s : State) : Nat := clampNat 200 1000 (fget s LMP_SERVO_HR_TGT)

/-- Lowest and highest VSET in mV (LMP_RAIL). -/
def vMin (s : State) : Nat := 100 * clampNat 50 480 (fget s LMP_RAIL_VMIN)
/-- Highest VSET in mV. -/
def vMax (s : State) : Nat := 100 * clampNat 50 480 (fget s LMP_RAIL_VMAX)

/-- VSET as the rail starts (R322). -/
def vsetStart (s : State) : Nat :=
  let vs := s.lmp.entries.filterMap fun e =>
    let k := strKey e.sat e.str
    let b := binOf s k
    if b.vf = 0 then none else some ((roundQ (modelVf b (fsOf s k) + hrTgt s)).toNat)
  clampNat (vMin s) (vMax s) (maxOf vs)

/-- Strings are driven in this mode (R338); the lamp test alone drives them in READY. -/
def lampMode (s : State) : Bool :=
  flag s LMP_CTL_EN &&
    (modeIn s [.scan, .hold, .limp, .service, .calibrate] || (modeIs s .ready && !s.lmp.test.isEmpty))

/-- The rail follows the mode and LMP_CTL.EN (R322, R338). -/
def railFollow (s : State) : State :=
  if lampMode s then
    if flag s LMP_STATUS_RAIL_ON then s
    else
      let s := fsets s [(LMP_VSET_VSET, vsetStart s), (LMP_STATUS_RAIL_ON, 1), (LMP_STATUS_RAIL_OK, 0)]
      { s with lmp := { s.lmp with railSince := 0 } }
  else if flag s LMP_STATUS_RAIL_ON then lampsDark s else s

end Sys2Proof.Machine
end

