-- ==== Sys2Proof/Machine/Strobe.lean ====
section
/-! DEFINITION. Strobes, the bus, diagnosis, dropped strings and the recompute of drives (spec/10, R314 to R336): the
operations that heads and lamp commands share. -/

namespace Sys2Proof.Machine

/-- The entry of string k in the block. -/
def entryOf (s : State) (k : Nat) : Option LampEntry := s.lmp.entries.find? fun e => strKey e.sat e.str == k

/-- Head served by an entry: HEAD for a local sink, the bus head for a satellite string (R299, R302). -/
def servedHead (s : State) (e : LampEntry) : Option Nat :=
  if e.sat = 0 then some e.head
  else if flag s LMP_CTL_BUS_EN then some (fget s LMP_CTL_BUS_HEAD) else none

/-- Head h is the bus head (R302). -/
def isBusHead (s : State) (h : Nat) : Bool := flag s LMP_CTL_BUS_EN && fget s LMP_CTL_BUS_HEAD == h

/-- LSTB high time in ticks. -/
def stbW (s : State) : Nat := clampNat 12 60 (fget s LMP_CTL_STB_W)

/-- Entry e is lit in band b (R305). -/
def LampEntry.litIn (e : LampEntry) (b : Nat) : Bool := bitOf e.bands b

/-- The sibling set of e in band b, e included: same source, same non-zero SIB, lit in b (R305). -/
def siblings (s : State) (e : LampEntry) (b : Nat) : List LampEntry :=
  if e.sib = 0 then [e] else s.lmp.entries.filter fun f => f.sat == e.sat && f.sib == e.sib && f.litIn b

/-- Target of an entry in a band, U4.12. -/
def LampEntry.target (e : LampEntry) (b : Nat) : Nat := e.tgt.getD b 0

/-- A string is dropped. -/
def isDropped (s : State) (e : LampEntry) : Bool := (getStr s (strKey e.sat e.str)).drop != 0

/-- Sum of targets in band b. -/
def sumTarget (l : List LampEntry) (b : Nat) : Nat := (l.map fun e => e.target b).sum

/-- The target that a string takes in a band: its own, with the targets of dropped siblings spread in proportion (R332). -/
def spreadTarget (s : State) (e : LampEntry) (b : Nat) : Rat :=
  let set := siblings s e b
  let live := set.filter fun f => !isDropped s f
  if sumTarget live b = 0 then (e.target b : Rat)
  else (e.target b : Rat) * sumTarget set b / sumTarget live b

/-- The full drive law for an entry: a drive for each band it is lit in, none where dropped or dark (R312, R332). -/
def drivesOf (s : State) (e : LampEntry) : Tbl Drive :=
  match servedHead s e with
  | none => []
  | some h =>
    if isDropped s e then []
    else (List.range 8).foldl (fun t b =>
      if e.litIn b then tset (fun _ => {}) t b (driveOf s (strKey e.sat e.str) (headBand h b) (spreadTarget s e b)) else t) []

/-- LMP_SSTAT and LMP_SDRV of a local sink show its state and its drives in force (R314, R331). -/
def showDrives (k : Nat) (s : State) : State :=
  if 16 ≤ k then s
  else
    let x := getStr s k
    match entryOf s k with
    | none =>
      let s := fset s (LMP_SSTAT_STATE k) 0
      forN 8 (fun b s => fsets s [(LMP_SDRV_WIDTH k b, 0), (LMP_SDRV_CODE k b, 0)]) s
    | some e =>
      let s := fset s (LMP_SSTAT_STATE k) (1 + x.drop)
      forN 8 (fun b s =>
        let d := tget (fun _ => {}) x.drv b
        fsets s [(LMP_SDRV_WIDTH k b, strobeWidth d (actField s (HEAD_BAND_EXPOSURE e.head b))), (LMP_SDRV_CODE k b, d.code)]) s

/-- Every drive is computed again (R314): local drives wait for the head's next B0 cause, satellite tables are rewritten and
latched (R319). A string computed with default bin values for the first time raises a P2 message (R308). -/
def recompute (s : State) : State :=
  s.lmp.entries.foldl (fun s e =>
    let k := strKey e.sat e.str
    let d := drivesOf s e
    let sat := d.any fun p => p.2.short
    let s := whenS sat (fun s => setFlag s LMP_EVENTS_DRIVE_SAT true) s
    let x := getStr s k
    let first := !(rawBin s k).valid && !x.reported
    let s := setStr k { x with nxt := d, nxtAt := some s.time, reported := x.reported || first } s
    let s := whenS first (raise 2 0xF 0xA0 [e.sat, e.str]) s
    if e.sat = 0 then s
    else
      let y := tget (fun _ => ({} : Sat)) s.lnk.sats e.sat
      if y.renum then s else
      let all := List.range (if flag s LNK_CTL_MODE then 28 else 16)
      -- a table write under way goes on where nothing in it changes
      let pages := if y.latch ∧ x.nxt = d then y.pages else all
      { s with lnk := { s.lnk with sats := tset (fun _ => {}) s.lnk.sats e.sat { y with pages := pages, latch := true } } }) s

/-- A drop without a live sibling in the band, or a cap that binds, leaves a deficit in the head-band (R332, R334). -/
def setDeficit (hb : Nat) (b : Bool) (s : State) : State :=
  { s with lmp := { s.lmp with deficit := bset s.lmp.deficit hb b } }

/-- Deficits of every head-band from the strings that are dropped alone or whose drives in force fall short (R334, R336). -/
def deficits (s : State) : State :=
  let t := s.lmp.entries.foldl (fun t e =>
    match servedHead s e with
    | none => t
    | some h =>
      let x := getStr s (strKey e.sat e.str)
      (List.range 8).foldl (fun t b =>
        if e.litIn b && (bitOf x.alone b || (tget (fun _ => ({} : Drive)) x.drv b).short) then bset t (headBand h b) true else t) t)
    ([] : Tbl Bool)
  { s with lmp := { s.lmp with deficit := t } }

/-- LIMP.LAMP clears once no string is dropped without siblings (R518). -/
def lampLimpFollow (s : State) : State :=
  if s.lmp.strs.any fun p => p.2.drop != 0 && p.2.alone != 0 then s else setFlag s SYS_LIMP_LAMP false

/-- What a B0 cause of head h, resolved on this tick, does to the local drives (R314, R335): drives loaded on an earlier tick
come into force, and restores act. -/
def lampsAtB0 (h : Nat) (s : State) : State :=
  let es := s.lmp.entries.filter fun e => servedHead s e == some h
  if es.isEmpty then s
  else
    let back := es.filter fun e => (getStr s (strKey e.sat e.str)).restore
    let s := back.foldl (fun s e =>
      let k := strKey e.sat e.str
      let x := getStr s k
      let s := fset s LMP_STATUS_DROPPED (fget s LMP_STATUS_DROPPED - b2n (x.drop != 0))
      setStr k { x with restore := false, drop := 0, alone := 0, scount := 0 } s) s
    let s := es.foldl (fun s e =>
      let k := strKey e.sat e.str
      let x := getStr s k
      let s :=
        if back.any fun f => f.sat == e.sat && (f == e || (f.sib == e.sib && f.sib != 0)) then
          setStr k { x with drv := drivesOf s e, nxtAt := none, riseAt := none } s
        else match x.nxtAt with
          | some t => if t < s.time then setStr k { x with drv := x.nxt, nxtAt := none, riseAt := none } s else s
          | none => s
      showDrives k s) s
    lampLimpFollow (deficits s)

/-! The bus (R316, R317). -/

/-- LBAND takes a value. -/
def setLband (b : Nat) (s : State) : State :=
  if s.lmp.lband = b % 8 then s else { s with lmp := { s.lmp with lband := b % 8, lbandAt := s.time } }

/-- LBAND after a write of LMP_CTL: the band of the bus head's next trigger, unless a hold runs; 0 while there is no bus head or
it is OFFLINE (R302, R316). -/
def lbandFollow (s : State) : State :=
  if s.lmp.hold.isSome then s
  else
    let h := fget s LMP_CTL_BUS_HEAD
    setLband (if flag s LMP_CTL_BUS_EN && headState s h != 0 then fget s (HEAD_STATUS_BAND h) else 0) s

/-- An accepted trigger of the bus head, cause at this tick: LBAND holds until STB_W + 12 ticks after its LSTB (R316). -/
def busHold (h : Nat) (s : State) : State :=
  if isBusHead s h then
    let t := s.time + 4 + stbW s + 12
    schedule { s with lmp := { s.lmp with hold := some t } } t .lbandHoldEnd
  else s

/-- An overrun of the bus head: LBAND changes at once unless a hold runs (R316). -/
def busOverrun (h : Nat) (s : State) : State :=
  if isBusHead s h && s.lmp.hold.isNone then setLband (fget s (HEAD_STATUS_BAND h)) s else s

/-! Strobes (R313, R315, R326, R338). -/

/-- Strings that a lamp run measures, in band order and then string order (R229): band, string key. -/
def runStrings (s : State) (r : RunSt) : List (Nat × Nat) :=
  (List.range 8).flatMap fun b =>
    if bitOf r.bands b then
      let ks := (s.lmp.entries.filter fun e => servedHead s e == some r.head && e.litIn b
          && (r.str == 255 || (e.sat == r.sat && e.str == r.str))).map fun e => strKey e.sat e.str
      ((List.range 4096).filter fun k => ks.contains k).map fun k => (b, k)
    else []

/-- The strings of the band table are driven at triggers of head h (R204, R212, R226, R338): in CALIBRATE by the runs on
reflected light only. -/
def tableStrobes (s : State) (h : Nat) : Bool :=
  lampMode s && !modeIs s .ready && (!modeIs s .calibrate || (runOf s h).any fun r => r.kind == 2 || r.kind == 3)

/-- The bus rises at point pt of a run of head h (R212, R229, R316): with the band table's strings, or in a lamp run for a
satellite string. -/
def busDriven (s : State) (h pt : Nat) : Bool :=
  tableStrobes s h || (lampMode s && modeIs s .calibrate && (runOf s h).any fun r =>
    r.kind == 4 && ((runStrings s r).drop (pt / 4)).head?.any fun p => decide (16 ≤ p.2))

/-- LSTB rises for a band-line of the bus head, unless LBAND changed fewer than 12 ticks ago (R317) or no strobe is driven
(R316). The second component says that it was suppressed. -/
def busStrobe (h pt : Nat) (s : State) : State × Bool :=
  if isBusHead s h && busDriven s h pt then
    if s.lmp.lbandAt ≠ 0 ∧ s.time < s.lmp.lbandAt + 12 then
      let s := fset s LMP_CNT_SUPPR (satAdd 0xFFFF (fget s LMP_CNT_SUPPR) 1)
      (pmcEvent 0x1D (setFlag s LMP_EVENTS_BUS_SUPPR true), true)
    else
      (schedule (pmcEvent 0x19 { s with lmp := { s.lmp with lstb := true } }) (s.time + stbW s) .lstbFall, false)
  else (s, false)

/-- The local strings driven at a trigger of head h in band b, with their drives; pt is the point of a lamp run (R204, R229,
R338). -/
def strobeDrives (s : State) (h b pt : Nat) : List (Nat × Drive) :=
  let normal := (s.lmp.entries.filter fun e => e.sat == 0 && e.head == h && e.litIn b && !isDropped s e).map fun e =>
    let x := getStr s e.str
    let rises := match x.riseAt with | some t => decide (t ≤ s.time) && x.rise.any (fun p => p.1 == b) | none => false
    (e.str, tget (fun _ => {}) (if rises then x.rise else x.drv) b)
  if tableStrobes s h then normal
  else if lampMode s && modeIs s .calibrate then
    match runOf s h with
    | none => []
    | some r =>
      if r.kind = 4 then
        match (runStrings s r).drop (pt / 4) with
        | (_, k) :: _ => if k < 16 then [(k, ⟨(roundQ (1023 * (((pt % 4 + 1 : Nat) : Rat)) / 4)).toNat, 65536, false⟩)] else []
        | [] => []
      else []
  else []

/-- A string becomes due (R326). -/
def makeDue (k : Nat) (s : State) : State :=
  let x := getStr s k
  if x.due.isSome then s
  else schedule (cancel (setStr k { x with due := some s.time, late := false } s) (.stringDueTimeout k))
    (s.time + 600000) (.diagLate k)

/-- A short strobe counts toward the due rule (R326). -/
def shortStrobe (k : Nat) (s : State) : State :=
  let x := getStr s k
  let first := x.scount = 0
  let x := { x with scount := min 255 (x.scount + 1), firstShort := if first then s.time else x.firstShort }
  let s := pmcEvent 0x1B (fset (setStr k x s) (LMP_SSTAT_SCOUNT k) x.scount)
  let s := if first then schedule s (s.time + 60000 * max 1 (fget s LMP_DIAG_DUE_T)) (.stringDueTimeout k) else s
  if max 1 (fget s LMP_DIAG_DUE_N) ≤ x.scount then makeDue k s else s

/-- One string opens (R315). -/
def openStrobe (h b exposure : Nat) (p : Nat × Drive) (s : State) : State :=
  let w := strobeWidth p.2 exposure
  if w = 0 then s
  else
    let k := p.1
    let q := (s.time, w, p.2.code, h, b, false)
    let s := setStr k { getStr s k with strobe := some q, toDiag := if 192 ≤ w then some q else none } s
    let s := schedule (pmcEvent 0x18 (fset s (LMP_SSTAT_CODE k) p.2.code)) (s.time + w) (.strobeEnd k)
    if w < 192 then shortStrobe k s else s

/-- Lamp flags that a band-line of head h, band b, takes as its exposure window opens (R317, R319, R322, R333, R334, R485). -/
def lampFlags (s : State) (h b : Nat) (suppressed : Bool) : List Nat :=
  let rs := s.lmp.redist.filter fun r => r.head == h && r.band == b
  let bus := isBusHead s h
  let deficit := suppressed || !flag s LMP_STATUS_RAIL_OK || bget s.lmp.deficit (headBand h b)
    || rs.any (fun r => !r.applied) || (bus && s.lnk.deficit)
  let adj := rs.any (fun r => r.applied) || (bus && s.lmp.satPend)
  (if deficit then [flagLampDeficit] else []) ++ (if adj then [flagLampAdj] else [])

/-- The exposure window of a band-line opens (R51, R71, R315, R316): LSTB and the local strobes; the line's lamp flags. -/
def strobeLine (h : Nat) (l : BandLine) (s : State) : State × BandLine :=
  let r := busStrobe h l.point s
  let fl := lampFlags r.1 h l.band r.2
  let s := (strobeDrives r.1 h l.band l.point).foldl (fun s p => openStrobe h l.band l.exposure p s) r.1
  (s, { fl.foldl BandLine.mark l with suppressed := r.2 })

/-- Band b of head h allows diagnosis (R327). -/
def allowsDiag (s : State) (h b : Nat) : Bool :=
  let e := actField s (HEAD_BAND_EXPOSURE h b)
  let read := (fget s (HEAD_READ_DARK h) + fget s (HEAD_READ_DUMMY h) + fget s (HEAD_READ_PPT h)) * pixTicks s h
  let bmin := if fget s (HEAD_CTL_READ_MODE h) = 0 then max e (max 3000 read) else e + read
  decide (e + 192 ≤ bmin)

/-- Diagnostic pulses at the close of an exposure window (R327, R330): every string of the head that was due as the window
opened pulses together; in ROLLING mode the band-line carries LAMP_ADJ. -/
def placeDiag (h : Nat) (l : BandLine) (s : State) : State :=
  let ks := (s.lmp.entries.filter fun e => e.sat == 0 && e.head == h && !isDropped s e).filterMap fun e =>
    match (getStr s e.str).due with
    | some t => if t ≤ l.fireAt ∧ (getStr s e.str).strobe.isNone then some e.str else none
    | none => none
  if ks.isEmpty || l.suppressed || !tableStrobes s h || !allowsDiag s h l.band then s
  else
    let s := ks.foldl (fun s k =>
      let q := (s.time, 192, 128, h, l.band, true)
      let s := setStr k { getStr s k with strobe := some q, toDiag := some q } s
      schedule (pmcEvent 0x1A (fset s (LMP_SSTAT_CODE k) 128)) (s.time + 192) (.strobeEnd k)) s
    if fget s (HEAD_CTL_READ_MODE h) = 0 then
      markLines h (fun q => decide (q.fireAt = l.fireAt)) flagLampAdj s
    else s

end Sys2Proof.Machine
end

