-- ==== Sys2Proof/Machine/HeadOps.lean ====
section
/-! DEFINITION. What a trigger cause does to a head, and how its band-lines move on (spec/03, R51, R57 to R95): the operations
that the causes of every source share. -/

namespace Sys2Proof.Machine

/-! Causes (R73 to R79). -/

/-- A foreground run in CALIBRATE drives the head's triggers (R204). -/
def runDrives (s : State) (h : Nat) : Bool :=
  match runOf s h with
  | some r => !r.gap && decide (r.stage = .measuring)
  | none => false

/-- The head takes causes of its own source: no run drives it (R204), and a timer is not ignored in SCAN or HOLD (R76). -/
def sourceOpen (s : State) (h : Nat) : Bool :=
  !runDrives s h && !(fget s (HEAD_TRIG_TRIG_SRC h) == 2 && modeIn s [.scan, .hold])

/-- A cause is ignored and counted (R79, R88). -/
def ignoreCause (h : Nat) (s : State) : State :=
  fset s (HEAD_TRIGSTAT_IGNORED h) (satAdd 0xFFFF (fget s (HEAD_TRIGSTAT_IGNORED h)) 1)

/-- Level of HnAUX before band b with AUX_MODE 1, or STATIC (R70). -/
def auxLevel (s : State) (h b : Nat) : Bool :=
  if actField s (HEAD_AUX_AUX_MODE h) = 1 then actField s (HEAD_BAND_AUX h b) == 1 else actField s (HEAD_AUX_STATIC h) == 1

/-- HnCLK of head h runs (R66): from step 2 of its start on (R86). -/
def headClk (s : State) (h : Nat) : Bool := (getHead s h).clkOn && decide ((getHead s h).clkAt ≤ s.time)

/-- Level of HnAUX: IDLE until step 2 of the head's start (R70, R86). -/
def headAux (s : State) (h : Nat) : Bool :=
  if (getHead s h).clkOn && decide (s.time < (getHead s h).clkAt) then idleAux s h else (getHead s h).aux

/-- The pending band set of a head that is not OFFLINE becomes active for a B0 cause (R84); a changed EXPOSURE of the bus head
leaves its satellite tables pending (R319). -/
def commitBandSet (h : Nat) (s : State) : State :=
  if flag s (HEAD_CTL_COMMIT h) && decide ((getHead s h).commitAt < s.time) then
    let chg := (List.range 8).any fun b =>
      actField s (HEAD_BAND_EXPOSURE h b) != fget s (HEAD_BAND_EXPOSURE h b)
    let s := activateBandSet h s
    let s := whenS (actField s (HEAD_AUX_AUX_MODE h) == 0) (fun s => setHead h { getHead s h with aux := auxLevel s h 0 } s) s
    let sats := s.lmp.entries.any fun e => e.sat != 0
    whenS (chg && isBusHead s h && sats) (fun s => { s with lmp := { s.lmp with satPend := true } }) s
  else s

/-- A B0 cause begins a line (R78, R79, R84, R314): the band set commits, the line number moves on, waiting drives come into
force, and the documents see its tag. A run's lines are not numbered (R204). -/
def lineBegin (h tag : Nat) (run : Bool) (s : State) : State :=
  let s := lampsAtB0 h (commitBandSet h s)
  if run then s
  else
    let x := getHead s h
    let s := setRaw s (HEAD_LINE h) (if x.numbered then (raw s (HEAD_LINE h) + 1) % 2 ^ 32 else 0)
    docLine h tag (setHead h { x with seenB0 := true, numbered := true } s)

/-- The band after b (R73). -/
def nextBand (s : State) (h b : Nat) : Nat := if b + 1 < nbands s h then b + 1 else 0

/-- A cause of band b on this tick is an overrun (R77). -/
def isOverrun (s : State) (h : Nat) : Bool :=
  headBusy s h || (getHead s h).lines.any fun l => decide (l.stage = .accepted)

/-- An overrun of band b (R77, R78, R316). -/
def overrun (h b tag : Nat) (run : Bool) (s : State) : State :=
  let first := !flag s (HEAD_EVENTS_TRIG_OVR h)
  let s := fset s (HEAD_TRIGSTAT_OVERRUN h) (satAdd 0xFFFF (fget s (HEAD_TRIGSTAT_OVERRUN h)) 1)
  let s := setFlag s (HEAD_EVENTS_TRIG_OVR h) true
  let s := whenS first (raise 1 6 0x81 [h, b, raw s (HEAD_LINE h)]) s
  let s := pmcEvent 0x04 s
  let s := whenS (!run) (docOverrun h b tag) s
  busOverrun h (fset s (HEAD_STATUS_BAND h) (nextBand s h b))

/-- The axis of a head stood still between tick t and now (R283): HOLD, or a rest of at least 1 ms. -/
def standstillSince (s : State) (m t : Nat) : Bool :=
  let x := getAxis s m
  modeIs s .hold || (match x.still with | some u => decide (t < u) | none => false)
    || (flag s (MOT_ASTATUS_REST m) && decide (x.lastMove + 600000 ≤ s.time))

/-- Ticks since the previous trigger of band b, or since ONLINE (R81, R163). -/
def linePeriod (s : State) (h b : Nat) : Nat :=
  let x := getHead s h
  match x.lastTrig.find? fun p => p.1 == b with
  | some p => s.time - p.2
  | none => s.time - x.onlineAt

/-- SEAM of a band-line of band b that a crossing causes (R283): a standstill since the previous band-line of the band, or
since ONLINE. -/
def isSeam (s : State) (h b : Nat) : Bool :=
  let since := match (getHead s h).lastTrig.find? fun p => p.1 == b with
    | some p => p.2
    | none => (getHead s h).onlineAt
  fget s (HEAD_TRIG_TRIG_SRC h) == 0 && standstillSince s (fget s (HEAD_TRIG_AXIS h)) since

/-- The band-line that an accepted cause of band b makes (R51, R64, R81, R271, R274). -/
def newLine (s : State) (h b tag : Nat) (run : Bool) (d : DocTag) : BandLine :=
  { band := b, line := raw s (HEAD_LINE h), pos := tag, time := s.time, period := linePeriod s h b, doc := d.doc
    flags := (d.flags ++ (if isSeam s h b then [flagSeam] else [])).foldl setBit 0
    exposure := actField s (HEAD_BAND_EXPOSURE h b), hctl := act s (PIPE_HCTL h)
    bgo := act s (PIPE_BGO (headBand h b)), thr := act s (PIPE_THR (headBand h b))
    gen := none, unfit := false, noRecord := run, stage := .accepted, fireAt := s.time + 4, expEnd := 0, readAt := 0
    readLast := 0, drop := !run && !d.store }

/-- An accepted cause of band b (R51, R73). -/
def acceptCause (h : Fin 16) (b tag : Nat) (run : Bool) (s : State) : State :=
  let r : State × DocTag := if run then (s, {}) else docAccept h b tag s
  let s := r.1
  let l := newLine s h b tag run r.2
  let x := getHead s h
  let s := setHead h { x with
    lines := x.lines ++ [l], lastTrig := (x.lastTrig.filter fun p => p.1 != b) ++ [(b, s.time)] } s
  let s := schedule s (s.time + 4) (.triggerFire h)
  fset (busHold h s) (HEAD_STATUS_BAND h) (nextBand s h b)

/-- A cause of band b of an ONLINE head (R77 to R79). -/
def causeAt (h : Fin 16) (b tag : Nat) (run : Bool) (s : State) : State :=
  let s := if b = 0 then lineBegin h tag run s else s
  if isOverrun s h then overrun h b tag run s else acceptCause h b tag run s

/-- A cause of the head's own source for band b (R76, R79, R88, R89). -/
def headCause (h : Fin 16) (b tag : Nat) (s : State) : State :=
  if !sourceOpen s h then s
  else match headState s h with
  | 1 => ignoreCause h s
  | 2 => if !(getHead s h).seenB0 && b != 0 then ignoreCause h s else causeAt h b tag false s
  | _ => s

/-- A timer, XSYNC or software cause (R74, R271). -/
def plainCause (h : Fin 16) (s : State) : State := headCause h (fget s (HEAD_STATUS_BAND h)) (headPos s h) s

/-- A crossing of gnext (R269 to R271): a cause of the band of the point, and the grid moves on. -/
def gridCause (h : Fin 16) (s : State) : State :=
  let s := pmcEvent 0x23 s
  let s := headCause h (getDoc s h).gband (gridTag (gnext s h)) s
  docAfterEnd h (gridAdvance h s)

/-- An XSYNC cause (R52, R74): every head whose source is XSYNC. -/
def xsyncCause (s : State) : State :=
  (List.range 16).foldl (fun s h => match finOf 16 h with
    | some i => if fget s (HEAD_TRIG_TRIG_SRC h) = 1 then plainCause i s else s
    | none => s) s

/-! Start pulses and readouts (R61 to R69). -/

/-- Ticks of the readout that a start pulse rising at t begins (R62, R65, R68): fall of HnSP, first readout pixel period, end
of the last one, end of the second turnaround period. -/
structure Readout where
  fall : Nat
  first : Nat
  last : Nat
  done : Nat
  deriving DecidableEq, Repr

/-- AFE periods of one HnCLK period, in ticks (R67). -/
def clkTicks (s : State) (h : Nat) : Nat :=
  6 * (if flag s (HEAD_CLK_CLK2X h) then fget s (HEAD_CLK_DIV h) / 2 else fget s (HEAD_CLK_DIV h))

/-- Pixel periods that a readout samples: dark, dummy, active (R61). -/
def readPixels (s : State) (h : Nat) : Nat :=
  fget s (HEAD_READ_DARK h) + fget s (HEAD_READ_DUMMY h) + fget s (HEAD_READ_PPT h)

/-- The readout of a start pulse that rises at tick t (R62, R65, R68). -/
def readoutOf (s : State) (h t : Nat) : Readout :=
  let p := pixTicks s h
  let anchor := edgeAt p (t + fget s (HEAD_SP_SP_SETUP h))
  let first := anchor + fget s (HEAD_SP_READ_DELAY h) * p
  let last := first + readPixels s h * p
  ⟨anchor + (fget s (HEAD_SP_SP_WIDTH h) - 1) * clkTicks s h + fget s (HEAD_SP_SP_HOLD h), first, last, last + 2 * p⟩

/-- PGA step of tap t in band b: the fields lie three bits apart; 5 to 7 act as 4 (R100, R101). -/
def pgaStep (s : State) (t b : Nat) : Nat := min 4 (bitsOf (act s (TAP_PGA t)) (3 * b + 2) (3 * b))

/-- A start pulse of head h rises now; the readout that it begins takes line l, or is a wipe (R64, R68, R123). Taps that wait
for a stand-in give their pedestal (R152), lanes without a spare give 0 (R194). -/
def startReadout (h : Fin 16) (l : Option BandLine) (s : State) : State :=
  let r := readoutOf s h s.time
  let x := getHead s h
  let lines := match l with
    | none => x.lines
    | some l => x.lines.map fun q =>
      if q = l then
        let ped := (tapsOf s h).filter fun t => (getTap s t).pedestal
        let zero := (List.range 32).filter fun k => bget s.pipe.zero k
        { q with stage := .reading, readAt := r.first, readLast := r.last
                 pedestal := q.pedestal ++ ped.map fun t => (t, s.time, 2 ^ 64)
                 dead := zero.map fun k => (k, s.time, 2 ^ 64)
                 trk := (tapsOf s h).map fun t => iget s.pipe.trk (8 * t + q.band)
                 pga := (tapsOf s h).map fun t => pgaStep s t q.band }
      else q
  let s := setHead h { x with lines := lines, sp := some (s.time, r.fall), phaseAt := some (r.first - pixTicks s h)
                              pgaAt := if l.isSome then some r.last else none } s
  let s := schedule s (r.first - pixTicks s h) (.tapPhaseActivate h)
  if l.isSome then schedule (schedule s r.last (.readoutEnd h)) r.done (.readoutEnd h) else s

/-- The end of the second turnaround period of a readout (R65). -/
def turnaround (s : State) (h last : Nat) : Nat := last + 2 * pixTicks s h

/-- A visit whose overlap begins: the slice's head has opened a busy window after the run (R144). -/
def overlapOpens (h : Nat) (s : State) : State :=
  forN 16 (fun g s =>
    let x := getGroup s g
    whenS (fget s (SLC_GSTATE_PHASE g) == 3 && decide (x.running < 16) && inRange s h (16 * g + x.running)
        && decide (x.runEnd < s.time)) (fun s => fset s (SLC_GSTATE_PHASE g) 4) s) s

/-- The trigger of band-line l fires (R51, R63 to R65, R71): lamps and LSTB, the start pulse, the busy window. -/
def fireLine (h : Fin 16) (l : BandLine) (s : State) : State :=
  let r := strobeLine h l s
  let s := r.1
  let l2 := { r.2 with stage := .exposing, expEnd := s.time + l.exposure }
  let x := getHead s h
  let s := setHead h { x with lines := x.lines.map fun q => if q = l then l2 else q, wipe := false } s
  let rolling := fget s (HEAD_CTL_READ_MODE h) == 0
  let done :=
    if rolling then (readoutOf s h s.time).done else (readoutOf s h l2.expEnd).done
  let closes := max done (max l2.expEnd (s.time + 3000))
  let s :=
    if rolling then
      startReadout h (if x.wipe then none else (getHead s h).lines.find? fun q => decide (q.stage = .sensor)) s
    else setHead h { getHead s h with sp := some (s.time, (readoutOf s h s.time).fall) } s
  let s := setHead h { getHead s h with busy := (getHead s h).busy ++ [⟨s.time, closes, done⟩] } s
  overlapOpens h (schedule (schedule s l2.expEnd (.exposureEnd h)) closes (.busyWindowClose h))

/-! The way through the lanes (R147, R148, R190, R194). -/

/-- Generation number of a head-band (R190). -/
def genOf (s : State) (hb : Nat) : Nat :=
  if hb % 2 = 0 then fget s (PIPE_GEN_GEN_LO (hb / 2)) else fget s (PIPE_GEN_GEN_HI (hb / 2))

/-- The slice that serves tap t within its group: its own, or the guest 16 (R147). -/
def serverOf (s : State) (t : Nat) : Nat := if flag s (TAP_STATUS_GUEST t) then 16 else t % 16

/-- Age of a slice's trims in ticks (R153). -/
def trimAge (s : State) (g i : Nat) : Nat := s.time - nget (getGroup s g).passAt i

/-- The trims of the server of tap t are older than AGE_LIM (R153). -/
def staleTrims (s : State) (t : Nat) : Bool :=
  decide (600000000 * max 1 (fget s SLC_CTL_AGE_LIM) < trimAge s (t / 16) (serverOf s t))

/-- A band-line's readout has ended: what its samples carried (R147, R148, R153, R190). -/
def intoLanes (h : Nat) (l : BandLine) (s : State) : State :=
  let taps := tapsOf s h
  let guests := taps.filter fun t => flag s (TAP_STATUS_GUEST t)
  let fl := (if guests.isEmpty then [] else [flagGuest]) ++ (if taps.any (staleTrims s) then [flagCalStale] else [])
  let g := match l.gen with | some g => g | none => genOf s (headBand h l.band)
  let l2 := fl.foldl BandLine.mark { l with
    stage := .lanes, gen := some g, guests := guests
    unfit := l.unfit || guests.any fun t => !bget (getGroup s (t / 16)).fitted (t % 16) }
  let x := getHead s h
  let s := setHead h { x with lines := x.lines.map fun q => if q = l then l2 else q } s
  pmcEvents 0x00 {} (taps.length * (fget s (HEAD_READ_DARK h) + fget s (HEAD_READ_PPT h))) s

/-- Pending TAP_PGA copies written before this tick become active (R102, R123). -/
def activatePga (h : Nat) (s : State) : State :=
  (tapsOf s h).foldl (fun s t =>
    let x := getTap s t
    match x.pgaPend with
    | some w =>
      if w < s.time then
        let s := setTap t { x with pgaPend := none } (activate s (TAP_PGA t))
        setFlag s (TAP_STATUS_PEND t) x.phasePend.isSome
      else s
    | none => s) s

/-- Pending TAP_PHASE copies written before this tick become active (R123). -/
def activatePhase (h : Nat) (s : State) : State :=
  (tapsOf s h).foldl (fun s t =>
    let x := getTap s t
    match x.phasePend with
    | some w =>
      if w < s.time then
        let s := whiteRestartTap t (setTap t { x with phasePend := none } (activate s (TAP_PHASE t)))
        setFlag s (TAP_STATUS_PEND t) x.pgaPend.isSome
      else s
    | none => s) s

/-! STOPPING (R89, R90, R95). -/

/-- A STOPPING head moves on (R90): once nothing is under way the pending band-line of a ROLLING head is read by one final
start pulse; once every record is stored the stop is done. -/
def stopProgress (h : Fin 16) (s : State) : State :=
  let x := getHead s h
  if headState s h ≠ 3 ∨ headBusy s h then s
  else if x.lines.isEmpty then schedule s s.time (.headStopDone h)
  else if x.finalSp || x.lines.any (fun l => decide (l.stage ≠ .sensor) && decide (l.stage ≠ .lanes)) then s
  else
    match x.lines.find? fun l => decide (l.stage = .sensor) with
    | none => s
    | some l =>
      let s := setHead h { x with finalSp := true } s
      let s := startReadout h (some l) s
      let done := (readoutOf s h s.time).done
      schedule (setHead h { getHead s h with busy := [⟨s.time, done, done⟩] } s) done (.busyWindowClose h)

/-- An ONLINE head becomes STOPPING (R89, R95): it takes no more causes, and a calibration run ends (R205). -/
def beginStop (h : Fin 16) (s : State) : State :=
  let s := fsets s [(HEAD_STATUS_STATE h, 3), (HEAD_CTL_ONLINE h, 0)]
  let s := setHead h { getHead s h with stopAtClose := false } s
  stopProgress h (abortRun h 0x59 s)

/-! Starts (R58, R86, R87). -/

/-- Ranges of the geometry and of the active band set (R87): the lowest code that applies, 0 for none. -/
def startError (s : State) (h : Nat) : Nat :=
  let a := fget s (HEAD_TAPS_FIRST_TAP h)
  let b := fget s (HEAD_TAPS_LAST_TAP h)
  let clash := (List.range 16).any fun k =>
    k != h && decide (headState s k ≠ 0) && decide (fget s (HEAD_TAPS_FIRST_TAP k) ≤ b) && decide (a ≤ fget s (HEAD_TAPS_LAST_TAP k))
  let ppt := fget s (HEAD_READ_PPT h)
  let div := fget s (HEAD_CLK_DIV h)
  let nb := nbands s h
  let sp (f : Nat → Fld) : Nat := fget s (f h)
  if b < a then 1
  else if clash then 2
  else if ppt < 16 ∨ 2048 < ppt ∨ 64 < fget s (HEAD_READ_DARK h) then 3
  else if div < 5 ∨ 100 < div ∨ (flag s (HEAD_CLK_CLK2X h) = true ∧ div % 2 = 1) then 4
  else if nb < 1 ∨ 8 < nb ∨ act s (HEAD_PITCH h) < nb * 256 then 5
  else if (List.range nb).any (fun k => actField s (HEAD_BAND_EXPOSURE h k) == 0) ∨ actField s (HEAD_TIMER_PERIOD h) < 3000 then 6
  else if sp HEAD_SP_SP_WIDTH < 1 ∨ 16 < sp HEAD_SP_SP_WIDTH ∨ sp HEAD_SP_SP_SETUP < 1 ∨ sp HEAD_SP_SP_HOLD < 1
      ∨ 12 < sp HEAD_SP_READ_DELAY then 7
  else 0

/-- A start fails with a code (R87). -/
def startFail (h code : Nat) (s : State) : State :=
  setFlag (fsets s [(HEAD_STATUS_CFG_ERR h, code), (HEAD_CTL_ONLINE h, 0)]) (HEAD_EVENTS_START_FAIL h) true

/-- A run in progress on a slice of a tap that the head takes hands that tap to the guest (R149). -/
def guestsAtTake (h : Nat) (s : State) : State :=
  forN 16 (fun g s =>
    let x := getGroup s g
    let i := fget s (SLC_GSTATE_GUEST_TAP g)
    if fget s (SLC_GSTATE_PHASE g) == 2 && decide (x.running < 16) && inRange s h (16 * g + x.running) && i == 16 then
      setFlag (fset s (SLC_GSTATE_GUEST_TAP g) x.running) (TAP_STATUS_GUEST (16 * g + x.running)) true
    else s) s

/-- A guest committed to a tap of the head serves it from the first readout (R150). -/
def guestsAtOnline (h : Nat) (s : State) : State :=
  forN 16 (fun g s =>
    let i := fget s (SLC_GSTATE_GUEST_TAP g)
    whenS ((getGroup s g).committed && decide (i < 16) && inRange s h (16 * g + i))
      (fun s => setFlag s (TAP_STATUS_GUEST (16 * g + i)) true) s) s

end Sys2Proof.Machine
end

