-- ==== Sys2Proof/Machine/PipeOps.lean ====
section
/-! DEFINITION. The shading store and the coefficients of the pipeline as data (spec/06, R158, R159, R168, R177). -/

namespace Sys2Proof.Machine

/-- Store entry of pixel j of tap t in band b (R158). -/
def storeEntry (t b j : Nat) : Nat := (8 * t + b) * 2048 + j

/-- G of store entry e; 0x4000 unless written (R177). -/
def getG (s : State) (e : Nat) : Nat := tget (fun _ => 0x4000) s.pipe.g e
/-- Write G of an entry. -/
def setG (e v : Nat) (s : State) : State := { s with pipe := { s.pipe with g := tset (fun _ => 0x4000) s.pipe.g e v } }
/-- D0 of store entry e. -/
def getD0 (s : State) (e : Nat) : Int := iget s.pipe.d0 e
/-- Write D0 of an entry. -/
def setD0 (e : Nat) (v : Int) (s : State) : State := { s with pipe := { s.pipe with d0 := iset s.pipe.d0 e v } }
/-- D1 of byte i. -/
def getD1 (s : State) (i : Nat) : Int := iget s.pipe.d1 i
/-- Write D1 of a byte. -/
def setD1 (i : Nat) (v : Int) (s : State) : State := { s with pipe := { s.pipe with d1 := iset s.pipe.d1 i v } }
/-- LUT byte k of head-band hb is k >> 4 unless written (R168). -/
def lutDefault (i : Nat) : Nat := i % 4096 / 16
/-- LUT byte at 4096 hb + k. -/
def getLut (s : State) (i : Nat) : Nat := tget lutDefault s.pipe.lut i
/-- Write a LUT byte. -/
def setLut (i v : Nat) (s : State) : State := { s with pipe := { s.pipe with lut := tset lutDefault s.pipe.lut i v } }
/-- TRK[t, b] in 1/16 code (R161). -/
def getTrk (s : State) (t b : Nat) : Int := iget s.pipe.trk (8 * t + b)
/-- Write TRK[t, b]. -/
def setTrk (t b : Nat) (v : Int) (s : State) : State := { s with pipe := { s.pipe with trk := iset s.pipe.trk (8 * t + b) v } }

/-- Set the generation number of a head-band (R190). -/
def setGen (hb v : Nat) (s : State) : State :=
  if hb % 2 = 0 then fset s (PIPE_GEN_GEN_LO (hb / 2)) v else fset s (PIPE_GEN_GEN_HI (hb / 2)) v

/-- The next generation number: 0xFFFF wraps to 1 (R190). -/
def genNext (g : Nat) : Nat := if g = 0xFFFF then 1 else g + 1

/-- The four bytes of store entry e: D0 in bits 31:16, G in bits 15:0 (R159). -/
def entryBytes (s : State) (e : Nat) : List Byte := leBytes (toField 16 (getD0 s e) * 65536 + getG s e) 4

/-- A row of a store bank, 256 bytes (R176). -/
def rowBytes (s : State) (bank row : Nat) : List Byte :=
  if bank < 16 then (List.range 64).flatMap fun k => entryBytes s (bank * 262144 + row * 64 + k)
  else if row < 2048 then (List.range 256).map fun k => BitVec.ofNat 8 (toField 8 (getD1 s (row * 256 + k)))
  else (List.range 256).map fun k => BitVec.ofNat 8 (getLut s ((row - 2048) * 256 + k))

/-- Write a row of a store bank from bytes starting at place i (R241). -/
def writeRow (bank row : Nat) (b : List Byte) (i : Nat) (s : State) : State :=
  if bank < 16 then
    forN 64 (fun k s =>
      let e := bank * 262144 + row * 64 + k
      let v := leAt b (i + 4 * k) 4
      setD0 e (signed 16 (v / 65536)) (setG e (v % 65536) s)) s
  else if row < 2048 then forN 256 (fun k s => setD1 (row * 256 + k) (signed 8 (byteAt b (i + k))) s) s
  else forN 256 (fun k s => setLut ((row - 2048) * 256 + k) (byteAt b (i + k)) s) s

/-- A write of the RW and RWL fields of a register: v under the row's masks (R12). -/
def writeRw (off v : Nat) (s : State) : State :=
  let m := (rowMasks off).rw ||| (rowMasks off).rwl
  setRaw s off ((raw s off &&& (0xFFFFFFFF ^^^ m)) ||| (v &&& m))

end Sys2Proof.Machine
end

