-- ==== Sys2Proof/Machine/AtticOps.lean ====
section
/-! DEFINITION. The Attic (spec/08, R236 to R261): banks, records and the journal as bytes, taking a snapshot, checking a bank,
restoring it, and the start and the end of a save. -/

namespace Sys2Proof.Machine

/-! Layout (R237 to R243, R254). -/

/-- Bytes of an Attic bank: 3D / 8 (R237). -/
def bankSize (s : State) : Nat := fget s ATT_FLASH_MBIT * 49152

/-- Entries that the journal holds: D / 8 in entries of 64 bytes (R237, R254). -/
def jrnlCap (s : State) : Nat := fget s ATT_FLASH_MBIT * 256

/-- The bytes of a list of numbers. -/
def bytesOf (l : List Nat) : List Byte := l.map (BitVec.ofNat 8)

/-- A record of a kind with its header (R240). -/
def mkRec (kind : Nat) (p : List Byte) : BankRec :=
  let h := leBytes kind 4 ++ leBytes p.length 4 ++ leBytes 0 4
  ⟨h ++ leBytes (crc32 (h ++ p)) 4, p⟩

/-- BYTES: from the bank's start to the end of the last record; records start on 256-byte boundaries from 0x1000 (R238,
R239). -/
def recsEnd (l : List BankRec) : Nat := l.foldl (fun e r => (e + 255) / 256 * 256 + 16 + r.payload.length) 0x1000

/-- The snapshot fits: records below the commit record's sector (R238, R250). -/
def recsFit (s : State) (l : List BankRec) : Bool := decide (recsEnd l + 0x1000 ≤ bankSize s)

/-- A bank header (R239). -/
def bankHeader (seq : Nat) (l : List BankRec) : List Byte :=
  let h := bytesOf [0x41, 0x54, 0x42, 0x31] ++ leBytes 0x725600B0 4 ++ leBytes seq 8 ++ leBytes l.length 4
    ++ leBytes (recsEnd l) 4 ++ List.replicate 36 0
  h ++ leBytes (crc32 h) 4

/-- DCRC: the header's bytes and the RCRC of every record (R243). -/
def dataCrc (hdr : List Byte) (l : List BankRec) : Nat := crc32 (hdr ++ l.flatMap fun r => r.hdr.drop 12)

/-- A commit record (R243). -/
def commitRecord (seq : Nat) (hdr : List Byte) (l : List BankRec) : List Byte :=
  let c := bytesOf [0x41, 0x54, 0x43, 0x31] ++ leBytes seq 8 ++ leBytes l.length 4 ++ leBytes (dataCrc hdr l) 4
    ++ List.replicate 40 0
  c ++ leBytes (crc32 c) 4

/-- SEQ of a bank (R239). -/
def Bank.seq (b : Bank) : Nat := leAt b.hdr 8 8

/-- Checks 1 to 4 of R244. -/
def Bank.checks14 (b : Bank) : Bool :=
  tagIs b.hdr 0x41 0x54 0x42 0x31 && leAt b.hdr 60 4 == crc32 (b.hdr.take 60) && leAt b.hdr 4 4 == 0x725600B0
    && b.seq != 0 && b.seq != 0xFFFFFFFFFFFFFFFF
    && tagIs b.commit 0x41 0x54 0x43 0x31 && leAt b.commit 60 4 == crc32 (b.commit.take 60)
    && leAt b.commit 4 8 == b.seq && leAt b.commit 12 4 == leAt b.hdr 16 4 && leAt b.hdr 16 4 == b.recs.length
    && leAt b.commit 16 4 == dataCrc b.hdr b.recs

/-- A record's RCRC matches (R240, R244 check 5). -/
def BankRec.good (r : BankRec) : Bool := leAt r.hdr 12 4 == crc32 (r.hdr.take 12 ++ r.payload)

/-- Check 5 of R244. -/
def Bank.check5 (b : Bank) : Bool := b.recs.all BankRec.good

/-- A bank is valid (R244). -/
def Bank.valid (b : Bank) : Bool := b.checks14 && b.check5

/-- A bank has been written. -/
def Bank.written (b : Bank) : Bool := !b.hdr.isEmpty

/-- SEQ in use. -/
def attSeq (s : State) : Nat := getPair s ATT_SEQ_LO ATT_SEQ_HI

/-- The retirement list as a record payload: one repair map entry for each group with a field retirement (R241, R258). -/
def retirePayload (s : State) : List Byte :=
  (List.range 16).map fun g =>
    if flag s (SLC_GRETIRE_VALID g) && !flag s (SLC_GRETIRE_FACTORY g) then BitVec.ofNat 8 (128 + fget s (SLC_GRETIRE_SLICE g)) else 0

/-- A journal entry (R254). -/
def jrnlEntry (seq : Nat) (p : List Byte) : List Byte :=
  let e := bytesOf [0x41, 0x54, 0x4A, 0x31] ++ leBytes seq 8 ++ p ++ List.replicate 32 0
  e ++ leBytes (crc32 e) 4

/-! The snapshot (R242, R249 step 1). -/

/-- Offsets of every register of a row. -/
def rowOffs (r : RegRow) : List Nat :=
  (List.range r.n1).flatMap fun i => (List.range r.n2).map fun j => r.base + i * r.s1 + j * r.s2

/-- The register list of a save (R242): the HEAD, TAP, SLC, PIPE and SHD registers with kept fields, those that spec/10 and
spec/13 name, and HWY_CTL, LNK_CTL and CLK_CTL; offset and kept mask. -/
def saveList : List (Nat × Nat) :=
  let kept := (rowsOfBlock6 ++ rowsOfBlock8 ++ rowsOfBlock10 ++ rowsOfBlock11 ++ rowsOfBlock12).filter fun r => r.kept != 0
  let named := (rowsOfBlock15 ++ rowsOfBlock16 ++ rowsOfBlock17).filter fun r =>
    (["LMP_SBIN0", "LMP_SBIN1", "LMP_SBIN2", "LMP_SBIN3", "AUX_CTL", "AUX_CVCTL", "AUX_EXC", "AUX_SEQA", "AUX_SEQB",
      "WC_CTL", "WC_LO", "WC_HI", "AUX_TRIM"].contains r.name)
  ((kept ++ named).flatMap fun r => (rowOffs r).map fun o => (o, r.kept))
    ++ [(HWY_CTL, (rowMasks HWY_CTL).kept), (LNK_CTL, (rowMasks LNK_CTL).kept), (CLK_CTL, 3)]

/-- Record kind 2 (R241, R242). -/
def regListPayload (s : State) : List Byte :=
  saveList.flatMap fun p => leBytes p.1 4 ++ leBytes (raw s p.1 &&& p.2) 4

/-- Rows of a bank as a record (R241 kind 1). -/
def rowsPayload (s : State) (bank first n : Nat) : List Byte :=
  bytesOf [bank, 0] ++ leBytes first 2 ++ leBytes n 4 ++ (List.range n).flatMap fun k => rowBytes s bank (first + k)

/-- Generation number of the head-band whose head's range holds tap t (R249 step 1). -/
def regionGen (s : State) (t b : Nat) : Nat :=
  maxOf ((List.range 16).map fun h => if inRange s h t then genOf s (headBand h b) else 0)

/-- Record kind 5: the response tables (R337). -/
def respPayload (s : State) : List Byte :=
  let l := s.lmp.resps.filter fun p => !p.2.rsp.isEmpty
  leBytes l.length 4 ++ l.flatMap fun p =>
    let k := p.1 / 128
    bytesOf [k / 16, k % 16, p.1 % 128 / 8, p.1 % 8] ++ leBytes p.2.exp 4
      ++ (List.range 4).flatMap (fun i => leBytes (p.2.rsp.getD i 0) 4) ++ leBytes p.2.resp 4 ++ leBytes 0 4

/-- Record kind 4: the dark references (R241). -/
def darkPayload (s : State) : List Byte :=
  ((List.range 2048).flatMap fun i => leBytes (toField 32 (iget s.shd.dref i)) 4)
    ++ ((List.range 256).flatMap fun t => leBytes (toField 32 (iget s.shd.dslope t)) 4)
    ++ (List.range 16).flatMap fun h => leBytes (nget s.shd.dper h) 4

/-- The snapshot (R249 step 1): regions with a generation number, all D1 rows, all LUT rows, and the other records. -/
def snapshot (s : State) : List BankRec :=
  let regions := (List.range 2048).filterMap fun k =>
    let t := k / 8
    if regionGen s t (k % 8) = 0 then none
    else some (mkRec 1 (rowsPayload s (t / 16) ((t % 16 * 8 + k % 8) * 32) 32))
  regions ++ [mkRec 1 (rowsPayload s 16 0 2048), mkRec 1 (rowsPayload s 16 2048 2048), mkRec 2 (regListPayload s),
    mkRec 3 ((List.range 128).flatMap fun hb => leBytes (genOf s hb) 2), mkRec 4 (darkPayload s), mkRec 5 (respPayload s),
    mkRec 6 (retirePayload s)]

/-! Restoring (R241, R242, R246, R255). -/

/-- Record kind 1 into the store. -/
def restoreRows (p : List Byte) (s : State) : State :=
  forN (leAt p 4 4) (fun k s => writeRow (byteAt p 0) (leAt p 2 2 + k) p (8 + 256 * k) s) s

/-- Record kind 2: register writes in list order. -/
def restoreRegs (p : List Byte) (s : State) : State :=
  forN (p.length / 8) (fun k s =>
    let off := leAt p (8 * k) 4
    let s := writeRw off (leAt p (8 * k + 4) 4) s
    if blockOf off = 8 ∨ blockOf off = 9 then activate s off else s) s

/-- Retirements of the sixteen groups in the repair map format, field ones; a factory retirement stands (R241, R258). -/
def restoreRetire (p : List Byte) (s : State) : State :=
  forN 16 (fun g s =>
    let e := byteAt p g
    if flag s (SLC_GRETIRE_VALID g) && flag s (SLC_GRETIRE_FACTORY g) then s
    else if 128 ≤ e then fsets s [(SLC_GRETIRE_VALID g, 1), (SLC_GRETIRE_FACTORY g, 0), (SLC_GRETIRE_SLICE g, e % 32)]
    else fsets s [(SLC_GRETIRE_VALID g, 0), (SLC_GRETIRE_SLICE g, 0)]) s

/-- Record kind 4. -/
def restoreDark (p : List Byte) (s : State) : State :=
  let rd (i : Nat) : Int := signed 32 (leAt p (4 * i) 4)
  { s with shd := { s.shd with
    dref := (List.range 2048).foldl (fun t i => iset t i (rd i)) s.shd.dref
    dslope := (List.range 256).foldl (fun t i => iset t i (rd (2048 + i))) s.shd.dslope
    dper := (List.range 16).foldl (fun t i => nset t i (leAt p (4 * (2304 + i)) 4)) s.shd.dper } }

/-- Record kind 5. -/
def restoreResp (p : List Byte) (s : State) : State :=
  forN (leAt p 0 4) (fun n s =>
    let i := 4 + 32 * n
    let k := 128 * (16 * byteAt p i + byteAt p (i + 1)) + headBand (byteAt p (i + 2)) (byteAt p (i + 3))
    let r : Resp := ⟨leAt p (i + 4) 4, (List.range 4).map (fun j => leAt p (i + 8 + 4 * j) 4), leAt p (i + 24) 4⟩
    { s with lmp := { s.lmp with resps := tset (fun _ => {}) s.lmp.resps k r } }) s

/-- One record (R241); kinds that are reserved are skipped. -/
def restoreRec (r : BankRec) (s : State) : State :=
  match leAt r.hdr 0 2 with
  | 1 => restoreRows r.payload s
  | 2 => restoreRegs r.payload s
  | 3 => forN 128 (fun hb s => setGen hb (leAt r.payload (2 * hb) 2) s) s
  | 4 => restoreDark r.payload s
  | 5 => restoreResp r.payload s
  | 6 => restoreRetire r.payload s
  | _ => s

/-- The register list of a bank (R242, R246). -/
def Bank.regList (b : Bank) : List BankRec := b.recs.filter fun r => leAt r.hdr 0 2 == 2

/-- Records whose journal entries hold for SEQ: the last entry with that BASE, up to the first that is bad (R255). -/
def jrnlFor (s : State) (seq : Nat) : List (List Byte) :=
  (s.att.jrnl.takeWhile fun e => tagIs e 0x41 0x54 0x4A 0x31 && leAt e 60 4 == crc32 (e.take 60)).filter fun e => leAt e 4 8 == seq

/-- Restore bank k (1 A, 2 B) (R242, R246): every record but the register list, the register list last, and the pending
band sets made active. -/
def restoreBank (k : Nat) (b : Bank) (s : State) : State :=
  let s := (b.recs.filter fun r => leAt r.hdr 0 2 != 2).foldl (fun s r => restoreRec r s) s
  let s := b.regList.foldl (fun s r => restoreRec r s) s
  let s := forN 16 activateBandSet s
  let s := setPair ATT_SEQ_LO ATT_SEQ_HI b.seq s
  setRaw (fset s ATT_STATUS_SOURCE k) ATT_USED (leAt b.hdr 20 4)

/-- The journal of the restored bank (R255): its last entry replaces the retirement list. -/
def restoreJournal (s : State) : State :=
  let j := jrnlFor s (attSeq s)
  let s := match j.getLast? with | some e => restoreRetire (e.drop 12) s | none => s
  fset s ATT_JRNL_ENTRIES j.length

/-- The bank to restore from at a cold start (R245): 1 A, 2 B, none. -/
def chooseBank (s : State) : Option Nat :=
  match s.att.bankA.valid, s.att.bankB.valid with
  | true, true => some (if s.att.bankA.seq < s.att.bankB.seq then 2 else 1)
  | true, false => some 1
  | false, true => some 2
  | false, false => none

/-- Bank of a number. -/
def bankOf (s : State) (k : Nat) : Bank := if k = 2 then s.att.bankB else s.att.bankA

/-- Replace a bank. -/
def setBank (k : Nat) (b : Bank) (s : State) : State :=
  if k = 2 then { s with att := { s.att with bankB := b } } else { s with att := { s.att with bankA := b } }

/-! Saves (R249 to R253, R256). -/

/-- Modes of R251. -/
def saveModes : List Mode := [.ready, .scan, .hold, .calibrate, .service, .limp]

/-- The bank that is not in use (R249). -/
def targetBank (s : State) : Nat := if fget s ATT_STATUS_SOURCE = 1 then 2 else 1

/-- A save begins with its snapshot (R249 step 1). -/
def startSave (slot : Option Nat) (s : State) : State :=
  let s := fsets s [(ATT_STATUS_BUSY, 1), (ATT_STATUS_STEP, 1)]
  { s with att := { s.att with step := 1, slot := slot, snap := snapshot s, want := false } }

/-- A Housekeeper save is wanted: it starts when none runs, the mode permits it and the first step of R25 does not defer it
(R251, R256, R261). -/
def wantSave (s : State) : State :=
  if s.att.step = 0 ∧ modeIn s saveModes = true ∧ fget s PWR_STATUS_LEVEL = 0 ∧ s.fw.paused = false then startSave none s
  else { s with att := { s.att with want := true } }

/-- A deferred Housekeeper save starts once nothing defers it (R251). -/
def deferredSave (s : State) : State := if s.att.want then wantSave s else s

/-- Append the retirement list to the journal (R254, R256); a full journal asks for a save instead. -/
def jrnlAppend (p : List Byte) (s : State) : State :=
  if jrnlCap s ≤ s.att.jrnl.length then wantSave (setFlag s ATT_EVENTS_JRNL_FULL true)
  else
    let s := { s with att := { s.att with jrnl := s.att.jrnl ++ [jrnlEntry (attSeq s) p] } }
    fset s ATT_JRNL_ENTRIES (fget s ATT_JRNL_ENTRIES + 1)

/-- A field retirement or reinstatement (R256): into the journal, after the save that is in progress, or in a start after the
journal has been read (R255). -/
def recordRetire (s : State) : State :=
  if s.att.step = 0 ∧ starting s = false then jrnlAppend (retirePayload s) s
  else { s with att := { s.att with late := s.att.late ++ [retirePayload s] } }

/-- A save is over: its RESULT, the completion of its command, and the changes that waited (R249, R250, R256). -/
def endSave (result status value : Nat) (s : State) : State :=
  let s := fsets s [(ATT_STATUS_BUSY, 0), (ATT_STATUS_STEP, 0), (ATT_STATUS_RESULT, result)]
  let s := setFlag s (if result = 1 then ATT_EVENTS_SAVE_DONE else ATT_EVENTS_SAVE_FAIL) true
  let s := match s.att.slot with | some k => complete k value status s | none => s
  let late := s.att.late
  let s := { s with att := { s.att with step := 0, slot := none, snap := [], late := [] } }
  late.foldl (fun s p => jrnlAppend p s) s

end Sys2Proof.Machine
end

