-- ==== Sys2Proof/Machine/AuxOps.lean ====
section
/-! DEFINITION. The aux block's shared operations (spec/13): its messages, results, comparators, passes, conversions and
calibrations, and what a stop does to them. -/

namespace Sys2Proof.Machine

/-- Converter c. -/
def getCv (s : State) (c : Nat) : CvSt := tget (fun _ => {}) s.aux.cvs c
/-- Replace converter c. -/
def setCv (c : Nat) (x : CvSt) (s : State) : State :=
  { s with aux := { s.aux with cvs := tset (fun _ => {}) s.aux.cvs c x } }

/-- Bit c of a four-bit field of AUX_STATUS. -/
def auxBit (s : State) (f : Fld) (c : Nat) : Bool := bitOf (fget s f) c

/-- Set or clear bit c of a field of AUX_STATUS. -/
def setAuxBit (f : Fld) (c : Nat) (b : Bool) (s : State) : State :=
  fset s f (if b then setBit (fget s f) c else clearBit (fget s f) c)

/-- The twin of converter c. -/
def twin (c : Nat) : Nat := if c % 2 = 0 then c + 1 else c - 1

/-- Messages of the aux block that wait to be pushed (R425). -/
def auxWaiting (s : State) : Nat := (s.lnd.waiting.filter fun m => decide (m.src = 0x12)).length

/-- A message of the aux block closes: it waits in the buffer of 4, or is dropped with its results (R425). -/
def auxRaise (t cls code : Nat) (items : List Nat) (results : Nat) (s : State) : State :=
  if 4 ≤ auxWaiting s then
    setFlag (setRaw s AUX_DROPS (satAdd 0xFFFFFFFF (raw s AUX_DROPS) results)) AUX_EVENTS_DROP true
  else raiseAt t cls 0x12 code items s

/-- An aux event bit sets and a message of its code goes (R388). -/
def auxReport (cls : Nat) (f : Fld) (items : List Nat) (s : State) : State :=
  auxRaise s.time cls (evCode f) items 0 (setFlag s f true)

/-- Two results per word, an unused half 0 (R424). -/
def pairUp : List Nat → List Nat
  | [] => []
  | [a] => [a]
  | a :: b :: r => (a + b * 2 ^ 32) :: pairUp r

/-- The stream message of converter c closes (R424). -/
def closeStream (c : Nat) (s : State) : State :=
  let x := getCv s c
  if x.stream.isEmpty then s
  else
    let items := (c * 2 ^ 62 + x.stream.length * 2 ^ 48 + x.streamPos % 2 ^ 48) :: pairUp x.stream
    let s := setCv c { x with stream := [] } s
    let s := match finOf 4 c with
      | some i => cancel s (.streamMsgTimeout i)
      | none => s
    auxRaise x.streamAt 3 0xA0 items x.stream.length s

/-- What a result carries (R423, R424). -/
structure AuxRes where
  owner : Nat
  entry : Nat
  code : Int
  range : Nat
  chan : Nat
  ovr : Bool
  uns : Bool
  openWire : Bool
  migr : Bool
  inj : Bool
  time : Nat
  deriving DecidableEq, Repr

/-- A result as an item of a stream message (R424). -/
def AuxRes.item (r : AuxRes) : Nat :=
  if r.owner < 2 then
    toField 16 r.code * 65536 + r.entry % 16 * 4096 + r.range % 8 * 512 + b2n r.inj * 256 + b2n r.migr * 128
      + b2n r.openWire * 64 + b2n r.ovr * 32 + b2n r.uns * 16
  else
    toField 24 r.code * 256 + r.entry % 8 * 32 + b2n r.migr * 16 + b2n r.openWire * 8 + b2n r.ovr * 4 + b2n r.uns * 2

/-- Offset of the result slot: an injected slot, or the slot of the entry (R412, R423). -/
def AuxRes.off (r : AuxRes) : Nat := if r.inj then AUX_IRES_LO r.owner r.entry else AUX_RES_LO r.owner r.entry

/-- A result slot takes a result (R423). -/
def writeSlot (r : AuxRes) (s : State) : State :=
  let o := r.off
  let cnt := (bitsOf (raw s (o + 4)) 31 16 + 1) % 65536
  let tag := cnt * 65536 + 32768 + b2n r.uns * 16384 + b2n r.ovr * 8192 + b2n r.openWire * 4096 + b2n r.migr * 2048
    + b2n r.inj * 1024 + r.range % 8 * 128 + r.chan % 64
  setPair (o + 8) (o + 12) (r.time % 2 ^ 48) (setRaw (setRaw s o (toField 32 r.code)) (o + 4) tag)

/-- A recorder cause of the WC kind (R443). -/
def recWcCause (k : Nat) (s : State) : State :=
  if bitOf s.recd.trig 29 && bitOf s.recd.trig k then { s with recd := { s.recd with causes := s.recd.causes + 1 } } else s

/-- The value that comparators use (R414, R426). -/
def AuxRes.x (r : AuxRes) : Int := if r.owner < 2 then r.code * 2 ^ (7 - r.range) else r.code

/-- Comparator k looks at a settled result (R426, R427). -/
def wcApply (r : AuxRes) (k : Nat) (s : State) : State :=
  if !(flag s (AUX_WC_CTL_EN k)) || fget s (AUX_WC_CTL_CONV k) != r.owner || fget s (AUX_WC_CTL_ENTRY k) != r.entry then s
  else
    let lo := signed 32 (raw s (AUX_WC_LO k))
    let hi := signed 32 (raw s (AUX_WC_HI k))
    let inside := !r.ovr && decide (lo ≤ r.x) && decide (r.x ≤ hi)
    let out := flag s (AUX_WC_STAT_OUT k)
    if inside = !out then fset s (AUX_WC_STAT_CNT k) 0
    else
      let n := fget s (AUX_WC_STAT_CNT k) + 1
      let q := max 1 (fget s (AUX_WC_CTL_QUAL k))
      if n < q then fset s (AUX_WC_STAT_CNT k) n
      else
        let s := fset s (AUX_WC_STAT_CNT k) 0
        let cls := fget s (AUX_WC_CTL_CLASS k)
        let above := decide (hi < r.x) || (r.ovr && decide (0 ≤ r.x))
        if inside then
          let s := setFlag s (AUX_WC_STAT_OUT k) false
          if flag s (AUX_WC_CTL_RE_EN k) then
            auxRaise r.time cls (evCode AUX_EVENTS_WC_ENTRY) [k, item r.x, b2n above] 0 (setFlag s AUX_EVENTS_WC_ENTRY true)
          else s
        else
          let s := fsets s [(AUX_WC_STAT_OUT k, 1), (AUX_WC_STAT_ABOVE k, b2n above),
            (AUX_WC_STAT_EXITS k, satAdd 0xFFFF (fget s (AUX_WC_STAT_EXITS k)) 1)]
          let s := setFlag s AUX_EVENTS_WC_EXIT true
          recWcCause k (auxRaise r.time cls (evCode AUX_EVENTS_WC_EXIT) [k, item r.x, b2n above] 0 s)

/-- A result is delivered: its slot, an open wire, the stream message, the comparators (R408, R423 to R427). -/
def deliverResult (r : AuxRes) (s : State) : State :=
  let s := writeSlot r s
  let s := if r.openWire && !flag s AUX_EVENTS_OPEN_WIRE then
      auxReport 0 AUX_EVENTS_OPEN_WIRE [r.owner, r.entry, r.chan] s else s
  let s :=
    if flag s (AUX_CVCTL_STREAM r.owner) then
      let x := getCv s r.owner
      let first := x.stream.isEmpty
      let x' := { x with stream := x.stream ++ [r.item], streamAt := if first then r.time else x.streamAt
                         streamPos := if first then x.pos else x.streamPos }
      let s := setCv r.owner x' s
      if x'.stream.length = 26 then closeStream r.owner s
      else if first then
        match finOf 4 r.owner with
        | some i => schedule s (s.time + 600000) (.streamMsgTimeout i)
        | none => s
      else s
    else s
  if r.uns || r.inj then s else forN 16 (wcApply r) s

/-- Last entry of a pass (AUX_CVCTLc.LAST). -/
def lastEntry (s : State) (c : Nat) : Nat :=
  if c < 2 then fget s (AUX_CVCTL_LAST c) else min 7 (fget s (AUX_CVCTL_LAST c))

/-- Level of EXCn in force follows OWNER and LVL (R419, R420). -/
def excFollow (n : Nat) (s : State) : State :=
  let o := fget s (AUX_EXC_OWNER n)
  if o = 0 ∨ o = 3 then
    if fget s (AUX_EXC_LVL n) = 7 then s else fset s (AUX_EXC_STATE n) (fget s (AUX_EXC_LVL n))
  else s

/-- An entry of PCc starts on server v: its excitation, and a filter restart when channel or excitation changes (R416, R420). -/
def pcEntryStart (owner v : Nat) (e : Nat × Nat) (s : State) : State :=
  let n := bitsOf e.1 11 10
  let lvl := bitsOf e.1 9 7
  let owns := fget s (AUX_EXC_OWNER n) == owner - 1
  let exc := owns && decide (lvl ≠ 7) && decide (lvl ≠ fget s (AUX_EXC_STATE n))
  let s := if exc then fset s (AUX_EXC_STATE n) lvl else s
  let x := getCv s v
  let ch := (bitsOf e.1 31 26, bitsOf e.1 25 20)
  setCv v { x with chan := ch, settled := 0, changeAt := if exc || decide (ch ≠ x.chan) then s.time else x.changeAt } s

/-- A regular pass of converter c begins (R411): the entries are taken as they stand. -/
def startPass (c : Nat) (s : State) : State :=
  let x := getCv s c
  let n := lastEntry s c + 1
  let seq := (List.range n).map fun e => (raw s (AUX_SEQA c e), raw s (AUX_SEQB c e))
  setCv c { x with pass := true, entry := 0, seq := seq, held := false, pos := (getAxis s (fget s (AUX_CVCTL_AXIS c))).pos } s

/-- A regular trigger reaches converter c (R411, R431): held during a calibration, ignored during a pass. -/
def passTrigger (c : Nat) (s : State) : State :=
  let x := getCv s c
  if !flag s (AUX_CVCTL_EN c) || auxBit s AUX_STATUS_FAULT c && !auxBit s AUX_STATUS_MIGR c then s
  else if x.pass || x.held then setFlag s AUX_EVENTS_SEQ_OVR true
  else if x.calRange.isSome || x.calPend then setCv c { x with held := true } s
  else startPass c s

/-- The pass of a sequence that server v may serve next: its own, or by turns its migrated twin's (R433). -/
def nextOwner (s : State) (v : Nat) : Option Nat :=
  let own := (getCv s v).pass
  let tw := auxBit s AUX_STATUS_MIGR (twin v) && (getCv s (twin v)).pass
  if own && tw then some (if (getCv s v).turn then twin v else v)
  else if own then some v else if tw then some (twin v) else none

/-- The next range of a calibration begins: 96 us (R430). -/
def startRange (c r : Nat) (s : State) : State :=
  setCv c { getCv s c with calRange := some r, calEnd := some (s.time + 57600) } s

/-- A calibration begins (R429, R430). -/
def startCal (c : Nat) (s : State) : State :=
  let s := setFlag (setAuxBit AUX_STATUS_CAL c true s) AUX_CALSTAT_BUSY true
  startRange c 0 (setCv c { getCv s c with calPend := false, calFail := none, calFails := 0, calDone := true } s)

/-- A calibration reports its code (R431). -/
def calReport (c code first fails : Nat) (s : State) : State :=
  let s := fsets s [(AUX_CALSTAT_CONV, c), (AUX_CALSTAT_RANGE, first), (AUX_CALSTAT_CODE, code)]
  if code = 0x70 then s else auxReport 2 AUX_EVENTS_CAL_FAIL [c, first, fails] s

/-- A calibration ends or aborts with a code (R431). -/
def endCal (c code first fails : Nat) (s : State) : State :=
  let s := setAuxBit AUX_STATUS_CAL c false s
  let s := setFlag s AUX_CALSTAT_BUSY (fget s AUX_STATUS_CAL != 0)
  calReport c code first fails (setCv c { getCv s c with calRange := none, calEnd := none, calPend := false } s)

/-- What server v does next when no conversion is under way (R411, R412, R431): an injected request, then a calibration that
waits, then a held pass or the next entry. -/
def auxNext (v : Nat) (s : State) : State :=
  let x := getCv s v
  if x.cur.isSome || x.calEnd.isSome || (auxBit s AUX_STATUS_FAULT v) then s
  else match x.inj with
  | w :: r => setCv v { x with inj := r, cur := some (.inj w.1 w.2) } s
  | [] =>
    match x.calRange with
    | some r => startRange v r s
    | none =>
      if x.calPend then startCal v s
      else
        let s := if x.held then startPass v s else s
        match nextOwner s v with
        | none => s
        | some o =>
          let y := getCv s o
          match y.seq.drop y.entry with
          | [] => s
          | e :: _ =>
            let s := setCv v { getCv s v with cur := some (.entry o y.entry), turn := decide (o = v) } s
            if v < 2 then setCv v { getCv s v with chan := (bitsOf e.1 31 26, 35) } s else pcEntryStart o v e s

/-- The pass of owner o moves past its entry; with TRIG 0 the next pass begins at once (R411, R416). -/
def passAdvance (o : Nat) (s : State) : State :=
  let y := getCv s o
  if y.entry + 1 < y.seq.length then setCv o { y with entry := y.entry + 1 } s
  else
    let s := setCv o { y with pass := false, entry := 0 } s
    if fget s (AUX_CVCTL_TRIG o) = 0 && flag s (AUX_CVCTL_EN o) then startPass o s else s

/-- A calibration is asked for (R429, R431): refused, or begun when the converter next is free. -/
def askCal (c : Nat) (s : State) : State :=
  let x := getCv s c
  if auxBit s AUX_STATUS_FAULT c then calReport c 0x72 0 0 s
  else if x.calRange.isSome || x.calPend then calReport c 0x73 0 0 s
  else if !auxBit s AUX_STATUS_REF_SETTLED c then calReport c 0x71 0 0 s
  else auxNext c (setCv c { x with calPend := true } s)

/-- The converter stops: its pass and its conversion end, its stream message closes (R424). -/
def stopConverter (c : Nat) (s : State) : State :=
  let s := closeStream c s
  let x := getCv s c
  let s := setCv c { x with pass := false, held := false, entry := 0, cur := none } s
  setAuxBit AUX_STATUS_RUN c false s

/-- Entry to SLEEP (R435): conversions and calibrations stop, excitation and pulls turn off, messages close. -/
def auxSleep (s : State) : State :=
  let s := forN 4 (fun c s =>
    let s := stopConverter c s
    let s := setCv c { getCv s c with inj := [] } s
    if (getCv s c).calRange.isSome || (getCv s c).calPend then endCal c 0x77 0 0 s else s) s
  forN 4 (fun n s => fset s (AUX_EXC_STATE n) 0) s

/-- What every start does to the aux block (R435). -/
def auxStart (s : State) : State :=
  let s := { s with aux := {} }
  let s := forN 4 (fun c s =>
    let s := setFlag s (AUX_CVCTL_EN c) false
    let s := fset s (AUX_EXC_STATE c) 0
    forN 16 (fun e s => fset s (AUX_RES_HI_VALID c e) 0) s) s
  let s := forN 2 (fun c s => forN 4 (fun k s => fset s (AUX_IRES_HI_VALID c k) 0) s) s
  let s := forN 16 (fun k s => setRaw s (AUX_WC_STAT k) 0) s
  fsets s [(AUX_STATUS_FAULT, 0), (AUX_STATUS_MIGR, 0), (AUX_STATUS_CAL, 0), (AUX_STATUS_RUN, 0)]

end Sys2Proof.Machine
end

