-- ==== Sys2Proof/Machine/Recorder.lean ====
section
/-! DEFINITION. The transport recorder (spec/14, R437 to R457). -/

namespace Sys2Proof.Machine

/-- STATE of the recorder (R442): 0 IDLE, 1 CLEAR, 2 PRE, 3 POST, 4 HELD, 5 COPY. -/
def recState (s : State) : Nat := fget s REC_STATUS_STATE

/-- Enter a recorder state. -/
def recEnter (n : Nat) (s : State) : State := fset s REC_STATUS_STATE n

/-- Replace the recorder's record. -/
def setRec (r : RecSt) (s : State) : State := { s with recd := r }

/-- REC_INFO.COUNT follows the memory (R453). -/
def recCount (s : State) : State := fset s REC_INFO_COUNT s.recd.mem.length

/-- The 16 bytes of a record (R439). -/
def RecEntry.bytes (e : RecEntry) : List Byte :=
  leBytes e.st.toNat 8 ++ leBytes (e.time / 4 % 2 ^ 48) 6
    ++ leBytes (b2n e.trig * 32768 + b2n e.arm * 16384 + b2n e.resume * 8192 + e.rep % 4096) 2

/-- The message of R448, once it is owed: P3, code 0x80, TIME the completion tick. -/
def recMessage (s : State) : State :=
  match s.recd.msgOwed, s.recd.doneAt with
  | true, some d =>
    raiseAt d 3 0x13 0x80 [raw s REC_CAPNUM, fget s REC_INFO_PRE_ACT, s.recd.post, raw s REC_LOST,
      getPair s REC_TTRIG_LO REC_TTRIG_HI] (setRec { s.recd with msgOwed := false } s)
  | _, _ => s

/-- Counting of later changes ends; the message of R448 goes (R447, R448). -/
def recEndCount (s : State) : State :=
  recMessage (setRec { s.recd with toCount := 0 } (setFlag s REC_STATUS_COUNTING false))

/-- CLEAR begins: the set-up registers are taken (R450); counting ends (R447). -/
def recClear (s : State) : State :=
  let s := recEndCount s
  let r := s.recd
  let s := setRec { r with
    span := raw s REC_SPAN, trig := raw s REC_TRIG, mask := getPair s REC_MASK_LO REC_MASK_HI
    pmask := getPair s REC_PMASK_LO REC_PMASK_HI, pval := getPair s REC_PVAL_LO REC_PVAL_HI
    rpt := flag s REC_CTL_RPT_EN, disarm := false } s
  schedule (recEnter 1 s) (s.time + 4096) .recClearEnd

/-- The capture is complete on this tick (R447, R448, R451). -/
def recComplete (s : State) : State :=
  let s := setFlag s REC_EVENTS_DONE true
  let s := setRaw s REC_DEAD_CAP (min 0xFFFFFFFF (s.time - s.recd.trigAt))
  let left := bitsOf s.recd.span 13 0 - s.recd.postEff
  let s := setRec { s.recd with doneAt := some s.time, msgOwed := true, toCount := left } s
  let s := recEnter (if flag s REC_CTL_AUTO then 5 else 4) s
  if left = 0 then recMessage s else setFlag s REC_STATUS_COUNTING true

/-- A cause of the edge or pattern kind in a new sample (R443). -/
def recSampleCause (r : RecSt) (new : BitVec 64) : Bool :=
  let sig := bitsOf r.trig 21 16
  let was := bitOf r.prev.toNat sig
  let now := bitOf new.toNat sig
  let edge := bitsOf r.trig 25 24
  let pat (x : BitVec 64) := (x.toNat &&& r.pmask) == r.pval
  (bitOf r.trig 31 && ((edge == 0 && !was && now) || (edge == 1 && was && !now) || (decide (2 ≤ edge) && was != now)))
    || (bitOf r.trig 30 && pat new && !pat r.prev)

/-- Store a record in PRE: the ring keeps the newest PRE records (R445). -/
def recStorePre (e : RecEntry) (s : State) : State :=
  let r := s.recd
  let mem := r.mem ++ [e]
  let keep := bitsOf r.span 29 16
  recCount (setRec { r with mem := mem.drop (mem.length - keep), before := r.prev, lastJ := r.lastK, lastK := s.time / 4 } s)

/-- Store a record whatever the ring holds. -/
def recStore (e : RecEntry) (s : State) : State :=
  let r := s.recd
  recCount (setRec { r with mem := r.mem ++ [e], before := r.prev, lastJ := r.lastK, lastK := s.time / 4 } s)

/-- The latest record, if a change to new at this sample merges into it (R441). -/
def recMerge (s : State) (new : BitVec 64) : Option RecEntry :=
  let r := s.recd
  match r.mem.getLast? with
  | none => none
  | some k =>
    let d := k.time / 4 - r.lastJ
    if r.rpt && !k.arm && !k.trig && decide (2 ≤ r.mem.length) && decide (k.rep < 4095)
        && decide (new = (if k.rep % 2 = 0 then r.before else k.st)) && decide (s.time / 4 = r.lastK + d) then some k else none

/-- A change in PRE or POST merges, or is stored as a record (R440, R441). The second component says that a record was
stored. -/
def recChange (post : Bool) (new : BitVec 64) (s : State) : State × Bool :=
  let r := s.recd
  match recMerge s new with
  | some k => (setRec { r with mem := r.mem.dropLast ++ [{ k with rep := k.rep + 1 }], lastK := s.time / 4 } s, false)
  | none =>
    let e : RecEntry := { st := new, time := s.time, resume := r.resume }
    ((if post then recStore e s else recStorePre e s), true)

/-- The trigger sample (R444 to R447). -/
def recTrigger (new : BitVec 64) (s : State) : State :=
  let r := s.recd
  let pre := r.mem.length
  let eff := min (bitsOf r.span 13 0) (16383 - pre)
  let s := recStore { st := new, time := s.time, trig := true, arm := r.armOwed, resume := r.resume } s
  let s := setPair REC_TTRIG_LO REC_TTRIG_HI s.time s
  let s := fsets s [(REC_INFO_PRE_ACT, pre), (REC_INFO_TRIGGERED, 1), (⟨REC_CAPNUM, 31, 0⟩, raw s REC_CAPNUM + 1)]
  let s := whenS (decide (eff < bitsOf r.span 13 0))
    (fun s => setFlag (setFlag s REC_INFO_POST_CLAMPED true) REC_EVENTS_CLAMPED true) s
  let s := setRec { s.recd with armOwed := false, post := 0, postEff := eff, trigAt := s.time, doneAt := none
                                rejected := false } (recEnter 3 s)
  if eff = 0 then recComplete s else s

/-- n causes meet a recorder in CLEAR, HELD or COPY: rejected (R449). -/
def recReject (n : Nat) (s : State) : State :=
  if n = 0 then s
  else
    let s := setRaw s REC_REJ (satAdd 0xFFFFFFFF (raw s REC_REJ) n)
    let s := setFlag s REC_EVENTS_REJ true
    if s.recd.rejected then s
    else setRec { s.recd with rejected := true } (setPair REC_REJT_LO REC_REJT_HI s.time s)

/-- A later change of a clamped capture is counted (R447). -/
def recCountChange (s : State) : State :=
  if s.recd.toCount = 0 then s
  else
    let s := setRaw s REC_LOST (satAdd 0xFFFFFFFF (raw s REC_LOST) 1)
    let s := setRec { s.recd with toCount := s.recd.toCount - 1 } s
    if s.recd.toCount = 0 then recEndCount s else s

/-- One sample of the 64 signals (R438, R440 to R449): what the state of the recorder makes of it and of the causes that
fall on it. -/
def recSample (new : BitVec 64) (s : State) : State :=
  let r := s.recd
  let changed := decide (new.toNat &&& (0xFFFFFFFFFFFFFFFF ^^^ r.mask) ≠ r.prev.toNat &&& (0xFFFFFFFFFFFFFFFF ^^^ r.mask))
  let n := r.causes + b2n (recSampleCause r new)
  let s :=
    if recState s = 2 then
      if 0 < n then recTrigger new s
      else if r.armOwed then
        let s := recStorePre { st := new, time := s.time, arm := true, resume := r.resume } s
        setRec { s.recd with armOwed := false } s
      else if changed then (recChange false new s).1
      else s
    else if recState s = 3 then
      if changed then
        let p := recChange true new s
        if p.2 then
          let s := setRec { p.1.recd with post := r.post + 1 } p.1
          if r.postEff ≤ r.post + 1 then recComplete s else s
        else p.1
      else s
    else if recState s = 0 then s
    else recReject n (if changed then recCountChange s else s)
  setRec { s.recd with prev := new, causes := 0, resume := false, sampled := some s.time } s

/-- The recorder samples on this tick (R438): CORE runs and TIME is divisible by 4, and no sample was taken on it yet. -/
def recSamples (s : State) : Bool :=
  rootRuns s && !modeIs s .sleep && !modeIs s .off && decide (s.time % 4 = 0) && decide (s.recd.sampled ≠ some s.time)

/-- At the end of a tick: the sample without an unmasked change that a cause, an owed ARM record or a return from SLEEP
makes matter. -/
def recTick (s : State) : State :=
  if recSamples s && (decide (0 < s.recd.causes) || s.recd.armOwed || s.recd.resume) then recSample s.recd.prev s else s

/-- REC_SIGNAL_CHANGE (R438, R440): a sample in which an unmasked signal has changed. -/
def execRecSignalChange (smp : BitVec 64) (s : State) : Host.Outcome State Fault Refusal :=
  ok (if recSamples s then recSample smp s else s)

/-- REC_MASKED_TRIGGER (R443): a sample whose masked signals change, which EDGE and PATTERN see. -/
def execRecMaskedTrigger (smp : BitVec 64) (s : State) : Host.Outcome State Fault Refusal :=
  ok (if recSamples s then recSample smp s else s)

/-- REC_ARM (R450, R457). -/
def execRecArm (s : State) : Host.Outcome State Fault Refusal :=
  ok (onWrite REC_CMD (fun s =>
    if recState s = 0 ∨ recState s = 4 then recClear s else setFlag s REC_EVENTS_CMD_REJ true) s)

/-- REC_DISARM (R452, R457): in PRE it goes before a cause of the same sample. -/
def execRecDisarm (s : State) : Host.Outcome State Fault Refusal :=
  ok (onWrite REC_CMD (fun s =>
    if recState s = 2 then setRec { s.recd with causes := 0, armOwed := false, rejected := false } (recEnter 0 s)
    else if recState s = 3 then recComplete s
    else if recState s = 1 ∨ recState s = 5 then setRec { s.recd with disarm := true } s
    else s) s)

/-- REC_HOST_TRIG (R443): the host cause, resolved to the first sample at or after this tick. -/
def execRecHostTrig (s : State) : Host.Outcome State Fault Refusal :=
  ok (onWrite REC_CMD (fun s => setRec { s.recd with causes := s.recd.causes + 1 } s) s)

/-- REC_COPY (R454, R457). -/
def execRecCopy (s : State) : Host.Outcome State Fault Refusal :=
  ok (onWrite REC_CMD (fun s =>
    if recState s = 0 ∨ recState s = 4 then recEnter 5 s else setFlag s REC_EVENTS_CMD_REJ true) s)

/-- REC_CLEAR_END (R450 to R452): the memory is empty; the recorder enters PRE, or IDLE after a DISARM. -/
def execRecClearEnd (s : State) : Host.Outcome State Fault Refusal :=
  if recState s ≠ 1 then ok s
  else
    let r := s.recd
    let s := setRec { r with mem := [], post := 0, postEff := 0, causes := r.causes } s
    let s := recCount (fsets s [(REC_INFO_POST_CLAMPED, 0), (REC_INFO_TRIGGERED, 0), (REC_INFO_PRE_ACT, 0), (REC_LOST_LOST, 0),
      (REC_STATUS_PARTIAL, 0)])
    if r.disarm then ok (setRec { s.recd with disarm := false, doneAt := none } (recEnter 0 s))
    else
      let s := match r.doneAt with
        | some d => setRaw s REC_DEAD_ARM (min 0xFFFFFFFF (s.time - d))
        | none => s
      ok (setRec { s.recd with armOwed := true, doneAt := none } (recEnter 2 s))

/-- Host address of the copy (R454). -/
def recDma (s : State) : Nat := fget s REC_DMA_LO_ADDR_LO * 4096 + raw s REC_DMA_HI * 2 ^ 32

/-- REC_COPY_DONE (R454): the records are written, oldest first; waits while Bus Master Enable is 0. -/
def execRecCopyDone (s : State) : Host.Outcome State Fault Refusal :=
  if recState s ≠ 5 ∨ busOn s = false then ok s
  else
    let n := s.recd.mem.length
    let s := whenS (decide (0 < n)) (memWrite 4 (recDma s) (s.recd.mem.flatMap RecEntry.bytes)) s
    let s := setFlag s REC_EVENTS_COPY_DONE true
    let s := raise 3 0x13 0x83 [raw s REC_CAPNUM, n] s
    if s.recd.disarm then ok (setRec { s.recd with disarm := false } (recEnter 0 s))
    else if flag s REC_CTL_AUTO then ok (recClear s)
    else ok (recEnter 4 s)

/-- A read of the readout registers outside IDLE and HELD returns 0 and sets RD_REJ (R453). -/
def recReadable (s : State) : Bool := recState s == 0 || recState s == 4

/-- REC_RD0_READ (R453): bytes 0 to 3 of the record at RDIDX, the record latched for the master; 0 at COUNT or above. -/
def execRecRd0Read (ms : Master) (s : State) : Host.Outcome State Fault Refusal :=
  let s := readEvent ms (REC_RD 0) s
  if !mayRead s ms (REC_RD 0) then ok { s with rdata := 0 }
  else if recReadable s then
    let b := match s.recd.mem.drop (fget s REC_RDIDX_IDX) with
      | e :: _ => e.bytes
      | [] => []
    ok (setRec { s.recd with latch := tset (fun _ => []) s.recd.latch (masterNum ms) b }
      { s with rdata := BitVec.ofNat 32 (leAt b 0 4) })
  else ok (setFlag { s with rdata := 0 } REC_EVENTS_RD_REJ true)

/-- REC_RD3_READ (R453): bytes 12 to 15 of the latched record; RDIDX advances by 1. -/
def execRecRd3Read (ms : Master) (s : State) : Host.Outcome State Fault Refusal :=
  let s := readEvent ms (REC_RD 3) s
  if !mayRead s ms (REC_RD 3) then ok { s with rdata := 0 }
  else if recReadable s then
    let b := tget (fun _ => []) s.recd.latch (masterNum ms)
    ok (fset { s with rdata := BitVec.ofNat 32 (leAt b 12 4) } REC_RDIDX_IDX (fget s REC_RDIDX_IDX + 1))
  else ok (setFlag { s with rdata := 0 } REC_EVENTS_RD_REJ true)

/-- REC_REJ_READ (R14, R449). -/
def execRecRejRead (s : State) : Host.Outcome State Fault Refusal := ok (rcRead REC_REJ s)

/-- What a start does to the recorder (R456). -/
def recStart (warm : Bool) (s : State) : State :=
  let cut := recState s = 2 ∨ recState s = 3
  let r := s.recd
  let s := cancel (recEnter 0 s) .recClearEnd
  let s := setFlag s REC_STATUS_COUNTING false
  let r := { r with armOwed := false, causes := 0, msgOwed := false, toCount := 0, disarm := false, rejected := false
                    latch := [], trig := 0 }
  if warm then whenS cut (fun s => setFlag s REC_STATUS_PARTIAL true) (setRec r s)
  else recCount (setRec { r with mem := [] } (setFlag s REC_STATUS_PARTIAL false))

end Sys2Proof.Machine
end

