-- ==== Sys2Proof/Machine/ModeOps.lean ====
section
/-! DEFINITION. Changing the major mode (spec/17, R513 to R520): the mode message, what leaving a mode stops, and entry to
HALT, LIMP and SLEEP. -/

namespace Sys2Proof.Machine

/-- HALT codes (R519). -/
def haltHost : Nat := 1
/-- Clock fault (R55). -/
def haltClock : Nat := 2
/-- PCIe link loss (R530). -/
def haltLink : Nat := 3
/-- Calibration source lost (R248). -/
def haltCal : Nat := 4
/-- Axis fault with FE_ACT = 1 (R295). -/
def haltAxis : Nat := 5
/-- Lamp rail fault (R323). -/
def haltRail : Nat := 6
/-- Follower cut off (R472). -/
def haltHwy : Nat := 7
/-- Rail over-voltage (R499). -/
def haltOv : Nat := 8
/-- Die above 150 C (R501). -/
def haltTemp : Nat := 9
/-- Housekeeper fault (R531). -/
def haltHk : Nat := 10
/-- Second consecutive failed start (R526). -/
def haltStart : Nat := 11

/-- Modes in which the transport rests: a mode left for one of them stops its moving axes (R296, R515). -/
def restModes : List Mode := [.ready, .diagnose, .sleep, .halt]

/-- Modes that permit a run (R198): CALIBRATE, or SCAN for a gap search. -/
def runModes (r : RunSt) : List Mode := if r.gap then [.scan] else [.calibrate]

/-- The mode becomes m (R513, R516): PREV, MODE_CHG and the message; a class P0 message for LIMP and HALT. -/
def setMode (m : Mode) (cause : Nat) (s : State) : State :=
  let old := s.mode.mode
  let s := { s with mode := { s.mode with mode := m, prev := old } }
  report (if m = .limp ∨ m = .halt then 0 else 1) SYS_EVENTS_MODE_CHG [modeNum old, modeNum m, cause] s

/-- What follows a change of mode in the units: runs that the new mode does not permit are aborted (R205), moving axes stop
where the transport rests (R296), the rail follows (R338), a lamp test is over (R339); HOLD was a standstill of every axis (R283). -/
def afterMode (old : Mode) (s : State) : State :=
  let s := s.shd.runs.foldl (fun s r =>
    if (runModes r).contains s.mode.mode then s else abortRun r.head 0x59 s) s
  let s := whenS ([Mode.scan, .hold, .calibrate, .service].contains old && modeIn s restModes) stopAllAxes s
  let s := whenS (old = .hold) (forN 8 fun m s => setAxis m { getAxis s m with still := some s.time } s) s
  let s := whenS (flag s LMP_CMDSTAT_BUSY && !modeIs s .ready) (fun s =>
    fsets { s with lmp := { s.lmp with test := [], testPulses := 0 } } [(LMP_CMDSTAT_BUSY, 0), (LMP_CMDSTAT_CODE, 2)]) s
  railFollow s

/-- A mode change with its effects on the units. -/
def enterMode (m : Mode) (cause : Nat) (s : State) : State :=
  let old := s.mode.mode
  let s := setMode m cause s
  let s := if m = .service ∨ m = .diagnose then { s with mode := { s.mode with origin := old } } else s
  afterMode old s

/-- Commands in progress at entry to HALT or SLEEP complete with their abort code, or 0x86 (R381); a calibration run
completes as its abort does (R205), ATT_SAVE follows R253. -/
def abortCommands (s : State) : State :=
  let s := { s with host := { s.host with skips := [] } }
  let s := s.host.cmds.foldl (fun s c => if c.op = 4 ∨ c.op = 7 then s else complete c.slot 0 0x86 s) s
  let keep (q : StageReq) : Bool := match q with | .load _ => false | _ => true
  let s := { s with pipe := { s.pipe with reqs := s.pipe.reqs.filter keep } }
  let s := { s with lmp := { s.lmp with load := [] } }
  match s.pipe.stage with
  | some q => if q.slot.isSome then freeStage s else s
  | none => s

/-- A save that has not begun its commit record is abandoned (R253): RESULT 6, status 0x85. -/
def abandonSave (s : State) : State :=
  if s.att.step = 0 ∨ 6 ≤ s.att.step then s else endSave 6 0x85 0 s

/-- Every head goes OFFLINE; the packets of heads without a record on its way close (R92, R373 item 7). -/
def headsStop (s : State) : State :=
  forN 16 (fun h s =>
    let s := headToOffline h s
    whenS ((getHead s h).lines.isEmpty) (closePacket h) s) s

/-- What entry to HALT or SLEEP stops in the units (R33, R92, R149, R253, R296, R338, R381). -/
def stopUnits (s : State) : State :=
  abandonSave (abortCommands (axesOff (lampsDark (abandonVisits (headsStop s)))))

/-- A cause that sends the device to HALT (R519): the cause latches while SYS_FAULT.VALID is 0. A device in OFF or HALT stays. -/
def haltCause (code src : Nat) (s : State) : State :=
  if modeIs s .off || modeIs s .halt then s
  else
    let s := if flag s SYS_FAULT_VALID then s
      else fsets s [(SYS_FAULT_VALID, 1), (SYS_FAULT_SRC, src), (SYS_FAULT_CODE, code)]
    let s := setFlag s SYS_EVENTS_HALT true
    let s := stopUnits s
    enterMode .halt code { s with start := { s.start with on := false, waitAll := false } }

/-- A cause that the uncovered fault table sends to LIMP (R517): its SYS_LIMP bit sets, and READY, SCAN, HOLD and CALIBRATE
change to LIMP. -/
def limpCause (f : Fld) (s : State) : State :=
  let s := setFlag (setFlag s f true) SYS_EVENTS_LIMP true
  if modeIn s [.ready, .scan, .hold, .calibrate] then enterMode .limp f.lo s else s

/-- Entry to SLEEP (R520): the units stop, the Cellar enters self-refresh, the clocks other than SLOW stop. -/
def enterSleep (s : State) : State :=
  let s := auxSleep (stopUnits s)
  let s := pmcEvent 0x0F (setFlag s CEL_STATUS_SREF true)
  enterMode .sleep 0 s

/-- SYS_MODE as it reads (R513). -/
def sysMode (s : State) : Nat := modeNum s.mode.origin * 4096 + modeNum s.mode.prev * 256 + modeNum s.mode.mode

/-- SYS_LIMP reads 0. -/
def noLimp (s : State) : Bool := raw s SYS_LIMP == 0

end Sys2Proof.Machine
end

