-- ==== Sys2Proof/Machine/Slices.lean ====
section
/-! DEFINITION. Converter slices, rotation and guests (spec/05, R129 to R156). -/

namespace Sys2Proof.Machine

/-! Calibration runs as data (R135 to R137). -/

/-- The trims of a run (R136): offsets in 1/512 code, gain denominators, INL points as numerators over den[1]. -/
def trimsOf (m : SliceMeas) : Trims :=
  let off := m.off.map fun x => x - 4096 * 512
  let den := (m.gain.zip m.off).map fun p => p.1 - p.2
  let o1 := off.getD 1 0
  let d1 := den.getD 1 0
  ⟨off, den, (List.range 32).map fun i =>
    (m.inl.getD i 0 - 4096 * 512 - o1) * 32768 + (4096 - (1024 + 2048 * (i : Int))) * d1⟩

/-- Points outside their limits: offsets, gains, INL points (R137). -/
def trimErrors (t : Trims) : Nat × Nat × Nat :=
  ((t.off.filter fun x => decide (1310 * 512 < x.natAbs)).length,
   (t.den.filter fun d => decide (100 * d < 88 * 2 ^ 24) || decide (112 * 2 ^ 24 < 100 * d)).length,
   (t.inl.filter fun x => decide (t.den.getD 1 0 ≤ 0) || decide (8 * t.den.getD 1 0 < x.natAbs)).length)

/-- Result code and failing count of a run (R137, R138, R156). -/
def runResult (m : SliceMeas) : Nat × Nat :=
  let e := trimErrors (trimsOf m)
  let n := e.1 + e.2.1 + e.2.2
  (if 0 < e.1 then 0x41 else if 0 < e.2.1 then 0x42 else if 0 < e.2.2 then 0x43 else 0x40, n)

/-- A failure of slice i: SLC_GLAST, CAL_FAIL and the P2 message (R156). -/
def slcFail (g i code count : Nat) (s : State) : State :=
  let s := fsets s [(SLC_GLAST_CODE g, code), (SLC_GLAST_COUNT g, count), (SLC_GLAST_SLICE g, i), (SLC_EVENTS_CAL_FAIL, 1)]
  pmcEvent 0x2A (raise 2 0xA code [g, i, count] s)

/-- The slice's trims are replaced by a passing run (R138, R153). -/
def takeTrims (g i : Nat) (m : SliceMeas) (s : State) : State :=
  let x := getGroup s g
  pmcEvent 0x29 (setGroup g { x with trims := tset (fun _ => {}) x.trims i (trimsOf m), passAt := nset x.passAt i s.time } s)

/-! Retirement (R150, R153). -/

/-- Group g holds a retired slice. -/
def hasRetired (s : State) (g : Nat) : Bool := flag s (SLC_GRETIRE_VALID g)

/-- Rotation in group g is suspended, and its visit is over. -/
def suspend (g : Nat) (s : State) : State :=
  let s := fset s SLC_SUSP_SUSP (setBit (fget s SLC_SUSP_SUSP) g)
  setGroup g { getGroup s g with running := 17, overlap := 0, stepPend := false } (fset s (SLC_GSTATE_PHASE g) 5)

/-- Commit the guest to tap i of group g; it serves a tap that a head owns (R150). -/
def commitGuest (g i : Nat) (s : State) : State :=
  let s := fset s (SLC_GSTATE_GUEST_TAP g) i
  let s := setFlag s (TAP_STATUS_GUEST (16 * g + i)) (tapOwner s (16 * g + i)).isSome
  setGroup g { getGroup s g with committed := true } s

/-- Slice i of group g is retired (R150, R151, R256): the list, the count, the event, the journal. -/
def noteRetired (g i : Nat) (s : State) : State :=
  let s := fsets s [(SLC_GRETIRE_VALID g, 1), (SLC_GRETIRE_FACTORY g, 0), (SLC_GRETIRE_SLICE g, i),
    (SLC_STATUS_RETIRED, fget s SLC_STATUS_RETIRED + 1), (SLC_EVENTS_RETIRE, 1)]
  recordRetire (setGroup g { getGroup s g with failed := bset (getGroup s g).failed i true } s)

/-- A fault that no guest can cover (R153): its tap keeps the failed server. -/
def uncover (g i : Nat) (tap : Option Nat) (s : State) : State :=
  let x := getGroup s g
  let x := { x with failed := bset x.failed i true, uncovered := match tap with | some t => bset x.uncovered t true | none => x.uncovered }
  let s := setGroup g x s
  limpCause SYS_LIMP_SLICE (report 0 SLC_EVENTS_UNCOVERED [g, i] s)

/-- A third failure in a row (R150). -/
def retireByRuns (g i : Nat) (s : State) : State :=
  if hasRetired s g then uncover g i (if i < 16 then some i else none) s
  else
    let s := raise 0 0xA 0x46 [g, i] (noteRetired g i s)
    suspend g (if i < 16 then commitGuest g i s else s)

/-- Consecutive failures of slice i after one more; true when it is the third (R150). -/
def countFail (g i : Nat) (s : State) : State × Bool :=
  let x := getGroup s g
  let n := nget x.fails i + 1
  let s := setGroup g { x with fails := nset x.fails i (if 3 ≤ n then 0 else n) } s
  (whenS (fget s (SLC_GSTATE_VISIT g) == i) (fun s => fset s (SLC_GSTATE_FAILS g) (min 2 n)) s, decide (3 ≤ n))

/-- The failures in a row of slice i are over (R150). -/
def clearFails (g i : Nat) (s : State) : State :=
  setGroup g { getGroup s g with fails := nset (getGroup s g).fails i 0 } s

/-! Rotation (R139 to R144). -/

/-- Shed factor F (R154). -/
def shedF (s : State) : Nat := 2 ^ fget s SLC_STATUS_SHED

/-- Step period in ticks (R140). -/
def stepPeriod (s : State) : Nat := clampNat 32 1024 (fget s SLC_CTL_INTERVAL) * shedF s * 600000

/-- The rotation step of group g falls on this tick (R140). -/
def stepDue (s : State) (g : Nat) : Bool := s.time % stepPeriod s == g * (stepPeriod s / 16)

/-- Rotation runs in the group (R140). -/
def rotates (s : State) (g : Nat) : Bool :=
  flag s SLC_CTL_ROT_EN && modeIn s [.ready, .scan, .hold, .calibrate, .service, .limp] && !bitOf (fget s SLC_SUSP_SUSP) g

/-- A foreground calibration holds a head that owns taps of group g (R142). -/
def heldByRun (s : State) (g : Nat) : Bool :=
  s.shd.runs.any fun r => !r.gap && decide (r.stage ≠ .ended) && (List.range 16).any fun i => inRange s r.head (16 * g + i)

/-- A run starts in place, or on a slice whose tap the guest already serves (R143, R147). -/
def runInPlace (g i : Nat) (s : State) : State :=
  setGroup g { getGroup s g with running := i, runEnd := s.time + 1080000 } (fset s (SLC_GSTATE_PHASE g) 2)

/-- A visit begins (R139, R141, R143, R144). -/
def beginVisit (g : Fin 16) (s : State) : State :=
  let i := fget s (SLC_GSTATE_VISIT g)
  let s := setGroup g { getGroup s g with stepPend := false } s
  if !flag s PWR_STATUS_BG_OK then setFlag s SLC_EVENTS_PRECOND true
  else
    let s := pmcEvent 0x28 (fset s (SLC_GSTATE_FAILS g) (nget (getGroup s g).fails i))
    match (if i < 16 then tapOwner s (16 * g + i) else none) with
    | none => runInPlace g i s
    | some h =>
      if fget s (SLC_GSTATE_GUEST_TAP g) = i then runInPlace g i s
      else
        let s := fset s (SLC_GSTATE_PHASE g) 1
        if atBoundary s h then schedule s s.time (.guestHandover g) else s

/-- ROTATION_STEP (R140 to R144). -/
def execRotationStep (g : Fin 16) (s : State) : Host.Outcome State Fault Refusal :=
  let x := getGroup s g
  let ph := fget s (SLC_GSTATE_PHASE g)
  if !rotates s g then ok (setGroup g { x with stepPend := false } s)
  else if !stepDue s g && !x.stepPend then ok s
  else if ph ≠ 0 ∨ heldByRun s g = true then ok (setGroup g { x with stepPend := true } s)
  else ok (beginVisit g s)

/-- GUEST_HANDOVER (R144 step 1): the guest takes the tap at a band-line boundary. -/
def execGuestHandover (g : Fin 16) (s : State) : Host.Outcome State Fault Refusal :=
  let i := fget s (SLC_GSTATE_VISIT g)
  if fget s (SLC_GSTATE_PHASE g) ≠ 1 ∨ 16 ≤ i then ok s
  else match tapOwner s (16 * g + i) with
  | none => ok (runInPlace g i s)
  | some h =>
    if atBoundary s h then
      let s := setFlag (fset s (SLC_GSTATE_GUEST_TAP g) i) (TAP_STATUS_GUEST (16 * g + i)) true
      ok (runInPlace g i s)
    else ok s

/-- The run of a visit has ended (R138, R144, R147, R150). -/
def visitRunEnd (g : Fin 16) (i : Nat) (m : SliceMeas) (s : State) : State :=
  let r := runResult m
  if r.1 = 0x40 then
    let s := takeTrims g i m s
    if i < 16 ∧ fget s (SLC_GSTATE_GUEST_TAP g) = i then
      let s := setGroup g { getGroup s g with overlap := 0 } (fset s (SLC_GSTATE_PHASE g) 3)
      schedule s (s.time + 9600000) (.overlapTimeout g)
    else endVisit g (clearFails g i s)
  else
    let s := slcFail g i r.1 r.2 s
    let c := countFail g i s
    if c.2 then retireByRuns g i c.1
    else
      let x := getGroup c.1 g
      let s := setGroup g { x with running := 17 } (fset c.1 (SLC_GSTATE_PHASE g) (restPhase c.1 g))
      whenS x.stepPend (fun s => schedule s s.time (.rotationStep g)) s

/-! Commands (R156). -/

/-- The request in progress ends with a code. -/
def cmdEnds (code : Nat) (s : State) : State := fsets s [(SLC_CMDSTAT_BUSY, 0), (SLC_CMDSTAT_CODE, code)]

/-- Slice i is reinstated (R156, R518): its retirement or failure is over, the guest is free again unless it stays committed,
and the group's rotation resumes once none of its slices is retired. -/
def reinstate (g i : Nat) (s : State) : State :=
  let x := getGroup s g
  let own := hasRetired s g && fget s (SLC_GRETIRE_SLICE g) == i
  let s := clearFails g i (setGroup g { x with
    failed := bset x.failed i false
    uncovered := if i < 16 then bset x.uncovered i false else bset x.uncovered (fget s (SLC_GSTATE_GUEST_TAP g)) false
    committed := x.committed && !(own && decide (i < 16)) } s)
  let s := if own then
      let s := fsets s [(SLC_STATUS_RETIRED, fget s SLC_STATUS_RETIRED - 1),
        (SLC_STATUS_FACTORY, fget s SLC_STATUS_FACTORY - fget s (SLC_GRETIRE_FACTORY g)),
        (SLC_GRETIRE_VALID g, 0), (SLC_GRETIRE_FACTORY g, 0), (SLC_GRETIRE_SLICE g, 0)]
      recordRetire (whenS (decide (i < 16)) (fun s => fset s (SLC_GSTATE_GUEST_TAP g) 16) s)
    else s
  let s := whenS (!hasRetired s g && !(getGroup s g).failed.any (fun p => p.2)) (fun s =>
    fset (fset s SLC_SUSP_SUSP (clearBit (fget s SLC_SUSP_SUSP) g)) (SLC_GSTATE_PHASE g) 0) s
  if s.groups.any fun p => p.2.uncovered.any fun q => q.2 then s else setFlag s SYS_LIMP_SLICE false

/-- A run that a command made has ended (R156). -/
def cmdRunEnd (g : Fin 16) (i : Nat) (m : SliceMeas) (s : State) : State :=
  let x := getGroup s g
  let s := setGroup g { x with cmdSlice := 17, reinstate := false } s
  let r := runResult m
  let s := cmdEnds r.1 s
  if r.1 = 0x40 then
    let s := clearFails g i (takeTrims g i m s)
    if x.reinstate then reinstate g i s else s
  else
    let s := slcFail g i r.1 r.2 s
    if bget (getGroup s g).failed i then s
    else
      let c := countFail g i s
      if c.2 then retireByRuns g i c.1 else c.1

/-- SLICE_CAL_RUN_END (R135 to R138): 1,080,000 ticks after a run's start. -/
def execSliceCalRunEnd (g : Fin 16) (meas : SliceMeas) (s : State) : Host.Outcome State Fault Refusal :=
  let x := getGroup s g
  if fget s (SLC_GSTATE_PHASE g) = 2 ∧ x.running < 17 ∧ x.runEnd ≤ s.time then ok (visitRunEnd g x.running meas s)
  else if x.cmdSlice < 17 ∧ x.cmdEnd ≤ s.time then ok (cmdRunEnd g x.cmdSlice meas s)
  else ok s

/-- Failing checks of an overlap (R145): offset, and gain where the span allows its fit. -/
def fitErrors (f : ResidualFit) : Nat :=
  b2n (decide (64 * 512 < f.roff.natAbs))
    + b2n (decide (8192 ≤ f.span) && (decide (100 * f.rgNum < 99 * (f.rgDen : Int)) || decide (101 * (f.rgDen : Int) < 100 * f.rgNum)))

/-- GUEST_HANDBACK (R144 step 4, R145): the fourth overlap band-line has closed. -/
def execGuestHandback (g : Fin 16) (fit : ResidualFit) (s : State) : Host.Outcome State Fault Refusal :=
  let x := getGroup s g
  let i := x.running
  if fget s (SLC_GSTATE_PHASE g) ≠ 4 ∨ x.overlap < 4 ∨ 16 ≤ i then ok s
  else
    let n := fitErrors fit
    if n = 0 then
      let old : Residual := tget (fun _ => {}) x.resid i
      let new : Residual := if 8192 ≤ fit.span then ⟨fit.roff, fit.rgNum, fit.rgDen⟩ else { old with roff := fit.roff }
      let s := setGroup g { x with resid := tset (fun _ => {}) x.resid i new, fitted := bset x.fitted i true } s
      ok (endVisit g (clearFails g i (releaseGuest g s)))
    else
      let s := slcFail g i 0x44 n (setGroup g { x with fitted := bset x.fitted i false } s)
      let c := countFail g i s
      if c.2 then ok (retireByRuns g i c.1)
      else
        let y := getGroup c.1 g
        let s := setGroup g { y with running := 17, overlap := 0 } (fset c.1 (SLC_GSTATE_PHASE g) (restPhase c.1 g))
        ok (whenS y.stepPend (fun s => schedule s s.time (.rotationStep g)) s)

/-- OVERLAP_TIMEOUT (R146, R148): 16 ms after the run, at a band-line boundary. -/
def execOverlapTimeout (g : Fin 16) (s : State) : Host.Outcome State Fault Refusal :=
  let x := getGroup s g
  let i := x.running
  let ph := fget s (SLC_GSTATE_PHASE g)
  let bound := match tapOwner s (16 * g + i) with | some h => atBoundary s h | none => true
  if ph < 3 ∨ 4 < ph ∨ 4 ≤ x.overlap ∨ s.time < x.runEnd + 9600000 ∨ 16 ≤ i ∨ bound = false then ok s
  else
    let s := fsets s [(SLC_GLAST_CODE g, 0x48), (SLC_GLAST_COUNT g, 0), (SLC_GLAST_SLICE g, i)]
    let s := setGroup g { x with fitted := bset x.fitted i false } s
    ok (endVisit g (clearFails g i (releaseGuest g s)))

/-! Faults (R151 to R153). -/

/-- Ticks from the start of a pixel period to the entry of its sample (R119): Φ mod Tpix, 6 Tpix and 40 ns. -/
def sampleDelay (s : State) (h : Nat) : Nat := 7 * pixTicks s h + 24

/-- Samples of tap t are replaced from now on (R152): band-lines under way that still owe samples of it, and those to come. -/
def replaceFrom (t : Nat) (s : State) : State :=
  match tapOwner s t with
  | none => s
  | some h =>
    let x := getHead s h
    let hit (l : BandLine) : Bool :=
      (decide (l.stage = .reading) || decide (l.stage = .lanes)) && decide (s.time < l.readLast + sampleDelay s h)
    let mk (l : BandLine) : BandLine := { l with pedestal := l.pedestal ++ [(t, s.time, 2 ^ 64)] }
    let s := setHead h { x with lines := x.lines.map fun l => if hit l then mk l else l } s
    setTap t { getTap s t with pedestal := true } s

/-- The replacement of tap t ends now (R152). -/
def replaceUntil (t : Nat) (s : State) : State :=
  let s := setTap t { getTap s t with pedestal := false } s
  forN 16 (fun h s =>
    let x := getHead s h
    setHead h { x with lines := x.lines.map fun l =>
      { l with pedestal := l.pedestal.map fun p => if p.1 = t ∧ p.2.2 = 2 ^ 64 then (p.1, p.2.1, s.time) else p } } s) s

/-- Tick on which the guest can take tap t of head h (R152), and whether a run under way is abandoned. -/
def standinAt (s : State) (g h : Nat) : Nat :=
  let ph := fget s (SLC_GSTATE_PHASE g)
  if fget s (SLC_GSTATE_GUEST_TAP g) = 16 then edgeAt (pixTicks s h) (s.time + 1200)
  else if ph = 3 ∨ ph = 4 then s.time
  else s.time + 12000

/-- Add a report that waits for its stand-in (R152). -/
def addReport (g i : Nat) (due : Nat) (s : State) : State :=
  let x := getGroup s g
  setGroup g { x with report := x.report ++ [⟨i, s.time, [], false, due⟩] } s

/-- A fault of the guest (R153): a tap that it serves for good keeps it; in rotation the incumbent takes its tap back. -/
def guestFault (g : Nat) (s : State) : State :=
  let x := getGroup s g
  let j := fget s (SLC_GSTATE_GUEST_TAP g)
  if x.committed then
    uncover g 16 (some j) (whenS (flag s (TAP_STATUS_GUEST (16 * g + j))) (replaceFrom (16 * g + j)) s)
  else
    let s := suspend g (releaseGuest g s)
    let s := if hasRetired s g then s else noteRetired g 16 s
    uncover g 16 none s

/-- SLICE_FAULT (R151 to R153). -/
def execSliceFault (g : Fin 16) (i : Fin 17) (s : State) : Host.Outcome State Fault Refusal :=
  let x := getGroup s g
  let t := 16 * g.val + i.val
  if bget x.failed i then ok s
  else
    let s := setFlag s SLC_EVENTS_FAULT true
    if i.val = 16 then ok (guestFault g s)
    else if x.committed ∨ bget x.failed 16 = true then
      ok (uncover g i (if (tapOwner s t).isSome then some i.val else none) (replaceFrom t s))
    else
      let cur := fget s (SLC_GSTATE_GUEST_TAP g)
      match tapOwner s t with
      | none =>
        let s := suspend g (noteRetired g i (releaseGuest g s))
        ok (raise 0 0xA 0x81 [g, i] (commitGuest g i s))
      | some h =>
        if cur = i.val then
          -- the guest serves the tap already
          ok (raise 0 0xA 0x81 [g, i] (suspend g (commitGuest g i (noteRetired g i s))))
        else
          let due := standinAt s g h
          let s := suspend g (noteRetired g i s)
          ok (schedule (replaceFrom t (addReport g i due s)) due (.guestStandin g))

/-- GUEST_STANDIN (R152): the guest takes the faulted slice's tap. -/
def execGuestStandin (g : Fin 16) (s : State) : Host.Outcome State Fault Refusal :=
  let x := getGroup s g
  match x.report.find? fun r => !r.served && decide (r.due ≤ s.time) with
  | none => ok s
  | some r =>
    let s := releaseGuest g s
    let x := getGroup s g
    let s := setGroup g { x with report := x.report.map fun q => if q = r then { q with served := true } else q } s
    let s := replaceUntil (16 * g + r.slice) (commitGuest g r.slice s)
    ok (schedule s s.time (.sliceFaultReport g))

/-- A band-line with replaced samples of tap t is still on its way (R152). -/
def replacedInFlight (s : State) (t : Nat) : Bool :=
  (List.range 16).any fun h => (getHead s h).lines.any fun l => l.pedestal.any fun p => p.1 == t

/-- SLICE_FAULT_REPORT (R152): the guest serves and the last affected band-line has left the lanes. -/
def execSliceFaultReport (g : Fin 16) (s : State) : Host.Outcome State Fault Refusal :=
  let x := getGroup s g
  match x.report.find? fun r => r.served && !replacedInFlight s (16 * g + r.slice) with
  | none => ok s
  | some r =>
    let ns := r.lines.map fun p => p.2
    let items := match ns.head?, ns.getLast? with
      | some a, some b => [g.val, r.slice, a, b]
      | _, _ => [g.val, r.slice]
    ok (raiseAt r.time 0 0xA 0x81 items (setGroup g { x with report := x.report.erase r } s))

/-- A slice is parked: no head owns its tap; the guest is parked while it serves no tap (R132, R156). -/
def isParked (s : State) (g i : Nat) : Bool :=
  if i = 16 then
    let j := fget s (SLC_GSTATE_GUEST_TAP g)
    j == 16 || !flag s (TAP_STATUS_GUEST (16 * g + j))
  else (tapOwner s (16 * g + i)).isNone

/-- A write of SLC_CMD (R156): discarded while a request is in progress; refused with 0x47 unless it may run; refused with
0x45 where the band-gap monitor is out of range (R139). -/
def slcCmd (g i : Nat) (reinst : Bool) (may : State → Bool) (s : State) : State :=
  if flag s SLC_CMDSTAT_BUSY then setFlag s SLC_EVENTS_CMD_REJ true
  else if 17 ≤ i || !may s then cmdEnds 0x47 s
  else if !flag s PWR_STATUS_BG_OK then setFlag (cmdEnds 0x45 s) SLC_EVENTS_PRECOND true
  else
    setGroup g { getGroup s g with cmdSlice := i, cmdEnd := s.time + 1080000, reinstate := reinst } (setFlag s SLC_CMDSTAT_BUSY true)

/-- SLC_CMD_RUN (R156 OP 1). -/
def execSlcCmdRun (g : Fin 16) (i : Fin 32) (s : State) : Host.Outcome State Fault Refusal :=
  ok (onWrite SLC_CMD (slcCmd g i false fun s =>
    (bitOf (fget s SLC_SUSP_SUSP) g || !flag s SLC_CTL_ROT_EN) && isParked s g i && (getGroup s g).running != i.val
      && !(i.val == 16 && (fget s (SLC_GSTATE_GUEST_TAP g) != 16 || fget s (SLC_GSTATE_PHASE g) == 1))) s)

/-- SLC_CMD_REINSTATE (R156 OP 2). -/
def execSlcCmdReinstate (g : Fin 16) (i : Fin 32) (s : State) : Host.Outcome State Fault Refusal :=
  ok (onWrite SLC_CMD (slcCmd g i true fun s =>
    modeIs s .service && isParked s g i
      && ((hasRetired s g && fget s (SLC_GRETIRE_SLICE g) == i.val && !flag s (SLC_GRETIRE_FACTORY g))
        || bget (getGroup s g).failed i)) s)

/-! The start pass (R155). -/

/-- The runs of one slice in the start pass: until one passes, or three have failed. -/
def startRuns (g i : Nat) : List SliceMeas → State → State
  | [], s => s
  | m :: rest, s =>
    let r := runResult m
    if r.1 = 0x40 then clearFails g i (takeTrims g i m s)
    else
      let c := countFail g i (slcFail g i r.1 r.2 s)
      if c.2 then retireByRuns g i c.1 else startRuns g i rest c.1

/-- The start pass (R155): every run, then the guests of groups with a retired slice take that slice's tap. -/
def slcStartPass (runs : List (Nat × Nat × List SliceMeas)) (s : State) : State :=
  let s := forN 16 (fun g s =>
    let x := getGroup s g
    if hasRetired s g then
      setGroup g { x with failed := bset x.failed (fget s (SLC_GRETIRE_SLICE g)) true } s
    else s) s
  let s := runs.foldl (fun s r =>
    if hasRetired s r.1 ∧ fget s (SLC_GRETIRE_SLICE r.1) = r.2.1 then s else startRuns r.1 r.2.1 (r.2.2.take 3) s) s
  forN 16 (fun g s =>
    if hasRetired s g then
      let i := fget s (SLC_GRETIRE_SLICE g)
      suspend g (if i < 16 then commitGuest g i s else s)
    else s) s

end Sys2Proof.Machine
end

