-- ==== Sys2Proof/Machine/Pixels.lean ====
section
/-! DEFINITION. From a slice's codes to a record (spec/05 R133; spec/06 R157 to R175; spec/11 R370 to R372): the trim stage, the
correction, binning, packing, and what a band-line's samples add to counters and to white tracking. -/

namespace Sys2Proof.Machine

/-! The trim stage (R109, R133). -/

/-- INL at code c: linear between the 32 points, constant beyond (R133, R136). -/
def inlAt (tr : Trims) (c : Rat) : Rat :=
  if tr.inl.isEmpty then 0
  else
    let d : Rat := tr.den.getD 1 1
    let pt (i : Nat) : Rat := tr.inl.getD i 0 / d
    if c ≤ 1024 then pt 0
    else if 64512 ≤ c then pt 31
    else
      let i := ((c - 1024) / 2048).floor.toNat
      pt i + (pt (i + 1) - pt i) * (c - 1024 - 2048 * i) / 2048

/-- A converter code through the trim stage of slice i of tap t at PGA step p, unrounded (R133). -/
def trimExact (s : State) (t i p : Nat) (c : Rat) : Rat :=
  let x := getGroup s (t / 16)
  let tr := tget (fun _ => ({} : Trims)) x.trims i
  let ped : Rat := 64 * fget s (TAP_CLAMP_CLAMP t)
  let gc : Rat := match tr.den[p]? with | some d => (2 ^ 24 : Rat) / d | none => 1
  let c2 := ped + (c - inlAt tr c - ped - (tr.off.getD p 0 : Rat) / 512) * gc
  if i = 16 then
    let r := tget (fun _ => ({} : Residual)) x.resid (t % 16)
    ped + (c2 - ped - (r.roff : Rat) / 512) * r.rgNum / r.rgDen
  else c2

/-- A sample as it enters its lane: trimmed code, OVR, and whether a failed lane puts out 0 (R109, R133, R194). -/
structure Pix where
  code : Nat
  ovr : Bool
  dead : Bool
  deriving DecidableEq, Repr

/-- Trimmed code with OVR evaluated on it (R109, R133). -/
def trimmed (s : State) (t i p : Nat) (x : Sample) : Nat × Bool :=
  let v := roundQ (trimExact s t i p x.code)
  ((clampInt 0 65535 v).toNat, x.ovr || decide (v < 0) || decide (65535 < v))

/-- Samples of one tap in a band-line: dark, then active (R61). -/
def tapSamples (s : State) (h : Nat) : Nat := fget s (HEAD_READ_DARK h) + fget s (HEAD_READ_PPT h)

/-- Tick on which the pixel period of sample k of a tap begins (R61). -/
def sampleBegins (s : State) (h : Nat) (l : BandLine) (k : Nat) : Nat :=
  let d := fget s (HEAD_READ_DARK h)
  l.readAt + (if k < d then k else k + fget s (HEAD_READ_DUMMY h)) * pixTicks s h

/-- Ticks from the begin of a pixel period to the entry of its sample (R119). -/
def entryDelay (s : State) (h t : Nat) : Nat :=
  let p := pixTicks s h
  (if p = 0 then 0 else phaseOf (act s (TAP_PHASE t)) / 32 % p) + 6 * p + 24

/-- Sample k of tap t (place q in the head) of a band-line as it enters its lane (R109, R133, R147, R152, R194). -/
def pixOf (s : State) (h : Nat) (l : BandLine) (xs : List Sample) (t q k : Nat) : Pix :=
  let x := xs.getD (q * tapSamples s h + k) ⟨0, false⟩
  let b := sampleBegins s h l k
  let e := b + entryDelay s h t
  let ped := l.pedestal.find? fun p => p.1 == t && decide (b < p.2.2) && decide (p.2.1 < e)
  let dead := l.dead.any fun p => p.1 == t / 8 && decide (p.2.1 ≤ e) && decide (e < p.2.2)
  let own := l.pedestal.any fun p => p.1 == t && decide (e ≤ p.2.1)
  match ped with
  | some _ => ⟨64 * fget s (TAP_CLAMP_CLAMP t), false, dead⟩
  | none =>
    let r := trimmed s t (if l.guests.contains t && !own then 16 else t % 16) (l.pga.getD q 0) x
    ⟨r.1, r.2, dead⟩

/-- Some sample of tap t is replaced by the pedestal (R152). -/
def replacedTap (s : State) (h : Nat) (l : BandLine) (t : Nat) : Bool :=
  l.pedestal.any fun p => p.1 == t && (List.range (tapSamples s h)).any fun k =>
    decide (sampleBegins s h l k < p.2.2) && decide (p.2.1 < sampleBegins s h l k + entryDelay s h t)

/-! The correction (R160 to R164, R180). -/

/-- Bank and row of store entry e (R158, R176). -/
def rowOfEntry (e : Nat) : Nat := 4096 * (e / 262144) + e % 262144 / 64
/-- Bank and row of D1 byte i. -/
def rowOfD1 (i : Nat) : Nat := 4096 * 16 + i / 256
/-- Bank and row of LUT byte i. -/
def rowOfLut (i : Nat) : Nat := 4096 * 16 + 2048 + i / 256

/-- 0 good, 1 corrected reads, 2 uncorrectable (R178 to R180): the mark of a hard row. -/
def rowState (s : State) (k : Nat) : Nat :=
  match s.pipe.hard.find? fun p => p.1 == k with | some p => p.2 + 1 | none => 0

/-- P_eff (R161, R163, R164). -/
def pEff (hctl period : Nat) : Nat := min period (60000 * bitsOf hctl 15 8)

/-- a16 of R160 step 1, for pixel j of tap t in band b with its TRK. -/
def a16Of (s : State) (t b j : Nat) (trk : Int) (hctl period code : Nat) : Int :=
  let e := storeEntry t b j
  let d0 := if rowState s (rowOfEntry e) = 2 then 0 else getD0 s e
  let i := 2048 * t + j
  let d1 := if rowState s (rowOfD1 i) = 2 then 0 else getD1 s i
  16 * ((code : Int) - 64 * fget s (TAP_CLAMP_CLAMP t) - d0) - trk - roundDiv (16 * d1 * pEff hctl period) 60000

/-- c of R160 step 3. -/
def cOf (s : State) (t b j : Nat) (bgo : Nat) (a16 : Int) : Int :=
  let e := storeEntry t b j
  let g : Int := if rowState s (rowOfEntry e) = 2 then 0x4000 else getG s e
  roundDiv (a16 * g * bitsOf bgo 15 0) (2 ^ 30) + signed 16 (bitsOf bgo 31 16)

/-- v after the LUT (R160 step 4, R167). -/
def vOf (s : State) (hb : Nat) (hctl : Nat) (c : Int) : Nat :=
  let v := (clampInt 0 65535 c).toNat
  if bitOf hctl 3 then
    let i := 4096 * hb + v / 16
    (if rowState s (rowOfLut i) = 2 then v / 16 / 16 else getLut s i) * 257
  else v

/-! Binning and packing (R171 to R174). -/

/-- Binning factor (R171). -/
def binFactor (hctl : Nat) : Nat := [1, 2, 3, 4, 6, 8, 1, 1].getD (bitsOf hctl 6 4) 1

/-- Groups of n values. -/
def chunks (n : Nat) : Nat → List Nat → List (List Nat)
  | 0, _ => []
  | k + 1, l => if l.isEmpty then [] else l.take n :: chunks n k (l.drop n)

/-- Output pixels (R171). -/
def binned (hctl : Nat) (v : List Nat) : List Nat :=
  (chunks (binFactor hctl) v.length v).map fun g => roundUpDiv g.sum g.length

/-- Pixel pairs in 12-bit packed format (R173). -/
def pack12 : List Nat → List Byte
  | [] => []
  | [x] => bytesOf [x % 256, x / 256, 0]
  | x :: y :: r => bytesOf [x % 256, x / 256 + y % 16 * 16, y / 16] ++ pack12 r

/-- Eight 1-bit pixels per byte, the first in bit 7 (R172). -/
def pack1 (l : List Nat) : List Byte :=
  (chunks 8 l.length l).map fun g => BitVec.ofNat 8 ((List.range 8).foldl (fun a i => 2 * a + g.getD i 0) 0)

/-- A band-line payload (R172 to R174). -/
def payload (hctl thr : Nat) (w : List Nat) : List Byte :=
  let b := match bitsOf hctl 1 0 with
    | 0 => w.flatMap fun x => leBytes x 2
    | 1 => pack12 (w.map fun x => x / 16)
    | 2 => bytesOf (w.map fun x => x / 256)
    | _ => pack1 (w.map fun x => if bitsOf thr 15 0 ≤ x then 1 else 0)
  b ++ List.replicate ((8 - b.length % 8) % 8) 0

/-! What the samples of a band-line give. -/

/-- An active pixel on its way: its tap, its place in the head, line index, its sample, a16 and c (R157, R160). -/
structure Corrected where
  tap : Nat
  q : Nat
  j : Nat
  pix : Pix
  a16 : Int
  c : Int
  deriving DecidableEq, Repr

/-- The corrected pixels of a band-line in line index order (R60, R121, R157). -/
def corrected (s : State) (h : Nat) (l : BandLine) (xs : List Sample) : List Corrected :=
  let ppt := fget s (HEAD_READ_PPT h)
  let dark := fget s (HEAD_READ_DARK h)
  let taps := tapsOf s h
  (List.range taps.length).flatMap fun q =>
    let t := taps.getD q 0
    (List.range ppt).map fun j =>
      let k := if flag s (TAP_CTL_REV t) then ppt - 1 - j else j
      let x := pixOf s h l xs t q (dark + k)
      let a := a16Of s t l.band j (l.trk.getD q 0) l.hctl l.period x.code
      ⟨t, q, j, x, a, cOf s t l.band j l.bgo a⟩

/-- OVR samples of tap place q, dark and active (R111). -/
def ovrCount (s : State) (h : Nat) (l : BandLine) (xs : List Sample) (t q : Nat) : Nat :=
  ((List.range (tapSamples s h)).filter fun k => (pixOf s h l xs t q k).ovr).length

/-- The over-range counts of the head's taps (R111, R112). -/
def countOvr (h : Nat) (l : BandLine) (xs : List Sample) (s : State) : State :=
  let taps := tapsOf s h
  forN taps.length (fun q s =>
    let t := taps.getD q 0
    let n := ovrCount s h l xs t q
    whenS (n != 0) (fun s => pmcEvents 0x02 {} n (setFlag (setRaw s (TAP_OVR t) (satAdd 0xFFFFFFFF (raw s (TAP_OVR t)) n))
      (TAP_EVENTS_OVR_SEEN t) true)) s) s

/-- Clipped pixels of head h (R166). -/
def countClip (h : Nat) (ps : List Corrected) (s : State) : State :=
  let n := (ps.filter fun p => decide (p.c < 0) || decide (65535 < p.c)).length
  whenS (n != 0) (fun s => pmcEvents 0x03 {} n (setFlag (setRaw s (PIPE_CLIP h) (satAdd 0xFFFFFFFF (raw s (PIPE_CLIP h)) n))
    PIPE_EVENTS_CLIP true)) s

/-- Rows of the store that a band-line reads (R158, R168). -/
def rowsRead (h : Nat) (l : BandLine) (ps : List Corrected) : List Nat :=
  (ps.flatMap fun p => [rowOfEntry (storeEntry p.tap l.band p.j), rowOfD1 (2048 * p.tap + p.j)]).eraseDups
    ++ (if bitOf l.hctl 3 then (List.range 16).map fun i => rowOfLut (4096 * headBand h l.band + 256 * i) else [])

/-- A store error is noted (R178, R180): its counter, event and PIPE_ECC_ROW; an uncorrectable one raises a P2 message. -/
def storeError (row hb : Nat) (ue : Bool) (s : State) : State :=
  let off := if ue then PIPE_ECC_UE else PIPE_ECC_CE
  let s := setRaw s off (satAdd 0xFFFFFFFF (raw s off) 1)
  let s := fsets s [(PIPE_ECC_ROW_VALID, 1), (PIPE_ECC_ROW_UE, b2n ue), (PIPE_ECC_ROW_BANK, row / 4096), (PIPE_ECC_ROW_ROW, row % 4096)]
  if ue then report 2 PIPE_EVENTS_ECC_UE [row / 4096, row % 4096, hb] s else setFlag s PIPE_EVENTS_ECC_CE true

/-- Errors that the lanes met in hard rows (R178, R180, R182). -/
def storeErrors (h : Nat) (l : BandLine) (rows : List Nat) (s : State) : State :=
  if s.pipe.hard.isEmpty then s
  else rows.foldl (fun s r => match rowState s r with
    | 0 => s
    | 1 => storeError r (headBand h l.band) false s
    | _ => storeError r (headBand h l.band) true s) s

/-! White tracking of a band-line (R217 to R220). -/

/-- W of pixel p of head-band hb. -/
def getWhite (s : State) (hb p : Nat) : White := tget (fun _ => {}) s.shd.white (524288 * hb + p)

/-- WMIN in force. -/
def wMin (s : State) (h : Nat) : Nat := max 16 (fget s (SHD_HWHT_WMIN h))

/-- The band-line may feed white averages (R218). -/
def whiteOpen (s : State) (h : Nat) (l : BandLine) : Bool :=
  let lit := s.lmp.entries.any fun e => servedHead s e == some h && e.litIn l.band
  !l.has flagCalStale && !(l.has flagGuest && l.unfit) && !l.has flagLampAdj && !l.has flagLampDeficit && !l.trial
    && (!lit || (lampMode s && !modeIs s .ready))

/-- White accumulation of a band-line on the strip (R219, R220). -/
def whiteTrack (h : Fin 16) (l : BandLine) (ps : List Corrected) (s : State) : State :=
  if l.noRecord || !onStrip s h l.pos then s
  else
    let s := fset s (SHD_HSTAT_QUAL h) (satAdd 0xFFFF (fget s (SHD_HSTAT_QUAL h)) 1)
    if !flag s SHD_CTL_BGW_EN || !bitOf (fget s (SHD_HWHT_BANDS h)) l.band || !whiteOpen s h l then s
    else
      let hb := headBand h l.band
      let ppt := fget s (HEAD_READ_PPT h)
      let wk := 2 ^ fget s (SHD_HWHT_WK h)
      let s := ps.foldl (fun s p =>
        if p.pix.ovr || p.pix.dead then s
        else
          let k := 524288 * hb + p.q * ppt + p.j
          let w := tget (fun _ => ({} : White)) s.shd.white k
          let x : Rat := (p.a16 : Rat) / 16
          let w : White := ⟨if w.n = 0 then x else w.w + (x - w.w) / wk, w.n + 1⟩
          { s with shd := { s.shd with white := tset (fun _ => {}) s.shd.white k w } }) s
      let n := nget s.shd.incl hb + 1
      let s := { s with shd := { s.shd with incl := nset s.shd.incl hb n } }
      match finOf 8 l.band with
      | some b => whenS (decide (wMin s h ≤ n)) (fun s => schedule s s.time (.whiteTrackDue h b)) s
      | none => s

/-! What a run gathers from a band-line (R213, R222, R224, R229). -/

/-- Add to a sum of the run, and to its count. -/
def RunSt.add (r : RunSt) (k : Nat) (v : Int) (n : Nat) : RunSt :=
  { r with acc := iset r.acc k (iget r.acc k + v), cnt := nset r.cnt k (nget r.cnt k + n) }

/-- Key of a dark-pixel sum: tap, band, period index (R213). -/
def darkKey (t b per : Nat) : Nat := 2 ^ 25 + 4096 * per + 256 * b + t
/-- Key of an active-pixel sum: line index, band, period index (R213). -/
def pixKey (p b per : Nat) : Nat := 2 ^ 24 * per + 2 ^ 20 * b + p

/-- What a measured band-line adds to its run. -/
def gather (s : State) (h : Nat) (l : BandLine) (xs : List Sample) (ps : List Corrected) (r : RunSt) : RunSt :=
  let ppt := fget s (HEAD_READ_PPT h)
  let dark := fget s (HEAD_READ_DARK h)
  let taps := tapsOf s h
  let pt := l.tag - 1
  match r.kind with
  | 1 =>
    let r := ps.foldl (fun r p =>
      let i := p.q * ppt + p.j
      let r := r.add (pixKey i l.band pt) p.pix.code 1
      if p.pix.ovr || p.pix.dead then { r with bad := bset r.bad i true } else r) r
    (List.range taps.length).foldl (fun r q => (List.range dark).foldl (fun r k =>
      let x := pixOf s h l xs (taps.getD q 0) q k
      if x.ovr || x.dead then r else r.add (darkKey (taps.getD q 0) l.band pt) x.code 1) r) r
  | 2 =>
    if whiteOpen s h l then
      ps.foldl (fun r p => if p.pix.ovr || p.pix.dead then r else r.add (pixKey (p.q * ppt + p.j) l.band 0) p.a16 1) r
    else r
  | 3 =>
    (List.range taps.length).foldl (fun r q =>
      let t := taps.getD q 0
      let a := sumInt ((ps.filter fun p => p.q == q).map fun p => (p.pix.code : Int))
      let d := sumInt ((List.range dark).map fun k => ((pixOf s h l xs t q k).code : Int))
      let dk : Int := if dark = 0 then ppt * (64 * fget s (TAP_CLAMP_CLAMP t)) else d
      r.add (256 * pt + t) (if dark = 0 then a - dk else a * dark - dk * ppt) 1) r
  | _ =>
    let good := ps.filter fun p => !p.pix.ovr && !p.pix.dead
    let many := (ps.filter fun p => p.pix.ovr).length
    let r := r.add pt (sumInt (good.map fun p => p.a16)) good.length
    let np := taps.length * ppt
    if np / 1000 < many then { r with bad := bset r.bad pt true } else r

/-! The record (R370 to R372). -/

/-- Header bytes 4 to 31 and payload of a band-line record. -/
def recordBytes (h : Nat) (l : BandLine) (docEnabled : Bool) (ovr : Nat) (pay : List Byte) : List Byte :=
  let w1 := h * 2 ^ 28 + l.band * 2 ^ 25 + min 255 ovr * 2 ^ 17 + (pay.length / 8 - 1)
  leBytes w1 4 ++ leBytes l.line 4 ++ leBytes (if docEnabled then l.doc else 0) 2 ++ leBytes l.flags 2
    ++ leBytes l.pos 6 ++ leBytes (l.gen.getD 0) 2 ++ leBytes l.time 8 ++ pay

end Sys2Proof.Machine
end

