-- ==== Sys2Proof/Machine/Pipeline.lean ====
section
/-! DEFINITION. The commands of the pixel pipeline (spec/06, R166 to R196, R595) and the packets it fills (spec/11, R370 to
R373). -/

namespace Sys2Proof.Machine

/-! Cellar traffic (R548). -/

/-- n events of a Cellar type with class c. The spec gives no addresses for what the Cellar holds: the address that the event
carries is a free value (DESIGN CHOICE, log entry 4). -/
def celEvents (ev c n : Nat) (s : State) : State :=
  let d := draw s
  pmcEvents ev { mst := some 3, cls := some c, cel := some ((Config.freeValue 3 d.1).toNat % 2 ^ 28) } n d.2

/-- Number of 64-byte pieces of n bytes. -/
def pieces (n : Nat) : Nat := (n + 63) / 64

/-! Records into packets (R373, R376). -/

/-- PKTMAX in bytes. -/
def pktMax (s : State) (h : Nat) : Nat := 1024 * clampNat 1 16384 (fget s (HOST_RPKT_PKTMAX (3 + h)))

/-- The open packet of head h. -/
def openPacket (s : State) (h : Nat) : Option Packet := s.host.openPkt.find? fun p => decide (p.head = h)

/-- Replace the open packet of its head. -/
def setPacket (p : Packet) (s : State) : State :=
  { s with host := { s.host with openPkt := s.host.openPkt.filter (fun q => decide (q.head ≠ p.head)) ++ [p] } }

/-- A record enters the open packet of its head (R373). -/
def storeRecord (h : Nat) (r : LineRec) (s : State) : State :=
  let size := r.bytes.length + 4
  let s := match openPacket s h with
    | some p =>
      let gap := match p.recs.head? with | some q => bitOf q.flags flagGap != bitOf r.flags flagGap | none => false
      if pktMax s h < p.size + size ∨ bitOf r.flags flagDocStart = true ∨ gap = true then closePacket h s else s
    | none => s
  let s := match openPacket s h with
    | some p => setPacket { p with recs := p.recs ++ [r] } s
    | none =>
      let wait := fget s (HOST_RPKTCTL_PKT_TO (3 + h))
      let s := setPacket ⟨h, [r], s.time⟩ s
      match finOf 16 h with
      | some i => whenS (wait != 0) (fun s => schedule s (s.time + 600 * wait) (.packetTimeout i)) s
      | none => s
  let n := match openPacket s h with | some p => p.recs.length | none => 0
  let lim := fget s (HOST_RPKTCTL_PKTLINES (3 + h))
  let s := celEvents 0x08 0 (pieces size) (pmcEvent 0x01 s)
  if (lim ≠ 0 ∧ lim ≤ n) ∨ bitOf r.flags flagDocEnd = true then closePacket h s else s

/-- A band-line finds the line area full (R285). -/
def areaFull (h line : Nat) (s : State) : State :=
  let s := report 0 MOT_EVENTS_AREA_FULL [h, line] s
  let s := forN 8 (fun m s => whenS (paced s m) (stopNow m) s) s
  fset s MOT_STATUS_PSTATE 3

/-- The record of a band-line is stored, discarded by a SKIP_DOC, or lost (R285, R376). -/
def keepRecord (h : Nat) (l : BandLine) (r : LineRec) (s : State) : State :=
  let skipped := !l.has flagGap && s.host.skips.any fun k => k.head == h && k.doc == l.doc
  if skipped then
    let one (k : Skip) : Skip := if k.head = h ∧ k.doc = l.doc then { k with count := satAdd 0xFFFFFFFF k.count 1 } else k
    let s := { s with host := { s.host with skips := s.host.skips.map one } }
    if l.has flagDocEnd then skipFinish h l.doc s else s
  else if lineArea s < fillBytes s + r.bytes.length + 4 then areaFull h l.line s
  else storeRecord h r s

/-! A band-line leaves the lanes (R170). -/

/-- Add a band-line with replaced samples or dead pixels to the fault reports of its taps and lanes (R152, R194). -/
def noteFaults (h : Nat) (l : BandLine) (reps : List Nat) (dead : List Nat) (s : State) : State :=
  let s := reps.foldl (fun s t =>
    let x := getGroup s (t / 16)
    setGroup (t / 16) { x with report := x.report.map fun r =>
      if r.slice = t % 16 then { r with lines := r.lines ++ [(h, l.line)] } else r } s) s
  let one (r : LaneRep) : LaneRep := if dead.contains r.serves then { r with lines := r.lines ++ [(h, l.line)] } else r
  { s with pipe := { s.pipe with laneRep := s.pipe.laneRep.map one } }

/-- Reports that may be ready now that a band-line has left the lanes (R152, R194). -/
def dueReports (s : State) : State :=
  let s := forN 16 (fun g s => match finOf 16 g with
    | some i => whenS ((getGroup s g).report.any fun r => r.served) (fun s => schedule s s.time (.sliceFaultReport i)) s
    | none => s) s
  s.pipe.laneRep.foldl (fun s r => match finOf 34 r.lane with
    | some i => whenS r.served (fun s => schedule s s.time (.laneFaultReport i)) s
    | none => s) s

/-- A run has made all its triggers and none of its measured band-lines is on its way: its measurement is over (R206). -/
def runDone (h : Fin 16) (s : State) : State :=
  match runOf s h with
  | some r =>
    let finished := r.stage == .measuring && (if r.kind = 3 then decide (3 * phPoints s h ≤ r.trial) else r.band == 8)
    whenS (finished && !(getHead s h).lines.any fun l => l.tag != 0) (fun s => schedule s s.time (.calRunMeasureEnd h)) s
  | none => s

/-- The last record of a head after HALT or SLEEP closes its packet (R373 item 7). -/
def closeIfStopped (h : Nat) (s : State) : State :=
  whenS (modeIn s [.halt, .sleep] && (getHead s h).lines.isEmpty) (closePacket h) s

/-- Flags that the samples of a band-line decide (R152, R180, R194, R209). -/
def sampleFlags (s : State) (l : BandLine) (h : Nat) (reps dead rows : List Nat) : List Nat :=
  (if !reps.isEmpty || rows.any (fun r => rowState s r == 2) then [flagCalStale] else [])
    ++ (if dead.isEmpty then [] else [flagSpareLane])
    ++ (if (tapsOf s h).any fun t => (List.range 8).any fun b => bget s.shd.clamped (8 * t + b) then [flagTrkLimit] else [])
    ++ (if l.has flagCalStale then [flagCalStale] else [])

/-- A band-line passes the pipeline with its samples (R111, R160 to R174, R207, R219): everything but its removal. -/
def processLine (h : Fin 16) (l : BandLine) (xs : List Sample) (s : State) : State :=
  let ps := corrected s h l xs
  let taps := tapsOf s h
  let reps := taps.filter fun t => replacedTap s h l t
  let dead := (List.range 32).filter fun k => ps.any fun p => p.pix.dead && p.tap / 8 == k
  let rows := rowsRead h l ps
  let l := (sampleFlags s l h reps dead rows).foldl BandLine.mark l
  let s := storeErrors h l rows (countClip h ps (countOvr h l xs s))
  let s := noteFaults h l reps dead s
  let s := setRaw s (HEAD_PERIOD h) (min 0xFFFFFFFF l.period)
  let ev (k ev : Nat) (s : State) : State := if l.has k then pmcEvent ev s else s
  let s := ev flagSpareLane 0x07 (ev flagCalStale 0x06 (ev flagGuest 0x05 s))
  let s := whiteTrack h l ps s
  let s := match runOf s h with
    | some r => if r.stage = .measuring ∧ l.tag ≠ 0 then setRun (gather s h l xs ps r) s else s
    | none => s
  if l.noRecord || l.drop then s
  else
    let w := binned l.hctl (ps.map fun p => if p.pix.dead then 0 else vOf s (headBand h l.band) l.hctl p.c)
    let ovr := (ps.filter fun p => p.pix.ovr).length
    let docs := docEn s h || l.doc != 0
    keepRecord h l ⟨l.doc, l.flags, recordBytes h l docs ovr (payload l.hctl l.thr w)⟩ s

/-- BAND_LINE_RECORD_STORE (R170): the oldest band-line of the head that has been read out, with its dark and active samples in
tap order and readout order. -/
def execBandLineRecordStore (h : Fin 16) (samples : List Sample) (s : State) : Host.Outcome State Fault Refusal :=
  match (getHead s h).lines.find? fun l => decide (l.stage = .lanes) with
  | none => ok s
  | some l =>
    let s := processLine h l samples s
    let x := getHead s h
    let s := setHead h { x with lines := x.lines.erase l } s
    ok (stopProgress h (runDone h (dueReports (closeIfStopped h s))))

/-- PACKET_TIMEOUT (R373 item 3). -/
def execPacketTimeout (h : Fin 16) (s : State) : Host.Outcome State Fault Refusal :=
  let wait := fget s (HOST_RPKTCTL_PKT_TO (3 + h.val))
  match openPacket s h with
  | some p => if wait ≠ 0 ∧ p.since + 600 * wait ≤ s.time then ok (closePacket h s) else ok s
  | none => ok s

/-! Store errors and hard rows (R178 to R182). -/

/-- Head-band that a row serves, 0 where no head's range holds its tap (R176). -/
def rowHeadBand (s : State) (row : Nat) : Nat :=
  let bank := row / 4096
  let r := row % 4096
  if bank < 16 then
    let t := 16 * bank + r / 256
    match (List.range 16).find? fun h => inRange s h t with
    | some h => headBand h (r / 32 % 8)
    | none => 0
  else if 2048 ≤ r then (r - 2048) / 16
  else match (List.range 16).find? fun h => inRange s h (r / 8) with
    | some h => headBand h 0
    | none => 0

/-- A row becomes hard: it waits for its remap, or, with no spare row left, stays in place (R181, R182). -/
def hardRow (row v : Nat) (s : State) : State :=
  let old := rowState s row
  let s := { s with pipe := { s.pipe with hard := tset (fun _ => 2) s.pipe.hard row (if old = 2 then 1 else v) } }
  if old ≠ 0 then s
  else fset s (PIPE_SPROW_PENDING (row / 4096)) (min 255 (fget s (PIPE_SPROW_PENDING (row / 4096)) + 1))

/-- One error that the scrubber found (R179, R180). -/
def scrubOne (once : Tbl Bool) (f : ScrubFind) (s : State) : State :=
  let row := 4096 * f.bank.val + f.row.val
  let s := storeError row (rowHeadBand s row) f.ue s
  if f.ue then hardRow row 1 s else if bget once row then hardRow row 0 s else s

/-- SCRUB_PASS (R179): a pass over every row; the rows with a corrected error are remembered for the next pass. -/
def execScrubPass (found : List ScrubFind) (s : State) : Host.Outcome State Fault Refusal :=
  if !flag s PIPE_CTL_SCRUB_EN then ok s
  else
    let old := s.pipe.once
    let s := found.foldl (fun s f => scrubOne old f s) s
    let now := found.foldl (fun t f => if f.ue then t else bset t (4096 * f.bank.val + f.row.val) true) []
    ok { s with pipe := { s.pipe with once := now } }

/-- PIPE_ECC_CE_READ (R14). -/
def execPipeEccCeRead (s : State) : Host.Outcome State Fault Refusal := ok (rcRead PIPE_ECC_CE s)
/-- PIPE_ECC_UE_READ (R14). -/
def execPipeEccUeRead (s : State) : Host.Outcome State Fault Refusal := ok (rcRead PIPE_ECC_UE s)
/-- PIPE_CLIP_READ (R14). -/
def execPipeClipRead (h : Fin 16) (s : State) : Host.Outcome State Fault Refusal := ok (rcRead (PIPE_CLIP h) s)

/-! Lane faults (R193 to R196, R595). -/

/-- Lane served by spare k (PIPE_LANEMAP); 0x3F none. -/
def spareLane (s : State) (k : Nat) : Nat := if k = 0 then fget s PIPE_LANEMAP_SP0_LANE else fget s PIPE_LANEMAP_SP1_LANE

/-- Assign a lane to spare k. -/
def setSpare (k lane : Nat) (s : State) : State :=
  if k = 0 then fset s PIPE_LANEMAP_SP0_LANE lane else fset s PIPE_LANEMAP_SP1_LANE lane

/-- The lower-numbered free spare (R194, R595). -/
def freeSpare (s : State) : Option Nat :=
  [0, 1].find? fun k => spareLane s k == 0x3F && !bitOf (fget s PIPE_LANEMAP_SP_FAIL) k

/-- The pixels of active lane a become 0 from now on (R194): band-lines under way included. -/
def laneDies (a : Nat) (s : State) : State :=
  let s := { s with pipe := { s.pipe with zero := bset s.pipe.zero a true } }
  forN 16 (fun h s =>
    let x := getHead s h
    setHead h { x with lines := x.lines.map fun l =>
      if l.stage = .reading ∨ l.stage = .lanes then { l with dead := l.dead ++ [(a, s.time, 2 ^ 64)] } else l } s) s

/-- LANE_FAULT (R194, R195): an active lane, or a spare that stands in for one. -/
def execLaneFault (l : Fin 34) (s : State) : Host.Outcome State Fault Refusal :=
  let k := l.val
  let a := if k < 32 then k else spareLane s (k - 32)
  if (k < 32 ∧ bitOf (fget s PIPE_LANEFAIL_FAIL) k = true) ∨ 32 ≤ a then ok s
  else
    let s := setFlag s PIPE_EVENTS_LANE_FAULT true
    let s := if k < 32 then fset s PIPE_LANEFAIL_FAIL (setBit (fget s PIPE_LANEFAIL_FAIL) k)
      else fset (setSpare (k - 32) 0x3F s) PIPE_LANEMAP_SP_FAIL (setBit (fget s PIPE_LANEMAP_SP_FAIL) (k - 32))
    let s := laneDies a s
    match freeSpare s with
    | none => ok (limpCause SYS_LIMP_LANE (report 0 PIPE_EVENTS_LANE_UNCOVERED [k] s))
    | some sp =>
      let s := fset (setSpare sp a s) PIPE_STATUS_SPARES (fget s PIPE_STATUS_SPARES - 1)
      let s := { s with pipe := { s.pipe with laneRep := s.pipe.laneRep ++ [⟨k, a, s.time, false, []⟩] } }
      ok (schedule s (s.time + 1200) (.spareLaneTakeover l))

/-- SPARE_LANE_TAKEOVER (R194 item 3). -/
def execSpareLaneTakeover (l : Fin 34) (s : State) : Host.Outcome State Fault Refusal :=
  match s.pipe.laneRep.find? fun r => r.lane == l.val && !r.served && decide (r.time + 1200 ≤ s.time) with
  | none => ok s
  | some r =>
    let s := { s with pipe := { s.pipe with
      zero := bset s.pipe.zero r.serves false
      laneRep := s.pipe.laneRep.map fun q => if q = r then { q with served := true } else q } }
    let s := forN 16 (fun h s =>
      let x := getHead s h
      setHead h { x with lines := x.lines.map fun l =>
        { l with dead := l.dead.map fun p => if p.1 = r.serves ∧ p.2.2 = 2 ^ 64 then (p.1, p.2.1, s.time) else p } } s) s
    ok (schedule s s.time (.laneFaultReport l))

/-- A band-line of a head with taps in lane a still carries the fault of its lane (R194). -/
def deadInFlight (s : State) (a : Nat) : Bool :=
  (List.range 16).any fun h => (tapsOf s h).any (fun t => t / 8 == a)
    && (getHead s h).lines.any fun l => l.dead.any fun p => p.1 == a

/-- LANE_FAULT_REPORT (R194 item 4). -/
def execLaneFaultReport (l : Fin 34) (s : State) : Host.Outcome State Fault Refusal :=
  match s.pipe.laneRep.find? fun r => r.lane == l.val && r.served && !deadInFlight s r.serves with
  | none => ok s
  | some r =>
    let s := { s with pipe := { s.pipe with laneRep := s.pipe.laneRep.erase r } }
    if r.lines.isEmpty then ok (raiseAt r.time 0 0xB 0x80 [r.lane] s)
    else ok (forN 16 (fun h s =>
      let ns := (r.lines.filter fun p => p.1 == h).map fun p => p.2
      match ns.head?, ns.getLast? with
      | some a, some b => raiseAt r.time 0 0xB 0x80 [r.lane, h, a, b] s
      | _, _ => s) s)

/-- SPARE_LANE_FAULT (R595): an idle spare. -/
def execSpareLaneFault (sp : Fin 2) (s : State) : Host.Outcome State Fault Refusal :=
  if spareLane s sp ≠ 0x3F ∨ bitOf (fget s PIPE_LANEMAP_SP_FAIL) sp = true then ok s
  else
    let s := fset s PIPE_LANEMAP_SP_FAIL (setBit (fget s PIPE_LANEMAP_SP_FAIL) sp)
    let s := fset s PIPE_STATUS_SPARES (fget s PIPE_STATUS_SPARES - 1)
    ok (report 0 PIPE_EVENTS_LANE_FAULT [32 + sp.val] s)

end Sys2Proof.Machine
end

