-- ==== Sys2Proof/Machine/RunOps.lean ====
section
/-! DEFINITION. What a foreground calibration run derives from its measurement (spec/07, R213 to R230), and the end of a run. -/

namespace Sys2Proof.Machine

/-- Npix of head h (R157). -/
def npix (s : State) (h : Nat) : Nat := (tapsOf s h).length * fget s (HEAD_READ_PPT h)

/-- FIRST_TAP, LAST_TAP and PPT (R189). -/
def geomOf (s : State) (h : Nat) : Nat × Nat × Nat :=
  (fget s (HEAD_TAPS_FIRST_TAP h), fget s (HEAD_TAPS_LAST_TAP h), fget s (HEAD_READ_PPT h))

/-- Tap and place of line index p (R157). -/
def pixelAt (s : State) (h p : Nat) : Nat × Nat :=
  let ppt := max 1 (fget s (HEAD_READ_PPT h))
  (fget s (HEAD_TAPS_FIRST_TAP h) + p / ppt, p % ppt)

/-- Mean of a sum of the run. -/
def RunSt.mean (r : RunSt) (k : Nat) : Rat := (iget r.acc k : Rat) / nget r.cnt k

/-- Bands of a run's mask. -/
def RunSt.bandList (r : RunSt) : List Nat := (List.range 8).filter fun b => bitOf r.bands b

/-! Dark (R213 to R216). -/

/-- D1 of pixel p before rounding (R214); the existing one with P2 = 0. -/
def d1Exact (s : State) (r : RunSt) (p : Nat) : Rat :=
  if r.p2 = 0 then (getD1 s (2048 * (pixelAt s r.head p).1 + (pixelAt s r.head p).2) : Rat)
  else 60000 * (r.mean (pixKey p r.d1Band 1) - r.mean (pixKey p r.d1Band 0)) / ((r.p2 : Rat) - r.p1)

/-- D0 of pixel p in band b (R214). -/
def d0Of (s : State) (r : RunSt) (p b : Nat) : Int :=
  let t := (pixelAt s r.head p).1
  roundQ (r.mean (pixKey p b 0) - 64 * fget s (TAP_CLAMP_CLAMP t) - (roundQ (d1Exact s r p) : Rat) * r.p1 / 60000)

/-- Pixel p is an outlier of a dark run (R215). -/
def darkOutlier (s : State) (r : RunSt) (p : Nat) : Bool :=
  let d := d1Exact s r p
  bget r.bad p || (decide (r.p2 ≠ 0) && (decide (d < -128) || decide (127 < d)))
    || r.bandList.any fun b => decide (fget s SHD_DLIM_D0_LIM < (d0Of s r p b).natAbs)

/-- The blocks of a passing dark run, D1 first (R203, R216): kind, band, entries; outliers keep their old values. -/
def darkBlocks (s : State) (r : RunSt) (bad : List Nat) : List (Nat × Nat × List Nat) :=
  let ps := List.range (npix s r.head)
  let d1 := ps.map fun p =>
    let q := pixelAt s r.head p
    toField 8 (if bad.contains p then getD1 s (2048 * q.1 + q.2) else roundQ (d1Exact s r p))
  let d0 (b : Nat) := ps.map fun p =>
    let q := pixelAt s r.head p
    toField 16 (if bad.contains p then getD0 s (storeEntry q.1 b q.2) else d0Of s r p b)
  (if r.p2 = 0 then [] else [(4, 0, d1)]) ++ r.bandList.map fun b => (3, b, d0 b)

/-- TRK, DREF, DSLOPE and DPER at the D0 commit of band b of a dark run (R214, R216). -/
def darkRefs (r : RunSt) (b : Nat) (s : State) : State :=
  let s := (tapsOf s r.head).foldl (fun s t =>
    let s := { s with shd := { s.shd with clamped := bset s.shd.clamped (8 * t + b) false } }
    let s := setTrk t b 0 s
    let k := darkKey t b 0
    let s := if nget r.cnt k = 0 then s
      else
        let v := roundQ (16 * (r.mean k - 64 * fget s (TAP_CLAMP_CLAMP t)))
        { s with shd := { s.shd with dref := iset s.shd.dref (8 * t + b) v } }
    let k1 := darkKey t r.d1Band 0
    let k2 := darkKey t r.d1Band 1
    if r.p2 = 0 ∨ nget r.cnt k1 = 0 ∨ nget r.cnt k2 = 0 then s
    else
      let v := roundQ (256 * 60000 * (r.mean k2 - r.mean k1) / ((r.p2 : Rat) - r.p1))
      { s with shd := { s.shd with dslope := iset s.shd.dslope t v } }) s
  { s with shd := { s.shd with dper := nset s.shd.dper r.head r.p1 } }

/-! White (R220, R222). -/

/-- G of a white value (R220). -/
def whiteG (tgt : Nat) (w : Rat) : Int := if w ≤ 0 then 0 else roundQ (16384 * (tgt : Rat) / w)

/-- A pixel with white value w over n samples is an outlier (R220). -/
def whiteOutlier (tgt wmin : Nat) (w : Rat) (n : Nat) : Bool :=
  decide (w ≤ 0) || decide (whiteG tgt w < 4096) || decide (63897 < whiteG tgt w) || decide (2 * n < wmin)

/-- G entries of a head-band from its white values, and the outlier count (R203, R220). -/
def whiteBlock (s : State) (h b : Nat) (val : Nat → Rat × Nat) : List Nat × Nat :=
  let tgt := fget s (SHD_HTGT_WTGT h)
  let ps := List.range (npix s h)
  let bad := ps.filter fun p => whiteOutlier tgt (wMin s h) (val p).1 (val p).2
  (ps.map fun p =>
    let q := pixelAt s h p
    if bad.contains p then getG s (storeEntry q.1 b q.2) else (whiteG tgt (val p).1).toNat, bad.length)

/-! Phase (R223 to R225). -/

/-- M of a tap at point i of a sweep, times the samples it was summed over (R224). -/
def phaseM (r : RunSt) (pts sweep i t : Nat) : Int := iget r.acc (256 * (sweep * pts + i) + t)

/-- The longest run of consecutive true points: start and length (R224). -/
def longestRun (l : List Bool) : Nat × Nat :=
  let step (a : (Nat × Nat) × Nat × Nat) (b : Bool) : (Nat × Nat) × Nat × Nat :=
    -- best so far, index, length of the present run
    let n := if b then a.2.2 + 1 else 0
    (if a.1.2 < n then (a.2.1 + 1 - n, n) else a.1, a.2.1 + 1, n)
  (l.foldl step ((0, 0), 0, 0)).1

/-- Centre of a sweep of a tap, or none when the sweep fails (R224). scale is the number of samples behind M. -/
def sweepCentre (r : RunSt) (pts sweep t : Nat) (scale : Int) : Option Nat :=
  let ms := (List.range pts).map fun i => phaseM r pts sweep i t
  let mx := ms.foldl (fun a m => if a < m then m else a) (ms.headD 0)
  let run := longestRun (ms.map fun m => decide (98 * mx ≤ 100 * m))
  if mx < 1024 * scale ∨ run.2 < 4 ∨ run.1 = 0 ∨ pts ≤ run.1 + run.2 then none
  else some (run.1 + (run.2 - 1) / 2)

/-- Middle of three. -/
def median3 (a b c : Nat) : Nat := max (min a b) (min (max a b) c)

/-- The centre of a tap, or its failure: 1 no plateau, 2 unstable (R225). -/
def phaseResult (s : State) (r : RunSt) (t : Nat) : Nat ⊕ Nat :=
  let pts := phPoints s r.head
  let dark := fget s (HEAD_READ_DARK r.head)
  let scale : Int := fget s (HEAD_READ_PPT r.head) * (if dark = 0 then 1 else dark)
  match sweepCentre r pts 0 t scale, sweepCentre r pts 1 t scale, sweepCentre r pts 2 t scale with
  | some a, some b, some c =>
    if max a (max b c) - min a (min b c) ≤ 1 then .inl (median3 a b c) else .inr 2
  | _, _, _ => .inr 1

/-! Lamps (R229, R230). -/

/-- The four responses of measured string n in 1/16 code, exact (R229). -/
def respMeans (r : RunSt) (n : Nat) : List Rat := (List.range 4).map fun i =>
  if nget r.cnt (4 * n + i) = 0 then 0 else r.mean (4 * n + i)

/-- RESP: the response at the bin reference current, linear between the points and through zero (R229). -/
def respAtRef (s : State) (k : Nat) (m : List Rat) : Rat :=
  let c : Rat := ((binOf s k).iref : Rat) * 4 / max 1 (fsOf s k)
  let i := (clampInt 0 3 c.floor).toNat
  let a := if i = 0 then 0 else m.getD (i - 1) 0
  a + (m.getD i 0 - a) * (c - i)

/-- The median of a list of positive rationals: the mean of the two middle ones where the count is even. -/
def medianQ (l : List Rat) : Rat :=
  let ins (a : List Rat) (x : Rat) : List Rat := (a.filter fun y => decide (y ≤ x)) ++ [x] ++ a.filter fun y => decide (x < y)
  let o := l.foldl ins []
  let n := o.length
  if n % 2 = 1 then o.getD (n / 2) 0 else (o.getD (n / 2 - 1) 0 + o.getD (n / 2) 0) / 2

/-- RESP over the bin's relative flux (R230). The spec states no quotient for FLUX 0: a free value (DESIGN CHOICE, log entry 4). -/
def fluxRatio (s : State) (k : Nat) (resp : Rat) : Rat :=
  let f := (binOf s k).flux
  if f = 0 then ((Config.freeValue 6 k).toNat : Rat) else resp / f

/-- Measured string n passes, given the strings of the run (R230). -/
def lampPasses (s : State) (r : RunSt) (strs : List (Nat × Nat)) (n : Nat) : Bool :=
  let m := respMeans r n
  let bk := strs.getD n (0, 0)
  let ratio (j : Nat) : Rat := fluxRatio s (strs.getD j (0, 0)).2 (respAtRef s (strs.getD j (0, 0)).2 (respMeans r j))
  let med := medianQ (((List.range strs.length).filter fun j => (strs.getD j (0, 0)).1 == bk.1).map ratio)
  decide (0 < m.getD 0 0) && decide (m.getD 0 0 < m.getD 1 0) && decide (m.getD 1 0 < m.getD 2 0) && decide (m.getD 2 0 < m.getD 3 0)
    && !((List.range 4).any fun i => bget r.bad (4 * n + i))
    && decide (med ≤ 2 * ratio n) && decide (ratio n ≤ 2 * med)

/-! The end of a run (R202, R206). -/

/-- A run ends: its completion is due now. -/
def endRun (h : Nat) (code count : Nat) (s : State) : State :=
  match runOf s h, finOf 16 h with
  | some r, some i => schedule (setRun { r with stage := .ended, code := code, failing := count } s) s.time (.calRunComplete i)
  | _, _ => s

/-- The run asks for staging for its next block, or ends with the code it has (R192, R216, R222). -/
def nextBlock (h : Nat) (s : State) : State :=
  match runOf s h with
  | none => s
  | some r =>
    match r.todo with
    | [] => endRun h r.code r.failing s
    | _ => { s with pipe := { s.pipe with reqs := s.pipe.reqs ++ [.calRun h] } }

end Sys2Proof.Machine
end

