-- ==== Sys2Proof/Machine/Coef.lean ====
section
/-! DEFINITION. Coefficient blocks: staging, checks, commits and read-back (spec/06, R184 to R192; spec/11, R363). -/

namespace Sys2Proof.Machine

/-! Blocks (R184, R185). -/

/-- Bytes of an entry of a kind. -/
def entrySize : Nat → Nat
  | 1 => 4 | 2 => 2 | 3 => 2 | _ => 1

/-- COUNT that a kind needs on head h (R185). -/
def countOf (s : State) (kind h : Nat) : Nat := if kind = 5 then 4096 else npix s h

/-- The block of a kind fits the staging area (R185). -/
def fitsStaging (kind count : Nat) : Bool := decide (count * entrySize kind ≤ 1572864)

/-- The checks of R186 step 3 on the bytes fetched; 0 when all hold. -/
def blockStatus (s : State) (b : List Byte) : Nat :=
  let kind := byteAt b 4
  let h := byteAt b 5
  let n := leAt b 8 4
  if !tagIs b 0x43 0x46 0x42 0x31 || kind == 0 || decide (5 < kind) || byteAt b 7 != 0 || !zeroBytes b 12 16
      || leAt b 28 4 != crc32 (b.take 28 ++ b.drop 32) || decide (15 < h) || (kind != 4 && decide (7 < byteAt b 6))
      || decide (b.length ≠ 32 + n * entrySize kind) then 0x10
  else if n ≠ countOf s kind h ∨ fitsStaging kind n = false then 0x11
  else 0

/-- The entries of a block. -/
def blockEntries (b : List Byte) : List Nat :=
  (List.range (leAt b 8 4)).map fun i => leAt b (32 + i * entrySize (byteAt b 4)) (entrySize (byteAt b 4))


/-- Put a block into the staging area (R186 step 4). -/
def stageBlock (q : Staged) (s : State) : State :=
  let s := showStage 2 q.head q.band s
  { s with pipe := { s.pipe with stage := some q } }

/-! Commits (R187 to R191). -/

/-- Head-bands that a staged block changes: one, or every band of the head for D1 (R190). -/
def Staged.bands (q : Staged) : List Nat := if q.kind = 4 then List.range 8 else [q.band]

/-- A band-line has samples in the lanes, or has left them and waits for its record (R187). -/
def inLanes (s : State) (h : Nat) (l : BandLine) : Bool :=
  l.stage == .lanes || (l.stage == .reading && decide (l.readAt + sampleDelay s h ≤ s.time + pixTicks s h))

/-- The band that enters the lanes next. -/
def nextIn (s : State) (h : Nat) : Nat :=
  match (getHead s h).lines.find? fun l => !inLanes s h l with
  | some l => l.band
  | none => fget s (HEAD_STATUS_BAND h)

/-- The copy of a commit may begin (R187 to R189, R249): the preceding band-line has left the lanes; a D1 block waits for a
line's end; a snapshot in progress holds it. -/
def copyMay (s : State) : Bool :=
  match s.pipe.stage with
  | none => false
  | some q =>
    let busy := (getHead s q.head).lines.any fun l => (q.kind == 4 || l.band == q.band) && inLanes s q.head l
    let between := q.kind != 4 || headState s q.head == 0 || nextIn s q.head == 0
    q.commit && fget s PIPE_STATUS_STAGE == 2 && !busy && between && s.att.step != 1

/-- A commit ends without effect (R189, R216). -/
def refuseCommit (q : Staged) (s : State) : State :=
  let s := freeStage s
  match q.slot with
  | some k => complete k 0 0x13 s
  | none =>
    if q.background then setFlag s SHD_STATUS_WCOPY false
    else match runOf s q.head with
      | some r => endRun q.head 0x60 r.failing (setRun { r with todo := [] } s)
      | none => s

/-- COMMIT_COPY_START (R187 to R189). The spec states no length of the copy; it ends before the next band-line enters: at
once. -/
def execCommitCopyStart (s : State) : Host.Outcome State Fault Refusal :=
  match s.pipe.stage with
  | none => ok s
  | some q =>
    if !copyMay s then ok s
    else if q.geom ≠ geomOf s q.head then ok (refuseCommit q s)
    else ok (schedule (fset s PIPE_STATUS_STAGE 3) s.time .commitCopyEnd)

/-- A hard row is remapped by a commit that writes it, while its bank has spare rows (R181, R182). -/
def remapRow (row : Nat) (s : State) : State :=
  if rowState s row = 0 then s
  else
    let k := row / 4096
    let used := fget s (PIPE_SPROW_USED k)
    if 64 ≤ used then s
    else
      let s := { s with pipe := { s.pipe with hard := tset (fun _ => 2) s.pipe.hard row 2 } }
      let s := fsets s [(PIPE_SPROW_USED k, used + 1), (PIPE_SPROW_PENDING k, fget s (PIPE_SPROW_PENDING k) - 1),
        (PIPE_EVENTS_ROW_REMAP, 1)]
      whenS (used == 63) (report 0 PIPE_EVENTS_SPARES_OUT [k]) s

/-- Write one entry of a staged block into the store (R158, R159, R168, R185). -/
def writeEntry (q : Staged) (p v : Nat) (s : State) : State :=
  let x := pixelAt s q.head p
  let e := storeEntry x.1 q.band x.2
  match q.kind with
  | 1 => setD0 e (signed 16 (v / 65536)) (setG e (v % 65536) (remapRow (rowOfEntry e) s))
  | 2 => setG e v (remapRow (rowOfEntry e) s)
  | 3 => setD0 e (signed 16 v) (remapRow (rowOfEntry e) s)
  | 4 => setD1 (2048 * x.1 + x.2) (signed 8 v) (remapRow (rowOfD1 (2048 * x.1 + x.2)) s)
  | _ =>
    let i := 4096 * headBand q.head q.band + p
    setLut i v (remapRow (rowOfLut i) s)

/-- Write every entry. -/
def writeEntries (q : Staged) (s : State) : State :=
  (q.entries.foldl (fun a v => (a.1 + 1, writeEntry q a.1 v a.2)) (0, s)).2

/-- Band-lines whose first sample has entered keep the generation they met (R190). -/
def fixGens (h : Nat) (s : State) : State :=
  let x := getHead s h
  let one (l : BandLine) : BandLine :=
    if l.gen.isNone && inLanes s h l then { l with gen := some (genOf s (headBand h l.band)) } else l
  setHead h { x with lines := x.lines.map one } s

/-- What follows a commit for whoever asked for it (R186 step 6, R216, R232, R363). -/
def commitDone (q : Staged) (s : State) : State :=
  let hb := headBand q.head (if q.kind = 4 then 0 else q.band)
  match q.slot with
  | some k => complete k (genOf s hb) 0 s
  | none =>
    if q.background then
      let s := { s with shd := { s.shd with whiteAt := nset s.shd.whiteAt hb s.time } }
      pmcEvent 0x2D (fsets s [(SHD_STATUS_WCOPY, 0), (SHD_EVENTS_WCOMMIT, 1)])
    else match runOf s q.head with
      | some r =>
        let s := whenS (r.kind = 1 ∧ q.kind = 3) (darkRefs r q.band) s
        let s := whenS (r.kind = 2) (fun s => { s with shd := { s.shd with whiteAt := nset s.shd.whiteAt hb s.time } }) s
        nextBlock q.head (setRun { r with todo := r.todo.drop 1 } s)
      | none => s

/-- COMMIT_COPY_END (R181, R187 to R190, R221). -/
def execCommitCopyEnd (s : State) : Host.Outcome State Fault Refusal :=
  match s.pipe.stage with
  | none => ok s
  | some q =>
    if fget s PIPE_STATUS_STAGE ≠ 3 then ok s
    else
      let s := writeEntries q (fixGens q.head s)
      let s := q.bands.foldl (fun s b =>
        let hb := headBand q.head b
        let s := setGen hb (genNext (genOf s hb)) s
        if q.kind = 5 then s else whiteRestart hb s) s
      ok (commitDone q (freeStage s))

/-! COEF_LOAD, COEF_COMMIT, COEF_READ (R186, R191, R363). -/

/-- The command in progress of a slot with this opcode. -/
def cmdOf (s : State) (slot op : Nat) : Option CmdEntry :=
  s.host.cmds.find? fun c => decide (c.slot = slot) && decide (c.op = op)

/-- COEF_LOAD (R186 step 1): the load asks for the staging area. -/
def execCoefLoad (slot : Nat) (s : State) : Host.Outcome State Fault Refusal :=
  match cmdOf s slot 1 with
  | none => ok s
  | some _ =>
    let has := s.pipe.reqs.contains (.load slot) || (match s.pipe.stage with | some q => q.slot == some slot | none => false)
    if has then ok s else ok { s with pipe := { s.pipe with reqs := s.pipe.reqs ++ [.load slot] } }

/-- Background white commits are deferred (R231). -/
def deferred (s : State) : Bool := decide (1 ≤ fget s PWR_STATUS_LEVEL)

/-- The request that the staging area goes to next (R192, R231): the oldest, a background one only while nothing defers it. -/
def nextRequest (s : State) : Option StageReq :=
  s.pipe.reqs.find? fun r => match r with | .background _ _ => !deferred s | _ => true

/-- Stage a block that the device itself has formed, and commit it. -/
def stageOwn (kind h b : Nat) (entries : List Nat) (background : Bool) (s : State) : State :=
  stageBlock ⟨kind, h, b, entries, geomOf s h, none, true, background⟩ s

/-- STAGING_GRANT (R192): the staging area is free. -/
def execStagingGrant (s : State) : Host.Outcome State Fault Refusal :=
  if s.pipe.stage.isSome then ok s
  else match nextRequest s with
  | none => ok s
  | some r =>
    let s := { s with pipe := { s.pipe with reqs := s.pipe.reqs.erase r } }
    match r with
    | .load slot =>
      match cmdOf s slot 1 with
      | none => ok s
      | some c =>
        let q : Staged := ⟨0, 0, 0, [], (0, 0, 0), some slot, bitOf (byteAt c.desc 20) 0, false⟩
        let s := pmcEvents 0x16 { priv := some 2, mst := some 3, cls := some 0 } 1 s
        let s := showStage 1 0 0 s
        ok { s with pipe := { s.pipe with stage := some q } }
    | .background h b =>
      match s.shd.dueG.find? fun p => p.1 == headBand h b with
      | none => ok s
      | some p =>
        let s := { s with shd := { s.shd with dueG := s.shd.dueG.erase p } }
        ok (stageOwn 2 h b p.2 true (setFlag (fset s (SHD_HSTAT_DUE h) (clearBit (fget s (SHD_HSTAT_DUE h)) b)) SHD_STATUS_WCOPY true))
    | .calRun h =>
      match runOf s h with
      | none => ok s
      | some r => match r.todo with
        | [] => ok s
        | t :: _ => ok (stageOwn t.1 h t.2.1 t.2.2 false s)

/-- An uncorrectable Cellar error (R534, R517). -/
def celUncorrectable (addr : Nat) (s : State) : State :=
  let s := setRaw s CEL_UE (satAdd 0xFFFFFFFF (raw s CEL_UE) 1)
  let s := setRaw s CEL_ERRADDR_LO (addr % 2 ^ 32)
  let s := fsets s [(CEL_ERRADDR_HI_VALID, 1), (CEL_ERRADDR_HI_UE, 1), (CEL_ERRADDR_HI_ADDR_HI, addr / 2 ^ 32), (CEL_EVENTS_UE, 1)]
  limpCause SYS_LIMP_CEL (celEvents 0x0B 3 1 s)

/-- COEF_FETCH_DONE (R186 steps 2 to 5, R363, R534): bytes is what was read, celUe that the copy in the Cellar failed. -/
def execCoefFetchDone (bytes : List Byte) (celUe : Bool) (s : State) : Host.Outcome State Fault Refusal :=
  match s.pipe.stage, fget s PIPE_STATUS_STAGE with
  | some q, 1 =>
    let slot := q.slot.getD 0
    let s := celEvents 0x09 2 (pieces bytes.length) (celEvents 0x08 2 (pieces bytes.length) s)
    -- the address of the failing word is not stated: a free value
    let d := draw s
    let s := if celUe then celUncorrectable ((Config.freeValue 7 d.1).toNat) d.2 else s
    let st := if celUe then 0x10 else blockStatus s bytes
    if st ≠ 0 then ok (complete slot 0 st (freeStage s))
    else
      let h := byteAt bytes 5
      let q := { q with kind := byteAt bytes 4, head := h, band := byteAt bytes 6, entries := blockEntries bytes, geom := geomOf s h }
      let s := stageBlock q s
      if q.commit then ok s
      else ok (complete slot 0 0 { s with pipe := { s.pipe with stage := some { q with slot := none } } })
  | _, _ => ok s

/-- COEF_COMMIT (R363). -/
def execCoefCommit (slot : Nat) (s : State) : Host.Outcome State Fault Refusal :=
  match cmdOf s slot 2 with
  | none => ok s
  | some c =>
    let kind := byteAt c.desc 8
    let fits (q : Staged) : Bool :=
      fget s PIPE_STATUS_STAGE == 2 && !q.commit && q.kind == kind && q.head == byteAt c.desc 9
        && (kind == 4 || q.band == byteAt c.desc 10)
    match s.pipe.stage with
    | some q =>
      if !fits q then ok (complete slot 0 0x12 s)
      else if bitOf (byteAt c.desc 11) 0 then ok (complete slot 0 0 (freeStage s))
      else ok { s with pipe := { s.pipe with stage := some { q with commit := true, slot := some slot } } }
    | none => ok (complete slot 0 0x12 s)

/-- The entry that COEF_READ returns at place p. -/
def storedEntry (s : State) (kind h b p : Nat) : List Byte :=
  let x := pixelAt s h p
  let e := storeEntry x.1 b x.2
  match kind with
  | 1 => entryBytes s e
  | 2 => leBytes (getG s e) 2
  | 3 => leBytes (toField 16 (getD0 s e)) 2
  | 4 => leBytes (toField 8 (getD1 s (2048 * x.1 + x.2))) 1
  | _ => leBytes (getLut s (4096 * headBand h b + p)) 1

/-- The block that COEF_READ writes, with a valid CRC (R184, R191). -/
def storedBlock (s : State) (kind h b : Nat) : List Byte :=
  let n := countOf s kind h
  let hd := bytesOf [0x43, 0x46, 0x42, 0x31, kind, h, if kind = 4 then 0 else b, 0] ++ leBytes n 4 ++ List.replicate 16 0
  let es := (List.range n).flatMap fun p => storedEntry s kind h b p
  hd ++ leBytes (crc32 (hd ++ es)) 4 ++ es

/-- COEF_READ (R191). -/
def execCoefRead (slot : Nat) (s : State) : Host.Outcome State Fault Refusal :=
  match cmdOf s slot 3 with
  | none => ok s
  | some c =>
    let kind := byteAt c.desc 20
    let h := byteAt c.desc 21
    let len := 32 + countOf s kind h * entrySize kind
    if leAt c.desc 16 4 < len then ok (complete slot 0 0x14 s)
    else
      let b := storedBlock s kind h (byteAt c.desc 22)
      ok (complete slot len 0 (memWrite 0 (leAt c.desc 8 8) b s))

end Sys2Proof.Machine
end

