-- ==== Sys2Proof/Machine/Host.lean ====
section
/-! DEFINITION. The host interface: doorbells, ring control, commands from CMD, completions, packet delivery and interrupts
(spec/11, R341 to R382, R597). -/

namespace Sys2Proof.Machine

/-! Doorbells (R349, R356, R357). -/

/-- Class of ring r's doorbells and requests in the performance counters (R548). -/
def ringClass (r : Nat) : Nat := min r 3

/-- A doorbell with this index to ring r is valid (R356). -/
def doorbellValid (s : State) (r v : Nat) : Bool :=
  let n := ringN s r
  let d := didx s r
  let h := hidx s r
  decide (v < 2 * n) &&
    if r = 1 ∨ r = 2 then decide (ringDiff n v h ≤ ringDiff n d h)
    else decide (ringDiff n v d ≤ n) && decide (ringDiff n h d ≤ ringDiff n v d)

/-- A doorbell that is accepted (R357). -/
def doorbellAccept (r v : Nat) (s : State) : State :=
  pmcEvents 0x13 { priv := some 0, mst := some 0, cls := some (ringClass r) } 1 (fset s (HOST_RHIDX_HIDX r) v)

/-- A doorbell that is discarded: DB_ERR, HOST_ERRINFO and a P0 message that names the ring and the value (R357). -/
def doorbellError (r v : Nat) (s : State) : State :=
  let s := errInfo 1 r v (hostEvent HOST_EVENTS_DB_ERR s)
  raise 0 3 0x80 [r, v] (pmcEvents 0x14 { priv := some 0, mst := some 0, cls := some (ringClass r) } 1 s)

/-- A write to the doorbell of ring r. BAR 2 sets nothing in SLEEP (R349); OFF and a stopped root discard it (R29, R593). -/
def doorbell (r : Nat) (v : Word) (s : State) : State :=
  if modeIs s .off || modeIs s .sleep || !rootRuns s then s
  else
    let i := bitsOf v.toNat 16 0
    if ringOn s r && doorbellValid s r i then doorbellAccept r i s else doorbellError r i s

/-! Commands (R360 to R364, R368). -/

/-- Bits of operand byte i that opcode op uses (R362). -/
def operandMask (op i : Nat) : Nat :=
  match op with
  | 1 => if i < 20 then 0xFF else if i = 20 then 1 else 0
  | 2 => if i < 11 then 0xFF else if i = 11 then 1 else 0
  | 3 => if i < 23 then 0xFF else 0
  | 4 => if i < 13 then 0xFF else if i = 13 then 1 else if i < 24 then 0xFF else 0
  | 5 => if i < 20 then 0xFF else 0
  | 6 => if i < 20 then 0xFF else 0
  | 8 => if i = 8 ∨ (12 ≤ i ∧ i < 16) then 0xFF else 0
  | _ => 0

/-- A reserved byte or flag of the descriptor is not 0 (R360). -/
def reservedSet (op : Nat) (d : List Byte) : Bool :=
  decide (4 ≤ byteAt d 1) || !zeroBytes d 2 6
    || !(List.range 56).all fun j => byteAt d (8 + j) &&& operandMask op (8 + j) == byteAt d (8 + j)

/-- ADDR or BYTES out of range (R362). -/
def addrBad (op : Nat) (d : List Byte) : Bool :=
  (op == 1 || op == 3 || op == 5 || op == 6)
    && (decide (leAt d 8 8 % 8 ≠ 0) || decide (leAt d 16 4 = 0) || decide (16777216 < leAt d 16 4))

/-- The present mode permits opcode op (R364). -/
def modePermits (s : State) (op : Nat) : Bool :=
  op == 0 || modeIn s (if op = 7 then saveModes else upModes)

/-- HEAD, BAND or KIND out of range (R362, R368). -/
def unitBad (op : Nat) (d : List Byte) : Bool :=
  let kindBad (k : Nat) := k == 0 || decide (5 < k)
  match op with
  | 2 => kindBad (byteAt d 8) || decide (15 < byteAt d 9) || decide (7 < byteAt d 10)
  | 3 => kindBad (byteAt d 20) || decide (15 < byteAt d 21) || (byteAt d 20 != 4 && decide (7 < byteAt d 22))
  | 4 => byteAt d 8 == 0 || decide (4 < byteAt d 8) || decide (15 < byteAt d 9)
  | 8 => decide (15 < byteAt d 8)
  | _ => false

/-- The common checks, the lowest failing code first; 0 when all pass (R368). -/
def commonStatus (s : State) (d : List Byte) : Nat :=
  let op := byteAt d 0
  if 8 < op then 1 else if reservedSet op d then 2 else if addrBad op d then 3
  else if !modePermits s op then 4 else if unitBad op d then 5 else 0

/-- A memory read for ring r's class goes out. -/
def memRead (r : Nat) (s : State) : State := pmcEvents 0x16 { priv := some 2, mst := some 3, cls := some (ringClass r) } 1 s

/-- A command whose checks pass begins: its own step follows, or the data it reads. -/
def beginCommand (c : CmdEntry) (s : State) : State :=
  match c.op with
  | 0 => schedule s s.time (.nop c.slot)
  | 1 => schedule s s.time (.coefLoad c.slot)
  | 2 => schedule s s.time (.coefCommit c.slot)
  | 3 => schedule s s.time (.coefRead c.slot)
  | 4 => schedule s s.time (.calRun c.slot)
  | 7 => schedule s s.time (.attSave c.slot)
  | 8 => schedule s s.time (.skipDoc c.slot)
  | _ => memRead 0 s

/-- Some command with FENCE = 1 has started and not completed, a completion that waits counted as not yet made (R359, R361). -/
def fenceOpen (s : State) : Bool :=
  s.host.cmds.any (fun c => c.fence) || s.host.cplq.any fun c => c.fence

/-- Commands in progress (R359, R361). -/
def inProgress (s : State) : Nat :=
  s.host.cmds.length + (s.host.cplq.filter fun c => c.src == 0).length

/-- The next command of the ring may start (R23, R361, R364). -/
def mayStart (s : State) (c : CmdEntry) : Bool :=
  !s.fw.paused && !starting s && !modeIs s .sleep && !modeIs s .off && !fenceOpen s
    && (!c.fence || (s.host.cmds.isEmpty && s.host.cplq.all fun q => q.src != 0))

/-- Start one command. -/
def startCommand (c : CmdEntry) (s : State) : State :=
  let s := { s with host := { s.host with cmds := s.host.cmds ++ [c] } }
  let st := commonStatus s c.desc
  if st = 0 then beginCommand c s else complete c.slot 0 st s

/-- A descriptor arrives from CMD (R352, R361): the command is taken, and starts, in ring order. A command that may not start
stays on the ring: during a Housekeeper pause (R23), during a start (R364), and by a FENCE (R361). -/
def execCmdFetchDone (d : List Byte) (s : State) : Host.Outcome State Fault Refusal :=
  let fl := byteAt d 1
  let c : CmdEntry := ⟨didx s 0 % ringN s 0, byteAt d 0, bitOf fl 0, bitOf fl 1, d⟩
  if entryPosted s 0 && busOn s && mayStart s c && decide (inProgress s < 64) && decide (d.length = 64) then
    ok (startCommand c (pmcEvent 0x3A (ringAdvance 0 (memRead 0 s))))
  else ok s

/-- NOP (R364). -/
def execNop (slot : Nat) (s : State) : Host.Outcome State Fault Refusal :=
  match cmdOf s slot 0 with
  | some _ => ok (complete slot 0 0 s)
  | none => ok s

/-- The ring index of the command taken into this slot. -/
def cmdIndex (s : State) (slot : Nat) : Nat :=
  let n := ringN s 0
  (didx s 0 + 2 * n - ((didx s 0 + 2 * n - 1 - slot % n) % n + 1)) % (2 * n)

/-- A read of command data fails (R380): commands 1, 5 and 6 read data. -/
def execCmdDataReadError (slot : Nat) (s : State) : Host.Outcome State Fault Refusal :=
  let loading := fget s PIPE_STATUS_STAGE == 1 && match s.pipe.stage with | some q => q.slot == some slot | none => false
  let waits := (cmdOf s slot 5).isSome || (cmdOf s slot 6).isSome
  let held := s.lmp.load.any fun p => p.1 == slot
  if ((cmdOf s slot 1).isSome && loading) || (waits && !held) then
    let s := if loading then freeStage s else s
    ok (errInfo 3 0 (cmdIndex s slot) (hostEvent HOST_EVENTS_DMA_RD_ERR (complete slot 0 0x80 s)))
  else ok s

/-! Ring control (R353 to R355, R379). -/

/-- EN of CMD and of every image ring is 0, and they are idle (R354). -/
def takersOff (s : State) : Bool :=
  (List.range 19).all fun r => r == 1 || r == 2 || (!ringOn s r && flag s (HOST_RSTAT_IDLE r))

/-- A write of HOST_RCTL breaks R354. -/
def rctlBreaks (s : State) (r v : Nat) : Bool :=
  let en := bitOf v 31
  let was := ringOn s r
  (decide (bitsOf v 20 16 ≠ fget s (HOST_RCTL_LOG2N r)) && (was || !flag s (HOST_RSTAT_IDLE r)))
    || (en && !was && decide (r ≠ 1) && decide (r ≠ 2) && !ringOn s 1)
    || (r == 1 && was && !en && !takersOff s)

/-- A ring stops taking entries (R355): while it holds posted entries, a read of them may be outstanding. -/
def ringStop (r : Nat) (s : State) : State :=
  let busy := entryPosted s r && decide (r ≠ 1) && decide (r ≠ 2) && busOn s
  let s := setFlag s (HOST_RCTL_EN r) false
  if busy then
    let s := setFlag s (HOST_RSTAT_IDLE r) false
    match finOf 19 r with
    | some i => schedule s s.time (.ringIdle i)
    | none => s
  else s

/-- EN of a ring is set: both indexes restart, and a ring that had stopped under R379 resumes (R353). -/
def ringStart (r : Nat) (s : State) : State :=
  fsets s [(HOST_RCTL_EN r, 1), (HOST_RSTAT_ERR r, 0), (HOST_RSTAT_DIDX r, 0), (HOST_RHIDX_HIDX r, 0)]

/-- The effect of a write to HOST_RCTL. -/
def rctlWrite (r v : Nat) (s : State) : State :=
  if rctlBreaks s r v then hostEvent HOST_EVENTS_WR_REJ s
  else
    let was := ringOn s r
    let s := fset s (HOST_RCTL_LOG2N r) (bitsOf v 20 16)
    if bitOf v 31 then (if was then s else ringStart r s) else if was then ringStop r s else s

/-- HOST_RCTL of ring r is written. -/
def execHostRctlWrite (r : Fin 19) (v : Word) (s : State) : Host.Outcome State Fault Refusal :=
  ok (onWrite (HOST_RCTL r) (rctlWrite r v.toNat) s)

/-- The last outstanding access of a disabled ring ends (R355). -/
def execRingIdle (r : Fin 19) (s : State) : Host.Outcome State Fault Refusal :=
  if ringOn s r then ok s else ok (setFlag s (HOST_RSTAT_IDLE r) true)

/-- A read of ring entries fails (R379): only CMD and the image rings are read. -/
def execRingFetchError (r : Fin 19) (s : State) : Host.Outcome State Fault Refusal :=
  if entryPosted s r && decide (r.val ≠ 1) && decide (r.val ≠ 2) && busOn s then
    let i := didx s r
    let s := setFlag (setFlag (memRead r s) (HOST_RCTL_EN r) false) (HOST_RSTAT_ERR r) true
    ok (raise 0 3 0x81 [r, i] (errInfo 2 r i (hostEvent HOST_EVENTS_FETCH_ERR s)))
  else ok s

/-- A write of the CMD producer doorbell. -/
def execDbCmdPi (v : Word) (s : State) : Host.Outcome State Fault Refusal := ok (doorbell 0 v s)

/-- A write of the CPL consumer doorbell. -/
def execDbCplCi (v : Word) (s : State) : Host.Outcome State Fault Refusal := ok (doorbell 1 v s)

/-- A write of the EVT consumer doorbell. -/
def execDbEvtCi (v : Word) (s : State) : Host.Outcome State Fault Refusal := ok (doorbell 2 v s)

/-- A write of the producer doorbell of an image ring. -/
def execDbImgPi (h : Fin 16) (v : Word) (s : State) : Host.Outcome State Fault Refusal := ok (doorbell (3 + h) v s)

/-! SKIP_DOC (R376). -/

/-- The document in capture of head h (R376). -/
def inCapture (s : State) (h doc : Nat) : Bool :=
  docOpen s h && decide (raw s (MOT_HDOCNUM h) = doc) && decide (headState s h ≠ 0)

/-- A record belongs to the document, gap records to none (R376). -/
def LineRec.ofDoc (r : LineRec) (doc : Nat) : Bool := r.doc == doc && !bitOf r.flags flagGap

/-- A band-line of the document is on its way to its record. -/
def lineOnWay (s : State) (h doc : Nat) : Bool :=
  (getHead s h).lines.any fun l => l.doc == doc && !l.noRecord && !l.has flagGap && !l.drop

/-- Records of head h not yet written, oldest first. -/
def unwritten (s : State) (h : Nat) : List LineRec :=
  let mine (l : List Packet) := (l.filter fun p => p.head == h).flatMap fun p => p.recs
  mine s.host.closed ++ mine s.host.openPkt

/-- The document that SKIP_DOC names; none where DOC = 0 names none (R376). -/
def skipTarget (s : State) (h doc : Nat) : Option Nat :=
  if doc ≠ 0 then some doc
  else
    let now := if inCapture s h (raw s (MOT_HDOCNUM h)) then some (raw s (MOT_HDOCNUM h)) else none
    match unwritten s h with
    | r :: _ => if bitOf r.flags flagGap then now else some r.doc
    | [] => now

/-- Discard the stored records of a document; answer their number. -/
def discardDoc (h doc : Nat) (s : State) : State × Nat :=
  let out := ((unwritten s h).filter fun r => r.ofDoc doc).length
  let cut (p : Packet) : Packet := if p.head = h then { p with recs := p.recs.filter fun r => !r.ofDoc doc } else p
  let left (l : List Packet) := (l.map cut).filter fun p => !p.recs.isEmpty
  ({ s with host := { s.host with openPkt := left s.host.openPkt, closed := left s.host.closed } }, out)

/-- SKIP_DOC begins (R376). -/
def execSkipDoc (slot : Nat) (s : State) : Host.Outcome State Fault Refusal :=
  match cmdOf s slot 8 with
  | none => ok s
  | some c =>
    let h := byteAt c.desc 8
    if s.host.skips.any fun k => k.slot == slot then ok s
    else if !docEn s h then ok (complete slot 0 0x2B s)
    else match skipTarget s h (leAt c.desc 12 4) with
    | none => ok (complete slot 0 0x2A s)
    | some doc =>
      if s.host.skips.any fun k => k.head == h && k.doc == doc then ok (complete slot 0 0 s)
      else if !inCapture s h doc && !(unwritten s h).any (fun r => r.ofDoc doc) && !lineOnWay s h doc then
        ok (complete slot 0 0x2A s)
      else
        let r := discardDoc h doc s
        let s := { r.1 with host := { r.1.host with skips := r.1.host.skips ++ [⟨slot, h, doc, r.2⟩] } }
        if inCapture s h doc || lineOnWay s h doc then ok s else ok (skipFinish h doc s)

/-- The last band-line of a skipped document has been handled (R376). -/
def execSkipDocDone (slot : Nat) (s : State) : Host.Outcome State Fault Refusal :=
  match s.host.skips.find? fun k => decide (k.slot = slot) with
  | none => ok s
  | some k => if inCapture s k.head k.doc || lineOnWay s k.head k.doc then ok s else ok (skipFinish k.head k.doc s)

/-! Completions (R359, R365 to R367). -/

/-- CPL is enabled and holds no released slot (R359). -/
def cplFull (s : State) : Bool := ringOn s 1 && !slotFree s 1

/-- Completions that have not yet met the ring find it full and wait (R359). -/
def cplStall (s : State) : State :=
  if cplFull s && decide (s.host.unmet ≠ 0) then
    hostEvent HOST_EVENTS_CPL_STALL { s with host := { s.host with unmet := 0 } }
  else s

/-- The 16 bytes of a completion entry (R365, R366). -/
def cplBytes (c : Cpl) (phase : Bool) : List Byte :=
  leBytes c.result 4 ++ leBytes c.time 8 ++ leBytes c.idx 2 ++ leBytes (c.src % 128 + 128 * b2n phase) 1 ++ leBytes c.status 1

/-- The completion at the front may be written (R345, R359, R382). -/
def mayComplete (s : State) : Bool := !s.host.cplq.isEmpty && slotFree s 1 && busOn s

/-- Write one completion (R365 to R367, R374, R377). -/
def writeCompletion (c : Cpl) (s : State) : State :=
  let addr := ringBase s 1 + didx s 1 % ringN s 1 * 16
  let s := ringAdvance 1 (pmcEvent 0x17 (memWrite 1 addr (cplBytes c (ringPhase s 1)) s))
  let rest := s.host.cplq.drop 1
  let s := { s with host := { s.host with
    cplq := rest, unmet := min s.host.unmet rest.length, heldBytes := s.host.heldBytes - c.bytes } }
  let s := if c.irq then pendIrq (if c.src = 0 then 0 else 1 + (c.src - 0x10)) s else s
  if cplFull s && !rest.isEmpty then hostEvent HOST_EVENTS_CPL_STALL { s with host := { s.host with unmet := 0 } } else s

/-- A completion is written into a released slot of CPL, or finds it full. -/
def execCompletionWrite (s : State) : Host.Outcome State Fault Refusal :=
  if mayComplete s then
    match s.host.cplq with
    | c :: _ => ok (writeCompletion c s)
    | [] => ok s
  else ok (cplStall s)

/-! Packet delivery (R369, R370, R374, R375, R534). -/

/-- The bytes of a packet as they are written: LEN stands in record 0 (R370). -/
def Packet.image (p : Packet) : List Byte :=
  match p.recs with
  | [] => []
  | r :: l => leBytes p.size 4 ++ r.bytes ++ l.flatMap fun q => leBytes 0 4 ++ q.bytes

/-- An image buffer descriptor is invalid (R375). -/
def bufInvalid (b : BufDesc) : Bool :=
  decide (b.addr % 8 ≠ 0) || decide (b.len % 8 ≠ 0) || decide (b.len < 64) || decide (2147483640 < b.len)
    || decide (2 ≤ b.flags)

/-- A buffer completes (R365, R375). -/
def bufComplete (h slot result status bytes : Nat) (irq : Bool) (s : State) : State :=
  { s with host := { s.host with
    cplq := s.host.cplq ++ [⟨result, slot, 0x10 + h, status, irq, bytes, s.time, false⟩]
    unmet := s.host.unmet + 1
    heldBytes := s.host.heldBytes + bytes } }

/-- What the Cellar's ECC found while the packet was read (R534). A packet has one line number for each record; the address
does not tell which, so that the message's line is that of a free choice among them. -/
def packetEcc (p : Packet) (e : CelEcc) (s : State) : State :=
  match e with
  | .clean => s
  | .corrected a =>
    let s := setRaw s CEL_CE (satAdd 0xFFFFFFFF (raw s CEL_CE) 1)
    let s := setFlag s CEL_EVENTS_CE true
    let s := setRaw s CEL_ERRADDR_LO (a % 2 ^ 32)
    let s := fsets s [(CEL_ERRADDR_HI_VALID, 1), (CEL_ERRADDR_HI_UE, 0), (CEL_ERRADDR_HI_ADDR_HI, a / 2 ^ 32)]
    celEvents 0x0A 1 1 s
  | .uncorrectable a =>
    let d := draw s
    let k := (Config.freeValue 8 d.1).toNat % p.recs.length
    let line := match p.recs[k]? with | some r => leAt r.bytes 4 4 | none => 0
    celUncorrectable a (raise 0 0x14 (evCode CEL_EVENTS_UE) [p.head, line, a] d.2)

/-- Write the oldest closed packet of head h into a valid buffer that holds it (R374). -/
def writePacket (h slot : Nat) (buf : BufDesc) (ecc : CelEcc) (p : Packet) (s : State) : State :=
  let b := p.image
  let s := packetEcc p ecc (celEvents 0x09 1 (pieces p.size) s)
  let s := memWrite 3 buf.addr (b.take 4) (memWrite 3 (buf.addr + 4) (b.drop 4) s)
  let s := { s with host := { s.host with closed := s.host.closed.erase p } }
  bufComplete h slot p.size 0 p.size (bitOf buf.flags 0) s

/-- The next posted buffer of IMGh is taken for the oldest closed packet of head h. -/
def execPacketDeliver (h : Fin 16) (buf : BufDesc) (ecc : CelEcc) (s : State) : Host.Outcome State Fault Refusal :=
  let r := 3 + h.val
  match s.host.closed.find? fun p => decide (p.head = h.val) with
  | none => ok s
  | some p =>
    if entryPosted s r && busOn s then
      let slot := didx s r % ringN s r
      let s := ringAdvance r (memRead r s)
      if bufInvalid buf then ok (bufComplete h slot 0 0x31 0 true s)
      else if buf.len < p.size then ok (bufComplete h slot p.size 0x30 0 true s)
      else ok (writePacket h slot buf ecc p s)
    else ok s

/-! Interrupts (R377, R378). -/

/-- Source k is pending and may signal (R345, R378, R382). -/
def maySignal (s : State) (k : Nat) : Bool :=
  bget s.host.isr k && flag s (HOST_ISRC_EN k) && decide (nget s.host.holdEnd k ≤ s.time) && busOn s

/-- Vector v sends its message, or sets its PBA bit while it is masked. -/
def vectorSend (v : Nat) (s : State) : State :=
  let pba := MSIX_PBA (v / 32)
  if flag s (MSIX_CTRL_MASK v) then setRaw s pba (setBit (raw s pba) (v % 32))
  else emit s (.msix v (raw s (MSIX_ADDR_HI v) * 2 ^ 32 + raw s (MSIX_ADDR_LO v)) (raw s (MSIX_DATA v)))

/-- Source k ceases to be pending and its holdoff starts. -/
def sourceSignal (k : Nat) (s : State) : State :=
  { s with host := { s.host with
    isr := bset s.host.isr k false
    holdEnd := nset s.host.holdEnd k (s.time + 600 * fget s (HOST_ISRC_HOLDOFF k)) } }

/-- A source signals its vector; the sources that share the vector and may signal on this tick signal with it (R378). -/
def execMsixSignal (src : Fin 22) (s : State) : Host.Outcome State Fault Refusal :=
  if maySignal s src then
    let v := fget s (HOST_ISRC_VEC src)
    let together := (List.range 22).filter fun k => maySignal s k && fget s (HOST_ISRC_VEC k) == v
    ok (vectorSend v (together.foldl (fun s k => sourceSignal k s) s))
  else ok s

/-- A vector is unmasked: a message held in the PBA goes out (R378). -/
def execMsixUnmask (vec : Fin 64) (s : State) : Host.Outcome State Fault Refusal :=
  let v := vec.val
  let pba := MSIX_PBA (v / 32)
  let s := onWrite (MSIX_CTRL v) (fun s => setFlag s (MSIX_CTRL_MASK v) false) s
  if bitOf (raw s pba) (v % 32) && !flag s (MSIX_CTRL_MASK v) && busOn s then
    ok (vectorSend v (setRaw s pba (clearBit (raw s pba) (v % 32))))
  else ok s

/-- Unmasked vectors whose message waits because no message could be sent when they were unmasked. -/
def heldVectors (s : State) : List Nat :=
  (List.range 64).filter fun v => bitOf (raw s (MSIX_PBA (v / 32))) (v % 32) && !flag s (MSIX_CTRL_MASK v)

/-- Send the messages of the PBA whose vectors are unmasked, once messages can be sent. -/
def pbaSend (s : State) : State :=
  if busOn s then
    (heldVectors s).foldl (fun s v => let pba := MSIX_PBA (v / 32)
      vectorSend v (setRaw s pba (clearBit (raw s pba) (v % 32)))) s
  else s

end Sys2Proof.Machine
end

