-- ==== Sys2Proof/Machine/AuxBlock.lean ====
section
/-! DEFINITION. The commands of the aux block (spec/13, R403 to R436). -/

namespace Sys2Proof.Machine

/-- The aux block runs in the present mode (R435). -/
def auxRuns (s : State) : Bool := !modeIn s [.off, .sleep, .coldStart, .warmStart]

/-- Ticks of PERIOD us; 0 acts as 1. -/
def auxPeriod (s : State) (c : Nat) : Nat := max 1 (fget s (AUX_CVCTL_PERIOD c))

/-- The next timer trigger of converter c falls due (R411). -/
def schedTimer (c : Fin 4) (s : State) : State :=
  let p := 600 * auxPeriod s c
  let e := (getCv s c).enAt
  schedule (cancel s (.auxTimerTrigger c)) (e + ((s.time - e) / p + 1) * p) (.auxTimerTrigger c)

/-- What enabling converter c does (R411, R413, R429). -/
def enableConverter (c : Fin 4) (s : State) : State :=
  let x := getCv s c
  let a := fget s (AUX_CVCTL_AXIS c)
  let r := (List.range 16).foldl (fun t e => nset t e (fget s (AUX_SEQA_GAIN c e))) []
  let s := setCv c { x with enAt := s.time, pos0 := (getAxis s a).pos, range := r, small := [] } s
  let s := setAuxBit AUX_STATUS_RUN c true s
  let s := if x.calDone then s else askCal c s
  let s := if fget s (AUX_CVCTL_TRIG c) = 0 then auxNext c (passTrigger c s) else s
  if fget s (AUX_CVCTL_TRIG c) = 1 then schedTimer c s else s

/-- TRIG or PERIOD of an enabled converter is written (R411): the timer counts on from the tick of EN with the new period, and
a converter that becomes continuous starts its first pass (DEDUCED, log entry 54). -/
def retrigger (c : Fin 4) (was : Nat) (s : State) : State :=
  let now := fget s (AUX_CVCTL_TRIG c)
  if now = 1 then schedTimer c s
  else
    let s := cancel s (.auxTimerTrigger c)
    if now = 0 ∧ was ≠ 0 ∧ (getCv s c).pass = false then
      auxNext (if auxBit s AUX_STATUS_MIGR c then twin c else c) (passTrigger c s)
    else s

/-- AUX_CVCTL_WRITE (R411, R421, R424, R429): SWTRIG has a row of its own. -/
def execAuxCvctlWrite (c : Fin 4) (v : Word) (s : State) : Host.Outcome State Fault Refusal :=
  ok (onWrite (AUX_CVCTL c) (fun s =>
    let v := v.toNat
    let was := flag s (AUX_CVCTL_EN c)
    let ref := fget s (AUX_CVCTL_REFSEL c)
    let strm := flag s (AUX_CVCTL_STREAM c)
    let trg := fget s (AUX_CVCTL_TRIG c)
    let s := setRaw s (AUX_CVCTL c) (v &&& (rowMasks (AUX_CVCTL c)).rw)
    let s :=
      if fget s (AUX_CVCTL_REFSEL c) = ref then s
      else
        let s := setAuxBit AUX_STATUS_REF_SETTLED c false s
        let s := setCv c { getCv s c with refAt := s.time, changeAt := s.time } s
        let s := schedule s (s.time + 6000000) (.refFault c)
        if (getCv s c).calRange.isSome then endCal c 0x76 0 0 s else s
    let s := if strm && !flag s (AUX_CVCTL_STREAM c) then closeStream c s else s
    let en := flag s (AUX_CVCTL_EN c)
    if !was && en && auxRuns s then enableConverter c s
    else if was && !en then stopConverter c (cancel s (.auxTimerTrigger c))
    else if en && auxRuns s then retrigger c trg s
    else s) s)

/-- AUX_SWTRIG (R411): a software trigger acts with TRIG 3. -/
def execAuxSwtrig (c : Fin 4) (s : State) : Host.Outcome State Fault Refusal :=
  ok (onWrite (AUX_CVCTL c) (fun s =>
    if fget s (AUX_CVCTL_TRIG c) = 3 && auxRuns s then
      auxNext (if auxBit s AUX_STATUS_MIGR c then twin c else c) (passTrigger c s) else s) s)

/-- AUX_TIMER_TRIGGER (R411): a multiple of PERIOD us after EN was set. -/
def execAuxTimerTrigger (c : Fin 4) (s : State) : Host.Outcome State Fault Refusal :=
  let e := (getCv s c).enAt
  if flag s (AUX_CVCTL_EN c) && fget s (AUX_CVCTL_TRIG c) = 1 && decide (e < s.time)
      && decide ((s.time - e) % (600 * auxPeriod s c) = 0) && auxRuns s then
    ok (schedTimer c (auxNext (if auxBit s AUX_STATUS_MIGR c then twin c else c) (passTrigger c s)))
  else ok s

/-- A POS change of axis m triggers passes with TRIG 2 (R411). -/
def auxPosTrigger (m : Nat) (fwd : Bool) (s : State) : State :=
  forN 4 (fun c s =>
    if fwd && auxRuns s && flag s (AUX_CVCTL_EN c) && fget s (AUX_CVCTL_TRIG c) = 2 && fget s (AUX_CVCTL_AXIS c) == m
        && decide (((getAxis s m).pos + 2 ^ 48 - (getCv s c).pos0) % 2 ^ 48 % auxPeriod s c = 0) then
      auxNext (if auxBit s AUX_STATUS_MIGR c then twin c else c) (passTrigger c s)
    else s) s

/-- Injected requests of converter c that wait (R412). -/
def injWaiting (s : State) (c : Nat) : Nat :=
  (((getCv s c).inj ++ (getCv s (twin c)).inj).filter fun p => decide (p.1 = c)).length

/-- AUX_INJ_WRITE (R412): a request joins the queue of 4, or is discarded. -/
def execAuxInjWrite (c : Fin 2) (v : Word) (s : State) : Host.Outcome State Fault Refusal :=
  ok (onWrite (AUX_INJ c) (fun s =>
    if !auxRuns s then s
    else if 4 ≤ injWaiting s c then setFlag s AUX_EVENTS_INJ_OVF true
    else
      let sv := if auxBit s AUX_STATUS_MIGR c then twin c else c
      let x := getCv s sv
      auxNext sv (setCv sv { x with inj := x.inj ++ [(c.val, v.toNat)] } s)) s)

/-- Unclipped code of a converter: (raw - OFF) x GC, rounded (R409, R415). -/
def convCode (s : State) (c r : Nat) (raw_ : Int) : Int :=
  let off := signed 16 (fget s (AUX_TRIM_OFF c r))
  let off := if c < 2 then off else 128 * off
  roundDiv ((raw_ - off) * (fget s (AUX_TRIM_GC c r) : Int)) 32768

/-- Full scale F of a converter (R430). -/
def convSpan (c : Nat) : Int := if c < 2 then 32768 else 8388608

/-- OPEN of a result (R408). -/
def openOf (pull chan : Nat) (ovr : Bool) (code : Int) : Bool :=
  ovr && decide (chan < 32)
    && (((pull == 1 || pull == 3) && decide (0 < code)) || ((pull == 2 || pull == 4) && decide (code < 0)))

/-- The range after an over-range sample: the highest step below r at which the estimator found the sample within 3/4 of
span, or 0 (R413). -/
def upShift (r : Nat) (raw_ : Int) : Nat :=
  match ((List.range r).reverse.find? fun q => decide (raw_.natAbs ≤ 24576 * 2 ^ (r - q))) with
  | some q => q
  | none => 0

/-- The autorange of an entry after a sample (R413). -/
def autorange (o e r : Nat) (ovr : Bool) (code raw_ : Int) (s : State) : State :=
  let y := getCv s o
  if ovr then setCv o { y with range := nset y.range e (upShift r raw_), small := nset y.small e 0 } s
  else if code.natAbs < 12288 then
    let n := nget y.small e + 1
    if 8 ≤ n then setCv o { y with range := nset y.range e (min 7 (r + 1)), small := nset y.small e 0 } s
    else setCv o { y with small := nset y.small e n } s
  else setCv o { y with small := nset y.small e 0 } s

/-- FC_CONVERSION_DONE (R409 to R414): the conversion under way on FCc has its code, 180 ticks after its sample instant; raw
is the conversion before trims. -/
def execFcConversionDone (c : Fin 2) (raw : Int) (s : State) : Host.Outcome State Fault Refusal :=
  let x := getCv s c
  if auxBit s AUX_STATUS_FAULT c || !auxRuns s then ok s
  else match x.cur with
  | none => ok s
  | some (.inj o w) =>
    let r := bitsOf w 12 10
    let u := convCode s c r raw
    let code := clampInt (-32768) 32767 u
    let ovr := decide (u ≠ code)
    let s := setCv c { x with cur := none } s
    let s := deliverResult ⟨o, bitsOf w 25 24, code, r, bitsOf w 31 26, ovr, !auxBit s AUX_STATUS_REF_SETTLED c,
      openOf (bitsOf w 15 13) (bitsOf w 31 26) ovr code, decide (o ≠ c.val), true, s.time - 180⟩ s
    ok (auxNext c s)
  | some (.entry o e) =>
    let y := getCv s o
    let a := (y.seq.getD e (0, 0)).1
    let auto := bitOf a 16
    let r := if auto then nget y.range e else bitsOf a 19 17
    let u := convCode s c r raw
    let code := clampInt (-32768) 32767 u
    let ovr := decide (u ≠ code)
    let s := setCv c { x with cur := none } s
    let s := deliverResult ⟨o, e, code, r, bitsOf a 31 26, ovr, !auxBit s AUX_STATUS_REF_SETTLED c,
      openOf (bitsOf a 15 13) (bitsOf a 31 26) ovr code, decide (o ≠ c.val), false, s.time - 180⟩ s
    let s := if auto then autorange o e r ovr code raw s else s
    ok (auxNext c (passAdvance o s))

/-- An output of PCv is UNSETTLED (R417). -/
def pcUnsettled (s : State) (v : Nat) (e : Nat × Nat) : Bool :=
  decide (s.time < (getCv s v).changeAt + 3 * 9600 * clampNat 1 6250 (bitsOf e.2 12 0) + 60000 * bitsOf e.2 23 16)
    || !auxBit s AUX_STATUS_REF_SETTLED v

/-- PC_OUTPUT (R415 to R418): the filter of PC0 or PC1 gives an output. -/
def execPcOutput (c : Fin 2) (raw : Int) (s : State) : Host.Outcome State Fault Refusal :=
  let v := c.val + 2
  if auxBit s AUX_STATUS_FAULT v || !auxRuns s then ok s
  else match (getCv s v).cur with
  | some (.entry o e) =>
    let en := (getCv s o).seq.getD e (0, 0)
    let r := bitsOf en.1 19 17
    let u := convCode s v r raw
    let code := clampInt (-8388608) 8388607 u
    let ovr := decide (u ≠ code)
    let uns := pcUnsettled s v en
    let s :=
      if uns && !bitOf en.1 12 then s
      else deliverResult ⟨o, e, code, r, bitsOf en.1 31 26, ovr, uns,
        openOf (bitsOf en.1 15 13) (bitsOf en.1 31 26) ovr code, decide (o ≠ v), false, s.time⟩ s
    if uns then ok s
    else
      let x := getCv s v
      let n := x.settled + 1
      if n < max 1 (bitsOf en.2 31 24) then ok (setCv v { x with settled := n } s)
      else ok (auxNext v (passAdvance o (setCv v { x with settled := 0, cur := none } s)))
  | _ => ok s

/-- STREAM_MSG_TIMEOUT (R424): 1 ms after the message's first result. -/
def execStreamMsgTimeout (c : Fin 4) (s : State) : Host.Outcome State Fault Refusal :=
  if !(getCv s c).stream.isEmpty && decide ((getCv s c).streamAt + 600000 ≤ s.time) then ok (closeStream c s) else ok s

/-- REF_SETTLED (R421): the reference detector finds the reference of converter c settled. -/
def execRefSettled (c : Fin 4) (s : State) : Host.Outcome State Fault Refusal :=
  if modeIn s [.off, .sleep] then ok s
  else ok (cancel (setAuxBit AUX_STATUS_REF_SETTLED c true s) (.refFault c))

/-- REF_FAULT (R422): a settled reference is lost, or 10 ms have passed after a switch without REF_SETTLED. -/
def execRefFault (c : Fin 4) (s : State) : Host.Outcome State Fault Refusal :=
  if modeIn s [.off, .sleep] then ok s
  else if auxBit s AUX_STATUS_REF_SETTLED c || decide ((getCv s c).refAt + 6000000 ≤ s.time) then
    let s := setAuxBit AUX_STATUS_REF_SETTLED c false s
    let s := setCv c { getCv s c with changeAt := s.time } s
    let s := if (getCv s c).calRange.isSome then endCal c 0x76 0 0 s else s
    ok (auxReport 0 AUX_EVENTS_REF_FAULT [c] s)
  else ok s

/-- The background calibration of every enabled converter that is free (R429). -/
def auxBackground (s : State) : State :=
  let s := { s with aux := { s.aux with calDue := false } }
  forN 4 (fun c s =>
    let x := getCv s c
    if flag s (AUX_CVCTL_EN c) && x.calRange.isNone && !x.calPend then askCal c s else s) s

/-- The Pantry defers background work at its first shed step (R25, R509). -/
def bgDeferred (s : State) : Bool := decide (1 ≤ fget s PWR_STATUS_LEVEL)

/-- AUX_CAL_PERIOD (R429): the background step of CALPER, deferred while the Pantry sheds background work. -/
def execAuxCalPeriod (s : State) : Host.Outcome State Fault Refusal :=
  if fget s AUX_CTL_CALPER = 0 || !auxRuns s then ok s
  else if bgDeferred s then ok { s with aux := { s.aux with calDue := true } }
  else ok (auxBackground s)

/-- AUX_CALCMD (R429): a host request, never deferred. -/
def execAuxCalcmd (v : Word) (s : State) : Host.Outcome State Fault Refusal :=
  ok (onWrite AUX_CALCMD (fun s =>
    if bitOf v.toNat 8 && auxRuns s then askCal (v.toNat % 4) s else s) s)

/-- AUX_CAL_RANGE_DONE (R430, R431): the range has measured the means m0 (off) and m1 (gain); a passing range writes its
trims, a failing one keeps them; the next range follows. -/
def execAuxCalRangeDone (c : Fin 4) (off gain : Int) (s : State) : Host.Outcome State Fault Refusal :=
  let x := getCv s c
  match x.calRange, x.calEnd with
  | some r, some t =>
    if s.time < t then ok s
    else
      let d := 4 * (gain - off)
      let f := 3 * convSpan c
      let offOk := decide (off.natAbs ≤ (if c.val < 2 then 1310 else 335544))
      let gainOk := decide (88 * f ≤ 100 * d) && decide (100 * d ≤ 112 * f)
      let s :=
        if offOk && gainOk then
          let o := if c.val < 2 then off else roundDiv off 128
          fsets s [(AUX_TRIM_OFF c r, toField 16 o), (AUX_TRIM_GC c r, (roundDiv (32768 * f) d).toNat)]
        else s
      let code := if offOk then 0x75 else 0x74
      let fail := if offOk && gainOk then x.calFail else
        match x.calFail with
        | some (r0, c0) => some (r0, min c0 code)
        | none => some (r, code)
      let n := x.calFails + b2n (!(offOk && gainOk))
      let s := setCv c { x with calEnd := none, calFail := fail, calFails := n, calRange := some (r + 1) } s
      if r < 7 then ok (auxNext c s)
      else
        match fail with
        | some (r0, c0) => ok (auxNext c (endCal c c0 r0 n s))
        | none => ok (auxNext c (endCal c 0x70 0 0 s))
  | _, _ => ok s

/-- AUX_CONV_FAULT (R432, R434): the converter's results are no longer delivered; a faulted twin makes it uncovered. -/
def execAuxConvFault (c : Fin 4) (s : State) : Host.Outcome State Fault Refusal :=
  if auxBit s AUX_STATUS_FAULT c || !auxRuns s then ok s
  else
    let x := getCv s c
    let s := if x.calRange.isSome || x.calPend then endCal c 0x77 (x.calRange.getD 0) 0 s else s
    let s := setAuxBit AUX_STATUS_FAULT c true s
    let s := closeStream c (setCv c { getCv s c with cur := none } s)
    let s := auxReport 0 AUX_EVENTS_CONV_FAULT [c] s
    if auxBit s AUX_STATUS_FAULT (twin c) then
      ok (limpCause SYS_LIMP_AUX (auxReport 0 AUX_EVENTS_UNCOVERED [c] s))
    else ok (schedule s (s.time + 150000) (.auxMigrate c))

/-- AUX_MIGRATE (R433): the twin takes the sequence and the injected queue. -/
def execAuxMigrate (c : Fin 4) (s : State) : Host.Outcome State Fault Refusal :=
  let t := twin c
  if !auxBit s AUX_STATUS_FAULT c || auxBit s AUX_STATUS_MIGR c || auxBit s AUX_STATUS_FAULT t || !auxRuns s then ok s
  else
    let s := setAuxBit AUX_STATUS_MIGR c true s
    let q := (getCv s c).inj
    let s := setCv c { getCv s c with inj := [] } s
    let s := setCv t { getCv s t with inj := (getCv s t).inj ++ q } s
    let s := cancel s (.auxMigrate c)
    let s := if flag s (AUX_CVCTL_EN c) && fget s (AUX_CVCTL_TRIG c) = 0 && !(getCv s c).pass then startPass c s else s
    ok (auxNext t s)

/-- AUX_EXC_WRITE (R420): LVL is taken while the host owns the source; otherwise a write that changes it is discarded. -/
def execAuxExcWrite (n : Fin 4) (v : Word) (s : State) : Host.Outcome State Fault Refusal :=
  ok (onWrite (AUX_EXC n) (fun s =>
    let o := fget s (AUX_EXC_OWNER n)
    let l := fget s (AUX_EXC_LVL n)
    let nl := bitsOf v.toNat 29 27
    let s := fset s (AUX_EXC_OWNER n) (bitsOf v.toNat 31 30)
    let s := if o = 0 ∨ o = 3 then fset s (AUX_EXC_LVL n) nl
      else if nl = l then s else setFlag s AUX_EVENTS_WR_REJ true
    if auxRuns s then excFollow n s else s) s)

/-- AUX_RES_LO_READ (R423): the code; the slot's tag goes to the master's shadow and its AUX_TS pair is latched. -/
def execAuxResLoRead (ms : Master) (off : Nat) (s : State) : Host.Outcome State Fault Refusal :=
  let s := readEvent ms off s
  if decide (0x12400 ≤ off) && decide (off < 0x12880) && decide (off % 16 = 0) && mayRead s ms off then
    let ts := raw s (off + 8) + raw s (off + 12) * 2 ^ 32
    let s := { s with rdata := BitVec.ofNat 32 (raw s off) }
    let s := { s with aux := { s.aux with ts := tset (fun _ => (0, 0)) s.aux.ts (masterNum ms) (off, ts) } }
    let sh : Option Shadow := some ⟨off, raw s (off + 4)⟩
    ok (match ms with
      | .hostBar0 => { s with shadow0 := sh }
      | .hostBar4 => { s with shadow4 := sh }
      | .housekeeper => { s with shadowK := sh })
  else ok { s with rdata := 0 }

/-- AUX_DROPS_READ (R14, R425). -/
def execAuxDropsRead (s : State) : Host.Outcome State Fault Refusal := ok (rcRead AUX_DROPS s)

/-- AUX_WC_STAT_READ (R14, R427). -/
def execAuxWcStatRead (k : Fin 16) (s : State) : Host.Outcome State Fault Refusal := ok (rcRead (AUX_WC_STAT k) s)

end Sys2Proof.Machine
end

