-- ==== Sys2Proof/Machine/ImageCal.lean ====
section
/-! DEFINITION. The commands of image calibration (spec/07): foreground runs, the gap search, dark and white tracking. -/

namespace Sys2Proof.Machine

/-! Preconditions of a run (R201, R212, R222, R226, R228). -/

/-- The longest busy window that R65 allows for the head's settings, with the readout bound of R62. -/
def longestBusy (s : State) (h : Nat) : Nat :=
  let read := (readPixels s h + 16) * pixTicks s h
  let rolling := fget s (HEAD_CTL_READ_MODE h) == 0
  maxOf ((List.range (nbands s h)).map fun b =>
    let e := actField s (HEAD_BAND_EXPOSURE h b)
    max 3000 (if rolling then max e read else e + read))

/-- The run that a CAL_RUN descriptor asks for (R199, R362); parameters that its kind does not use are 0. -/
def runOfDesc (s : State) (c : CmdEntry) : RunSt :=
  let d := c.desc
  let k := byteAt d 8
  let h := byteAt d 9
  { head := h, kind := k, slot := c.slot
    bands := if k = 3 then 0 else byteAt d 10
    d1Band := if k = 1 then byteAt d 11 else 0
    f := if k = 3 then 0 else byteAt d 12
    p1 := leAt d 16 4, p2 := if k = 1 then leAt d 20 4 else 0
    gap := k == 3 && bitOf (byteAt d 13) 0
    sat := byteAt d 14, str := byteAt d 15, stage := .measuring, point := 0, line := 0, band := 0, trial := 0
    phi0 := (tapsOf s h).foldl (fun t n => nset t n (phaseOf (act s (TAP_PHASE n)))) []
    acc := [], cnt := [], bad := [], failing := 0, code := 0x50, todo := [], started := s.time }

/-- The parameters are in range (R199, R201 items 4 and 5). Bands at or above NBANDS are out of range (DEDUCED, log entry 20). -/
def runParamsOk (s : State) (r : RunSt) : Bool :=
  let n := nbands s r.head
  let fits (p : Nat) : Bool := decide (longestBusy s r.head * n ≤ p)
  let f := r.kind == 3 || (decide (2 ≤ r.f) && decide (r.f ≤ 10))
  let bands := r.kind == 3 || decide (r.bands < 2 ^ n)
  let own := match r.kind with
    | 1 => decide (r.d1Band < n) && (r.p2 == 0 || (fits r.p2 && decide (r.p1 < r.p2)))
    | 3 => decide (fget s (SHD_HPHS_PH_BAND r.head) < n)
    | 4 => r.str == 255 || decide (r.str < if r.sat = 0 then 16 else 8)
    | _ => true
  f && bands && fits r.p1 && own

/-- A lamp string driven in a band of head h is lit (R212): a local one by its strobe, a satellite one unless its last report
shows it dark (R483). -/
def stringLit (s : State) (h : Nat) : Bool :=
  s.lmp.entries.any fun e => servedHead s e == some h && e.bands != 0 &&
    (if e.sat = 0 then (getStr s e.str).strobe.isSome
     else match (tget (fun _ => ({} : Sat)) s.lnk.sats e.sat).lit with
       | some m => bitOf m e.str
       | none => true)

/-- The strip rule as a run's precondition (R222). -/
def stripProven (s : State) (h : Nat) : Bool := !flag s (SHD_HREF_GUARD_EN h) || onStrip s h (headPos s h)

/-- The rail is in regulation and no string of the run's bands is dropped (R228 items 2 and 3). -/
def lampsSound (s : State) (r : RunSt) : Bool :=
  flag s LMP_STATUS_RAIL_OK && !s.lmp.entries.any fun e =>
    servedHead s e == some r.head && e.bands &&& r.bands != 0 && isDropped s e

/-- The precondition of the kind (R212, R222, R226, R228): its refusal code, or 0. -/
def kindError (s : State) (r : RunSt) : Nat :=
  match r.kind with
  | 1 => if stringLit s r.head then 0x55 else 0
  | 2 => if stripProven s r.head then 0 else 0x56
  | 3 => if r.gap || stripProven s r.head then 0 else 0x56
  | _ => if !stripProven s r.head then 0x56 else if !lampsSound s r then 0x57 else 0

/-- The checks of R201 in their order: the refusal code, or 0. -/
def runError (s : State) (r : RunSt) : Nat :=
  if !(runModes r).contains s.mode.mode then 0x51
  else if headState s r.head ≠ 2 then 0x52
  else if (runOf s r.head).isSome then 0x53
  else if !runParamsOk s r then 0x54
  else kindError s r

/-! Results (R202). -/

/-- Band that a result concerns, 0 where it concerns several (SHD_LAST). -/
def resultBand (s : State) (r : RunSt) : Nat :=
  if r.kind = 3 then fget s (SHD_HPHS_PH_BAND r.head)
  else match r.bandList with
    | [b] => b
    | _ => 0

/-- The result of a run (R202): SHD_LAST, SHD_LASTCNT, the event bit, the message, and the completion. -/
def calResult (r : RunSt) (code count : Nat) (s : State) : State :=
  let s := fsets s [(SHD_LAST_CODE, code), (SHD_LAST_KIND, r.kind), (SHD_LAST_HEAD, r.head), (SHD_LAST_BAND, resultBand s r)]
  let s := setRaw s SHD_LASTCNT count
  let s := if code = 0x50 then setFlag s SHD_EVENTS_RUN_DONE true
    else raise 2 0xC code [r.head, r.kind, code, count] (setFlag s SHD_EVENTS_RUN_FAIL true)
  complete r.slot count code s

/-- SHD_STATUS.RUN and SHD_HSTAT.RUN of head h. -/
def showRun (h : Nat) (b : Bool) (s : State) : State :=
  let m := fget s SHD_STATUS_RUN
  setFlag (fset s SHD_STATUS_RUN (if b then setBit m h else clearBit m h)) (SHD_HSTAT_RUN h) b

/-! CAL_RUN and its triggers (R201, R204, R223, R226, R229). -/

/-- 10 s of search time in ticks (R227). -/
def searchTicks : Nat := 6000000000

/-- CAL_RUN (R199 to R204). The first trigger comes one interval after the start (DESIGN CHOICE, log entry 21). -/
def execCalRun (slot : Nat) (s : State) : Host.Outcome State Fault Refusal :=
  match cmdOf s slot 4 with
  | none => ok s
  | some c =>
    let r := runOfDesc s c
    if s.shd.runs.any fun q => q.slot == slot then ok s
    else
      let e := runError s r
      if e ≠ 0 then ok (calResult r e 0 s)
      else match finOf 16 r.head with
        | none => ok s
        | some h =>
          let s := showRun r.head true { s with shd := { s.shd with runs := s.shd.runs ++ [r] } }
          if r.gap then ok (schedule s (s.time + searchTicks) (.gapSearchTimeout h))
          else
            let s := fset s (HEAD_STATUS_BAND r.head) 0
            ok (schedule s (s.time + r.p1 / nbands s r.head) (.calRunTrigger h))

/-- What the next trigger of a run is (R204, R213, R222, R226, R229): its band, the tag and the measuring point that its
band-line carries (tag 0 for a settle line), and the run after it; none when every trigger has been made. -/
def runPlan (s : State) (r : RunSt) : Option (Nat × Nat × Nat × RunSt) :=
  let n := nbands s r.head
  let lastBand := decide (n ≤ r.band + 1)
  -- the run after this band-line of a line of n bands; top lines in a point
  let next (top : Nat) : RunSt :=
    if !lastBand then { r with band := r.band + 1 }
    else if r.line < top then { r with band := 0, line := r.line + 1 }
    else { r with band := 0, line := 0, point := r.point + 1 }
  match r.kind with
  | 1 => if r.point < (if r.p2 = 0 then 1 else 2) then
      some (r.band, if r.line = 0 then 0 else r.point + 1, r.point, next (2 ^ r.f)) else none
  | 2 => if r.point < 1 then some (r.band, if r.line = 0 then 0 else 1, 0, next (2 ^ r.f)) else none
  | 3 =>
    let top := 3 * phPoints s r.head
    if r.point < 1 then
      some (r.band, if r.line = 0 ∨ r.band ≠ fget s (SHD_HPHS_PH_BAND r.head) then 0 else 1, 0, next top)
    else none
  | _ =>
    match (runStrings s r).drop (r.point / 4) with
    | [] => none
    | (b, _) :: _ =>
      some (b, if r.line = 0 then 0 else r.point + 1, r.point,
        if r.line < 2 ^ r.f then { r with line := r.line + 1 } else { r with line := 0, point := r.point + 1 })

/-- Interval after the trigger of band place b at period p (R204): the triggers of a line lie at p b / NBANDS. -/
def runInterval (s : State) (r : RunSt) (b : Nat) : Nat :=
  let n := max 1 (nbands s r.head)
  let p := if r.kind = 1 ∧ r.point = 1 then r.p2 else r.p1
  if r.kind = 4 then p / n else p * (b + 1) / n - p * b / n

/-- The run's trigger for band b; true when it was accepted. -/
def runCause (h : Fin 16) (b tag pt : Nat) (s : State) : State × Bool :=
  let s := causeAt h b (headPos s h) true s
  let x := getHead s h
  let mine (l : BandLine) : Bool := decide (l.stage = .accepted) && decide (l.time = s.time)
  let s := setHead h { x with lines := x.lines.map fun l => if mine l then { l with tag := tag, point := pt } else l } s
  (s, x.lines.any mine)

/-- CAL_RUN_TRIGGER (R204): the run's precondition is checked again (R205, R212, R228), then its next band-line is triggered;
in ROLLING mode one trigger more reads out the last. -/
def execCalRunTrigger (h : Fin 16) (s : State) : Host.Outcome State Fault Refusal :=
  match runOf s h with
  | none => ok s
  | some r =>
    if !runDrives s h || r.band == 8 || headState s h != 2 then ok s
    else if kindError s r ≠ 0 then ok (abortRun h 0x58 s)
    else match runPlan s r with
    | some (b, tag, pt, r2) =>
      let c := runCause h b tag pt s
      let s := c.1
      let s := whenS c.2 (setRun r2) s
      ok (schedule s (s.time + runInterval s r (if r.kind = 4 then 0 else r.band)) (.calRunTrigger h))
    | none =>
      let pend := fget s (HEAD_CTL_READ_MODE h) == 0 && (getHead s h).lines.any fun l =>
        l.tag != 0 && (l.stage == .accepted || l.stage == .exposing || l.stage == .sensor)
      if pend then
        let c := runCause h 0 0 r.point s
        let s := c.1
        if c.2 then ok (runDone h (setRun { r with band := 8 } s))
        else ok (schedule s (s.time + runInterval s r 0) (.calRunTrigger h))
      else ok (runDone h (setRun { r with band := 8 } s))

/-! The end of the measurement (R206, R213 to R230). -/

/-- Outliers that a run allows (R215, R220). -/
def allowed (s : State) (h : Nat) : Nat := npix s h / 1000

/-- A passing run commits its blocks. -/
def startCommits (r : RunSt) (code count : Nat) (todo : List (Nat × Nat × List Nat)) (s : State) : State :=
  nextBlock r.head (setRun { r with stage := .committing, code := code, failing := count, todo := todo } s)

/-- A dark run's result (R214 to R216). -/
def deriveDark (r : RunSt) (s : State) : State :=
  let bad := (List.range (npix s r.head)).filter fun p => darkOutlier s r p
  if allowed s r.head < bad.length then endRun r.head 0x5B bad.length s
  else startCommits r 0x50 bad.length (darkBlocks s r bad) s

/-- A white run's result (R220, R222). -/
def deriveWhite (r : RunSt) (s : State) : State :=
  let one (b : Nat) : Nat × List Nat × Nat :=
    (b, whiteBlock s r.head b fun p => (r.mean (pixKey p b 0) / 16, nget r.cnt (pixKey p b 0)))
  let bs := r.bandList.map one
  let worst := maxOf (bs.map fun q => q.2.2)
  let pass := bs.filter fun q => decide (q.2.2 ≤ allowed s r.head)
  startCommits r (if pass.length = bs.length then 0x50 else 0x5C) worst (pass.map fun q => (2, q.1, q.2.1)) s

/-- The active phase of every tap of a phase search is the tap's own again (R223, R227). -/
def restorePhases (r : RunSt) (s : State) : State :=
  (tapsOf s r.head).foldl (fun s t =>
    let w := BitVec.ofNat 32 (phaseWord (fget s (HEAD_CLK_DIV r.head)) (nget r.phi0 t))
    { s with active := tset regReset s.active (TAP_PHASE t) w }) s

/-- A phase that a search found is written to TAP_PHASE (R123, R221, R225). -/
def writePhase (r : RunSt) (t i : Nat) (s : State) : State :=
  let s := setRaw s (TAP_PHASE t) (phaseWord (fget s (HEAD_CLK_DIV r.head)) (trialPhase s r t i))
  let s := whiteRestartTap t (setFlag s (TAP_STATUS_PEND t) true)
  setTap t { getTap s t with phasePend := some s.time } s

/-- A phase search's result (R224, R225). -/
def derivePhase (r : RunSt) (s : State) : State :=
  let res := (tapsOf s r.head).map fun t => (t, phaseResult s r t)
  let fails (k : Nat) : Nat := (res.filter fun p => match p.2 with | .inr j => j == k | .inl _ => false).length
  let s := res.foldl (fun s p => match p.2 with | .inl i => writePhase r p.1 i s | .inr _ => s) (restorePhases r s)
  endRun r.head (if fails 1 ≠ 0 then 0x5D else if fails 2 ≠ 0 then 0x5E else 0x50) (fails 1 + fails 2) s

/-- The response table of measured string n (R229, R337). -/
def respTable (s : State) (r : RunSt) (b k n : Nat) : Resp :=
  let m := respMeans r n
  ⟨actField s (HEAD_BAND_EXPOSURE r.head b), m.map fun x => (roundQ x).toNat, (roundQ (respAtRef s k m)).toNat⟩

/-- A lamp run's result (R229, R230, R314). -/
def deriveLamp (r : RunSt) (s : State) : State :=
  let strs := runStrings s r
  let pass := (List.range strs.length).filter fun n => lampPasses s r strs n
  let resps := pass.foldl (fun t n =>
    let bk := strs.getD n (0, 0)
    tset (fun _ => ({} : Resp)) t (128 * bk.2 + headBand r.head bk.1) (respTable s r bk.1 bk.2 n)) s.lmp.resps
  let fails := strs.length - pass.length
  let s := { s with lmp := { s.lmp with resps := resps } }
  let s := whenS (!pass.isEmpty) (fun s => schedule s s.time .driveRecompute) s
  endRun r.head (if fails = 0 then 0x50 else 0x5F) fails s

/-- CAL_RUN_MEASURE_END (R206): every measured band-line has its record, and the values are derived and checked. -/
def execCalRunMeasureEnd (h : Fin 16) (s : State) : Host.Outcome State Fault Refusal :=
  match runOf s h with
  | none => ok s
  | some r =>
    let finished := r.stage == .measuring && (if r.kind = 3 then decide (3 * phPoints s h ≤ r.trial) else r.band == 8)
    if !finished || (getHead s h).lines.any (fun l => l.tag != 0) then ok s
    else match r.kind with
    | 1 => ok (deriveDark r s)
    | 2 => ok (deriveWhite r s)
    | 3 => ok (derivePhase r s)
    | _ => ok (deriveLamp r s)

/-- Groups whose rotation step waited for the run take it now (R142). -/
def wakeGroups (s : State) : State :=
  (List.range 16).foldl (fun s g => match finOf 16 g with
    | some i => whenS (getGroup s g).stepPend (fun s => schedule s s.time (.rotationStep i)) s
    | none => s) s

/-- CAL_RUN_COMPLETE (R202 to R206): the run is over, its result is reported, and the head's next cause is a B0 cause. -/
def execCalRunComplete (h : Fin 16) (s : State) : Host.Outcome State Fault Refusal :=
  match runOf s h with
  | none => ok s
  | some r =>
    if r.stage ≠ .ended then ok s
    else
      let s := { s with shd := { s.shd with runs := s.shd.runs.filter fun q => decide (q.head ≠ r.head) } }
      let s := whenS (r.kind = 3 ∧ headState s h ≠ 0) (restorePhases r) s
      let x := getHead s h
      let s := setHead h { x with
        lines := x.lines.map fun l => { l with tag := 0 }
        seenB0 := if r.gap then x.seenB0 else false } s
      let s := whenS (!r.gap) (fun s => fset s (HEAD_STATUS_BAND h) 0) s
      let s := cancel (cancel s (.calRunTrigger h)) (.gapSearchTimeout h)
      ok (wakeGroups (pmcEvent 0x2E (calResult r r.code r.failing (showRun h false s))))

/-- GAP_SEARCH_TIMEOUT (R227): 10 s of search time, time deferred under R231 excluded. -/
def execGapSearchTimeout (h : Fin 16) (s : State) : Host.Outcome State Fault Refusal :=
  match runOf s h with
  | none => ok s
  | some r =>
    if r.gap && decide (r.stage = .measuring) && s.shd.deferAt.isNone && decide (r.started + searchTicks ≤ s.time) then
      ok (abortRun h 0x5A s)
    else ok s

/-- The Pantry's first shedding step comes or goes (R231): SHD_STATUS.DEFER, and the search time of gap searches stands still
meanwhile. -/
def deferFollow (s : State) : State :=
  match deferred s, s.shd.deferAt with
  | true, none =>
    let s := setFlag { s with shd := { s.shd with deferAt := some s.time } } SHD_STATUS_DEFER true
    whenS (!s.shd.dueG.isEmpty) (fun s => setFlag s SHD_EVENTS_DEFERRED true) s
  | false, some t =>
    let shift (r : RunSt) : RunSt := { r with started := if r.gap then r.started + (s.time - max t r.started) else r.started }
    let s := { s with shd := { s.shd with deferAt := none, runs := s.shd.runs.map shift } }
    let s := s.shd.runs.foldl (fun s r => match finOf 16 r.head with
      | some h => whenS r.gap (fun s => schedule (cancel s (.gapSearchTimeout h)) (r.started + searchTicks) (.gapSearchTimeout h)) s
      | none => s) s
    setFlag s SHD_STATUS_DEFER false
  | _, _ => s

/-! Dark tracking (R207 to R211). -/

/-- TRK_LIM of head h in 1/16 code (R209). -/
def trkLim (s : State) (h : Nat) : Int := 16 * max 1 (fget s (SHD_HTRK_TRK_LIM h))

/-- k of R207: min(K, SUSP_K) in a group whose rotation is suspended (R210). -/
def trkK (s : State) (h t : Nat) : Nat :=
  let k := fget s (SHD_HTRK_K h)
  if bitOf (fget s SLC_SUSP_SUSP) (t / 16) then min k (fget s (SHD_HTRK_SUSP_K h)) else k

/-- d of R207 from the qualifying dark samples of tap t. -/
def darkDrift (s : State) (h t b : Nat) (period : Nat) (xs : List Nat) : Rat :=
  ((xs.sum : Rat) / xs.length) - 64 * fget s (TAP_CLAMP_CLAMP t) - (iget s.shd.dref (8 * t + b) : Rat) / 16
    - (iget s.shd.dslope t : Rat) / 256 * ((period : Rat) - nget s.shd.dper h) / 60000

/-- TRK of a tap and band takes a new value (R207, R209). -/
def setTrack (h t b : Nat) (v : Int) (s : State) : State :=
  let lim := trkLim s h
  let c := clampInt (-lim) lim v
  let s := pmcEvent 0x2B (setTrk t b c s)
  let s := { s with shd := { s.shd with clamped := bset s.shd.clamped (8 * t + b) (decide (c ≠ v)) } }
  let s := setFlag s (SHD_HSTAT_TRK_AT_LIM h) ((tapsOf s h).any fun u => (List.range 8).any fun k => bget s.shd.clamped (8 * u + k))
  if c = v then s
  else
    let first := !flag s SHD_EVENTS_TRK_LIMIT
    pmcEvent 0x2C (whenS first (fun s => raise 2 0xC 0x61 [h, t, b] (setFlag s SHD_EVENTS_TRK_LIMIT true)) s)

/-- DARK_TRACK_UPDATE (R207, R208): the dark samples of tap t in its head's latest band-line of band b, raw converter codes in
readout order. -/
def execDarkTrackUpdate (t : Fin 256) (b : Fin 8) (samples : List Sample) (s : State) : Host.Outcome State Fault Refusal :=
  match tapOwner s t with
  | none => ok s
  | some h =>
    let dark := fget s (HEAD_READ_DARK h)
    let here (l : BandLine) : Bool := l.band == b.val && (l.stage == .reading || l.stage == .lanes)
      && decide (l.readAt + dark * pixTicks s h ≤ s.time)
    match ((getHead s h).lines.filter here).getLast? with
    | none => ok s
    | some l =>
      if dark = 0 ∨ flag s (SHD_HTRK_TRK_EN h) = false then ok s
      else
        let q := t.val - fget s (HEAD_TAPS_FIRST_TAP h)
        let l := if l.stage = .reading then { l with guests := if flag s (TAP_STATUS_GUEST t) then [t.val] else [] } else l
        let xs := List.replicate (q * tapSamples s h) ⟨0, false⟩ ++ samples.take dark
        let ps := (List.range dark).map fun k => pixOf s h l xs t q k
        let good := (ps.filter fun p => !p.ovr && !p.dead).map fun p => p.code
        if good.isEmpty then ok s
        else
          let d := darkDrift s h t b (pEff l.hctl l.period) good
          let old := getTrk s t b
          ok (setTrack h t b (old + roundQ ((16 * d - old) / 2 ^ trkK s h t)) s)

/-! White tracking (R220, R231, R232). -/

/-- TIME of the last white commit of a head-band. -/
def whiteAge (s : State) (hb : Nat) : Nat := nget s.shd.whiteAt hb

/-- The Housekeeper asks for staging for the due head-band whose last white commit is oldest, one at a time (R232). -/
def serveDue (s : State) : State :=
  let asked := s.pipe.reqs.any (fun r => match r with | .background _ _ => true | _ => false)
    || (match s.pipe.stage with | some q => q.background | none => false)
  if asked || deferred s then s
  else
    let older (a b : Nat) : Bool := decide (whiteAge s a < whiteAge s b) || (whiteAge s a == whiteAge s b && decide (a ≤ b))
    match s.shd.dueG.find? fun p => s.shd.dueG.all fun q => older p.1 q.1 with
    | some p => { s with pipe := { s.pipe with reqs := s.pipe.reqs ++ [.background (p.1 / 8) (p.1 % 8)] } }
    | none => s

/-- WHITE_TRACK_DUE (R220): the head-band's accumulation gives its block, or is rejected; it restarts either way. -/
def execWhiteTrackDue (h : Fin 16) (b : Fin 8) (s : State) : Host.Outcome State Fault Refusal :=
  let hb := headBand h b
  if nget s.shd.incl hb < wMin s h then ok s
  else
    let r := whiteBlock s h b fun p => ((getWhite s hb p).w, (getWhite s hb p).n)
    let s := whiteRestart hb s
    if allowed s h < r.2 then
      let s := fsets s [(SHD_EVENTS_WFAIL, 1), (SHD_LAST_CODE, 0x5C), (SHD_LAST_KIND, 0), (SHD_LAST_HEAD, h), (SHD_LAST_BAND, b)]
      ok (raise 2 0xC 0x5C [r.2] (setRaw s SHD_LASTCNT r.2))
    else
      let s := { s with shd := { s.shd with dueG := s.shd.dueG ++ [(hb, r.1)] } }
      let s := fset s (SHD_HSTAT_DUE h) (setBit (fget s (SHD_HSTAT_DUE h)) b)
      ok (serveDue (whenS (deferred s) (fun s => setFlag s SHD_EVENTS_DEFERRED true) s))

end Sys2Proof.Machine
end

