-- ==== Sys2Proof/Machine/Attic.lean ====
section
/-! DEFINITION. The commands of the Attic (spec/08, R249 to R256; spec/17, R524). -/

namespace Sys2Proof.Machine

/-- ATT_SAVE (R249, R251): the save starts, or is refused while one is in progress. -/
def execAttSave (slot : Nat) (s : State) : Host.Outcome State Fault Refusal :=
  match cmdOf s slot 7 with
  | none => ok s
  | some _ =>
    if s.att.slot = some slot then ok s
    else if s.att.step ≠ 0 then ok (complete slot 0 0x29 (fsets s [(ATT_STATUS_RESULT, 5), (ATT_EVENTS_SAVE_FAIL, 1)]))
    else ok (startSave (some slot) s)

/-- The next step of a save begins. -/
def saveStep (k : Nat) (s : State) : State :=
  { fset s ATT_STATUS_STEP k with att := { s.att with step := k } }

/-- Step 1 of R249 has ended: the snapshot must fit (R250); the erase of the target bank begins. -/
def saveErase (s : State) : State :=
  if !recsFit s s.att.snap then endSave 3 0x28 0 s
  else saveStep 2 (setBank (targetBank s) {} s)

/-- Step 7 of R249 has ended; erased says that the journal is empty now. -/
def saveFinish (erased : Bool) (s : State) : State :=
  let k := targetBank s
  let seq := (bankOf s k).seq
  let s := setPair ATT_SEQ_LO ATT_SEQ_HI seq (fset s ATT_STATUS_SOURCE k)
  let s := fset (setRaw s ATT_USED (recsEnd s.att.snap)) ATT_JRNL_ENTRIES 0
  if erased then endSave 1 0 (seq % 2 ^ 32) { s with att := { s.att with jrnl := [] } } else endSave 4 0x84 0 s

/-- ATT_SAVE_STEP_DONE (R249 to R252): the step in progress has ended; flashOk is false when a program, an erase or a read-back
failed in it. -/
def execAttSaveStepDone (flashOk : Bool) (s : State) : Host.Outcome State Fault Refusal :=
  if s.att.step = 0 ∨ modeIn s saveModes = false ∨ s.fw.paused = true then ok s
  else
    let k := targetBank s
    let b := bankOf s k
    let seq := attSeq s + 1
    match s.att.step, flashOk with
    | 1, _ => ok (saveErase s)
    | 7, f => ok (saveFinish f s)
    | _, false => ok (endSave 4 0x84 0 s)
    | 2, true => ok (saveStep 3 s)
    | 3, true => ok (saveStep 4 (setBank k { b with hdr := bankHeader seq s.att.snap } s))
    | 4, true => ok (saveStep 5 (setBank k { b with recs := s.att.snap } s))
    | 5, true => ok (saveStep 6 s)
    | _, true => ok (saveStep 7 (setBank k { b with commit := commitRecord seq b.hdr b.recs } s))

/-- ATTIC_BACKGROUND_CHECK (R247, R524): check 5 of the kept bank after a warm start. -/
def execAtticBackgroundCheck (pass : Bool) (s : State) : Host.Outcome State Fault Refusal :=
  let k := fget s ATT_STATUS_SOURCE
  if pass || !s.start.warm || !modeIn s saveModes || (k != 1 && k != 2) then ok s
  else ok (wantSave (report 0 ATT_EVENTS_BANK_BAD [k] s))

end Sys2Proof.Machine
end

