-- ==== Sys2Proof/Machine/HwyOps.lean ====
section
/-! DEFINITION. What a joined system does to causes and positions (spec/15, R463 to R466): tokens and replicas. -/

namespace Sys2Proof.Machine

/-- This controller is the master of a joined ring (R463). -/
def hwyMaster (s : State) : Bool := s.hwy.joined && flag s HWY_STATUS_MASTER

/-- This controller is a follower of a joined ring. -/
def hwyFollower (s : State) : Bool := s.hwy.joined && !flag s HWY_STATUS_MASTER

/-- Axis a is shared over the Hallway (R463, R465). -/
def axisShared (s : State) (a : Nat) : Bool := s.hwy.joined && bitOf (fget s HWY_CTL_AXMASK) a

/-- Byte A of a token (R463). -/
def tokenA (axis : Nat) (fwd xsync : Bool) : Nat := axis * 32 + (if fwd then 0 else 16) + (if xsync then 4 else 0)

/-- A change that every controller makes on tick cause + 150 (R465). -/
def addStep (cause axis : Nat) (fwd xsync : Bool) (s : State) : State :=
  let s := { s with hwy := { s.hwy with steps := s.hwy.steps ++ [⟨cause, axis, xsync, fwd⟩] } }
  schedule s (cause + 150) .replicaStep

/-- The master forwards a cause, or drops it (R463, R464). -/
def forwardCause (axis : Nat) (fwd xsync : Bool) (s : State) : State :=
  if !hwyMaster s then s
  else
    let free := match s.hwy.lastFwd with | some t => max s.time (t + 15) | none => s.time
    let free := if s.hwy.sent < 11 then free else max free ((s.time / 600 + 1) * 600)
    if free ≤ s.time + 5 then
      let s := emit s (.token (tokenA axis fwd xsync) (s.time % 256))
      addStep s.time axis fwd xsync { s with hwy := { s.hwy with lastFwd := some free, sent := s.hwy.sent + 1 } }
    else setFlag s HWY_EVENTS_TOK_DROP true

end Sys2Proof.Machine
end

