-- ==== Sys2Proof/Machine/MotOps.lean ====
section
/-! DEFINITION. Positions, segments, pacing and HOLD (spec/09, R262 to R297): the operations that steps, encoders, sensors and
the Pantry share. -/

namespace Sys2Proof.Machine

/-! Positions (R262, R263, R269, R283). -/

/-- Crossings of the heads bound to axis m after a forward change (R269, R270). -/
def crossings (m : Nat) (s : State) : State :=
  (List.range 16).foldl (fun s h => match finOf 16 h with
    | some i =>
      if fget s (HEAD_TRIG_AXIS h) == m && fget s (HEAD_TRIG_TRIG_SRC h) == 0 && headState s h == 2
          && decide ((256 * headPos s h + gridMod - gnext s h) % gridMod < gridMod / 2) then gridCause i s
      else s
    | none => s) s

/-- An axis begins to move: a rest of 1 ms or more was a standstill (R283). -/
def noteMove (m : Nat) (s : State) : State :=
  let x := getAxis s m
  setAxis m { x with
    still := if x.lastMove + 600000 ≤ s.time then some s.time else x.still
    lastMove := s.time } s

/-- A unit of a back-up or run-up move (R282). -/
def moveUnit (m : Nat) (s : State) : State :=
  let x := getAxis s m
  let k := fget s (MOT_ASTATUS_MOVE m)
  if (k ≠ 1 ∧ k ≠ 2) ∨ x.moveLeft = 0 then s
  else if x.moveLeft ≠ 1 then setAxis m { x with moveLeft := x.moveLeft - 1 } s
  else if k = 1 ∧ x.takeUp ≠ 0 then
    fset (setAxis m { x with moveLeft := x.takeUp, takeUp := 0 } s) (MOT_ASTATUS_DIR m) 0
  else
    let s := setAxis m { x with moveLeft := 0 } s
    match finOf 8 m with
    | some i => schedule s s.time (if k = 1 then .backupMoveDone i else .runupDone i)
    | none => s

/-- POS of axis m changes by one unit (R262, R263): aux passes, crossings, and the token of a shared axis. -/
def posMove (m : Nat) (fwd : Bool) (s : State) : State :=
  let s := noteMove m s
  let x := getAxis s m
  let s := setAxis m { x with pos := posAdd x.pos (if fwd then 1 else -1) } s
  let s := auxPosTrigger m fwd (moveUnit m s)
  if axisShared s m then forwardCause m fwd false s
  else if fwd then crossings m s else s

/-- MOT_AFERR (R294): FE = round(commanded steps x RATIO) - encoder counts. -/
def followErr (s : State) (m : Nat) : Int :=
  let x := getAxis s m
  roundDiv (x.cmdSteps * raw s (MOT_ARATIO m)) (2 ^ 24) - x.encCounts

/-- Show FE of a bound axis. -/
def showErr (m : Nat) (s : State) : State := setRaw s (MOT_AFERR m) (toField 32 (followErr s m))

/-! Speed cap (R272). -/

/-- VCAP of axis m, steps/s. -/
def vcap (s : State) (m : Nat) : Nat :=
  let one (h : Nat) : Option Rat :=
    if headState s h == 2 && fget s (HEAD_TRIG_TRIG_SRC h) == 0 && fget s (HEAD_TRIG_AXIS h) == m then
      let v : Rat := (act s (HEAD_PITCH h) : Rat) * 600000000 / (256 * nbands s h * longestBusy s h)
      some (if flag s (MOT_ACTL_BIND m) then v * 16777216 / raw s (MOT_ARATIO m) else v)
    else none
  (((List.range 16).filterMap one).foldl (fun a v => if v < a then v else a) 4000000).floor.toNat

/-! Segments (R289 to R291). -/

/-- The segment in execution. -/
def curSeg (s : State) (m : Nat) : Option Seg := (getAxis s m).segs.head?

/-- Velocity that the segment in execution aims at, steps/s; the spec states no velocity along a ramp (DEDUCED, log entry 30). -/
def segSpeed (s : State) (m : Nat) : Nat :=
  if axisMoving s m && fget s (MOT_ASTATUS_MOVE m) == 0 then ((curSeg s m).map fun g => g.vEnd.natAbs).getD 0 else 0

/-- The segment in execution ends (R290): the next one begins, or the profile has ended (R291). -/
def segEnd (m : Nat) (s : State) : State :=
  let x := getAxis s m
  match x.segs with
  | [] => s
  | g :: rest =>
    let s := setAxis m { x with segs := rest, made := 0 } s
    match rest with
    | n :: _ =>
      let s := fset s (MOT_ASTATUS_SEG m) (fget s (MOT_ASTATUS_SEG m) + 1)
      if n.vEnd = 0 then s else fset s (MOT_ASTATUS_DIR m) (b2n (decide (n.vEnd < 0)))
    | [] =>
      let s := setFlag s (MOT_AEVENTS_PROF_DONE m) true
      if g.vEnd = 0 then axisRests m s else controlledStop m s

/-- A sensor edge ends the segments that wait for it (R290). -/
def sensorSegs (k : Nat) (covered : Bool) (s : State) : State :=
  forN 8 (fun m s =>
    match curSeg s m with
    | some g =>
      whenS (axisMoving s m && fget s (MOT_ASTATUS_MOVE m) == 0 && g.ds == k
        && ((g.kind == 2 && covered) || (g.kind == 3 && !covered))) (segEnd m) s
    | none => s) s

/-- A profile that waits at rest is over (R291). -/
def dropProfile (m : Nat) (s : State) : State :=
  let x := getAxis s m
  if axisMoving s m || x.segs.isEmpty then s
  else setFlag (setAxis m { x with segs := [], owesRunup := false } s) (MOT_AEVENTS_PROF_DONE m) true

/-! HOLD (R280 to R284). -/

/-- Axis m moves, in a direction. -/
def startMove (m kind dir : Nat) (s : State) : State :=
  let s := fsets s [(MOT_ASTATUS_STATE m, 2), (MOT_ASTATUS_REST m, 0), (MOT_ASTATUS_MOVE m, kind), (MOT_ASTATUS_DIR m, dir)]
  let s := setAxis m { getAxis s m with iref := fget s (MOT_AIREF_RUN_DUTY m) } s
  match finOf 8 m with
  | some i => cancel s (.irefStandby i)
  | none => s

/-- A back-up move begins where BACK asks for one (R282). -/
def startBackup (m : Nat) (s : State) : State :=
  let b := fget s (MOT_ABACK_BACK m)
  let l := fget s (MOT_ABACK_BACKLASH m)
  if paced s m && flag s (MOT_ACTL_EN m) && fget s (MOT_ASTATUS_STATE m) == 1 && b != 0 then
    let s := startMove m 1 1 s
    setAxis m { getAxis s m with moveLeft := b + l, takeUp := l, owesRunup := true } s
  else s

/-- An axis goes on after a hold (R282): run-up, or its profile at once; a back-up in progress completes first (R297). -/
def resumeAxis (m : Nat) (s : State) : State :=
  let x := getAxis s m
  if !paced s m || !flag s (MOT_ACTL_EN m) || fget s (MOT_ASTATUS_MOVE m) == 1 then s
  else if x.owesRunup then
    let s := startMove m 2 0 s
    setAxis m { getAxis s m with moveLeft := fget s (MOT_ABACK_BACK m), owesRunup := false } s
  else match x.segs.head? with
    | some g => if fget s (MOT_ASTATUS_STATE m) = 1 then startMove m 0 (b2n (decide (g.vEnd < 0))) s else s
    | none => s

/-- The last paced axis rests in state STOPPING (R281, R284, R517). A hold needs an enabled paced axis (DEDUCED, log entry 31). -/
def holdCheck (s : State) : State :=
  let ps := (List.range 8).filter fun m => paced s m
  let rests := ps.all (fun m => flag s (MOT_ASTATUS_REST m)) && ps.any fun m => flag s (MOT_ACTL_EN m)
  if fget s MOT_STATUS_PSTATE ≠ 2 ∨ rests = false then s
  else if modeIs s .limp then fset s MOT_STATUS_PSTATE 3
  else if modeIs s .scan then
    let s := enterMode .hold 0 (fset s MOT_STATUS_PSTATE 3)
    let s := { s with mot := { s.mot with holdAt := s.time } }
    let s := forN 8 startBackup s
    schedule s (s.time + 600000 * max 1 (fget s MOT_HOLDTO_TIMEOUT)) .holdTimeout
  else s

/-- HOLD mode ends, and the paced axes go on (R281, R282). -/
def holdEnd (s : State) : State :=
  if modeIs s .hold then forN 8 resumeAxis (enterMode .scan 0 (cancel s .holdTimeout))
  else if modeIs s .limp then forN 8 resumeAxis s
  else s

/-! Fill and pacing (R278 to R281, R466). -/

/-- Own fill as a fraction of the usable capacity. -/
def ownFill (s : State) : Rat := (fillBytes s : Rat) / usableBytes s

/-- f of R280: the master of a joined system takes the greatest fill of its members (R466). -/
def fillOf (s : State) : Rat :=
  let j : Rat := (s.hwy.fill : Rat) / 1024
  if hwyMaster s ∧ ownFill s < j then j else ownFill s

/-- k_drain in pace state ps (R280). -/
def kDrain (s : State) (f : Rat) (ps : Nat) : Rat :=
  let lo : Rat := (fget s MOT_PACE_FOLLOW : Rat) / 100
  let hi : Rat := (fget s MOT_PACE_HOLD : Rat) / 100
  let vf : Rat := (clampNat 1 100 (fget s MOT_CTL_V_FLOOR) : Rat) / 100
  if 2 ≤ ps then 0
  else if fget s MOT_CTL_PACE_MODE ≠ 1 ∨ f ≤ lo then 1
  else 1 - (1 - vf) * (f - lo) / (hi - lo)

/-- k_cap (R279): the least of VCAP over the profile velocity, over the paced axes that move. -/
def kCap (s : State) : Rat :=
  ((List.range 8).filter fun m => paced s m && segSpeed s m != 0).foldl (fun a m =>
    let r : Rat := (vcap s m : Rat) / segSpeed s m
    if r < a then r else a) 1

/-- k_pantry (R279). -/
def kPantry (s : State) : Rat := (fget s MOT_PANTRY_KP : Rat) / 32768

/-- One step of k toward its target over dt seconds, within the limits of slope and jerk (R279): the slope turns back in time
to reach the target level. -/
def slewK (k v tgt ka kj dt : Rat) : Rat × Rat :=
  let e := tgt - k
  let dist := if e < 0 then -e else e
  let dir : Rat := if e < 0 then -1 else if e = 0 then 0 else 1
  let want := if 2 * kj * dist ≤ v * v ∧ 0 < v * dir then 0 else dir * ka
  let v2 := clampQ (v - kj * dt) (v + kj * dt) want
  let k2 := k + v2 * dt
  if (tgt - k2) * e ≤ 0 then (tgt, 0) else (clampQ 0 1 k2, v2)

/-- The pace state and its events from fill f (R280, R281, R496). The state that R280 gives while nothing holds it. -/
def lawState (s : State) (f : Rat) : Nat :=
  if fget s MOT_CTL_PACE_MODE = 1 ∧ (fget s MOT_PACE_FOLLOW : Rat) / 100 < f then 1 else 0

/-- The watermark events (R280, R288). -/
def watermarks (f : Rat) (s : State) : State :=
  let reaches (w : Nat) : Bool := decide ((w : Rat) / 100 ≤ f)
  let above := decide ((fget s MOT_PACE_FOLLOW : Rat) / 100 < f)
  let s := whenS (above && !s.mot.aboveFollow) (fun s => setFlag s MOT_EVENTS_FOLLOW true) s
  let s := { s with mot := { s.mot with aboveFollow := above } }
  if !s.mot.aboveHold && reaches (fget s MOT_PACE_HOLD) then
    setFlag { s with mot := { s.mot with aboveHold := true } } MOT_EVENTS_HELD true
  else if s.mot.aboveHold && decide (f ≤ (fget s MOT_PACE_RESUME : Rat) / 100) then
    setFlag { s with mot := { s.mot with aboveHold := false } } MOT_EVENTS_RESUMED true
  else s

/-- The pace state after an evaluation with fill f (R280, R281). -/
def paceState (f : Rat) (s : State) : State :=
  let ps := fget s MOT_STATUS_PSTATE
  let free := decide (f ≤ (fget s MOT_PACE_RESUME : Rat) / 100) && !s.mot.warnStop
  if 2 ≤ ps then
    if free then holdEnd (fset s MOT_STATUS_PSTATE (lawState s f)) else holdCheck s
  else if fget s MOT_CTL_PACE_MODE = 1 ∧ (fget s MOT_PACE_HOLD : Rat) / 100 ≤ f then holdCheck (fset s MOT_STATUS_PSTATE 2)
  else fset s MOT_STATUS_PSTATE (lawState s f)

/-- A follower enters and leaves HOLD with the master's PSTATE, and runs from its k (R466). -/
def followPace (s : State) : State :=
  let ps := s.hwy.flags % 4
  let s := { s with mot := { s.mot with k := (s.hwy.k : Rat) / 32768, kSlope := 0 } }
  let old := fget s MOT_STATUS_PSTATE
  let s := fsets s [(MOT_STATUS_PSTATE, ps), (MOT_STATUS_K, s.hwy.k)]
  if ps = 3 ∧ modeIs s .scan = true then
    let s := enterMode .hold 0 s
    let s := forN 8 startBackup { s with mot := { s.mot with holdAt := s.time } }
    schedule s (s.time + 600000 * max 1 (fget s MOT_HOLDTO_TIMEOUT)) .holdTimeout
  else if ps < 2 ∧ 2 ≤ old then holdEnd s
  else s

/-- k takes one step of 10 us toward its target, and MOT_STATUS reports it (R279, R466). The spec states no discrete law for k
(DESIGN CHOICE, log entry 32). -/
def paceStep (f : Rat) (s : State) : State :=
  let d := kDrain s f (fget s MOT_STATUS_PSTATE)
  let c := kCap s
  let p := kPantry s
  let j : Rat := if hwyMaster s then (s.hwy.klim : Rat) / 32768 else 1
  let least (a b : Rat) : Rat := if a < b then a else b
  let t := least (least d c) (least p j)
  let ka : Rat := (fget s MOT_PACERATE_KA : Rat) / 256
  let kj : Rat := (fget s MOT_PACERATE_KJ : Rat) / 256
  let r := slewK s.mot.k s.mot.kSlope t ka kj (1 / 100000)
  let lim (x : Rat) : Nat := b2n (decide (x = t) && decide (t < 1))
  let s := { s with mot := { s.mot with k := r.1, kSlope := r.2 } }
  let s := fsets s [(MOT_STATUS_K, (r.1 * 32768).floor.toNat), (MOT_STATUS_LIM_D, lim d), (MOT_STATUS_LIM_C, lim c), (MOT_STATUS_LIM_P, lim p)]
  forN 8 (fun m s =>
    let v := segSpeed s m
    let cap := vcap s m
    whenS (v != 0 && if paced s m then decide (c = t) && decide (t < 1) && decide ((cap : Rat) / v = c) else decide (cap < v))
      (fun s => setFlag s (MOT_AEVENTS_CAPPED m) true) s) s

/-! Admission (R286, R287, R466). -/

/-- The line area can take a document (R286). -/
def admRoom (s : State) : Bool :=
  let res := (s.mot.resv.map fun r => r.bytes).sum
  decide (1024 * (raw s MOT_ADMKIB + raw s MOT_ADMMARGIN) + fillBytes s + res ≤ lineArea s)

/-- The grant test (R286, R466, R507): room, the Pantry does not refuse, and in a joined system every member agrees. -/
def admMay (s : State) : Bool :=
  s.mot.admReq && fget s MOT_CTL_PACE_MODE == 2 && !flag s MOT_PANTRY_REFUSE && admRoom s && !hwyFollower s
    && (!s.hwy.joined || bitOf s.hwy.flags 5)

/-- An admission request (R286): granted at once, or it waits. -/
def admRequest (s : State) : State :=
  let s := { s with mot := { s.mot with admReq := true } }
  if admMay s then schedule s s.time .admissionGrant
  else fsets s [(MOT_ADMSTAT_WAITS, satAdd 0xFFFF (fget s MOT_ADMSTAT_WAITS) 1), (MOT_EVENTS_ADM_WAIT, 1)]

/-- WARN in admission mode: axes with PACE_EN = 0 stop once no admitted document is under way (R496). -/
def admStopCheck (s : State) : State :=
  if s.mot.admStop && s.mot.resv.isEmpty then
    forN 8 (fun m s => whenS (!paced s m) (controlledStop m) s) { s with mot := { s.mot with admStop := false } }
  else s

end Sys2Proof.Machine
end

