-- ==== Sys2Proof/Machine/Motion.lean ====
section
/-! DEFINITION. The commands of motion (spec/09). -/

namespace Sys2Proof.Machine

/-! Steps and encoders (R262 to R266, R290, R294). -/

/-- A step of axis m (R262, R290, R294): it counts in its segment; POS follows it unless an encoder is bound. -/
def axisStep (m : Nat) (fwd : Bool) (s : State) : State :=
  let x := getAxis s m
  let s := pmcEvent 0x20 (fset s (MOT_ASTATUS_DIR m) (b2n (!fwd)))
  let prof := fget s (MOT_ASTATUS_MOVE m) == 0
  let s := setAxis m { x with made := if prof then x.made + 1 else x.made, cmdSteps := x.cmdSteps + (if fwd then 1 else -1) } s
  let s := if flag s (MOT_ACTL_BIND m) then showErr m s else posMove m fwd s
  match curSeg s m with
  | some g => whenS (prof && axisMoving s m && g.kind == 0 && decide (g.dist ≤ (getAxis s m).made)) (segEnd m) s
  | none => s

/-- POS_CHANGE (R262, R263): the active edge of a step output. An axis that does not move, or whose enable delay runs (R292),
makes no step. -/
def execPosChange (m : Fin 8) (fwd : Bool) (s : State) : Host.Outcome State Fault Refusal :=
  if axisMoving s m && (getAxis s m).enPin && decide ((getAxis s m).readyAt ≤ s.time) then ok (axisStep m fwd s) else ok s

/-- The count that an accepted change of A or B makes (R264): none, or its direction; a and b are the new levels. -/
def encCount (s : State) (e : Nat) (aChg a b : Bool) : Option Bool :=
  let fwd := if aChg then a != b else a == b
  let dir := fwd != flag s (MOT_ECTL_INV e)
  match fget s (MOT_ECTL_DEC e) with
  | 0 => if aChg && !b then some dir else none
  | 1 => if aChg then some dir else none
  | _ => some dir

/-- One count of encoder e (R262, R264, R294): the raw count, and POS of the axes bound to it. -/
def encoderCount (e : Nat) (fwd : Bool) (s : State) : State :=
  let s := pmcEvent 0x21 (setRaw s (MOT_ECNT e) (if fwd then (raw s (MOT_ECNT e) + 1) % 2 ^ 32 else (raw s (MOT_ECNT e) + 2 ^ 32 - 1) % 2 ^ 32))
  forN 8 (fun m s =>
    if flag s (MOT_ACTL_BIND m) && fget s (MOT_ACTL_ENC m) == e then
      let x := getAxis s m
      posMove m fwd (showErr m (setAxis m { x with encCounts := x.encCounts + (if fwd then 1 else -1) } s))
    else s) s

/-- An illegal transition (R265). -/
def encoderIllegal (e : Nat) (s : State) : State :=
  let first := !flag s MOT_EVENTS_ENC_ERR
  let s := setRaw s (MOT_EERR e) (satAdd 0xFFFFFFFF (raw s (MOT_EERR e)) 1)
  let s := pmcEvent 0x22 (setFlag s MOT_EVENTS_ENC_ERR true)
  whenS first (raise 0 0xE 0x87 [e]) s

/-- ENCODER_EDGE (R264 to R266): the accepted levels of an encoder after a change. With EN = 0 they are followed without a
count. -/
def execEncoderEdge (e : Fin 4) (a b i : Bool) (s : State) : Host.Outcome State Fault Refusal :=
  let x := tget (fun _ => ({} : EncSt)) s.mot.encs e
  let s := { s with mot := { s.mot with encs := tset (fun _ => {}) s.mot.encs e ⟨a, b, i⟩ } }
  if !flag s (MOT_ECTL_EN e) then ok s
  else
    let ac := x.a != a
    let bc := x.b != b
    let s := if ac && bc then encoderIllegal e s
      else if ac || bc then
        match encCount s e ac a b with
        | some fwd => encoderCount e fwd s
        | none => s
      else s
    if flag s (MOT_ECTL_IDX_EN e) && i && !x.i then ok (setRaw s (MOT_EIDX e) (raw s (MOT_ECNT e))) else ok s

/-- MOT_EERR_READ (R14). -/
def execMotEerrRead (e : Fin 4) (s : State) : Host.Outcome State Fault Refusal := ok (rcRead (MOT_EERR e) s)

/-! Document sensors (R217, R222, R273 to R276, R286). -/

/-- POS of axis m at the first sample of a qualifying run. -/
def runPosOf (pos : List Int) (m : Nat) : Nat := posAdd 0 (pos.getD m 0)

/-- An edge reaches the documents of head h (R274 to R276). -/
def docEdge (k : Nat) (level : Bool) (pos : List Int) (h : Nat) (s : State) : State :=
  if !docEn s h || fget s (MOT_HDOC_DOC_DS h) != k || headState s h == 0 || docBlind s h then s
  else
    let p := runPosOf pos (fget s (HEAD_TRIG_AXIS h))
    if level then docCovered h p s else docClear h p s

/-- An edge reaches the guard sensor of head h (R217): its covered spans; a covering aborts a white run, a phase search in
CALIBRATE and a lamp run (R205, R222, R226, R233). -/
def guardEdge (k : Nat) (level : Bool) (pos : List Int) (h : Nat) (s : State) : State :=
  if fget s (SHD_HREF_GUARD_DS h) ≠ k then s
  else
    let p := runPosOf pos (fget s (HEAD_TRIG_AXIS h))
    let l := tget (fun _ => ([] : List (Nat × Option Nat))) s.shd.spans h
    let l := if level then l ++ [(p, none)]
      else match l.getLast? with
        | some (c, none) => l.dropLast ++ [(c, some p)]
        | _ => l
    let s := { s with shd := { s.shd with spans := tset (fun _ => []) s.shd.spans h l } }
    match runOf s h with
    | some r => if level && flag s (SHD_HREF_GUARD_EN h) && r.kind != 1 && !r.gap then abortRun h 0x58 s else s
    | none => s

/-- DOC_SENSOR_EDGE (R273): a qualified edge of sensor k, with TIME and POS of each axis at the first sample of its run. -/
def execDocSensorEdge (k : Fin 16) (level : Bool) (_runTime : Nat) (runPos : List Int) (s : State) :
    Host.Outcome State Fault Refusal :=
  let c := fget s MOT_DSSTATE_COVERED
  if bitOf c k = level then ok s
  else
    let s := fset s MOT_DSSTATE_COVERED (if level then setBit c k else clearBit c k)
    let s := sensorSegs k level s
    let s := forN 16 (fun h s => guardEdge k level runPos h (docEdge k level runPos h s)) s
    if !level && fget s MOT_CTL_PACE_MODE == 2 && fget s MOT_ADM_FEED_DS == k.val then ok (admRequest s) else ok s

/-- MOT_HDOC_WRITE (R596): clearing DOC_EN ends the open document. -/
def execMotHdocWrite (h : Fin 16) (v : Word) (s : State) : Host.Outcome State Fault Refusal :=
  ok (onWrite (MOT_HDOC h) (fun s =>
    let off := docEn s h && !bitOf v.toNat 31
    let s := whenS off (docDisable h) s
    writeRw (MOT_HDOC h) v.toNat s) s)

/-! Admission (R286, R287). -/

/-- ADMISSION_GRANT (R287): the release pulse and the reservation. -/
def execAdmissionGrant (s : State) : Host.Outcome State Fault Refusal :=
  if !admMay s then ok s
  else
    let o := fget s MOT_ADM_TO_SEL
    let t := s.time + 600 * max 1 (fget s MOT_ADM_REL_W)
    let old := if (docHeads s).isEmpty then [] else s.mot.resv
    let s := { s with mot := { s.mot with
      admReq := false, relOut := bset [] o true, relEnd := t, resv := old ++ [⟨1024 * raw s MOT_ADMKIB, [], []⟩] } }
    let s := fset s MOT_ADMSTAT_ADMITTED (satAdd 0xFFFF (fget s MOT_ADMSTAT_ADMITTED) 1)
    ok (schedule (pmcEvent 0x26 s) t .releasePulseEnd)

/-- RELEASE_PULSE_END (R287). -/
def execReleasePulseEnd (s : State) : Host.Outcome State Fault Refusal :=
  if s.mot.relEnd ≠ 0 ∧ s.mot.relEnd ≤ s.time then ok { s with mot := { s.mot with relEnd := 0, relOut := [] } } else ok s

/-- MOT_ADMSTAT_READ (R14). -/
def execMotAdmstatRead (s : State) : Host.Outcome State Fault Refusal := ok (rcRead MOT_ADMSTAT s)

/-! Fill, pace and HOLD (R280 to R285). -/

/-- MOT_FILL (R280). -/
def showFill (s : State) : State :=
  let res := (s.mot.resv.map fun r => r.bytes).sum
  let u := usableBytes s
  fsets s [(MOT_FILL_FILL, min 1023 (1024 * fillBytes s / u)), (MOT_FILL_RSV, min 1023 (1024 * res / u))]

/-- FILL_EVAL (R278 to R281, R286, R466): every 10 us. -/
def execFillEval (s : State) : Host.Outcome State Fault Refusal :=
  let s := showFill s
  let f := fillOf s
  let s := watermarks f s
  let s := if hwyFollower s then followPace s else paceStep f (paceState f s)
  if admMay s then ok (schedule s s.time .admissionGrant) else ok s

/-- AXIS_AT_REST (R281, R283, R291): a moving axis comes to rest; a stop or the end of a profile is over, a paced stop keeps
its profile. -/
def execAxisAtRest (m : Fin 8) (s : State) : Host.Outcome State Fault Refusal :=
  let k := fget s (MOT_ASTATUS_MOVE m)
  if !axisMoving s m || k == 1 || k == 2 then ok s
  else
    let s := if k = 3 then stopNow m s else axisRests m s
    ok (holdCheck s)

/-- BACKUP_MOVE_DONE (R282, R297). -/
def execBackupMoveDone (m : Fin 8) (s : State) : Host.Outcome State Fault Refusal :=
  let x := getAxis s m
  if fget s (MOT_ASTATUS_MOVE m) = 1 ∧ x.moveLeft = 0 ∧ x.takeUp = 0 then
    let s := setFlag (axisRests m s) (MOT_AEVENTS_BACKUP_DONE m) true
    if modeIs s .hold then ok s else ok (resumeAxis m s)
  else ok s

/-- RUNUP_DONE (R282). -/
def execRunupDone (m : Fin 8) (s : State) : Host.Outcome State Fault Refusal :=
  let x := getAxis s m
  if fget s (MOT_ASTATUS_MOVE m) = 2 ∧ x.moveLeft = 0 then
    match x.segs.head? with
    | some g => ok (startMove m 0 (b2n (decide (g.vEnd < 0))) s)
    | none => ok (axisRests m s)
  else ok s

/-- HOLD_TIMEOUT (R284). -/
def execHoldTimeout (s : State) : Host.Outcome State Fault Refusal :=
  if modeIs s .hold && decide (s.mot.holdAt + 600000 * max 1 (fget s MOT_HOLDTO_TIMEOUT) ≤ s.time) then
    ok (report 1 MOT_EVENTS_HOLD_TO [] s)
  else ok s

/-- MOT_PACE_WRITE (R298). -/
def execMotPaceWrite (v : Word) (s : State) : Host.Outcome State Fault Refusal :=
  ok (onWrite MOT_PACE (fun s =>
    let fo := bitsOf v.toNat 6 0
    let ho := bitsOf v.toNat 14 8
    let re := bitsOf v.toNat 22 16
    if 1 ≤ fo ∧ fo < ho ∧ ho ≤ 90 ∧ re < ho then writeRw MOT_PACE v.toNat s else setFlag s MOT_EVENTS_CFG_REJ true) s)

/-! Profiles (R289 to R291). -/

/-- Segment n of a profile block (R289). -/
def segOf (b : List Byte) (n : Nat) : Seg :=
  let i := 32 + 24 * n
  ⟨signed 32 (leAt b i 4), leAt b (i + 4) 4, leAt b (i + 8) 4, leAt b (i + 12) 4, byteAt b (i + 16), byteAt b (i + 17)⟩

/-- The block passes its own check (R290 item 1). A field of a segment outside its range fails it too. -/
def profileOk (s : State) (b : List Byte) : Bool :=
  let n := byteAt b 5
  let m := byteAt b 4
  let seg (k : Nat) : Bool :=
    let g := segOf b k
    decide (g.vEnd.natAbs ≤ fget s (MOT_AVMAX_VMAX m)) && g.aMax != 0 && g.jerk != 0 && decide (g.kind ≤ 3)
      && decide (g.ds ≤ 15) && zeroBytes b (50 + 24 * k) 6
  tagIs b 0x4D 0x50 0x46 0x31 && decide (m ≤ 7) && decide (1 ≤ n) && decide (n ≤ 16) && zeroBytes b 6 22
    && b.length == 32 + 24 * n && leAt b 28 4 == crc32 (b.take 28 ++ b.drop 32) && (List.range n).all seg

/-- A ramp from v0 to v1 under A_MAX and J fits in DIST (R290): the shortest ramp limited in jerk. -/
def rampFits (v0 v1 : Int) (g : Seg) : Bool :=
  let d := (v1 - v0).natAbs
  let sum := v0.natAbs + v1.natAbs
  let j := 1024 * g.jerk
  if g.aMax * g.aMax ≤ d * j then decide ((d * j + g.aMax * g.aMax) * sum ≤ 2 * g.dist * g.aMax * j)
  else decide (d * sum * sum ≤ j * g.dist * g.dist)

/-- Every ramp of a kind-0 segment fits, from the velocity that the segment before it ends with (R290). -/
def rampsFit : Int → List Seg → Bool
  | _, [] => true
  | v, g :: r => (g.kind != 0 || rampFits v g.vEnd g) && rampsFit g.vEnd r

/-- MOT_PROFILE (R289, R290): the bytes of the block have been read. -/
def execMotProfile (slot : Nat) (bytes : List Byte) (s : State) : Host.Outcome State Fault Refusal :=
  match cmdOf s slot 6 with
  | none => ok s
  | some _ =>
    let gs := (List.range (byteAt bytes 5)).map fun n => segOf bytes n
    let badLast := match gs.getLast? with | some g => g.kind == 0 && g.vEnd != 0 | none => false
    if !profileOk s bytes then ok (complete slot 0 0x24 s)
    else if !rampsFit 0 gs then ok (complete slot 0 0x25 s)
    else if badLast then ok (complete slot 0 0x26 s)
    else
      let m := byteAt bytes 4
      ok (complete slot gs.length 0 (setAxis m { getAxis s m with loaded := gs } s))

/-- MOT_ACMD_START (R291, R293). -/
def execMotAcmdStart (m : Fin 8) (s : State) : Host.Outcome State Fault Refusal :=
  ok (onWrite (MOT_ACMD m) (fun s =>
    let x := getAxis s m
    match x.loaded with
    | g :: _ =>
      if modeIn s [.scan, .calibrate, .service] && flag s (MOT_ACTL_EN m) && fget s (MOT_ASTATUS_STATE m) == 1 then
        let s := setAxis m { x with segs := x.loaded, made := 0, owesRunup := false } (fset s (MOT_ASTATUS_SEG m) 0)
        startMove m 0 (b2n (decide (g.vEnd < 0))) s
      else setFlag s MOT_EVENTS_CFG_REJ true
    | [] => setFlag s MOT_EVENTS_CFG_REJ true) s)

/-- MOT_ACMD_STOP (R291). -/
def execMotAcmdStop (m : Fin 8) (s : State) : Host.Outcome State Fault Refusal :=
  ok (onWrite (MOT_ACMD m) (fun s => dropProfile m (controlledStop m s)) s)

/-- MOT_ACMD_IMMEDIATE_STOP (R291). -/
def execMotAcmdImmediateStop (m : Fin 8) (s : State) : Host.Outcome State Fault Refusal :=
  ok (onWrite (MOT_ACMD m) (fun s => dropProfile m (holdCheck (stopNow m s))) s)

/-- IREF_STANDBY (R293). -/
def execIrefStandby (m : Fin 8) (s : State) : Host.Outcome State Fault Refusal :=
  let x := getAxis s m
  if flag s (MOT_ACTL_EN m) && flag s (MOT_ASTATUS_REST m)
      && decide (x.lastMove + 6000000 * fget s (MOT_AIREF_STBY_DLY m) ≤ s.time) then
    ok (setAxis m { x with iref := fget s (MOT_AIREF_STBY_DUTY m) } s)
  else ok s

/-! Axis faults (R294, R295). -/

/-- The step output of axis m stops by a fault, and MnEN goes inactive (R294). -/
def faultStop (m : Nat) (s : State) : State :=
  let x := getAxis s m
  let s := setAxis m { x with segs := [], moveLeft := 0, takeUp := 0, owesRunup := false, enPin := false, iref := 0, lastMove := s.time } s
  fsets s [(MOT_ASTATUS_STATE m, 3), (MOT_ASTATUS_REST m, 1), (MOT_ASTATUS_MOVE m, 0), (MOT_AVEL_VEL m, 0)]

/-- The condition of a following error (R294). -/
def followFails (s : State) (m : Nat) : Bool :=
  flag s (MOT_ACTL_BIND m) && fget s (MOT_AFE_FE_LIM m) != 0 && decide (fget s (MOT_AFE_FE_LIM m) < (followErr s m).natAbs)

/-- AXIS_FAULT (R294, R295): a following error, or a driver fault. -/
def execAxisFault (m : Fin 8) (drv : Bool) (s : State) : Host.Outcome State Fault Refusal :=
  if !drv && !followFails s m then ok s
  else
    let s := faultStop m s
    let s := setFlag s (if drv then MOT_AEVENTS_DRV_FAULT m else MOT_AEVENTS_FE_FAULT m) true
    let s := report 0 MOT_EVENTS_AXIS_FAULT [m] s
    if flag s (MOT_ACTL_FE_ACT m) then ok (haltCause haltAxis 0xE s) else ok (holdCheck s)

/-! XSYNC (R52, R74, R463). -/

/-- XSYNC_EDGE (R52): the selected edge; a joined master forwards it and acts on it with everybody (R463, R465), and a follower
leaves it to the master. -/
def execXsyncEdge (falling : Bool) (s : State) : Host.Outcome State Fault Refusal :=
  if !flag s CLK_CTL_XSYNC_EN || flag s CLK_CTL_XSYNC_EDGE != falling || !rootRuns s || modeIs s .sleep then ok s
  else if s.hwy.joined then ok (forwardCause 0 true true s)
  else ok (xsyncCause s)

end Sys2Proof.Machine
end

