-- ==== Sys2Proof/Machine/Lamp.lean ====
section
/-! DEFINITION. The commands of the lamp drive (spec/10). -/

namespace Sys2Proof.Machine

/-- SAT and STR of a string key. -/
def satOf (k : Nat) : Nat := k / 16
/-- STR of a string key. -/
def strOf (k : Nat) : Nat := k % 16

/-- The Housekeeper works: the machine is up and it is not paused (R23, R24). -/
def hkRuns (s : State) : Bool := !modeIs s .off && !modeIs s .sleep && !starting s && !s.fw.paused

/-! LAMP_LOAD (R303 to R306). -/

/-- Entry n of a lamp target block (R304). -/
def lampEntryOf (b : List Byte) (n : Nat) : LampEntry :=
  let i := 32 + 24 * n
  ⟨byteAt b i, byteAt b (i + 1), byteAt b (i + 2), byteAt b (i + 3), byteAt b (i + 4),
    (List.range 8).map fun k => leAt b (i + 8 + 2 * k) 2⟩

/-- Entries of a block. -/
def lampEntries (b : List Byte) : List LampEntry := (List.range (leAt b 4 4)).map (lampEntryOf b)

/-- The block's own check (R303 to R305): TAG, COUNT, reserved bytes, length, CRC. -/
def lampBlockOk (b : List Byte) : Bool :=
  let n := leAt b 4 4
  tagIs b 0x4C 0x54 0x42 0x31 && decide (1 ≤ n) && decide (n ≤ 2056) && zeroBytes b 8 20 && b.length == 32 + 24 * n
    && leAt b 28 4 == crc32 (b.take 28 ++ b.drop 32)
    && (List.range n).all fun k => zeroBytes b (32 + 24 * k + 5) 3 && decide (byteAt b (32 + 24 * k + 3) ≤ 15)

/-- Status of a block (R305): the lowest code that applies, 0 when it is accepted. -/
def lampBlockError (s : State) (b : List Byte) : Nat :=
  if !lampBlockOk b then 0x20
  else
    let es := lampEntries b
    let ks := es.map fun e => (e.sat, e.str)
    if ks.eraseDups.length ≠ ks.length then 0x21
    else if es.any fun e => decide (fget s LNK_STATUS_N < e.sat) then 0x22
    else if es.any fun e => (if e.sat = 0 then decide (15 < e.str) || decide (15 < e.head) else decide (7 < e.str)) then 0x23
    else 0

/-- A satellite of the block has not latched its table yet (R306). -/
def satsPending (s : State) : Bool :=
  s.lmp.entries.any fun e => e.sat != 0 && (tget (fun _ => ({} : Sat)) s.lnk.sats e.sat).latch

/-- LOADING completes at once where no satellite has a table to latch (R306). -/
def loadCheck (s : State) : State :=
  if s.lmp.load.isEmpty || satsPending s then s else schedule s s.time .lampLoadComplete

/-- Strings that are no longer in the block are dark (R305). -/
def darkOthers (s : State) : State :=
  let keep := s.lmp.entries.map fun e => strKey e.sat e.str
  let s := s.lmp.strs.foldl (fun s p =>
    if keep.contains p.1 then s
    else setStr p.1 { p.2 with drv := [], nxt := [], nxtAt := none, rise := [], riseAt := none, alone := 0, due := none, scount := 0 } s) s
  forN 16 showDrives s

/-- LAMP_LOAD (R303 to R306): the bytes of the block have been read. -/
def execLampLoad (slot : Nat) (bytes : List Byte) (s : State) : Host.Outcome State Fault Refusal :=
  match cmdOf s slot 5 with
  | none => ok s
  | some _ =>
    let e := lampBlockError s bytes
    -- during chain sizing the command waits until N is known (R489)
    if (s.lmp.load.any fun p => p.1 == slot) || fget s LNK_STATUS_STATE == 1 then ok s
    else if e ≠ 0 then ok (complete slot 0 e s)
    else
      let es := lampEntries bytes
      let s := { s with lmp := { s.lmp with entries := es, load := s.lmp.load ++ [(slot, es.length)] } }
      let s := fsets s [(LMP_STATUS_TABLE, 1), (LMP_STATUS_LOADING, 1)]
      -- renumbered satellites take tables again (R486)
      let s := { s with lnk := { s.lnk with sats := s.lnk.sats.map fun p => (p.1, { p.2 with renum := false }) } }
      ok (loadCheck (railFollow (recompute (darkOthers s))))

/-- LAMP_LOAD_COMPLETE (R306). -/
def execLampLoadComplete (s : State) : Host.Outcome State Fault Refusal :=
  if s.lmp.load.isEmpty || satsPending s then ok s
  else
    let l := s.lmp.load
    let s := setFlag { s with lmp := { s.lmp with load := [] } } LMP_STATUS_LOADING false
    ok (l.foldl (fun s p => complete p.1 p.2 0 s) s)

/-! Drives and the bus (R314 to R317). -/

/-- DRIVE_RECOMPUTE (R314). -/
def execDriveRecompute (s : State) : Host.Outcome State Fault Refusal := if hkRuns s then ok (recompute s) else ok s

/-- Offset of bin register r of sink k (R307). -/
def sbinOff (k r : Nat) : Nat := LMP_SBIN0 k + 4 * r

/-- LMP_SBIN_WRITE (R307, R314). -/
def execLmpSbinWrite (k : Fin 16) (r : Fin 4) (v : Word) (s : State) : Host.Outcome State Fault Refusal :=
  ok (onWrite (sbinOff k r) (fun s => schedule (writeRw (sbinOff k r) v.toNat s) s.time .driveRecompute) s)

/-- STROBE_END (R315). -/
def execStrobeEnd (k : Nat) (s : State) : Host.Outcome State Fault Refusal :=
  let x := getStr s k
  match x.strobe with
  | some q => if q.1 + q.2.1 ≤ s.time then ok (setStr k { x with strobe := none } s) else ok s
  | none => ok s

/-- LSTB_FALL (R316). -/
def execLstbFall (s : State) : Host.Outcome State Fault Refusal := ok { s with lmp := { s.lmp with lstb := false } }

/-- LBAND_HOLD_END (R316): LBAND takes the band of the bus head's next trigger. -/
def execLbandHoldEnd (s : State) : Host.Outcome State Fault Refusal :=
  match s.lmp.hold with
  | some t =>
    if t ≤ s.time then
      let h := fget s LMP_CTL_BUS_HEAD
      let b := match (getHead s h).lines.find? fun l => decide (l.stage = .accepted) with
        | some l => l.band
        | none => fget s (HEAD_STATUS_BAND h)
      ok (setLband b { s with lmp := { s.lmp with hold := none } })
    else ok s
  | none => ok s

/-- LMP_CNT_READ (R14). -/
def execLmpCntRead (s : State) : Host.Outcome State Fault Refusal := ok (rcRead LMP_CNT s)

/-! Diagnosis (R309, R324 to R328). -/

/-- STRING_DUE_TIMEOUT (R326). -/
def execStringDueTimeout (k : Nat) (s : State) : Host.Outcome State Fault Refusal :=
  let x := getStr s k
  if x.scount ≠ 0 ∧ x.firstShort + 60000 * max 1 (fget s LMP_DIAG_DUE_T) ≤ s.time then ok (makeDue k s) else ok s

/-- DIAG_LATE (R328). -/
def execDiagLate (k : Nat) (s : State) : Host.Outcome State Fault Refusal :=
  let x := getStr s k
  match x.due with
  | some t =>
    if t + 600000 ≤ s.time ∧ x.late = false then
      let s := fset (setStr k { x with late := true } s) LMP_CNT_DIAG_LATE (satAdd 0xFFFF (fget s LMP_CNT_DIAG_LATE) 1)
      ok (report 2 LMP_EVENTS_DIAG_LATE [satOf k, strOf k] s)
    else ok s
  | none => ok s

/-- What a pulse shows. -/
inductive Verdict where
  | good | opened | shorted | shortfall
  deriving DecidableEq, Repr

/-- Judge a pulse with commanded current i in 0.1 mA (R324, R325). -/
def judge (s : State) (b : Bin) (i : Rat) (m : PulseMeas) : Verdict :=
  let cur : Rat := (m.current : Rat) / 10
  if cur < i * clampNat 1 97 (fget s LMP_DIAG_OPEN_PCT) / 100 then .opened
  else if b.vf ≠ 0 ∧ (m.vf : Rat) < modelVf b cur * clampNat 1 100 (fget s LMP_DIAG_SHORT_PCT) / 100 then .shorted
  else if cur ≤ i * 98 / 100 then .shortfall
  else .good

/-- Tf after a forward-voltage measurement (R309), and LMP_SMEAS of a local sink. -/
def learnVf (k vfm : Nat) (i : Rat) (s : State) : State :=
  let b := binOf s k
  let x := getStr s k
  let t : Rat := if b.vf = 0 ∨ b.kv = 0 then 25 else x.tf + (tempOf b vfm i - x.tf) / 16
  let s := setStr k { x with tf := t } s
  if k < 16 then fsets s [(LMP_SMEAS_TEMP k, toField 16 (roundQ (10 * tfOf s k))), (LMP_SMEAS_VF k, vfm)] else s

/-- A headroom sample (R321). -/
def headSample (v sat str : Nat) (s : State) : State := { s with lmp := { s.lmp with hr := s.lmp.hr ++ [(v, sat, str)] } }

/-- LMP_LAST (R331). -/
def lmpLast (kind b k : Nat) (s : State) : State :=
  fsets s [(LMP_LAST_KIND, kind), (LMP_LAST_BAND, b), (LMP_LAST_SAT, satOf k), (LMP_LAST_STR, strOf k)]

/-- Highest code at which a local string's forward voltage and the headroom target fit VMAX (R332). -/
def codeCap (s : State) (k : Nat) : Nat :=
  let b := binOf s k
  if 16 ≤ k ∨ b.rd = 0 then 1023
  else
    let i : Rat := (b.iref : Rat) + ((vMax s : Rat) - hrTgt s - b.vf) * 10000 / b.rd
    (clampInt 0 1023 (1023 * i / fsOf s k).floor).toNat

/-- The drive of a sibling raised by M (R332): its charge times M, converted back with L linear, under the caps. -/
def raisedDrive (s : State) (k : Nat) (d : Drive) (m : Rat) : Drive :=
  let q : Rat := (d.code : Rat) / 1023 * d.wf / 65536 * m
  let n := driveFrom q cTh 1 id
  let cap := codeCap s k
  if cap < n.code then { n with code := cap, short := true } else n

/-- A dropped string meets its siblings in band b (R332 to R334): local siblings are raised from 20 us after detection, and the
band is flagged; without a sibling the deficit stays. -/
def dropInBand (e : LampEntry) (h b : Nat) (s : State) : State :=
  let k := strKey e.sat e.str
  let live := (siblings s e b).filter fun f => f != e && !isDropped s f
  let m : Rat := ((e.target b + sumTarget live b : Nat) : Rat) / sumTarget live b
  if sumTarget live b = 0 then
    let s := setStr k { getStr s k with alone := setBit (getStr s k).alone b } s
    let s := setDeficit (headBand h b) true (setFlag s LMP_EVENTS_NO_SIB true)
    limpCause SYS_LIMP_LAMP s
  else
    let s := if e.sat ≠ 0 then s else live.foldl (fun s f =>
      let x := getStr s f.str
      let base := match x.riseAt with | some _ => x.rise | none => x.drv
      let d := raisedDrive s f.str (tget (fun _ => {}) base b) m
      setStr f.str { x with rise := tset (fun _ => {}) base b d, riseAt := some (s.time + 12000) } s) s
    let s := { s with lmp := { s.lmp with redist := s.lmp.redist ++ [⟨k, h, b, s.time, false⟩] } }
    setFlag s LMP_EVENTS_REDIST true

/-- A string is found open (1) or short (2) in band b (R331 to R334, R340): it is dark from now on. -/
def dropString (k kind b : Nat) (s : State) : State :=
  match entryOf s k with
  | none => s
  | some e =>
    if isDropped s e then s
    else
      let s := setStr k { getStr s k with drop := kind, strobe := none, due := none, scount := 0 } s
      let s := fset s LMP_STATUS_DROPPED (satAdd 2047 (fget s LMP_STATUS_DROPPED) 1)
      let s := lmpLast kind b k (pmcEvent 0x1C s)
      let s := report 0 LMP_EVENTS_DROP [satOf k, strOf k, kind, e.bands] s
      let s := whenS (decide (k < 16)) (showDrives k) s
      match servedHead s e with
      | none => s
      | some h =>
        let s := forN 8 (fun b s => whenS (e.litIn b) (dropInBand e h b) s) s
        let s := schedule (schedule s (s.time + 12000) (.redistApply k)) (s.time + 150000) (.redistSettleEnd k)
        match runOf s h with
        | some r => if r.kind = 4 ∧ lampsSound s r = false then abortRun h 0x58 s else s
        | none => s

/-- Mark the band-line in whose strobe a pulse lay. -/
def markStrobe (q : Nat × Nat × Nat × Nat × Nat × Bool) (s : State) : State :=
  if q.2.2.2.2.2 then s
  else markLines q.2.2.2.1 (fun l => decide (l.fireAt = q.1) && decide (l.band = q.2.2.2.2.1)) flagLampDeficit s

/-- A diagnosed pulse of local string k at commanded current i (R309, R321, R324 to R326, R331). -/
def diagnose (k b : Nat) (i : Rat) (m : PulseMeas) (s : State) : State × Verdict :=
  let v := judge s (binOf s k) i m
  let x := getStr s k
  let s := setStr k { x with scount := 0, due := none, late := false, toDiag := none } s
  let s := cancel (cancel s (.stringDueTimeout k)) (.diagLate k)
  let s := whenS (decide (k < 16)) (fun s => fset s (LMP_SSTAT_SCOUNT k) 0) s
  match v with
  | .opened => (dropString k 1 b s, v)
  | .shorted => (dropString k 2 b s, v)
  | .shortfall => (headSample m.head (satOf k) (strOf k) (lmpLast 3 b k (learnVf k m.vf ((m.current : Rat) / 10) s)), v)
  | .good => (headSample m.head (satOf k) (strOf k) (learnVf k m.vf ((m.current : Rat) / 10) s), v)

/-- PULSE_DIAGNOSED (R325): a strobe or diagnostic pulse of a local string has reached t_DIAG. -/
def execPulseDiagnosed (k : Nat) (meas : PulseMeas) (s : State) : Host.Outcome State Fault Refusal :=
  match (getStr s k).toDiag with
  | none => ok s
  | some q =>
    if s.time < q.1 + 192 ∨ 16 ≤ k then ok s
    else
      let i : Rat := (fsOf s k : Rat) * q.2.2.1 / 1023
      let r := diagnose k q.2.2.2.2.1 i meas s
      if r.2 = .good then ok r.1 else ok (markStrobe q r.1)

/-- REDIST_APPLY (R333): raised drives apply from 20 us after the drop of string k. -/
def execRedistApply (k : Nat) (s : State) : Host.Outcome State Fault Refusal :=
  let hit (r : Redist) : Bool := r.key == k && !r.applied && decide (r.time + 12000 ≤ s.time)
  match s.lmp.redist.find? hit, entryOf s k with
  | some _, some e =>
    let bs := (s.lmp.redist.filter hit).map fun r => r.band
    let sibs := (bs.flatMap fun b => siblings s e b).filter fun f => f != e && f.sat == 0
    let s := sibs.foldl (fun s f =>
      let x := getStr s f.str
      match x.riseAt with
      | some t => if t ≤ s.time then showDrives f.str (setStr f.str { x with drv := x.rise, rise := [], riseAt := none } s) else s
      | none => s) s
    let one (r : Redist) : Redist := if hit r then { r with applied := true } else r
    ok (deficits { s with lmp := { s.lmp with redist := s.lmp.redist.map one } })
  | _, _ => ok s

/-- REDIST_SETTLE_END (R333): 250 us after the drop of string k. -/
def execRedistSettleEnd (k : Nat) (s : State) : Host.Outcome State Fault Refusal :=
  ok { s with lmp := { s.lmp with redist := s.lmp.redist.filter fun r => !(r.key == k && decide (r.time + 150000 ≤ s.time)) } }

/-! The rail (R320 to R323). -/

/-- The least headroom sample of the period, the first among equals. -/
def leastSample : List (Nat × Nat × Nat) → Option (Nat × Nat × Nat)
  | [] => none
  | x :: r => match leastSample r with
    | some y => if y.1 < x.1 then some y else some x
    | none => some x

/-- VSET after a servo period with least headroom h (R321). -/
def servoStep (s : State) (h : Nat) : Int :=
  let v : Int := fget s LMP_VSET_VSET
  if h < hrTgt s then v + hrTgt s - h + 50
  else if hrTgt s + fget s LMP_SERVO_DEADBAND < h then v - max 1 (fget s LMP_SERVO_DOWN_STEP)
  else v

/-- SERVO_PERIOD_END (R320, R321): VLAMP as measured and the rail current averaged over the period. -/
def execServoPeriodEnd (vmeas irail : Nat) (s : State) : Host.Outcome State Fault Refusal :=
  let s := fsets s [(LMP_VSET_VMEAS, vmeas), (LMP_IRAIL_IRAIL, irail)]
  let l := s.lmp.hr
  let s := { s with lmp := { s.lmp with hr := [] } }
  if !flag s LMP_STATUS_RAIL_ON then ok s
  else match leastSample l with
    | none => ok s
    | some x =>
      let old := fget s LMP_VSET_VSET
      let want := servoStep s x.1
      let new := (clampInt (vMin s) (vMax s) want).toNat
      let lim := decide (x.1 < hrTgt s) && decide (vMax s ≤ new)
      let s := fsets s [(LMP_VSET_VSET, new), (LMP_HMIN_HMIN, x.1), (LMP_HMIN_SAT, x.2.1), (LMP_HMIN_STR, x.2.2),
        (LMP_STATUS_SERVO_LIM, b2n lim)]
      let s := whenS lim (fun s => setFlag s LMP_EVENTS_SERVO_LIM true) s
      ok (whenS (decide (old < new)) (pmcEvent 0x1E) s)

/-- RAIL_OK_SET (R322). -/
def execRailOkSet (s : State) : Host.Outcome State Fault Refusal :=
  if flag s LMP_STATUS_RAIL_ON then
    ok (cancel { setFlag s LMP_STATUS_RAIL_OK true with lmp := { s.lmp with railSince := 0 } } (.railFault 2))
  else ok s

/-- RAIL_OK_CLEAR (R228, R322, R323): a lamp run loses its precondition; loss of regulation for 1 ms is a rail fault. -/
def execRailOkClear (s : State) : Host.Outcome State Fault Refusal :=
  if flag s LMP_STATUS_RAIL_ON && flag s LMP_STATUS_RAIL_OK then
    let s := { setFlag s LMP_STATUS_RAIL_OK false with lmp := { s.lmp with railSince := max 1 s.time } }
    let s := s.shd.runs.foldl (fun s r => if r.kind = 4 then abortRun r.head 0x58 s else s) s
    ok (schedule s (s.time + 600000) (.railFault 2))
  else ok s

/-- RAIL_FAULT (R323): overcurrent (0), over-voltage (1), or RAIL_OK clear for 1 ms (2). -/
def execRailFault (kind : Fin 3) (s : State) : Host.Outcome State Fault Refusal :=
  let lost := decide (s.lmp.railSince ≠ 0) && decide (s.lmp.railSince + 600000 ≤ s.time) && !flag s LMP_STATUS_RAIL_OK
  if !flag s LMP_STATUS_RAIL_ON || (kind.val == 2 && !lost) then ok s
  else
    let s := fsets (lampsDark s) [(LMP_LAST_KIND, 4), (LMP_LAST_BAND, 0), (LMP_LAST_SAT, 0), (LMP_LAST_STR, 0)]
    ok (haltCause haltRail 0xF (report 0 LMP_EVENTS_RAIL_FAULT [] s))

/-! LMP_CMD (R335, R339). -/

/-- Result of LMP_CMD. -/
def lmpCode (c : Nat) (s : State) : State := fset s LMP_CMDSTAT_CODE c

/-- LMP_CMD_RESTORE (R335). -/
def execLmpCmdRestore (sat str : BitVec 8) (s : State) : Host.Outcome State Fault Refusal :=
  ok (onWrite LMP_CMD (fun s =>
    let k := strKey sat.toNat (str.toNat % 16)
    match entryOf s k with
    | none => lmpCode 1 s
    | some e => lmpCode 0 (whenS (isDropped s e) (fun s => setStr k { getStr s k with restore := true } s) s)) s)

/-- LMP_CMD_RESTORE_ALL (R335). -/
def execLmpCmdRestoreAll (s : State) : Host.Outcome State Fault Refusal :=
  ok (onWrite LMP_CMD (fun s =>
    lmpCode 0 (s.lmp.entries.foldl (fun s e =>
      let k := strKey e.sat e.str
      whenS (isDropped s e) (fun s => setStr k { getStr s k with restore := true } s) s) s)) s)

/-- The lamp test is over (R339). -/
def testEnd (code : Nat) (s : State) : State :=
  let s := lmpCode code (setFlag { s with lmp := { s.lmp with test := [], testPulses := 0 } } LMP_CMDSTAT_BUSY false)
  railFollow s

/-- LMP_CMD_LAMP_TEST (R338, R339). The test pulses the local strings of the block that are not dropped; with nothing to drive
it is over at once. -/
def execLmpCmdLampTest (s : State) : Host.Outcome State Fault Refusal :=
  ok (onWrite LMP_CMD (fun s =>
    if !modeIs s .ready then lmpCode 2 s
    else if flag s LMP_CMDSTAT_BUSY then s
    else
      let ks := (s.lmp.entries.filter fun e => e.sat == 0 && !isDropped s e).map fun e => e.str
      if ks.isEmpty || !flag s LMP_CTL_EN then lmpCode 0 s
      else railFollow (lmpCode 0 (setFlag { s with lmp := { s.lmp with test := ks, testPulses := 0 } } LMP_CMDSTAT_BUSY true))) s)

/-- LAMP_TEST_PULSE (R325, R339): a pulse at IREF of the string under test, diagnosed. -/
def execLampTestPulse (meas : PulseMeas) (s : State) : Host.Outcome State Fault Refusal :=
  match s.lmp.test with
  | [] => ok s
  | k :: rest =>
    if !modeIs s .ready then ok (testEnd 2 s)
    else
      let i : Rat := (binOf s k).iref
      let s := pmcEvent 0x18 (fset s (LMP_SSTAT_CODE k) (clampInt 0 1023 (roundQ (1023 * i / fsOf s k))).toNat)
      let r := diagnose k 0 i meas s
      let s := r.1
      let dropped := r.2 == .opened || r.2 == .shorted
      let n := s.lmp.testPulses + 1
      if n < 16 && !dropped then ok { s with lmp := { s.lmp with testPulses := n } }
      else if rest.isEmpty then ok (testEnd 0 s)
      else ok { s with lmp := { s.lmp with test := rest, testPulses := 0 } }

end Sys2Proof.Machine
end

