-- ==== Sys2Proof/Machine/StartOps.lean ====
section
/-! DEFINITION. The end of a start, which step 16, the Hallway and the Attic share (spec/17, R515, R522, R527; spec/08, R245). -/

namespace Sys2Proof.Machine

/-- The start steps are over and READY is reached (R515, R522, R527): the banks that failed a check are named (R245). -/
def reachReady (s : State) : State :=
  let s := { s with start := { s.start with on := false, waitAll := false } }
  let s := fsets s [(SYS_STARTS_FAILS, 0), (SYS_STARTSTAT_STEP, 16)]
  let s := enterMode .ready 0 s
  let bad := s.att.bad
  bad.foldl (fun s k => report 0 ATT_EVENTS_BANK_BAD [k] s) { s with att := { s.att with bad := [] } }

/-- A SYS_LIMP bit that stands as READY is reached takes the device to LIMP on the next tick (R517). -/
def limpFollow (s : State) : State :=
  if modeIs s .ready && raw s SYS_LIMP != 0 then
    let k := ((List.range 7).find? fun i => bitOf (raw s SYS_LIMP) i).getD 0
    enterMode .limp k (setFlag s SYS_EVENTS_LIMP true)
  else s

end Sys2Proof.Machine
end

