-- ==== Sys2Proof/Machine/Hwy.lean ====
section
/-! DEFINITION. The commands of the Hallway (spec/15, R458 to R473, R489; spec/02, R45, R46, R53). -/

namespace Sys2Proof.Machine

/-! Replicas (R465). -/

/-- The replica as it stands once every change up to master tick t has been made. -/
def replicaAt (s : State) (a t : Nat) : Nat :=
  s.hwy.steps.foldl (fun p q =>
    if q.axis = a ∧ q.xsync = false ∧ q.cause ≤ t then posAdd p (if q.fwd then 1 else -1) else p) (nget s.hwy.repl a)

/-- Note a line lost during a fold (R471). -/
def noteLost (h : Nat) (s : State) : State :=
  if !s.hwy.folding then s
  else
    let n := raw s (HEAD_LINE h)
    let l := match s.hwy.lost.find? fun p => p.1 == h with
      | some _ => s.hwy.lost.map fun p => if p.1 = h then (p.1, p.2.1, n) else p
      | none => s.hwy.lost ++ [(h, n, n)]
    { s with hwy := { s.hwy with lost := l } }

/-- A grid point that a load of the replica has passed: handled as an overrun (R77, R78, R465). -/
def passedPoint (h : Fin 16) (s : State) : State :=
  let b := (getDoc s h).gband
  let tag := gridTag (gnext s h)
  if !sourceOpen s h then docAfterEnd h (gridAdvance h s)
  else if !(getHead s h).seenB0 && b != 0 then docAfterEnd h (gridAdvance h (ignoreCause h s))
  else
    let s := if b = 0 then lineBegin h tag false s else s
    docAfterEnd h (gridAdvance h (noteLost h (overrun h b tag false s)))

/-- Load the replica of master axis a (R465). -/
def loadReplica (a v : Nat) (s : State) : State :=
  let old := nget s.hwy.repl a
  let s := { s with hwy := { s.hwy with repl := nset s.hwy.repl a v } }
  let d := (v + posMod - old % posMod) % posMod
  if posMod / 2 ≤ d then s
  else
    (List.range 16).foldl (fun s h => match finOf 16 h with
      | some i =>
        if fget s (HEAD_TRIG_AXIS h) == a && fget s (HEAD_TRIG_TRIG_SRC h) == 0 && headState s h == 2 then
          let n := (256 * d * max 1 (nbands s h)) / max 1 (act s (HEAD_PITCH h)) + nbands s h + 1
          (List.range n).foldl (fun s _ =>
            if (256 * headPos s h + gridMod - gnext s h) % gridMod < gridMod / 2 then passedPoint i s else s) s
        else s
      | none => s) s

/-- MPOS of a superframe is compared with the replicas at MTIME; one that differs is loaded (R465). -/
def compareReplica (mtime : Nat) (mpos : Nat → Nat) (s : State) : State :=
  (List.range 8).foldl (fun s a =>
    if bitOf (fget s HWY_CTL_AXMASK) a && replicaAt s a mtime != mpos a then
      let left := s.hwy.steps.filter fun q => !(q.axis == a && !q.xsync && decide (q.cause ≤ mtime))
      loadReplica a (mpos a) (setFlag { s with hwy := { s.hwy with steps := left } } HWY_EVENTS_POS_SYNC true)
    else s) s

/-- One change of a replica axis, or one XSYNC cause, falls due (R465, R269, R74). -/
def applyStep (q : TokStep) (s : State) : State :=
  if q.xsync then xsyncCause s
  else
    let p := posAdd (nget s.hwy.repl q.axis) (if q.fwd then 1 else -1)
    let s := { s with hwy := { s.hwy with repl := nset s.hwy.repl q.axis p } }
    let s := whenS (hwyFollower s) (noteMove q.axis) s
    if q.fwd then crossings q.axis s else s

/-- Changes whose tick has come. -/
def execReplicaStep (s : State) : Host.Outcome State Fault Refusal :=
  let due := s.hwy.steps.filter fun q => decide (q.cause + 150 ≤ s.time)
  let later := s.hwy.steps.filter fun q => !decide (q.cause + 150 ≤ s.time)
  ok (due.foldl (fun s q => applyStep q s) { s with hwy := { s.hwy with steps := later } })

/-- The Hallway acts: its ports run and the block is awake. -/
def hwyRuns (s : State) : Bool := flag s HWY_CTL_EN && rootRuns s && !modeIs s .off && !modeIs s .sleep

/-- The master tick of a cause from byte B and the arrival tick less 10h, the nearest that fits (R465). -/
def causeTick (s : State) (b : Nat) : Nat :=
  let at0 := s.time - 10 * fget s CLK_STATUS_HOPS
  let d := (at0 + 256 - b % 256) % 256
  if d < 128 then at0 - d else at0 + (256 - d)

/-- A token arrives (R463, R465): it is repeated, and its change is made on t + 150. -/
def execTokenRx (a b : BitVec 8) (s : State) : Host.Outcome State Fault Refusal :=
  if !hwyRuns s || !hwyFollower s then ok s
  else
    let ty := bitsOf a.toNat 3 2
    let axis := bitsOf a.toNat 7 5
    let s := emit s (.token a.toNat b.toNat)
    if ty = 0 ∧ axisShared s axis = true then ok (addStep (causeTick s b.toNat) axis (!bitOf a.toNat 4) false s)
    else if ty = 1 then ok (addStep (causeTick s b.toNat) axis true true s)
    else ok s

/-! The superframe (R461, R462). -/

/-- The bytes of symbols 1 to 83, then the CRC; SOF stands as the byte of K28.5. -/
def sfSeal (body : List Byte) : List Byte :=
  let c := crc16 body
  bytesOf [0xBC] ++ body ++ leBytes c 2

/-- A superframe's CRC is right (R461). -/
def sfGood (b : List Byte) : Bool := decide (86 ≤ b.length) && crc16 ((b.drop 1).take 83) == leAt b 84 2

/-- This controller holds an uncovered fault (R462). -/
def anyFault (s : State) : Bool := raw s SYS_LIMP != 0 || modeIs s .halt

/-- This controller has completed its start steps (R462, R487). -/
def selfReady (s : State) : Bool := modeIn s upModes || (starting s && s.start.waitAll)

/-- KLIM of this controller, U1.15 (R462). -/
def ownKlim (s : State) : Nat :=
  let a := kCap s
  let b := kPantry s
  ((if a < b then a else b) * 32768).floor.toNat

/-- FLAGS of this controller without PSTATE (R462). -/
def ownFlags (s : State) : Nat :=
  128 * b2n (selfReady s) + 64 * b2n (anyFault s) + 32 * b2n (admRoom s) + 16 * b2n (flag s HWY_STATUS_FOLDED)

/-- Merge of FLAGS with this controller's own (R462). -/
def mergeFlags (f g : Nat) : Nat :=
  128 * b2n (bitOf f 7 && bitOf g 7) + 64 * b2n (bitOf f 6 || bitOf g 6) + 32 * b2n (bitOf f 5 && bitOf g 5)
    + 16 * b2n (bitOf f 4 || bitOf g 4) + f % 4

/-! The message slot (R467, R468): MCTL bytes and MDATA; bit 7 of the first byte is VALID. -/

/-- An empty slot. -/
def slotFreeOf (c : Nat × Nat × List Byte) : Bool := !bitOf c.1 7

/-- The empty slot itself. -/
def slotNone : Nat × Nat × List Byte := (0, 0, List.replicate 16 0)

/-- A part for this controller is taken (R467, R468); the whole host message goes to HWY_MRX. A Housekeeper message is taken
and ends in the Housekeeper. -/
def slotTake (c : Nat × Nat × List Byte) (s : State) : State × Bool :=
  let me := fget s HWY_STATUS_INDEX
  let src := c.2.1 % 16
  let part := bitsOf c.1 5 4
  let bcast := bitOf c.1 6
  if slotFreeOf c || src == me || !(bcast || c.1 % 16 == me) then (s, false)
  else
    let peer (s : State) := pmcEvents 0x3F { mst := some 2 } 1 s
    if !bitOf c.2.1 7 then (peer s, true)
    else if flag s HWY_MSTAT_RX_FULL || s.hwy.rx.length != 16 * part || (part != 0 && s.hwy.rxSrc != src) then (s, false)
    else
      let rx := s.hwy.rx ++ c.2.2.take 16
      let s := peer { s with hwy := { s.hwy with rx := rx, rxSrc := src } }
      if part < 3 then (s, true)
      else
        let s := forN 16 (fun i s => setRaw s (HWY_MRX i) (leAt rx (4 * i) 4)) { s with hwy := { s.hwy with rx := [] } }
        let s := fsets s [(HWY_MSTAT_RX_FULL, 1), (HWY_MSTAT_SRC, src)]
        (report 3 HWY_EVENTS_MSG_RX [src] s, true)

/-- The part that went out last has been taken: the next one is due, or the message is over (R468). -/
def partDone (s : State) : State :=
  match s.hwy.txPart with
  | some p =>
    let s := { s with hwy := { s.hwy with txOut := false, txPart := if p < 3 then some (p + 1) else none } }
    whenS (decide (3 ≤ p)) (fun s => setFlag s HWY_MSTAT_TX_BUSY false) s
  | none => s

/-- The part of this controller's message that goes next. -/
def ownPart (s : State) (p : Nat) : Nat × Nat × List Byte :=
  (128 + 64 * b2n (flag s HWY_MCTL_BCAST) + 16 * p + fget s HWY_MCTL_DST, 128 + fget s HWY_STATUS_INDEX,
    (List.range 4).flatMap fun i => leBytes (raw s (HWY_MTX (4 * p + i))) 4)

/-- A slot meets this controller's own message: a part that is no longer in the slot has been taken; the next part is placed
in an empty slot (R467, R468). -/
def slotPlace (c : Nat × Nat × List Byte) (s : State) : State × (Nat × Nat × List Byte) :=
  let mine := !slotFreeOf c && c.2.1 % 16 == fget s HWY_STATUS_INDEX && bitOf c.2.1 7
  let s := if s.hwy.txOut && !mine then partDone s else s
  match s.hwy.txPart with
  | some p =>
    if slotFreeOf c && !s.hwy.txOut then ({ s with hwy := { s.hwy with txOut := true } }, ownPart s p) else (s, c)
  | none => (s, c)

/-- A slot after its destination has taken it: a broadcast part goes on, the master clears it. -/
def slotAfter (c : Nat × Nat × List Byte) (taken : Bool) : Nat × Nat × List Byte :=
  if taken && !bitOf c.1 6 then slotNone else c

/-- The message slot of a superframe. -/
def slotOf (b : List Byte) : Nat × Nat × List Byte := (byteAt b 66, byteAt b 67, (b.drop 68).take 16)

/-- The bytes of symbols 66 to 83. -/
def slotBytes (c : Nat × Nat × List Byte) : List Byte := bytesOf [c.1, c.2.1] ++ c.2.2

/-- The master sends a superframe on both lanes (R461, R464 to R467). -/
def execSuperframeSend (s : State) : Host.Outcome State Fault Refusal :=
  if !hwyRuns s || !hwyMaster s || s.time % 600 != 0 then ok s
  else
    let r := slotPlace (s.hwy.slot.getD slotNone) s
    let s := r.1
    let mpos (a : Nat) := (getAxis s a).pos
    let seq := (s.hwy.seq + 1) % 256
    let body := bytesOf [seq, 0, ownFlags s + fget s MOT_STATUS_PSTATE] ++ leBytes s.time 8
      ++ (List.range 8).flatMap (fun a => leBytes (mpos a) 6) ++ leBytes (fget s MOT_STATUS_K) 2
      ++ leBytes (fget s MOT_FILL_FILL) 2 ++ leBytes (ownKlim s) 2 ++ slotBytes r.2
    let f := sfSeal body
    let s := emit (emit s (.superframe 0 f)) (.superframe 1 f)
    let s := { s with hwy := { s.hwy with seq := seq, sent := 0, slot := if slotFreeOf r.2 then none else some r.2 } }
    ok (compareReplica s.time mpos s)

/-! What comes back to the master (R462, R466, R467, R472). -/

/-- What the returns on the receivers in use say together. -/
def mergeReturns (s : State) : Nat × Nat × Nat :=
  let l := s.hwy.rets.filter fun r => flag s HWY_STATUS_FOLDED || r.1 == 0
  match l with
  | [] => (0, 65535, ownFlags s)
  | r :: t => t.foldl (fun a q => (max a.1 q.2.1, min a.2.1 q.2.2.1, mergeFlags a.2.2 q.2.2.2)) (r.2.1, r.2.2.1, r.2.2.2)

/-- A member has been lost, or a second break has occurred (R472). -/
def memberLost (s : State) : State := limpCause SYS_LIMP_HWY (report 0 HWY_EVENTS_MEMBER_LOST [] s)

/-- Every member is ready, or one has dropped out (R472, R487). -/
def readyFollow (s : State) : State :=
  if bitOf s.hwy.flags 7 then
    let s := { s with hwy := { s.hwy with allSeen := true } }
    if starting s && s.start.waitAll then reachReady s else s
  else if s.hwy.allSeen then
    let s := { s with hwy := { s.hwy with allSeen := false } }
    if hwyMaster s then memberLost s else s
  else s

/-- A fold shows in FLAGS: every member sets FOLDED (R471). -/
def foldSeen (f : Nat) (s : State) : State :=
  if bitOf f 4 && !flag s HWY_STATUS_FOLDED then
    let s := setFlag { s with hwy := { s.hwy with folding := true } } HWY_STATUS_FOLDED true
    schedule s (s.time + 150000) .foldComplete
  else s

/-- A superframe comes back to the master. -/
def masterRx (port : Nat) (b : List Byte) (s : State) : State :=
  let ret := (port, leAt b 62 2, leAt b 64 2, byteAt b 3)
  let s := { s with hwy := { s.hwy with rets := s.hwy.rets.filter (fun r => r.1 != port) ++ [ret] } }
  let s := foldSeen (byteAt b 3) s
  let m := mergeReturns s
  let s := readyFollow { s with hwy := { s.hwy with fill := m.1, klim := m.2.1, flags := m.2.2 } }
  if port == 0 || flag s HWY_STATUS_FOLDED then
    let c := slotOf b
    let t := slotTake c s
    let c2 := slotAfter c t.2
    let c3 := if bitOf c2.1 6 && s.hwy.slot == some c2 then slotNone else c2
    { t.1 with hwy := { t.1.hwy with slot := if slotFreeOf c3 then none else some c3 } }
  else s

/-! What a follower does with a superframe (R45, R46, R462, R465, R466, R470). -/

/-- TIME is loaded: the deadlines keep their distance. -/
def loadTime (t : Nat) (s : State) : State :=
  let move (x : Nat) : Nat := if s.time ≤ t then x + (t - s.time) else x - (s.time - t)
  let s := { s with time := t % 2 ^ 64 }
  let s := { s with agenda := s.agenda.map fun (p : Nat × Instr) => (move p.1, p.2) }
  { s with start := { s.start with begun := s.start.begun.map fun (p : Nat × Nat) => (p.1, max 1 (move p.2)) } }

/-- The offset from master TIME (R46), TIME_ALIGNED, and the steering, which no rule fixes: a free value within its range. -/
def alignFollow (mine : Nat) (s : State) : State :=
  let e : Int := (s.time : Int) - mine
  let d := draw s
  let st : Int := ((Config.freeValue 9 d.1).toNat % 40001 : Nat) - 20000
  let s := fsets d.2 [(CLK_TIME_ERR_ERR, toField 16 e), (CLK_STEER_STEER, toField 16 st)]
  if e.natAbs ≤ 2 then setFlag s CLK_STATUS_TIME_ALIGNED true
  else if flag s CLK_STATUS_TIME_ALIGNED then raise 0 1 0xA0 [] (setFlag s CLK_STATUS_TIME_ALIGNED false)
  else s

/-- The copy with the fewer hops is the one to use after a fold, and never that of a broken receiver (R471). -/
def foldLane (s : State) : Nat :=
  let a := nget s.hwy.hops 0
  let b := nget s.hwy.hops 1
  if bget s.hwy.broken 0 then 1 else if bget s.hwy.broken 1 then 0
  else if b ≠ 0 ∧ (a = 0 ∨ b < a) then 1 else 0

/-- Lane and hop distance of a follower after a fold (R53, R471). -/
def laneFollow (s : State) : State :=
  if flag s HWY_STATUS_MASTER then s
  else
    let l := foldLane s
    let n := nget s.hwy.hops l
    let h := if n ≠ 0 then n else if l = 1 then fget s HWY_STATUS_N - fget s HWY_STATUS_INDEX else fget s HWY_STATUS_INDEX
    fsets s [(HWY_STATUS_LANE, l), (CLK_STATUS_HOPS, h)]

/-- The copy that the follower uses: TIME, position, pace and flags. -/
def followRx (b : List Byte) (s : State) : State :=
  let hops := byteAt b 2 + 1
  let mtime := leAt b 4 8
  let s := if s.hwy.timeLoad then loadTime (mtime + 10 * hops) { s with hwy := { s.hwy with timeLoad := false } } else s
  let s := alignFollow (mtime + 10 * hops) s
  let s := { s with hwy := { s.hwy with
    k := leAt b 60 2, fill := leAt b 62 2, klim := leAt b 64 2, flags := byteAt b 3, seq := byteAt b 1 } }
  readyFollow (compareReplica mtime (fun a => leAt b (12 + 6 * a) 6) s)

/-- The copy as the follower repeats it on its lane (R461, R462, R467). -/
def repeatRx (port : Nat) (b : List Byte) (s : State) : State :=
  let merges := port == 0 || flag s HWY_STATUS_FOLDED
  let t : State × (Nat × Nat × List Byte) :=
    if merges then
      let c := slotOf b
      let t := slotTake c s
      slotPlace (slotAfter c t.2) t.1
    else (s, slotOf b)
  let s := t.1
  let fl := if merges then mergeFlags (byteAt b 3) (ownFlags s) else byteAt b 3
  let fill := if merges then max (leAt b 62 2) (fget s MOT_FILL_FILL) else leAt b 62 2
  let klim := if merges then min (leAt b 64 2) (ownKlim s) else leAt b 64 2
  let body := bytesOf [byteAt b 1, (byteAt b 2 + 1) % 256, fl] ++ (b.drop 4).take 58 ++ leBytes fill 2 ++ leBytes klim 2
    ++ slotBytes t.2
  emit s (.superframe port (sfSeal body))

/-- In a warm start the first valid superframe after step 2 shows whether the ring is unchanged (R525). -/
def ringLook (hop : Nat) (folded : Bool) (s : State) : State :=
  if modeIs s .warmStart && bget s.start.done 2 && s.hwy.same.isNone then
    { s with hwy := { s.hwy with
      same := some (hop == fget s HWY_STATUS_INDEX && folded == flag s HWY_STATUS_FOLDED) } }
  else s

/-- A superframe arrives on receiver U (0, the forward lane) or D (1, the reverse lane). It lands on the tick on which its
symbol 0 arrives (R462, R470). -/
def execSuperframeRx (port : Fin 2) (bytes : List Byte) (s : State) : Host.Outcome State Fault Refusal :=
  if !hwyRuns s || !s.hwy.joined then ok s
  else if !sfGood bytes then ok (fset s HWY_ERRCNT_CRC (satAdd 0xFFFF (fget s HWY_ERRCNT_CRC) 1))
  else if flag s HWY_STATUS_MASTER then ok (masterRx port bytes s)
  else
    let s := ringLook (byteAt bytes 2 + 1) (bitOf (byteAt bytes 3) 4) s
    let s := { s with hwy := { s.hwy with lastSf := some s.time, hops := nset s.hwy.hops port (byteAt bytes 2 + 1) } }
    let s := foldSeen (byteAt bytes 3) s
    let s := whenS s.hwy.folding laneFollow s
    let s := whenS (decide (fget s HWY_STATUS_LANE = port.val)) (followRx bytes) s
    let s := { s with hwy := { s.hwy with lastSf := some s.time } }
    ok (repeatRx port bytes s)

/-! Messages, enumeration, fold and joining (R468 to R473). -/

/-- HWY_MCTL is written; SEND starts the host message of HWY_MTX unless one is in transit. -/
def execHwyMsgSend (v : Word) (s : State) : Host.Outcome State Fault Refusal :=
  ok (onWrite HWY_MCTL (fun s =>
    let s := fsets s [(HWY_MCTL_BCAST, bitsOf v.toNat 4 4), (HWY_MCTL_DST, bitsOf v.toNat 3 0)]
    if bitOf v.toNat 8 && !flag s HWY_MSTAT_TX_BUSY then
      setFlag { s with hwy := { s.hwy with txPart := some 0, txOut := false } } HWY_MSTAT_TX_BUSY true
    else s) s)

/-- The master's ports hold symbol lock and enumeration is asked for: the enumeration superframe goes out on the forward
lane only, with HOP = 0 (R469). -/
def enumSend (s : State) : State :=
  if hwyRuns s && flag s HWY_STATUS_MASTER && s.hwy.enuming && bget s.hwy.lock 0 && bget s.hwy.lock 1 then
    let body := bytesOf [s.hwy.seq, 0, ownFlags s + fget s MOT_STATUS_PSTATE] ++ leBytes s.time 8
      ++ (List.range 8).flatMap (fun a => leBytes (getAxis s a).pos 6) ++ leBytes (fget s MOT_STATUS_K) 2
      ++ leBytes (fget s MOT_FILL_FILL) 2 ++ leBytes (ownKlim s) 2 ++ slotBytes slotNone
    emit s (.superframe 0 (sfSeal body))
  else s

/-- A receiver gains symbol lock (R469). -/
def execHwySymbolLock (port : Fin 2) (s : State) : Host.Outcome State Fault Refusal :=
  if !hwyRuns s then ok s
  else ok (enumSend { s with hwy := { s.hwy with lock := bset s.hwy.lock port true } })

/-- The ring is joined (R465, R469, R470). -/
def ringJoin (index n udly ddly : Nat) (s : State) : State :=
  let s := { s with hwy := { s.hwy with
    joined := true, enuming := false, broken := [], folding := false, lost := [], repl := [], steps := [], rets := []
    hops := [], allSeen := false, timeLoad := !flag s HWY_STATUS_MASTER, lastSf := some s.time, k := 32768, klim := 65535
    fill := 0, flags := 0, slot := none } }
  let s := fsets s [(HWY_STATUS_N, n), (HWY_STATUS_INDEX, index), (HWY_STATUS_ENUM_ERR, 0), (HWY_STATUS_FOLDED, 0),
    (HWY_STATUS_LANE, 0), (HWY_LINK_U_DLY, udly), (HWY_LINK_D_DLY, ddly), (CLK_STATUS_HOPS, index),
    (CLK_STATUS_TIME_ALIGNED, b2n (flag s HWY_STATUS_MASTER)), (SYS_LIMP_HWY, 0)]
  s

/-- Enumeration fails: the controller runs alone until the next one (R469, R473). -/
def ringFail (err : Nat) (s : State) : State :=
  let s := { s with hwy := { s.hwy with joined := false, enuming := false, allSeen := false } }
  let s := fsets s [(HWY_STATUS_ENUM_ERR, err), (CLK_STATUS_HOPS, 0), (CLK_STATUS_TIME_ALIGNED, b2n (rootRuns s))]
  setFlag s HWY_EVENTS_ENUM_FAIL true

/-- Enumeration ends (R469): own index, members, cause of a failure, and the link delays measured in 1/8 tick. -/
def execEnumerationDone (index n err udly ddly : Nat) (s : State) : Host.Outcome State Fault Refusal :=
  if !hwyRuns s || (flag s HWY_STATUS_MASTER && !s.hwy.enuming) then ok s
  else if err = 0 then
    if n = 0 ∨ 16 < n ∨ n ≤ index ∨ (flag s HWY_STATUS_MASTER = true ↔ index ≠ 0) ∨ 48 < udly ∨ 48 < ddly then ok s
    else if hwyMaster s && modeIs s .warmStart && n == fget s HWY_STATUS_N then
      ok { s with hwy := { s.hwy with enuming := false, same := some true, lastSf := some s.time } }
    else ok (ringJoin index n udly ddly s)
  else if err < 6 then ok (ringFail err s)
  else ok s

/-- A receiver without symbol lock for 2 us is broken (R471, R472, R489). -/
def execHwyBreak (port : Fin 2) (s : State) : Host.Outcome State Fault Refusal :=
  if !hwyRuns s || bget s.hwy.broken port || !(s.hwy.joined || s.hwy.enuming) then ok s
  else
    let second := flag s HWY_STATUS_FOLDED
    let s := { s with hwy := { s.hwy with lock := bset s.hwy.lock port false, broken := bset s.hwy.broken port true } }
    let s := setFlag s HWY_EVENTS_BREAK true
    if !s.hwy.joined then ok (ringFail 1 s)
    else if second then ok (if hwyMaster s then memberLost s else s)
    else
      let s := setFlag { s with hwy := { s.hwy with folding := true } } HWY_STATUS_FOLDED true
      ok (schedule s (s.time + 150000) .foldComplete)

/-- The fold is complete (R53, R471): lane, hop distance, and one P0 message for each head that lost lines. The replicas were
loaded by the superframes since the break. -/
def execFoldComplete (s : State) : Host.Outcome State Fault Refusal :=
  if !s.hwy.folding then ok s
  else
    let s := { s with hwy := { s.hwy with folding := false } }
    let s := laneFollow s
    let lost := s.hwy.lost
    let s := { s with hwy := { s.hwy with lost := [] } }
    ok (lost.foldl (fun s p => raise 0 0x11 (evCode HWY_EVENTS_BREAK) [p.1, p.2.1, p.2.2] s) s)

/-- A follower has received no valid superframe for 250 us (R472). -/
def isCutOff (s : State) : Bool :=
  hwyRuns s && hwyFollower s && !modeIs s .halt && match s.hwy.lastSf with | some t => decide (t + 150000 ≤ s.time) | none => false

/-- The follower is cut off. -/
def execHwyCutOff (s : State) : Host.Outcome State Fault Refusal :=
  if isCutOff s then ok (haltCause haltHwy 0x11 (setFlag s HWY_EVENTS_CUT_OFF true)) else ok s

/-- HWY_CMD.REJOIN (R472, R473, R489). -/
def execHwyRejoin (s : State) : Host.Outcome State Fault Refusal :=
  ok (onWrite HWY_CMD (fun s =>
    if !modeIs s .ready then setFlag s HWY_EVENTS_CMD_REJ true
    else if flag s HWY_CTL_EN && flag s HWY_STATUS_MASTER then enumSend { s with hwy := { s.hwy with enuming := true } }
    else s) s)

/-- The controller stands alone (R459). -/
def ringLeave (s : State) : State :=
  let s := { s with hwy := { joined := false, seq := s.hwy.seq } }
  fsets s [(HWY_STATUS_FOLDED, 0), (HWY_STATUS_LANE, 0), (HWY_STATUS_ENUM_ERR, 0), (HWY_STATUS_N, 0), (HWY_STATUS_INDEX, 0),
    (CLK_STATUS_HOPS, 0), (CLK_STATUS_TIME_ALIGNED, b2n (rootRuns s)), (HWY_MSTAT_TX_BUSY, 0)]

/-- Every head is OFFLINE. -/
def headsOffline (s : State) : Bool := (List.range 16).all fun h => headState s h == 0

/-- HWY_CTL is written (R459, R473). -/
def execHwyCtlWrite (v : Word) (s : State) : Host.Outcome State Fault Refusal :=
  ok (onWrite HWY_CTL (fun s =>
    let s := fset s HWY_CTL_AXMASK (bitsOf v.toNat 7 0)
    let was := flag s HWY_CTL_EN
    if bitOf v.toNat 31 then
      if was then s
      else if modeIs s .ready && headsOffline s then setFlag s HWY_CTL_EN true
      else setFlag s HWY_EVENTS_CMD_REJ true
    else if was then ringLeave (setFlag s HWY_CTL_EN false) else s) s)

/-- A read of HWY_ERRCNT (R14). -/
def execHwyErrcntRead (s : State) : Host.Outcome State Fault Refusal := ok (rcRead HWY_ERRCNT s)

end Sys2Proof.Machine
end

