-- ==== Sys2Proof/Machine/Link.lean ====
section
/-! DEFINITION. The commands of the lamp link (spec/15, R474 to R489). -/

namespace Sys2Proof.Machine

/-- One-wire mode (R474). -/
def oneWire (s : State) : Bool := flag s LNK_CTL_MODE

/-- Bytes of a page: the payload of a frame or share (R476, R478). -/
def pageBytes (s : State) : Nat := if oneWire s then 16 else 28

/-- Identity pages (R481). -/
def idPages (s : State) : Nat := if oneWire s then 9 else 6

/-- Bytes of a frame (R476) or of a share (R478). -/
def frameBytes (s : State) : Nat := pageBytes s + 4

/-- A frame whose CRC is right; bit 255 of a frame is bit 7 of its first byte. -/
def frameGood (s : State) (b : List Byte) : Bool :=
  let n := frameBytes s
  b.length == n && crc16 (b.take (n - 2)) == byteAt b (n - 2) * 256 + byteAt b (n - 1)

/-- A command frame or share. -/
def frameOf (s : State) (cmd page : Nat) (pay : List Byte) : List Byte :=
  let b := bytesOf [cmd, page] ++ (pay ++ List.replicate 28 0).take (pageBytes s)
  let c := crc16 b
  b ++ bytesOf [c / 256, c % 256]

/-- The satellite at a position. -/
def getSat (s : State) (p : Nat) : Sat := tget (fun _ => {}) s.lnk.sats p
/-- Replace the satellite at a position. -/
def setSat (p : Nat) (y : Sat) (s : State) : State := { s with lnk := { s.lnk with sats := tset (fun _ => {}) s.lnk.sats p y } }

/-- Satellites in the chain. -/
def chainN (s : State) : Nat := fget s LNK_STATUS_N

/-- Cycle time in us (R475, R478). -/
def cycleUs (s : State) (n : Nat) : Nat := if oneWire s then 2505 else (256 * n + 4) / 25

/-! The table image (R482). -/

/-- Bytes of the table image of the satellite at position p. -/
def tableImage (s : State) (p : Nat) : List Byte :=
  let h := fget s LMP_CTL_BUS_HEAD
  let ent (i : Nat) := entryOf s (strKey p i)
  let dk := (List.range 8).foldl (fun a b => if allowsDiag s h b then setBit a b else a) 0
  let drive (i b : Nat) : List Byte :=
    match ent i with
    | none => List.replicate 6 0
    | some e =>
      let d : Drive := if isDropped s e then {} else tget (fun _ => {}) (getStr s (strKey p i)).nxt b
      leBytes (d.code + 1024 * d.wf) 4 ++ leBytes (e.target b) 2
  (List.range 8).flatMap (fun b => leBytes (actField s (HEAD_BAND_EXPOSURE h b)) 4)
    ++ bytesOf [dk, fget s LMP_DIAG_DUE_N, fget s LMP_DIAG_DUE_T, fget s LMP_DIAG_OPEN_PCT, fget s LMP_DIAG_SHORT_PCT, 0, 0, 0]
    ++ (List.range 8).flatMap (fun i => leBytes (match ent i with | some e => e.sib | none => 0) 1)
    ++ (List.range 8).flatMap (fun i => (List.range 8).flatMap fun b => drive i b)
    ++ List.replicate 16 0

/-! What is sent next (R475, R477, R479). -/

/-- The command that position p is sent in the cycle that begins, with its page: identity pages that are missing, a check of
page 0, table pages, the latch, or NOP. -/
def nextCommand (s : State) (y : Sat) : Nat × Nat :=
  if y.ident.length < 144 then
    let cur := y.ident.length / pageBytes s
    if y.sent = 1 ∧ y.sentPage = cur then (if cur + 1 < idPages s then (1, cur + 1) else (0, 0)) else (1, cur)
  else if y.check then (if y.sent = 1 ∧ y.sentPage = 0 then (0, 0) else (1, 0))
  else
    match y.pages.filter fun g => !(y.sent == 2 && y.sentPage == g) with
    | g :: _ => (2, g)
    | [] => if y.pages.isEmpty && y.latch && y.sent != 3 then (3, 0) else (0, 0)

/-- The payload of a command. -/
def commandPayload (s : State) (p : Nat) (c : Nat × Nat) : List Byte :=
  if c.1 = 2 then ((tableImage s p).drop (c.2 * pageBytes s)).take (pageBytes s) else []

/-- A cycle begins: every position is sent its command (R475); in one-wire mode MARK shares follow (R479). -/
def cycleBegin (s : State) : State :=
  let n := chainN s
  let order := (List.range n).map fun i => if oneWire s then i + 1 else n - i
  let s := order.foldl (fun s p =>
    let y := getSat s p
    let c := nextCommand s y
    let s := setSat p { y with out := c.1, outPage := c.2 } s
    emit s (.lampFrame p (frameOf s c.1 c.2 (commandPayload s p c)))) s
  if oneWire s then
    (List.range (31 - n)).foldl (fun s i => emit s (.lampFrame (n + 1 + i) (frameOf s 0xA5 0 []))) s
  else s

/-! Sizing and identity (R480, R481, R488). -/

/-- Sizing begins (R480). -/
def sizeBegin (s : State) : State :=
  fset { s with lnk := { s.lnk with known := false, streak := 0, marks := none } } LNK_STATUS_STATE 1

/-- The check value over the serial numbers (R488). -/
def chainCheck (s : State) : Nat :=
  crc32 ((List.range (chainN s)).flatMap fun i => leBytes ((getSat s (i + 1)).serial.getD 0) 4)

/-- Identity is known: the link runs (R481, R488); tables of a block that stands are written. -/
def identityDone (s : State) : State :=
  let s := fset (setRaw s LNK_CHK (chainCheck s)) LNK_STATUS_STATE 3
  loadCheck (recompute { s with lnk := { s.lnk with known := true } })

/-- N from what sizing measured (R480): LCLK cycles until the MARK byte, or MARK shares returned; none is a chain fault. -/
def sizedN (s : State) (count : Option Nat) : Option Nat :=
  match count with
  | none => none
  | some c =>
    if oneWire s then (if c ≤ 31 then some (31 - c) else none)
    else if c % 256 = 0 ∧ 256 ≤ c ∧ c ≤ 65280 then some (c / 256) else none

/-- Sizing ends with N, or with a chain fault (R480, R533). -/
def execLinkSizingDone (count : Option Nat) (s : State) : Host.Outcome State Fault Refusal :=
  if fget s LNK_STATUS_STATE != 1 || !flag s LNK_CTL_EN then ok s
  else match sizedN s count with
  | none =>
    let s := setFlag { s with lnk := { s.lnk with sats := [] } } LNK_EVENTS_SIZE_FAULT true
    let s := fsets s [(LNK_STATUS_STATE, 0), (LNK_STATUS_N, 0), (LNK_STATUS_CYCLE, 0)]
    ok (whenS (starting s) (limpCause SYS_LIMP_LNK) s)
  | some n =>
    let s := whenS (decide (chainN s ≠ n)) (fun s => setFlag s LNK_EVENTS_CHAIN true) s
    let s := fsets s [(LNK_STATUS_N, n), (LNK_STATUS_CYCLE, cycleUs s n), (LNK_STATUS_STATE, 2)]
    let s := { s with lnk := { s.lnk with sats := [], marks := if oneWire s then some (31 - n) else none } }
    if n = 0 then ok (identityDone s) else ok (cycleBegin s)

/-- A warm start reads identity page 0 of the kept chain again (R488). -/
def verifyChain (s : State) : State :=
  let all := (List.range (chainN s)).foldl (fun s i => setSat (i + 1) { getSat s (i + 1) with check := true, sent := 255 } s) s
  let s := fset all LNK_STATUS_STATE 2
  if chainN s = 0 then sizeBegin s else cycleBegin s

/-- A bin record from its bytes (R307). -/
def binFrom (b : List Byte) (i : Nat) : Bin :=
  ⟨leAt b i 2, leAt b (i + 2) 2, leAt b (i + 4) 2, leAt b (i + 6) 2, signed 16 (leAt b (i + 8) 2), signed 16 (leAt b (i + 10) 2),
    leAt b (i + 12) 2, bitOf (leAt b (i + 14) 2) 15⟩

/-- The identity image of position p is complete (R481): full scales and bin records of its strings. -/
def identTaken (p : Nat) (b : List Byte) (s : State) : State :=
  forN 8 (fun i s =>
    let k := strKey p i
    let x := getStr s k
    if i < byteAt b 2 then setStr k { x with fs := 20 * byteAt b (8 + i), bin := binFrom b (16 + 16 * i) } s
    else setStr k { x with fs := 0, bin := {} } s) s

/-- A link fault at position p (R485, R517). -/
def linkFault (p : Nat) (s : State) : State :=
  let s := report 0 LNK_EVENTS_LINK_FAULT [p] { s with lnk := { s.lnk with deficit := true } }
  limpCause SYS_LIMP_LNK s

/-- Page 0 of position p shows another serial number (R485, R486): a satellite that moved in one-wire mode, a link fault where
one moved in a shift chain, or a replacement in place. Its strings are dark until a latch. -/
def serialChanged (p n : Nat) (pay : List Byte) (s : State) : State :=
  let moved := (List.range (chainN s)).any fun i => i + 1 != p && (getSat s (i + 1)).serial == some n
  let y := getSat s p
  let s := setSat p { y with
    ident := pay, serial := some n, check := false, dark := true, latch := false, pages := [], lit := some 0
    renum := moved && oneWire s } s
  if !moved then s
  else if oneWire s then setFlag s LNK_EVENTS_RENUM true
  else linkFault p s

/-- A page of the identity image arrives (R481, R486). -/
def takeIdent (p page : Nat) (pay : List Byte) (s : State) : State :=
  let y := getSat s p
  let pay := pay.take (pageBytes s)
  let whole := decide (144 ≤ y.ident.length)
  if page = 0 ∧ (whole = true ∨ y.check = true) ∧ y.serial.isSome = true then
    if y.serial = some (leAt pay 4 4) then setSat p { y with check := false, ident := if whole then y.ident else pay } s
    else serialChanged p (leAt pay 4 4) pay s
  else if !whole && y.ident.length == page * pageBytes s then
    let b := y.ident ++ pay
    let s := setSat p { y with
      ident := b, check := false, serial := if page = 0 then some (leAt pay 4 4) else y.serial } s
    if b.length < 144 then s
    else
      let s := identTaken p (b.take 144) s
      if fget s LNK_STATUS_STATE = 3 then recompute s else s
  else s

/-! Reports (R483). -/

/-- Commanded current of a satellite string in 0.1 mA, in the lowest band in which it is lit. -/
def satCurrent (s : State) (k : Nat) : Rat :=
  match entryOf s k with
  | none => 0
  | some e =>
    let b := ((List.range 8).find? fun b => e.litIn b).getD 0
    (fsOf s k : Rat) * (tget (fun _ => ({} : Drive)) (getStr s k).drv b).code / 1023

/-- What a report says of one string. The band of a fault and the string of HMIN are not in the report: free values. -/
def takeString (p i : Nat) (pay : List Byte) (vf : Nat) (s : State) : State :=
  let k := strKey p i
  let d := draw s
  let b := (Config.freeValue 10 d.1).toNat % 8
  let s := if bitOf (byteAt pay 2) i then dropString k 1 b d.2
    else if bitOf (byteAt pay 3) i then dropString k 2 b d.2
    else if bitOf (byteAt pay 5) i then lmpLast 3 b k d.2
    else s
  if vf ≠ 0 ∧ (getStr s k).drop = 0 then learnVf k vf (satCurrent s k) s else s

/-- A report (R309, R321, R331, R483). -/
def takeReport (p page : Nat) (pay : List Byte) (s : State) : State :=
  let hm := leAt pay 0 2
  let d := draw s
  let s := if hm = 0xFFFF then s else headSample hm p ((Config.freeValue 11 d.1).toNat % 8) d.2
  let y := getSat s p
  let s := setSat p { y with lit := some (byteAt pay 4), temp := signed 16 (leAt pay 6 2) } s
  forN 8 (fun i s =>
    let vf := if oneWire s then (if i / 4 = page then leAt pay (8 + 2 * (i % 4)) 2 else 0) else leAt pay (8 + 2 * i) 2
    takeString p i pay vf s) s

/-- A response with a valid CRC (R476, R477): it answers the command of the cycle before. -/
def takeResponse (p : Nat) (b : List Byte) (s : State) : State :=
  let st := byteAt b 0
  let page := byteAt b 1
  let pay := (b.drop 2).take (pageBytes s)
  let y : Sat := { getSat s p with status := st }
  let bad := bitOf st 5
  if y.sent = 1 then (if page = y.sentPage ∧ bad = false then takeIdent p page pay (setSat p y s) else setSat p y s)
  else
    let y := if y.sent = 2 ∧ bad = false ∧ page = y.sentPage then { y with pages := y.pages.erase page }
      else if y.sent = 3 ∧ bad = false ∧ y.pages = [] then { y with latch := false, dark := false }
      else y
    takeReport p page pay (setSat p y s)

/-- One position's response in a cycle: taken, or counted as an error (R485). -/
def satResponse (p : Nat) (b : List Byte) (s : State) : State :=
  let s := if (getSat s p).sent = 255 then s
    else if frameGood s b then takeResponse p b s
    else
      let y := getSat s p
      setSat p { y with check := y.check || y.serial.isSome } (setRaw s LNK_ERRCNT (satAdd 0xFFFFFFFF (raw s LNK_ERRCNT) 1))
  let y := getSat s p
  setSat p { y with sent := y.out, sentPage := y.outPage } s

/-- MARK shares that come back first (R479). -/
def markCount (frames : List (List Byte)) : Nat := (frames.takeWhile fun f => byteAt f 0 == 0xA5).length

/-- In one-wire mode N follows the MARK count (R479, R486): page 0 of every satellite is read again. -/
def chainFollow (m : Nat) (s : State) : State :=
  let n := 31 - m
  if s.lnk.marks = some m then s
  else
    let s := setFlag { s with lnk := { s.lnk with marks := some m } } LNK_EVENTS_CHAIN true
    let s := fset s LNK_STATUS_N n
    let s := { s with lnk := { s.lnk with sats := s.lnk.sats.filter fun p => decide (p.1 ≤ n) } }
    (List.range n).foldl (fun s i =>
      let y := getSat s (i + 1)
      setSat (i + 1) { y with check := true, dark := y.dark || y.serial.isNone } s) s

/-- What the cycle shows as a whole (R485): good is true when every satellite answered with a valid CRC, pos the first that did
not. -/
def cycleVerdict (good : Bool) (pos : Nat) (s : State) : State :=
  if good then
    let s := { s with lnk := { s.lnk with streak := 0, deficit := false } }
    setFlag s SYS_LIMP_LNK false
  else
    let n := min 9 (s.lnk.streak + 1)
    let s := { s with lnk := { s.lnk with streak := n } }
    whenS (decide (n = 8)) (linkFault pos) s

/-- A phase of the link ends with the cycle: identity is complete, or the kept chain has been read again (R481, R488). -/
def phaseEnd (good : Bool) (s : State) : State :=
  if fget s LNK_STATUS_STATE ≠ 2 then s
  else
    let ys := (List.range (chainN s)).map fun i => getSat s (i + 1)
    if s.lnk.known then
      if !good then sizeBegin s
      else if ys.any fun y => y.check then s
      else if chainCheck s = raw s LNK_CHK then fset s LNK_STATUS_STATE 3
      else sizeBegin s
    else if ys.all fun y => decide (144 ≤ y.ident.length) then identityDone s
    else s

/-- Satellites' tables are all active: the bus head's adjustment is over (R319). -/
def tablesFollow (s : State) : State :=
  let busy := s.lnk.sats.any fun p => p.2.latch || bitOf p.2.status 6
  let s := if s.lmp.satPend && !busy then { s with lmp := { s.lmp with satPend := false } } else s
  loadCheck s

/-- A cycle ends with the latch (R475, R478, R479, R485, R486): frames are the responses of positions 1 to N in a shift chain,
or the shares as LRET returned them in one-wire mode. -/
def execLinkCycleEnd (frames : List (List Byte)) (s : State) : Host.Outcome State Fault Refusal :=
  if !flag s LNK_CTL_EN || fget s LNK_STATUS_STATE < 2 || modeIs s .off || modeIs s .sleep then ok s
  else
    let s := pmcEvent 0x1F s
    if oneWire s && frames.length != 31 then
      let s := (List.range (chainN s)).foldl (fun s i =>
        let y := getSat s (i + 1)
        setSat (i + 1) { y with sent := y.out, sentPage := y.outPage, check := y.check || y.serial.isSome } s) s
      ok (cycleBegin (linkFault 0 s))
    else
      let m := markCount frames
      let fs := if oneWire s then frames.drop m else frames
      let s := if oneWire s then chainFollow m s else s
      let n := chainN s
      let bad := (List.range n).filter fun i => (getSat s (i + 1)).sent != 255 && !frameGood s (fs.getD i [])
      let s := (List.range n).foldl (fun s i => satResponse (i + 1) (fs.getD i []) s) s
      let good := bad.isEmpty && fs.length == n
      let s := cycleVerdict good (match bad with | i :: _ => i + 1 | [] => 0) s
      let s := tablesFollow (phaseEnd good s)
      ok (if 2 ≤ fget s LNK_STATUS_STATE then cycleBegin s else s)

/-- LNK_CMD.RESIZE (R486). -/
def execLnkResize (s : State) : Host.Outcome State Fault Refusal :=
  ok (onWrite LNK_CMD (fun s =>
    if flag s LNK_CTL_EN && (modeIs s .ready || modeIs s .hold) then sizeBegin s else s) s)

/-- A read of LNK_ERRCNT (R14). -/
def execLnkErrcntRead (s : State) : Host.Outcome State Fault Refusal := ok (rcRead LNK_ERRCNT s)

end Sys2Proof.Machine
end

