-- ==== Sys2Proof/Machine/Starts.lean ====
section
/-! DEFINITION. Cold and warm starts (spec/17, R522 to R529; spec/01, R16; spec/02, R35, R41; spec/08, R245 to R248, R255 to R260;
spec/05, R155; spec/06, R183, R196): what a start resets and keeps, its steps, and a failed start. -/

namespace Sys2Proof.Machine

/-! What a start resets and what it keeps (R16). -/

/-- Bits that neither reset value nor the marks of R16 govern, because they report something that goes on through a start: the
straps (R522, R567), the link (R597), the supplies (R496, R500, R501), the clocks, the ring, the Cellar and the flash of a warm
start, and the firmware that runs. -/
def liveMask (warm : Bool) (off : Nat) : Nat :=
  let all := 0xFFFFFFFF
  if off = SYS_STRAP ∨ off = HOST_STATUS ∨ off = PWR_VMEAS ∨ off = REC_STATUS then all
  else if off = PWR_STATUS then 0xD00003FF
  else if off = CLK_STATUS then (if warm then all else 9)
  else if warm ∧ (off = CEL_STATUS ∨ off = ATT_FLASH ∨ off = SYS_FWVER ∨ off = CLK_TIME_ERR ∨ off = CLK_STEER) then all
  else if warm ∧ off = HWY_STATUS then 0xFF0FFFFF
  else if warm ∧ off = SYS_FWSTAT then 0x40000000
  else 0

/-- Bits of a register that a start leaves as they stand (R16). -/
def startMask (warm : Bool) (off : Nat) : Nat :=
  let r := rowMasks off
  r.held ||| (if warm then r.kept else 0) ||| liveMask warm off

/-- The registers as a start leaves them (R16). -/
def startTable (warm : Bool) (t : Tbl Word) : Tbl Word :=
  t.foldl (fun a p =>
    let m := startMask warm p.1
    let v := (p.2.toNat &&& m) ||| ((regReset p.1).toNat &&& (0xFFFFFFFF ^^^ m))
    tset regReset a p.1 (BitVec.ofNat 32 v)) []

/-- The active copies as a start leaves them: a head that is not online runs from its pending copies (R84, R128). -/
def startActive (warm : Bool) (t : Tbl Word) : Tbl Word :=
  if warm then t.foldl (fun a p => tset regReset a p.1
    (BitVec.ofNat 32 ((p.2.toNat &&& (rowMasks p.1).kept) ||| ((regReset p.1).toNat &&& (0xFFFFFFFF ^^^ (rowMasks p.1).kept))))) []
  else []

/-- A group at a start: trims and residual sets are kept through a warm start (R134, R148, R155). -/
def startGroup (x : GroupSt) : GroupSt :=
  { trims := x.trims, resid := x.resid, fitted := x.fitted, passAt := x.passAt }

/-- The host interface at a start (R382, R597): packets not yet delivered and the pending sources are kept through a warm
start; commands in progress are lost. -/
def startHost (warm : Bool) (h : HostSt) : HostSt :=
  if warm then { perst := h.perst, isr := h.isr, holdEnd := h.holdEnd, openPkt := [], closed := h.closed ++ h.openPkt }
  else { perst := h.perst }

/-- The lamp drive at a start (R303, R306, R309, R311, R337): the block, its drives, Tf and the response tables are kept through a
warm start; every string is restored. -/
def startLamp (warm : Bool) (l : LmpSt) : LmpSt :=
  if warm then
    { entries := l.entries, resps := l.resps
      strs := l.strs.foldl (fun t p => tset (fun _ => {}) t p.1
        { drv := p.2.drv, tf := p.2.tf, bin := p.2.bin, fs := p.2.fs }) [] }
  else {}

/-- The motion block at a start (R263, R296): POS is kept through a warm start. -/
def startMot (warm : Bool) (m : MotSt) : MotSt :=
  { encs := m.encs
    axes := if warm then m.axes.foldl (fun t p => tset (fun _ => {}) t p.1 { pos := p.2.pos }) [] else [] }

/-- The Hallway at a start (R523, R525): a warm start keeps the ring as it stands. -/
def startHwy (warm : Bool) (h : HwySt) : HwySt :=
  if warm then { h with txPart := none, txOut := false, rx := [], slot := none, allSeen := false, same := none }
  else { lock := h.lock }

/-- The image calibration at a start (R207, R235): DREF, DSLOPE, DPER and the guard spans are kept through a warm start. -/
def startShd (warm : Bool) (c : ShdSt) : ShdSt :=
  if warm then { dref := c.dref, dslope := c.dslope, dper := c.dper, whiteAt := c.whiteAt, spans := c.spans } else {}

/-- The Attic at a start: banks, journal and fuses stand in their memories (R238, R254, R257). -/
def startAttic (a : AttSt) : AttSt := { bankA := a.bankA, bankB := a.bankB, jrnl := a.jrnl, fuses := a.fuses }

/-- The shading store and the lanes at a start (R177, R165, R196). -/
def startPipe (warm : Bool) (p : PipeSt) : PipeSt :=
  if warm then { p with laneRep := [], stage := none, reqs := [] } else {}

/-- The Pantry at a start (R511): budgets in force are kept through a warm start. -/
def startPwr (warm : Bool) (p : PwrSt) : PwrSt :=
  let b : PwrSt := { extest := p.extest, tmode := p.tmode, warnAt := p.warnAt }
  if warm then { b with avg := p.avg, peak := p.peak, avgAt := p.avgAt, peakAt := p.peakAt } else b

/-- Everything as a start leaves it, before its first step (R16). The Landing is empty, but for the start that ends SLEEP, through
which its messages are kept (R387, R402, R520). -/
def startReset (warm : Bool) (s : State) : State :=
  let s := recStart warm (auxStart s)
  { s with
    regs := startTable warm s.regs
    active := startActive warm s.active
    agenda := []
    shadow0 := none
    shadow4 := none
    shadowK := none
    fw := { s.fw with op := 0, paused := false, window := false }
    lnd := if warm && modeIs s .sleep then { s.lnd with port := none, seqs := [] } else {}
    pmc := {}
    host := startHost warm s.host
    heads := []
    taps := []
    groups := if warm then s.groups.foldl (fun t p => tset (fun _ => {}) t p.1 (startGroup p.2)) [] else []
    pipe := startPipe warm s.pipe
    pwr := startPwr warm s.pwr
    shd := startShd warm s.shd
    mot := startMot warm s.mot
    lmp := startLamp warm s.lmp
    att := startAttic s.att
    hwy := startHwy warm s.hwy
    lnk := if warm then { s.lnk with streak := 0, marks := none, deficit := false } else {} }

/-! The steps (R522). -/

/-- Steps that step n waits for (R522, R523). -/
def stepAfter (n : Nat) : List Nat :=
  match n with
  | 2 => [1] | 3 => [2] | 4 => [3] | 5 => [3] | 6 => [3] | 7 => [3] | 8 => [3] | 9 => [4] | 10 => [9] | 11 => [10]
  | 12 => [9, 11] | 13 => [12] | 14 => [5, 13] | 15 => [8, 14] | 16 => [6, 7, 10, 11, 12, 13, 15]
  | _ => []

/-- Step n has ended or was skipped. -/
def stepDone (s : State) (n : Nat) : Bool := bget s.start.done n

/-- Step n is in progress. -/
def stepRuns (s : State) (n : Nat) : Bool := !stepDone s n && nget s.start.begun n != 0

/-- Step n is skipped (R522). -/
def stepSkipped (s : State) (n : Nat) : Bool :=
  if n = 1 then true
  else if n = 10 ∨ n = 11 then !flag s HWY_CTL_EN
  else if n = 12 ∨ n = 13 then !flag s LNK_CTL_EN
  else s.start.warm && (n == 3 || n == 5 || n == 7 || n == 9)

/-- Step n counts as done. -/
def markDone (n : Nat) (s : State) : State := { s with start := { s.start with done := bset s.start.done n true } }

/-- What a step does as it begins: the re-lock of the root (R41), enumeration (R469), sizing (R480) or the check of the kept
chain (R488). -/
def stepBegin (n : Nat) (s : State) : State :=
  let s := { s with start := { s.start with begun := nset s.start.begun n (s.time + 1) } }
  match n with
  | 2 => if s.start.warm then s else fsets s [(CLK_STATUS_ROOT_LOCK, 0), (CLK_STATUS_CEL_LOCK, 0), (CLK_STATUS_TIME_ALIGNED, 0)]
  | 10 => enumSend { s with hwy := { s.hwy with enuming := true } }
  | 12 => if s.start.warm then verifyChain s else sizeBegin s
  | _ => s

/-- Begin, or skip, every step whose predecessors are done. -/
def stepsFollow (s : State) : State :=
  let s := (List.range 17).foldl (fun s _ => (List.range 17).foldl (fun s n =>
    if n = 0 || stepDone s n || stepRuns s n || !(stepAfter n).all (stepDone s) then s
    else if stepSkipped s n then markDone n s
    else stepBegin n s) s) s
  match (List.range 17).find? fun n => stepRuns s n with
  | some n => fset s SYS_STARTSTAT_STEP n
  | none => s

/-! The beginning of a start (R515, R522, R527). -/

/-- Free spare lanes (PIPE_STATUS.SPARES). -/
def sparesFree (s : State) : Nat :=
  ((List.range 2).filter fun k => spareLane s k == 0x3F && !bitOf (fget s PIPE_LANEMAP_SP_FAIL) k).length

/-- SLC_STATUS counts the retired slices, and those of them that the fuse repair map holds. -/
def countRetired (s : State) : State :=
  let l := (List.range 16).filter fun g => hasRetired s g
  fsets s [(SLC_STATUS_RETIRED, l.length), (SLC_STATUS_FACTORY, (l.filter fun g => flag s (SLC_GRETIRE_FACTORY g)).length)]

/-- A failed lane that no spare serves is uncovered again (R196). -/
def laneAgain (s : State) : State :=
  if (List.range 32).any fun a => bget s.pipe.zero a then setFlag (setFlag s SYS_LIMP_LANE true) SYS_EVENTS_LIMP true else s

/-- A start begins (R16, R515, R522, R527): everything takes its value for this start, the mode changes, and the first steps
begin. cause is the code of the mode message (R516). -/
def beginStart (warm : Bool) (cause : Nat) (s : State) : State :=
  let old := s.mode.mode
  let s := countRetired (startReset warm s)
  let s := fsets s [
    (PIPE_STATUS_SPARES, sparesFree s), (LMP_STATUS_TABLE, b2n !s.lmp.entries.isEmpty),
    (HWY_STATUS_MASTER, 1 - fget s SYS_STRAP_HWY_MASTER_N), (SYS_STARTSTAT_KIND, b2n warm), (SYS_STARTSTAT_STEP, 2)]
  let s := if warm then fset s SYS_STARTS_WARM (satAdd 4095 (fget s SYS_STARTS_WARM) 1)
    else fset s SYS_STARTS_COLD (satAdd 4095 (fget s SYS_STARTS_COLD) 1)
  let s := { s with mode := { s.mode with mode := old, origin := .off, heldStart := false, tests := 0 } }
  let s := { s with start := { on := true, warm := warm, early := [raw s HWY_CTL, raw s LNK_CTL, raw s CLK_CTL] } }
  let s := if warm then laneAgain s else s
  stepsFollow (enterMode (if warm then .warmStart else .coldStart) cause s)

/-! A failed start (R526). -/

/-- A step fails with a code (R526): the failure is recorded; a cold start is tried once more, then HALT follows. -/
def startFailed (n code : Nat) (s : State) : State :=
  let again := fget s SYS_STARTS_FAILS != 0
  let s := fsets s [(SYS_STARTSTAT_VALID, 1), (SYS_STARTSTAT_FKIND, b2n s.start.warm), (SYS_STARTSTAT_FSTEP, n),
    (SYS_STARTSTAT_CODE, code), (SYS_STARTS_FAILS, min 2 (fget s SYS_STARTS_FAILS + 1))]
  let s := report 0 SYS_EVENTS_START_FAIL [] s
  if again then haltCause haltStart 0 s else beginStart false code s

/-- Twice the Max of step n in ticks (R522, R526); none for the steps without a limit that the device can tell by TIME: the lock
of a cold start, during which TIME stands, and a cold firmware check, whose length depends on the image. -/
def stepLimit (warm : Bool) (n : Nat) : Option Nat :=
  match n with
  | 2 => if warm then some 120000 else none
  | 3 => some 60000
  | 4 => if warm then some 1200000 else none
  | 5 => some 9600000
  | 6 => some (if warm then 120000 else 24000000)
  | 7 => some 1200000
  | 8 => some 6480000
  | 9 => some 1200000
  | 10 => some 60000
  | 11 => some 1200000
  | 12 => some 3240000
  | 13 => some 6600000
  | 14 => some (if warm then 2400000 else 72000000)
  | 15 => some 120000
  | 16 => some 120000
  | _ => none

/-- The first step that has not ended within twice its Max (R526); WARN suspends the limit (R497). -/
def lateStep (s : State) : Option Nat :=
  if !starting s || flag s PWR_STATUS_WARN || s.start.waitAll then none
  else (List.range 17).find? fun n => stepRuns s n &&
    match stepLimit s.start.warm n with
    | some d => decide (nget s.start.begun n + d < s.time + 1)
    | none => false

/-- A step that is late fails the start with code 0x08 (R526). -/
def stepTimes (s : State) : State :=
  match lateStep s with
  | some n => startFailed n 8 s
  | none => s

/-! What each step leaves as it ends. -/

/-- Firmware slot choice (R529): the slot to start, none when no selected slot is valid. -/
def chooseSlot (s : State) : Option Nat :=
  let b := fget s SYS_STRAP_BOOT_SRC
  if b = 1 then (if s.fw.validA then some 0 else none)
  else if b = 2 then (if s.fw.validB then some 1 else none)
  else match s.fw.validA, s.fw.validB with
    | true, true => some (if s.fw.seqA < s.fw.seqB then 1 else 0)
    | true, false => some 0
    | false, true => some 1
    | false, false => none

/-- Step 4 of a cold start (R236, R529): the flash is discovered, and a slot is chosen. -/
def firmwareStep (nums : List Nat) (s : State) : State :=
  let n (i : Nat) : Nat := nums.getD i 0
  let s := if nums.isEmpty then s
    else
      let s := { s with fw := { s.fw with
        validA := n 0 == 1, seqA := n 1, verA := n 2, validB := n 3 == 1, seqB := n 4, verB := n 5 } }
      let good := decide (64 ≤ n 7) && decide (n 7 ≤ 512)
      fsets s [(ATT_FLASH_VALID, b2n good), (ATT_FLASH_MODE, if good then n 6 else 0), (ATT_FLASH_MBIT, if good then n 7 else 0)]
  match chooseSlot s with
  | some k => fsets s [(SYS_FWSTAT_ACTIVE, k), (SYS_FWVER_VERSION, if k = 0 then s.fw.verA else s.fw.verB)]
  | none => s

/-- A failing row is remapped at once (R181, R182, R183). -/
def bistRow (bank : Nat) (s : State) : State :=
  let n := fget s (PIPE_SPROW_USED bank) + 1
  let s := fsets s [(PIPE_SPROW_USED bank, n), (PIPE_EVENTS_ROW_REMAP, 1)]
  whenS (n == 64) (report 0 PIPE_EVENTS_SPARES_OUT [bank]) s

/-- Some bank has more than 64 failing rows (R183). -/
def bistBad (rows : List (Nat × Nat)) : Bool :=
  (List.range 17).any fun k => decide (64 < (rows.filter fun r => r.1 == k).length)

/-- Failing lanes of a lane test are mapped to spares (R196): spares first, then the active lanes in order; a lane that finds no
spare is uncovered (R195). -/
def laneTest (l : List Nat) (s : State) : State :=
  let s := (l.filter fun k => 32 ≤ k ∧ k < 34).foldl (fun s k =>
    fset s PIPE_LANEMAP_SP_FAIL (setBit (fget s PIPE_LANEMAP_SP_FAIL) (k - 32))) s
  let s := (l.filter fun k => k < 32).foldl (fun s k =>
    if bitOf (fget s PIPE_LANEFAIL_FAIL) k then s
    else
      let s := fset s PIPE_LANEFAIL_FAIL (setBit (fget s PIPE_LANEFAIL_FAIL) k)
      match freeSpare s with
      | some p => setSpare p k s
      | none => limpCause SYS_LIMP_LANE (report 0 PIPE_EVENTS_LANE_UNCOVERED [k] (laneDies k s))) s
  fset s PIPE_STATUS_SPARES (sparesFree s)

/-- Step 3 of a cold start (R257, R258): the fuse block. -/
def fuseStep (f : FuseBlock) (s : State) : State :=
  let s := { s with att := { s.att with fuses := f } }
  if !f.crcOk then setFlag s ATT_EVENTS_FUSE_BAD true
  else
    let s := setFlag s ATT_CTL_FUSE_COMPAT f.compat
    let s := forN 16 (fun g s =>
      let e := f.repair.getD g 0
      if 128 ≤ e ∧ e % 32 ≤ 16 then
        fsets s [(SLC_GRETIRE_VALID g, 1), (SLC_GRETIRE_FACTORY g, 1), (SLC_GRETIRE_SLICE g, e % 32)]
      else s) s
    countRetired s

/-- Step 6 (R21, R522): Cellar training, or the exit from self-refresh. -/
def cellarStep (nums : List Nat) (s : State) : State :=
  if s.start.warm then setFlag s CEL_STATUS_SREF false
  else
    let n (i : Nat) : Nat := nums.getD i 0
    let s := fsets s [(CEL_STATUS_TRAINED, 1), (CEL_STATUS_SREF, 0), (CEL_STATUS_RATE, n 0), (CEL_STATUS_DENS, min 3 (n 1)),
      (CEL_STATUS_CH_FAIL, 0)]
    whenS (decide (n 0 < 3)) (fun s => setFlag s CEL_EVENTS_RATE_LOW true) s

/-- Step 8 (R155): the start pass; what it retires is entered again once the retirement list has been read (R255, R256). -/
def passStep (runs : List (Nat × Nat × List SliceMeas)) (s : State) : State :=
  let was := (List.range 16).filter fun g => hasRetired s g
  let s := slcStartPass runs s
  let now := (List.range 16).filter fun g => hasRetired s g && !was.contains g
  { s with start := { s.start with retired := now.map fun g => (g, fget s (SLC_GRETIRE_SLICE g)) } }

/-- Checks 1 to 3 of R244. -/
def Bank.checks13 (b : Bank) : Bool :=
  tagIs b.hdr 0x41 0x54 0x42 0x31 && leAt b.hdr 60 4 == crc32 (b.hdr.take 60) && leAt b.hdr 4 4 == 0x725600B0
    && b.seq != 0 && b.seq != 0xFFFFFFFFFFFFFFFF
    && tagIs b.commit 0x41 0x54 0x43 0x31 && leAt b.commit 60 4 == crc32 (b.commit.take 60)
    && leAt b.commit 4 8 == b.seq && leAt b.commit 12 4 == leAt b.hdr 16 4

/-- The bank of the early read (R523): checks 1 to 3 and the RCRC of its register list; the higher SEQ, A when they are equal. -/
def earlyBank (s : State) : Option Bank :=
  let good (b : Bank) : Bool := b.checks13 && !b.regList.isEmpty && b.regList.all BankRec.good
  let a := s.att.bankA
  let b := s.att.bankB
  if flag s ATT_CTL_FUSE_COMPAT then none
  else match good a, good b with
    | true, true => some (if a.seq < b.seq then b else a)
    | true, false => some a
    | false, true => some b
    | false, false => none

/-- The values of HWY_CTL, LNK_CTL and CLK_CTL in force. -/
def earlyValues (s : State) : List Nat := [raw s HWY_CTL, raw s LNK_CTL, raw s CLK_CTL]

/-- Step 9 (R523): of the register list only the entries of HWY_CTL, LNK_CTL and CLK_CTL. -/
def earlyStep (s : State) : State :=
  let s := match earlyBank s with
    | none => s
    | some b => b.regList.foldl (fun s (r : BankRec) =>
        forN (r.payload.length / 8) (fun k s =>
          let off := leAt r.payload (8 * k) 4
          if off = HWY_CTL ∨ off = LNK_CTL ∨ off = CLK_CTL then writeRw off (leAt r.payload (8 * k + 4) 4) s else s) s) s
  { s with start := { s.start with early := earlyValues s } }

/-- The fuse path (R259, R260): the tap words. -/
def fusePath (s : State) : State :=
  let s := forN 256 (fun t s =>
    let w := s.att.fuses.taps.getD t 0
    let p := bitsOf w 11 9
    let s := fsets s [(TAP_PHASE_BASE t, 0), (TAP_PHASE_COARSE t, bitsOf w 31 25), (TAP_PHASE_FINE t, bitsOf w 24 22),
      (TAP_CLAMP_CLAMP t, bitsOf w 21 12), (TAP_CTL_REV t, bitsOf w 8 8), (TAP_CTL_INV t, bitsOf w 7 7),
      (TAP_CTL_MODE t, bitsOf w 6 6)]
    let s := setRaw s (TAP_PGA t) ((List.range 8).foldl (fun a b => a + p * 2 ^ (3 * b)) 0)
    activateAll s [TAP_PHASE t, TAP_PGA t]) s
  fset (setFlag s ATT_EVENTS_FUSE_USED true) ATT_STATUS_SOURCE 3

/-- The bank k fails a check: it was written, and it is not valid or does not read back (R245). -/
def bankFails (s : State) (bad : List Nat) (k : Nat) : Bool :=
  let b := bankOf s k
  b.written && (!b.valid || bad.contains k)

/-- Step 14 of a cold start (R245, R248): the bank to restore from, or the fuse path. bad names banks that do not read back. -/
def restoreStep (bad : List Nat) (s : State) : State :=
  let s := { s with att := { s.att with bad := [1, 2].filter fun k => bankFails s bad k } }
  let readable := bad.foldl (fun s k => setBank k {} s) s
  match (if flag s ATT_CTL_FUSE_COMPAT then none else chooseBank readable) with
  | some k => restoreBank k (bankOf s k) { s with start := { s.start with restored := true } }
  | none => if s.att.fuses.crcOk then fusePath s else s

/-- A cold start has lost its calibration source (R248). -/
def sourceLost (bad : List Nat) (s : State) : Bool :=
  let readable := bad.foldl (fun s k => setBank k {} s) s
  (flag s ATT_CTL_FUSE_COMPAT || (chooseBank readable).isNone) && !s.att.fuses.crcOk

/-- What step 14 of a warm start finds (R247): the kept state stands (0), a restore from the other bank (1 A, 2 B), or a
failure. -/
def warmCheck (s : State) (bad : List Nat) : Option Nat :=
  let k := fget s ATT_STATUS_SOURCE
  let good (j : Nat) : Bool := (bankOf s j).checks14 && !bad.contains j
  let o := 3 - k
  if (k = 1 ∨ k = 2) ∧ good k = true ∧ (bankOf s k).seq = attSeq s then some 0
  else if (k = 1 ∨ k = 2) ∧ good o = true ∧ attSeq s < (bankOf s o).seq ∧ (bankOf s o).check5 = true then some o
  else none

/-- Step 14 of a warm start that does not fail. -/
def warmStep (k : Nat) (s : State) : State :=
  if k = 0 then s else restoreBank k (bankOf s k) { s with start := { s.start with restored := true } }

/-- Steps 10 to 13 run again where the restore has changed what they ran under (R523). -/
def runAgain (s : State) : State :=
  if earlyValues s = s.start.early then s
  else
    let again (n : Nat) : Bool := n == 10 || n == 11 || n == 12 || n == 13
    let s := { s with start := { s.start with
      early := earlyValues s
      done := [10, 11, 12, 13].foldl (fun t n => bset t n false) s.start.done
      begun := s.start.begun.filter fun p => !again p.1 } }
    let s := whenS (!flag s HWY_CTL_EN && s.hwy.joined) ringLeave s
    whenS (!flag s LNK_CTL_EN) (fun s => fset s LNK_STATUS_STATE 0) s

/-- Step 15 (R155, R255, R256): the retirement list from the journal; slices that the start pass retired are entered again, and
every group with a retired slice has its guest committed. -/
def journalStep (s : State) : State :=
  let s := if !s.start.warm || s.start.restored then restoreJournal s
    else fset s ATT_JRNL_ENTRIES (jrnlFor s (attSeq s)).length
  let s := s.start.retired.foldl (fun s p =>
    if !hasRetired s p.1 then
      fsets s [(SLC_GRETIRE_VALID p.1, 1), (SLC_GRETIRE_FACTORY p.1, 0), (SLC_GRETIRE_SLICE p.1, p.2)]
    else if fget s (SLC_GRETIRE_SLICE p.1) = p.2 then s
    else uncover p.1 p.2 (if p.2 < 16 then some p.2 else none) s) s
  let s := forN 16 (fun g s =>
    let x := getGroup s g
    if hasRetired s g then
      let i := fget s (SLC_GRETIRE_SLICE g)
      let s := setGroup g { x with failed := bset x.failed i true } s
      suspend g (if i < 16 then commitGuest g i s else s)
    else if x.committed then
      let s := setGroup g { x with committed := false } (releaseGuest g s)
      fsets s [(SLC_SUSP_SUSP, clearBit (fget s SLC_SUSP_SUSP) g), (SLC_GSTATE_PHASE g, 0)]
    else s) s
  let s := countRetired s
  let late := s.att.late
  let s := { s with att := { s.att with late := [] } }
  let s := { s with start := { s.start with retired := [] } }
  if late.isEmpty then s else jrnlAppend (retirePayload s) s

/-- Page 0 of every satellite has been read. -/
def pagesZero (s : State) : Bool := (List.range (chainN s)).all fun i => (getSat s (i + 1)).serial.isSome

/-- The chain of a warm start is still being compared with the kept one (R488). -/
def chainVerifies (s : State) : Bool := fget s LNK_STATUS_STATE == 2 && s.lnk.known

/-- What a step waits for in the device itself: the locked root (R35), enumeration (R469), TIME (R470), the chain and the
identity pages (R480, R481). A sizing fault ends steps 12 to 14 (R526). -/
def stepMayEnd (s : State) (n : Nat) : Bool :=
  let st := fget s LNK_STATUS_STATE
  match n with
  | 2 => rootRuns s
  | 10 => s.hwy.joined && !(flag s HWY_STATUS_MASTER && s.hwy.enuming)
  | 11 => flag s CLK_STATUS_TIME_ALIGNED && !s.hwy.timeLoad
  | 12 => st == 0 || st == 3 || (st == 2 && !chainVerifies s)
  | 13 => st == 0 || st == 3 || (st == 2 && !chainVerifies s && pagesZero s)
  | 14 => !flag s LNK_CTL_EN || st == 0 || st == 3
  | _ => true

/-- The failure code of a step's report (R526); 0 when it did not fail. -/
def failCode (s : State) (n : Nat) (rep : StepReport) : Nat :=
  match n with
  | 2 => if rep.failed then 1 else 0
  | 4 => if s.start.warm then (if rep.failed then 2 else 0)
      else if (chooseSlot (firmwareStep rep.nums s)).isNone || rep.failed then 2 else 0
  | 5 => if bistBad rep.pairs then 3 else 0
  | 6 => if rep.failed || (!s.start.warm && rep.nums.getD 2 0 != 0) then 4 else 0
  | 7 => if 2 < rep.pairs.length then 5 else 0
  | 10 => if rep.failed || fget s HWY_STATUS_ENUM_ERR != 0 then 6 else 0
  | 14 => if s.start.warm && (warmCheck s (rep.pairs.map fun p => p.1)).isNone then 7 else 0
  | _ => 0

/-- What the end of step n does. -/
def stepEnds (n : Nat) (rep : StepReport) (s : State) : State :=
  match n with
  | 2 => setFlag s CLK_STATUS_CEL_LOCK true
  | 3 => match rep.fuses with | some f => fuseStep f s | none => s
  | 4 => if s.start.warm then s else firmwareStep rep.nums s
  | 5 => rep.pairs.foldl (fun s r => bistRow r.1 s) s
  | 6 => cellarStep rep.nums s
  | 7 => laneTest (rep.pairs.map fun p => p.1) s
  | 8 => passStep rep.runs s
  | 9 => earlyStep s
  | 14 =>
    let bad := rep.pairs.map fun p => p.1
    runAgain (if s.start.warm then warmStep ((warmCheck s bad).getD 0) s else restoreStep bad s)
  | 15 => journalStep s
  | _ => s

/-- START_STEP_DONE (R522): a step that has begun ends, or fails (R526); WARN holds the start (R497). -/
def execStartStepDone (step : Fin 17) (rep : StepReport) (s : State) : Host.Outcome State Fault Refusal :=
  let n := step.val
  if !starting s || !stepRuns s n || flag s PWR_STATUS_WARN then ok s
  else
    let code := failCode s n rep
    if code ≠ 0 then ok (startFailed n code s)
    else if !stepMayEnd s n then ok s
    else if n = 14 ∧ s.start.warm = false ∧ sourceLost (rep.pairs.map fun p => p.1) s = true then ok (haltCause haltCal 0xD s)
    else
      let s := stepsFollow (markDone n (stepEnds n rep s))
      if n = 16 then
        if s.hwy.joined then ok { s with start := { s.start with waitAll := true } } else ok (reachReady s)
      else ok s

/-- A warm start whose ring is unchanged skips steps 10 and 11 (R522, R525). -/
def ringFollow (s : State) : State :=
  if modeIs s .warmStart && stepRuns s 10 && s.hwy.same == some true then
    stepsFollow (markDone 11 (markDone 10 { s with hwy := { s.hwy with enuming := false } }))
  else s

/-- ROOT_LOCK (R35, R41): the root PLL locks in step 2 of a cold start; the clocks run and TIME is 0. -/
def execRootLock (s : State) : Host.Outcome State Fault Refusal :=
  if modeIs s .coldStart && stepRuns s 2 && !rootRuns s then
    let alone := !flag s HWY_CTL_EN || flag s HWY_STATUS_MASTER
    ok { fsets s [(CLK_STATUS_REF_OK, 1), (CLK_STATUS_ROOT_LOCK, 1), (CLK_STATUS_TIME_ALIGNED, b2n alone)] with time := 0 }
  else ok s

end Sys2Proof.Machine
end

