-- ==== Sys2Proof/Machine/Modes.lean ====
section
/-! DEFINITION. Mode requests, self-test, firmware, the Housekeeper, the PCIe link and clock faults (spec/17, R513 to R521, R528 to
R539; spec/02, R54 to R56; spec/01, R23; spec/11, R345, R346, R597). -/

namespace Sys2Proof.Machine

/-! Mode requests (R514, R515). -/

/-- A request or command is discarded (R514, R521). -/
def reqReject (s : State) : State := setFlag s SYS_EVENTS_REQ_REJ true

/-- The modes that a request may enter from the present one, and the mode that then follows (R515): none where the table does not
allow it. -/
def requestTarget (s : State) (t : Mode) : Option Mode :=
  match s.mode.mode, t with
  | .off, _ => none
  | .halt, .diagnose => some .diagnose
  | .halt, _ => none
  | .diagnose, .halt => some .halt
  | _, .halt => some .halt
  | .ready, .scan => some .scan
  | .ready, .calibrate => some .calibrate
  | .ready, .service => some .service
  | .ready, .diagnose => some .diagnose
  | .ready, .sleep => some .sleep
  | .scan, .ready => some .ready
  | .hold, .ready => some .ready
  | .calibrate, .ready => some .ready
  | .scan, .service => some .service
  | .hold, .service => some .service
  | .limp, .service => some .service
  | .service, .ready => some (if noLimp s then .ready else .limp)
  | .service, .scan => some (if noLimp s then .scan else .limp)
  | .limp, .ready => if noLimp s then some .ready else none
  | .diagnose, .ready => if s.mode.origin = .ready then some (if noLimp s then .ready else .limp) else none
  | _, _ => none

/-- The lowest SYS_LIMP bit that stands: the cause code of an entry to LIMP (R516). -/
def limpBit (s : State) : Nat := ((List.range 7).find? fun i => bitOf (raw s SYS_LIMP) i).getD 0

/-- Enter the mode that a request asks for. -/
def enterRequested (m : Mode) (s : State) : State :=
  match m with
  | .halt => haltCause haltHost 0 s
  | .sleep => enterSleep s
  | .limp => enterMode .limp (limpBit s) (setFlag s SYS_EVENTS_LIMP true)
  | m => enterMode m 0 s

/-- A request for mode t acts on its tick or is discarded (R514). -/
def request (t : Mode) (s : State) : State :=
  if t = s.mode.mode then s
  else match requestTarget s t with
    | some m => enterRequested m s
    | none => reqReject s

/-- A write of SYS_MODEREQ (R514): a reserved target is discarded. -/
def execSysModereq (v : Word) (s : State) : Host.Outcome State Fault Refusal :=
  ok (onWrite SYS_MODEREQ (fun s => match modeOf (bitsOf v.toNat 3 0) with
    | some t => request t s
    | none => reqReject s) s)

/-- SYS_CMD.START_COLD (R515, R594). -/
def execStartCold (s : State) : Host.Outcome State Fault Refusal :=
  if modeIs s .halt && !rootRuns s then ok { s with mode := { s.mode with heldStart := true } }
  else ok (onWrite SYS_CMD (fun s => if modeIs s .halt then beginStart false 0 s else reqReject s) s)

/-- SYS_CMD.START_WARM (R515); while the root does not run it asks for a cold start (R594). -/
def execStartWarm (s : State) : Host.Outcome State Fault Refusal :=
  if modeIs s .halt && !rootRuns s then ok { s with mode := { s.mode with heldStart := true } }
  else ok (onWrite SYS_CMD (fun s => if modeIs s .halt then beginStart true 0 s else reqReject s) s)

/-- The reference is present again: a start that was held begins as a cold start (R594). -/
def execHeldStartBegin (s : State) : Host.Outcome State Fault Refusal :=
  if modeIs s .halt && s.mode.heldStart && !rootRuns s then ok (beginStart false 0 (setFlag s CLK_STATUS_REF_OK true)) else ok s

/-- SYS_CMD.WAKE (R520). -/
def execWake (s : State) : Host.Outcome State Fault Refusal :=
  ok (onWrite SYS_CMD (fun s => if modeIs s .sleep then beginStart true 0 s else reqReject s) s)

/-! Self-test (R521). -/

/-- SYS_CMD.SELFTEST: the tests begin, or the write is discarded. Test 3 is not run while a packet is stored. -/
def execSelftest (tests : BitVec 4) (s : State) : Host.Outcome State Fault Refusal :=
  ok (onWrite SYS_CMD (fun s =>
    if modeIs s .diagnose && !flag s SYS_DIAG_BUSY then
      let blocked := decide (fillBytes s ≠ 0)
      { setRaw s SYS_DIAG 0x80000000 with mode := { s.mode with tests := tests.toNat + 16 * b2n blocked } }
    else reqReject s) s)

/-- The selected tests end (R521): lanes as in step 7 of a start, the start pass of the slices, the rows of the shading store. -/
def execSelftestDone (pass : BitVec 4) (rep : DiagReport) (s : State) : Host.Outcome State Fault Refusal :=
  if !flag s SYS_DIAG_BUSY then ok s
  else
    let t := s.mode.tests
    let s := whenS (bitOf t 0) (laneTest (rep.lanes.map fun k => k.val)) s
    let s := whenS (bitOf t 1) (slcStartPass rep.runs) s
    let s := whenS (bitOf t 2) (fun s => rep.found.foldl (fun s f => scrubOne s.pipe.once f s) s) s
    let good (k : Nat) : Bool := bitOf t k && bitOf pass.toNat k && !(k == 3 && bitOf t 4)
    let p := (List.range 4).foldl (fun a k => if good k then a + 2 ^ k else a) 0
    let f := (List.range 4).foldl (fun a k => if bitOf t k && !good k then a + 2 ^ k else a) 0
    let s := fsets { s with mode := { s.mode with tests := 0 } } [(SYS_DIAG_BUSY, 0), (SYS_DIAG_PASS, p), (SYS_DIAG_FAIL, f)]
    ok (report 2 SYS_EVENTS_DIAG_DONE [raw s SYS_DIAG] s)

/-- SYS_LOCK.LOCK (R15, R539). -/
def execSysLock (s : State) : Host.Outcome State Fault Refusal := ok (onWrite SYS_LOCK (fun s => setFlag s SYS_LOCK_LOCK true) s)

/-- A write of 1 to SYS_LIMP.CEL (R518). -/
def execSysLimpCelClear (s : State) : Host.Outcome State Fault Refusal :=
  ok (onWrite SYS_LIMP (fun s => setFlag s SYS_LIMP_CEL false) s)

/-! Firmware (R536 to R538). -/

/-- A firmware command ends with a code. -/
def fwEnds (code : Nat) (s : State) : State :=
  let s := fsets { s with fw := { s.fw with op := 0 } } [(SYS_FWSTAT_BUSY, 0), (SYS_FWSTAT_SWAP_PEND, 0), (SYS_FWSTAT_CODE, code)]
  setFlag s (if code = 0 then SYS_EVENTS_FW_DONE else SYS_EVENTS_FW_FAIL) true

/-- A firmware command is written: it begins, or is discarded while another is in progress, or is not permitted (R535, R538). -/
def fwBegin (op : Nat) (s : State) : State :=
  if flag s SYS_FWSTAT_BUSY then reqReject s
  else if !modeIn s upModes then fwEnds 4 s
  else setFlag { s with fw := { s.fw with op := op } } SYS_FWSTAT_BUSY true

/-- The active slot is B. -/
def activeB (s : State) : Bool := flag s SYS_FWSTAT_ACTIVE

/-- SEQ of the active slot. -/
def activeSeq (s : State) : Nat := if activeB s then s.fw.seqB else s.fw.seqA

/-- The inactive slot takes an image. -/
def putInactive (valid : Bool) (seq version : Nat) (s : State) : State :=
  if activeB s then { s with fw := { s.fw with validA := valid, seqA := seq, verA := version } }
  else { s with fw := { s.fw with validB := valid, seqB := seq, verB := version } }

/-- SYS_FWCMD.OP = 1 (R536): the image is read from the host. -/
def execFwWrite (s : State) : Host.Outcome State Fault Refusal := ok (onWrite SYS_FWCMD (fwBegin 1) s)

/-- The write of an image ends (R536, R538). It waits while a save runs. -/
def execFwWriteDone (rep : FwReport) (s : State) : Host.Outcome State Fault Refusal :=
  if s.fw.op ≠ 1 then ok s
  else if !rep.readOk then ok (fwEnds 8 s)
  else if !rep.valid then ok (fwEnds 1 s)
  else if rep.seq ≤ activeSeq s then ok (fwEnds 2 s)
  else if s.att.step ≠ 0 then ok s
  else if !rep.flashOk then ok (fwEnds 3 (putInactive false 0 0 s))
  else ok (fwEnds 0 (putInactive true rep.seq rep.version s))

/-- SYS_FWCMD.OP = 2 (R537): the image of the inactive slot is loaded and verified. -/
def execFwSwap (s : State) : Host.Outcome State Fault Refusal := ok (onWrite SYS_FWCMD (fwBegin 2) s)

/-- Verification of the shadow image ends (R537): the swap waits for a document gap, or has failed. -/
def execFwSwapReady (rep : FwReport) (s : State) : Host.Outcome State Fault Refusal :=
  if s.fw.op ≠ 2 ∨ flag s SYS_FWSTAT_SWAP_PEND = true then ok s
  else if !rep.valid then ok (fwEnds 5 s)
  else ok (setFlag (putInactive true rep.seq rep.version s) SYS_FWSTAT_SWAP_PEND true)

/-- The present tick is a document gap (R537). -/
def docGap (s : State) : Bool :=
  !modeIn s [.scan, .hold, .limp] || (docHeads s).all fun h => !docOpen s h

/-- The Housekeeper pauses for at most d ticks (R23). -/
def hkPause (d : Nat) (s : State) : State :=
  schedule { s with fw := { s.fw with paused := true } } (s.time + d) .hkPauseEnd

/-- The slots exchange roles. -/
def swapSlots (s : State) : State :=
  let k := if activeB s then 0 else 1
  fsets s [(SYS_FWSTAT_ACTIVE, k), (SYS_FWVER_VERSION, if k = 0 then s.fw.verA else s.fw.verB)]

/-- At the first document gap the Housekeeper pauses and resumes on the new image (R537); the revert window opens (R538). -/
def execFwSwapExecute (s : State) : Host.Outcome State Fault Refusal :=
  if flag s SYS_FWSTAT_SWAP_PEND && docGap s then
    let s := fwEnds 0 (swapSlots s)
    let s := hkPause 1200000 { s with fw := { s.fw with window := true } }
    ok (schedule (cancel s .revertWindowEnd) (s.time + 600000000) .revertWindowEnd)
  else ok s

/-- SYS_FWCMD.OP = 3 (R537): a swap in progress is cancelled. -/
def execFwSwapCancel (s : State) : Host.Outcome State Fault Refusal :=
  ok (onWrite SYS_FWCMD (fun s => if s.fw.op = 2 then fwEnds 7 s else reqReject s) s)

/-- The revert window ends (R538). -/
def execRevertWindowEnd (s : State) : Host.Outcome State Fault Refusal := ok { s with fw := { s.fw with window := false } }

/-- The previous image is reloaded within the revert window (R538). -/
def fwRevert (s : State) : State :=
  let s := swapSlots s
  let s := putInactive false 0 0 { s with fw := { s.fw with window := false } }
  let s := fset s SYS_FWSTAT_CODE 6
  hkPause 7200000 (cancel (cancel (report 0 SYS_EVENTS_FW_REVERT [] s) .hkPauseEnd) .revertWindowEnd)

/-- A Housekeeper fault (R531). -/
def execHousekeeperFault (s : State) : Host.Outcome State Fault Refusal :=
  if modeIs s .off then ok s
  else if starting s then
    match (List.range 17).find? fun n => stepRuns s n with
    | some n => ok (startFailed n 9 s)
    | none => ok (startFailed 16 9 s)
  else if s.fw.window then ok (fwRevert s)
  else ok (haltCause haltHk 0x3F s)

/-- A Housekeeper pause ends (R23, R24): the command ring is served again, and what the pause interrupted goes on. -/
def execHkPauseEnd (s : State) : Host.Outcome State Fault Refusal :=
  if s.fw.paused then ok (deferredSave { s with fw := { s.fw with paused := false } }) else ok s

/-! The PCIe link (R345, R346, R530, R597). -/

/-- The link goes down (R346, R530): Bus Master Enable clears with the core's configuration. -/
def linkLoss (s : State) : State :=
  if !flag s HOST_STATUS_LINK_UP then s
  else
    let s := fsets s [(HOST_STATUS_LINK_UP, 0), (HOST_STATUS_BME, 0), (HOST_STATUS_WIDTH, 0), (HOST_STATUS_SPEED, 0)]
    if modeIs s .off || starting s then s
    else
      let s := hostEvent HOST_EVENTS_LINK_DOWN s
      if modeIs s .sleep then s else haltCause haltLink 3 s

/-- LINK_DOWN (R346). -/
def execLinkDown (s : State) : Host.Outcome State Fault Refusal := ok (linkLoss s)

/-- The MSI-X table and PBA take their reset state (R382). -/
def msixReset (s : State) : State :=
  let s := forN 64 (fun v s => setRaw (setRaw (setRaw (setRaw s (MSIX_ADDR_LO v) 0) (MSIX_ADDR_HI v) 0) (MSIX_DATA v) 0)
    (MSIX_CTRL v) 1) s
  forN 2 (fun k s => setRaw s (MSIX_PBA k) 0) s

/-- PERST_N low for 1 us: conventional reset of the PCIe core (R382, R530). -/
def execPerst (s : State) : Host.Outcome State Fault Refusal :=
  ok (linkLoss (msixReset { s with host := { s.host with perst := true } }))

/-- PERST_N goes high (R530): the core trains once ROOT_LOCK is set; linkUp reports the link. -/
def execPerstRelease (s : State) : Host.Outcome State Fault Refusal := ok { s with host := { s.host with perst := false } }

/-- The link comes up with its width and rate (R342, R530, R597). In a cold start the core trains once ROOT_LOCK is set. -/
def execLinkUp (width speed : Nat) (s : State) : Host.Outcome State Fault Refusal :=
  if modeIs s .off || s.host.perst || (modeIs s .coldStart && !rootRuns s) || !([1, 2, 4, 8].contains width) || speed == 0
    || decide (4 < speed) then ok s
  else ok (fsets s [(HOST_STATUS_LINK_UP, 1), (HOST_STATUS_WIDTH, width), (HOST_STATUS_SPEED, speed), (CLK_STATUS_PCIE_REF_OK, 1)])

/-- Bus Master Enable changes (R345). -/
def execBusMasterEnable (on : Bool) (s : State) : Host.Outcome State Fault Refusal :=
  if flag s HOST_STATUS_LINK_UP then ok (setFlag s HOST_STATUS_BME on) else ok s

/-! Clock faults (R54 to R56). -/

/-- The event bit of a clock fault (R55). -/
def clockEvent : ClockFault → Fld
  | .refLost => CLK_EVENTS_REF_LOST
  | .rootUnlock => CLK_EVENTS_ROOT_UNLOCK
  | .celUnlock => CLK_EVENTS_CEL_UNLOCK
  | .pcieRefLost => CLK_EVENTS_PCIE_REF_LOST

/-- The status bit that the fault clears. -/
def clockPresent : ClockFault → Fld
  | .refLost => CLK_STATUS_REF_OK
  | .rootUnlock => CLK_STATUS_ROOT_LOCK
  | .celUnlock => CLK_STATUS_CEL_LOCK
  | .pcieRefLost => CLK_STATUS_PCIE_REF_OK

/-- CLOCK_FAULT (R54 to R56, R519): only what was present can be lost. Loss of the reference stops the root with it. -/
def execClockFault (f : List ClockFault) (s : State) : Host.Outcome State Fault Refusal :=
  let l := f.filter fun c => flag s (clockPresent c)
  if modeIs s .off || l.isEmpty then ok s
  else
    let none4 := fget s CLK_EVENTS_REF_LOST + fget s CLK_EVENTS_ROOT_UNLOCK + fget s CLK_EVENTS_CEL_UNLOCK
      + fget s CLK_EVENTS_PCIE_REF_LOST == 0
    let s := whenS none4 (setPair CLK_FAULT_TIME_LO CLK_FAULT_TIME_HI s.time) s
    let s := l.foldl (fun s c => setFlag (setFlag s (clockEvent c) true) (clockPresent c) false) s
    let stops := l.any fun c => c == .refLost || c == .rootUnlock
    let t := if stops then s else l.foldl (fun s c => report 0 (clockEvent c) [] s) s
    let t := haltCause haltClock 1 (axesOff (lampsDark t))
    let t := whenS (l.contains .pcieRefLost) linkLoss t
    ok (if stops then
      let t := setFlag t CLK_STATUS_ROOT_LOCK false
      let t := { t with lnd := s.lnd }
      { t with recd := s.recd } else t)

end Sys2Proof.Machine
end

