-- ==== Sys2Proof/Machine/Power.lean ====
section
/-! DEFINITION. Supplies, sag response and the Pantry (spec/16, R490 to R512; spec/20, R564 to R567, R572): power-on release,
RESET, WARN, the monitors, and the energy budget. -/

namespace Sys2Proof.Machine

/-! OFF and the power-on reset (R492, R498, R564, R572). -/

/-- The device is held in OFF (R498): lamps dark, axes off, the link down, the root stopped. What is not in the always-on domain
takes its reset value, which the next cold start gives it anyway (R16). -/
def powerOff (s : State) : State :=
  let old := s.mode.mode
  let s := startReset false s
  let s := setRaw s HOST_STATUS 0
  let s : State := { s with mode := { mode := .off, prev := if old = .off then s.mode.prev else old } }
  let s : State := { s with start := {} }
  { s with pwr := { s.pwr with por := false } }

/-- The conditions of R492 hold together: the count to release starts. -/
def execPorConditionsMet (s : State) : Host.Outcome State Fault Refusal :=
  if modeIs s .off && !s.pwr.extest && !s.pwr.tmode && !s.pwr.heldOff then ok { s with pwr := { s.pwr with por := true } }
  else ok s

/-- The banks whose supply is under UV_RESET of their strapped voltage (R564). -/
def banksUnder (straps : Nat) (l : List (Fin 8)) : Bool := l.any fun b => bitOf straps (8 + b.val)

/-- A rail is over OV (R499): the device enters HALT. -/
def overVoltage (rail : Nat) (s : State) : State :=
  let s := fset s PWR_STATUS_RAIL_OK (clearBit (fget s PWR_STATUS_RAIL_OK) rail)
  haltCause haltOv 2 (report 0 PWR_EVENTS_OV [rail] s)

/-- POWER_ON_RESET_RELEASE (R492, R564, R566): straps are sampled and COLD_START begins. bankFault names IO banks supplied at the
other voltage than their strap selects. -/
def execPowerOnResetRelease (straps : Word) (bankFault : List (Fin 8)) (s : State) : Host.Outcome State Fault Refusal :=
  if modeIs s .off && s.pwr.por && !s.pwr.extest && !s.pwr.tmode then
    let v := straps.toNat
    let s := setRaw { s with pwr := { s.pwr with por := false } } SYS_STRAP (bitsOf v 15 8 * 256 + bitsOf v 2 0)
    if banksUnder v bankFault then
      ok (fset { s with pwr := { s.pwr with heldOff := true } } PWR_RSTCAUSE_UV (setBit (fget s PWR_RSTCAUSE_UV) 4))
    else
      let s := beginStart false 0 s
      ok (if bankFault.isEmpty then s else overVoltage 4 s)
  else ok s

/-- RESET (R498, R502): the cause is added to those that stand. -/
def execReset (cause : ResetCause) (s : State) : Host.Outcome State Fault Refusal :=
  if cause.uv.toNat = 0 ∧ cause.pin = false then ok s
  else
    let s := powerOff s
    let s := fset s PWR_RSTCAUSE_UV (fget s PWR_RSTCAUSE_UV ||| cause.uv.toNat)
    let s := whenS cause.pin (fun s =>
      setFlag { s with pwr := { s.pwr with heldOff := false } } PWR_RSTCAUSE_PIN true) s
    ok s

/-- EXTEST is loaded, or replaced (R572). -/
def execJtagExtest (on : Bool) (s : State) : Host.Outcome State Fault Refusal :=
  let s := { s with pwr := { s.pwr with extest := on } }
  ok (if on then powerOff s else s)

/-- TMODE (R572). -/
def execTmodeHigh (on : Bool) (s : State) : Host.Outcome State Fault Refusal :=
  let s := { s with pwr := { s.pwr with tmode := on } }
  ok (if on then powerOff s else s)

/-- Low on TRST_N (R572): the port's instruction is BYPASS. -/
def execTrstNLow (s : State) : Host.Outcome State Fault Refusal := ok { s with pwr := { s.pwr with extest := false } }

/-! Shed levels (R506 to R508). -/

/-- Budget write (R505). -/
def execPwrBudgetWrite (peak : Bool) (v : Word) (s : State) : Host.Outcome State Fault Refusal :=
  let off := if peak then PWR_PEAK else PWR_AVG
  ok (onWrite off (fun s =>
    let s := setRaw s off v.toNat
    { s with pwr := if peak then { s.pwr with peakAt := some s.time } else { s.pwr with avgAt := some s.time } }) s)

/-- Shed factor code of a level (R154, R506). -/
def shedCode (l : Nat) : Nat := if l < 2 then 0 else if l = 2 then 1 else if l = 3 then 2 else 3

/-- The pace state takes the value that R280 gives for the present fill (R497). -/
def paceFree (s : State) : State :=
  if !s.mot.warnStop then s
  else
    let s := { s with mot := { s.mot with warnStop := false } }
    let f := fillOf s
    let ps := fget s MOT_STATUS_PSTATE
    let low := decide (f ≤ (fget s MOT_PACE_RESUME : Rat) / 100)
    let hold := decide (fget s MOT_CTL_PACE_MODE = 1) && decide ((fget s MOT_PACE_HOLD : Rat) / 100 ≤ f)
    if ps = 2 ∧ hold = false then fset s MOT_STATUS_PSTATE (lawState s f)
    else if ps = 3 ∧ low = true then holdEnd (fset s MOT_STATUS_PSTATE (lawState s f))
    else s

/-- The shed level becomes l with KP and REFUSE (R25, R154, R231, R507, R510); fc is FC in uJ. -/
def setLevel (l kp fc : Nat) (s : State) : State :=
  let old := fget s PWR_STATUS_LEVEL
  let s := fsets s [(PWR_STATUS_LEVEL, l), (SLC_STATUS_SHED, shedCode l), (MOT_PANTRY_KP, kp), (MOT_PANTRY_REFUSE, b2n (decide (l = 6)))]
  let s := deferFollow s
  if old = l then s
  else
    let s := report 1 PWR_EVENTS_SHED_CHG [old, l, kp, fc] { s with pwr := { s.pwr with lift := 0 } }
    whenS (decide (l < 5) && !flag s PWR_STATUS_WARN) paceFree s

/-! WARN (R496, R497). -/

/-- WARN sets the pace state to STOPPING (R496 step 3). -/
def warnPace (s : State) : State :=
  let s := { s with mot := { s.mot with warnStop := true } }
  let s := whenS (decide (fget s MOT_STATUS_PSTATE < 2)) (fun s => holdCheck (fset s MOT_STATUS_PSTATE 2)) s
  if fget s MOT_CTL_PACE_MODE = 2 then admStopCheck { s with mot := { s.mot with admStop := true } } else s

/-- WARN (R496): rails under UV_WARN by bit, and VMON in mV. -/
def execWarn (rails : BitVec 10) (vmon : Nat) (s : State) : Host.Outcome State Fault Refusal :=
  if modeIs s .off || (rails == 0 && decide (10 * fget s PWR_VMON_WARN_PCT ≤ vmon)) then ok s
  else
    let okBits := (List.range 10).foldl (fun a k => if bitOf rails.toNat k then clearBit a k else a) (fget s PWR_STATUS_RAIL_OK)
    let okBits := if vmon < 10 * fget s PWR_VMON_WARN_PCT then clearBit okBits 9 else okBits
    let s := fsets s [(PWR_STATUS_RAIL_OK, okBits), (PWR_VMEAS_VMON, min 0xFFFF vmon)]
    if flag s PWR_STATUS_WARN then ok s
    else
      let s := setFlag s PWR_STATUS_WARN true
      let s := report 0 PWR_EVENTS_WARN [okBits, raw s PWR_VMEAS] s
      let s := { s with pwr := { s.pwr with avg := raw s PWR_SURV, warnAt := s.time } }
      let s := setLevel 6 (fget s MOT_PANTRY_KP) (raw s PWR_PLAN) s
      ok (abandonSave (warnPace s))

/-- WARN clears (R497): the supply has stood above the threshold and its hysteresis for CLR_MS. A start that was held goes on, its
step times with it. -/
def execWarnClear (vmon : Nat) (s : State) : Host.Outcome State Fault Refusal :=
  if !flag s PWR_STATUS_WARN || modeIs s .off
    || decide (vmon < 10 * (fget s PWR_VMON_WARN_PCT + fget s PWR_VMON_HYST_PCT)) then ok s
  else
    let s := fsets s [(PWR_STATUS_WARN, 0), (PWR_STATUS_RAIL_OK, 0x3FF), (PWR_VMEAS_VMON, min 0xFFFF vmon)]
    let s := report 0 PWR_EVENTS_WARN_CLR [] s
    let d := s.time - s.pwr.warnAt
    let s := { s with pwr := { s.pwr with avg := raw s PWR_AVG, avgAt := none } }
    ok { s with start := { s.start with begun := s.start.begun.map fun p => (p.1, p.2 + d) } }

/-! The other monitors (R499 to R501). -/

/-- A rail above OV (R499). -/
def execRailOvervoltage (rail : Fin 10) (s : State) : Host.Outcome State Fault Refusal :=
  if modeIs s .off then ok s else ok (overVoltage rail s)

/-- The band-gap monitor (R500). -/
def execBandgapCheck (good : Bool) (s : State) : Host.Outcome State Fault Refusal :=
  if modeIs s .off then ok s
  else if good then ok (setFlag s PWR_STATUS_BG_OK true)
  else if flag s PWR_STATUS_BG_OK then ok (report 0 PWR_EVENTS_BG_FAULT [] (setFlag s PWR_STATUS_BG_OK false))
  else ok s

/-- The die sensor, in degrees C (R501). -/
def execDieTempCheck (temp : Int) (s : State) : Host.Outcome State Fault Refusal :=
  if modeIs s .off then ok s
  else if temp ≤ 145 then ok (setFlag s PWR_STATUS_TJ_HIGH false)
  else
    let s := if flag s PWR_STATUS_TJ_HIGH then s else report 0 PWR_EVENTS_TJ_HIGH [] (setFlag s PWR_STATUS_TJ_HIGH true)
    ok (if 150 < temp then haltCause haltTemp 2 s else s)

/-! The Pantry (R503 to R510). -/

/-- Modes in which the Pantry plans (R503). -/
def planModes : List Mode := [.ready, .scan, .hold, .calibrate, .service, .limp, .diagnose]

/-- Energy of axis m in the epoch just ended, uJ (R504). -/
def axisEnergy (s : State) (x : PantryMeas) (m : Nat) : Rat :=
  if flag s (PWR_AXA_BIND m) then (x.bound.getD m 0 : Rat) * fget s (PWR_AXA_SCALE m) / 1048576 / 100
  else (x.steps.getD m 0 : Rat) * fget s (PWR_AXE_EPS m) / 10
    + (if flag s (MOT_ACTL_EN m) then (fget s (PWR_AXE_HOLD_MW m) : Rat) * x.rest.getD m 0 / 100 else 0)

/-- E_lamp in uJ (R504). -/
def lampEnergy (s : State) (lamp : Nat) : Rat :=
  let e := fget s PWR_LAMPEFF_EFF
  (lamp : Rat) / 1000000 * 32768 / (if e = 0 then 32768 else e)

/-- Planned energy of axis m over the next epoch, uJ: at its profile velocity, or at rest (R506). -/
def axisPlan (s : State) (m : Nat) : Rat :=
  let v : Rat := (segSpeed s m : Rat) / 1000
  if flag s (PWR_AXA_BIND m) then
    let last := tget (fun _ => (0 : Rat)) s.pwr.axis m
    let n := nget s.pwr.steps m
    if v = 0 ∨ n = 0 then last else last * v / n
  else if v = 0 then (if flag s (MOT_ACTL_EN m) then fget s (PWR_AXE_HOLD_MW m) else 0)
  else v * fget s (PWR_AXE_EPS m) / 10

/-- M_pace of the forecast, uJ (R506): the paced axes that a profile moves. -/
def mPace (s : State) : Rat :=
  ((List.range 8).filter fun m => paced s m && segSpeed s m != 0).foldl (fun a m => a + axisPlan s m) 0

/-- M_fix of the forecast, uJ (R506): the rest of the motion. -/
def mFix (s : State) : Rat :=
  ((List.range 8).filter fun m => !(paced s m && segSpeed s m != 0)).foldl (fun a m => a + axisPlan s m) 0

/-- Saving of a level up to 4, uJ (R506). -/
def saving (s : State) (l : Nat) : Rat :=
  let bg : Rat := fget s PWR_SHEDC_BG_UJ
  let rot : Rat := fget s PWR_SHEDC_ROT_UJ
  match l with
  | 0 => 0 | 1 => bg | 2 => bg + rot / 2 | 3 => bg + 3 * rot / 4 | _ => bg + 7 * rot / 8

/-- A forecast lies within pct % of a budget in mW over 1 ms; 0 is no limit (R505, R507, R508). -/
def within (x : Rat) (budget pct : Nat) : Bool := budget == 0 || decide (x ≤ (budget : Rat) * pct / 100)

/-- The forecast of an epoch (R506): FC, PK, M_pace. -/
structure Plan where
  fc : Rat
  pk : Rat
  mp : Rat
  deriving DecidableEq, Repr

/-- Level l fits within pct % of the budgets (R507, R508); at level 5 with KP = 0. -/
def fits (s : State) (p : Plan) (l pct : Nat) : Bool :=
  if l < 5 then within (p.fc - saving s l) s.pwr.avg pct && within p.pk s.pwr.peak pct
  else within (p.fc - saving s 4 - p.mp) s.pwr.avg pct && within (p.pk - p.mp) s.pwr.peak pct

/-- KP of level 5 (R507): by the average and by the peak; as it stands while nothing paced is planned. -/
def kpOf (s : State) (p : Plan) : Nat :=
  if p.mp = 0 then fget s MOT_PANTRY_KP
  else
    let k (budget : Nat) (rest : Rat) : Int :=
      if budget = 0 then 32768 else clampInt 0 32768 (32768 * ((budget : Rat) - rest) / p.mp).floor
    (min (k s.pwr.avg (p.fc - p.mp - saving s 4)) (k s.pwr.peak (p.pk - p.mp))).toNat

/-- The level of the next epoch (R507, R508), and the count of epochs that allow a lower one. -/
def nextLevel (s : State) (p : Plan) : Nat × Nat :=
  let l := fget s PWR_STATUS_LEVEL
  if flag s PWR_STATUS_WARN then (6, 0)
  else if l < 6 ∧ fits s p l 100 = false then
    match (List.range 5).find? fun k => l < k && fits s p k 100 with
    | some k => (k, 0)
    | none => if l < 5 ∧ p.mp ≠ 0 ∧ fits s p 5 100 = true then (5, 0) else (6, 0)
  else if l ≠ 0 ∧ fits s p (l - 1) (fget s PWR_LIFT_LIFT_PCT) = true then
    let n := s.pwr.lift + 1
    if max 1 (fget s PWR_LIFT_LIFT_N) ≤ n then (l - 1, 0) else (l, n)
  else (l, 0)

/-- The forecast with everything that the level sheds still exceeds a budget in force (R509). -/
def overBudget (s : State) (p : Plan) (kp : Nat) : Bool :=
  let m := p.mp * kp / 32768
  !(within (p.fc - saving s 4 - p.mp + m) s.pwr.avg 100 && within (p.pk - p.mp + m) s.pwr.peak 100)

/-- OVER follows the plan (R509). -/
def overFollow (b : Bool) (s : State) : State :=
  if b && !flag s PWR_STATUS_OVER then report 0 PWR_EVENTS_OVER [] (setFlag s PWR_STATUS_OVER true)
  else setFlag s PWR_STATUS_OVER b

/-- A 32-bit result of at most 2^32 - 1. -/
def uj (x : Rat) : Nat := min 0xFFFFFFFF x.floor.toNat

/-- Budgets written on an earlier tick come into force (R505); the survival budget stands while WARN holds (R496). -/
def budgetsFollow (s : State) : State :=
  let due (t : Option Nat) : Bool := match t with | some t => decide (t < s.time) | none => false
  let s := if due s.pwr.avgAt then
      { s with pwr := { s.pwr with avgAt := none, avg := if flag s PWR_STATUS_WARN then s.pwr.avg else raw s PWR_AVG } }
    else s
  if due s.pwr.peakAt then { s with pwr := { s.pwr with peakAt := none, peak := raw s PWR_PEAK } } else s

/-- The booking of the epoch just ended (R504): the energies, published. -/
def bookEpoch (x : PantryMeas) (s : State) : State :=
  let el := lampEnergy s x.lamp
  let es := (List.range 8).map fun m => axisEnergy s x m
  let em := es.foldl (fun a e => a + e) 0
  let s := { s with pwr := { s.pwr with
    axis := (List.range 8).foldl (fun t m => tset (fun _ => (0 : Rat)) t m (es.getD m 0)) []
    steps := (List.range 8).foldl (fun t m => nset t m (x.steps.getD m 0)) [] } }
  let s := setRaw (setRaw (setRaw s PWR_LCORE (min 0xFFFFFFFF x.core)) PWR_LLAMP (uj el)) PWR_LMOT (uj em)
  let s := setRaw s PWR_PEAKMEAS (min 0xFFFFFFFF x.peak)
  setPair PWR_ETOT_LO PWR_ETOT_HI (getPair s PWR_ETOT_LO PWR_ETOT_HI + x.core + uj el + uj em) s

/-- FC, PK and M_pace (R506). -/
def forecast (x : PantryMeas) (s : State) : Plan :=
  let em := (List.range 8).foldl (fun a m => a + axisEnergy s x m) (0 : Rat)
  let mp := mPace s
  let mf := mFix s
  ⟨(x.core : Rat) + lampEnergy s x.lamp + mf + mp, (x.peak : Rat) - em + mf + mp, mp⟩

/-- The plan of the next epoch (R507 to R510). -/
def planEpoch (p : Plan) (s : State) : State :=
  let s := setRaw s PWR_PLAN (uj p.fc)
  let n := nextLevel s p
  let s := { s with pwr := { s.pwr with lift := n.2 } }
  let kp := if n.1 < 5 then 32768 else kpOf s p
  let s := setLevel n.1 kp (uj p.fc) s
  overFollow (decide (n.1 = 6) && overBudget s p kp) s

/-- The ledger message of every n epochs (R510). -/
def ledgerReport (p : Plan) (s : State) : State :=
  let n := fget s PWR_CTL_REPORT
  if n = 0 then s
  else
    let k := s.pwr.report + 1
    if k < n then { s with pwr := { s.pwr with report := k } }
    else raise 3 2 0xA0 [raw s PWR_LCORE, raw s PWR_LLAMP, raw s PWR_LMOT, uj p.fc, fget s PWR_STATUS_LEVEL]
      { s with pwr := { s.pwr with report := 0 } }

/-- PANTRY_EPOCH (R503 to R510): at an epoch boundary. In HALT the Pantry books and holds its level. -/
def execPantryEpoch (x : PantryMeas) (s : State) : Host.Outcome State Fault Refusal :=
  if s.time % 600000 ≠ 0 then ok s
  else
    let s := budgetsFollow s
    if !flag s PWR_CTL_PANTRY_EN || !(modeIn s planModes || modeIs s .halt) || !rootRuns s then ok s
    else
      let s := bookEpoch x s
      let p := forecast x s
      ok (ledgerReport p (if modeIs s .halt then s else planEpoch p s))

end Sys2Proof.Machine
end

