-- ==== Sys2Proof/Machine/Access.lean ====
section
/-! DEFINITION. Reads and writes of BAR 0 and BAR 4 that no row of their own describes (spec/00, R9 to R15; spec/01, R29 to
R31; spec/02, R593; spec/11, R348 to R350; spec/18, R541 to R544). -/

namespace Sys2Proof.Machine

/-! Registers whose value is computed. -/

/-- Largest trim age of the slices of group g in ms, saturating (R153, SLC_GAGE). -/
def trimAgeMs (s : State) (g : Nat) : Nat :=
  min 0xFFFFFFFF (maxOf ((List.range 17).map fun i => trimAge s g i) / 600000)

/-- Age in s of the oldest white commit among the tracked bands of head h, saturating (R232, SHD_HWAGE). -/
def oldestWhite (s : State) (h : Nat) : Nat :=
  let bs := (List.range 8).filter fun b => bitOf (fget s (SHD_HWHT_BANDS h)) b
  min 0xFFFF (maxOf (bs.map fun b => s.time - whiteAge s (headBand h b)) / 600000000)

/-- off is one of the n registers that f names. -/
def isOne (n : Nat) (f : Nat → Nat) (off : Nat) : Bool := (List.range n).any fun k => off == f k

/-- The index of off among the n registers that f names. -/
def indexIn (n : Nat) (f : Nat → Nat) (off : Nat) : Option Nat := (List.range n).find? fun k => off == f k

/-- The low register of each pair of BAR 0 that is held in two registers (R544). -/
def storedPairs : List Nat :=
  [CLK_FAULT_TIME_LO, PWR_ETOT_LO, LND_FLUSHT_LO, ATT_SEQ_LO, REC_TTRIG_LO, REC_REJT_LO, CEL_ERRADDR_LO]

/-- AUX_TS_LO or AUX_ITS_LO of a result slot (R423). -/
def isTagTime (off : Nat) : Bool := decide (0x12400 ≤ off) && decide (off < 0x12880) && off % 16 == 8

/-- AUX_RES_LO or AUX_IRES_LO of a result slot (R423). -/
def isResult (off : Nat) : Bool := decide (0x12400 ≤ off) && decide (off < 0x12880) && off % 16 == 0

/-- The value of the two-half quantity whose low register lies at off of BAR 0, live; none where off is no such register
(R542, R544). AUX_RES_LO and LND_DATA_LO are left to rows of their own. -/
def livePair (s : State) (off : Nat) : Option Nat :=
  if storedPairs.contains off || isTagTime off then some (getPair s off (off + 4))
  else if off = CLK_TIME_LO then some s.time
  else if off = PMC_CYC_LO then some s.pmc.cyc
  else if off = PMC_SNAP_TIME_LO then some s.pmc.snapTime
  else if off = PMC_SNAP_CYC_LO then some (nget s.pmc.snap 8)
  else
    let p := (indexIn 8 PMC_LO off).map fun k => nget s.pmc.cnt k
    let q := (indexIn 8 PMC_SNAP_LO off).map fun k => nget s.pmc.snap k
    let m := (indexIn 8 MOT_APOS_LO off).map fun k => (getAxis s k).pos
    p <|> q <|> m

/-- The value of the quantity at off of BAR 4 (R350, R554). -/
def userPair (s : State) (off : Nat) : Option Nat :=
  let pmc (v : Nat) : Nat := if flag s PMC_CTL_USER_READ then v else 0
  if off = 0 then some s.time
  else if off = 0x100 then some (pmc s.pmc.cyc)
  else (indexIn 8 (fun k => 0x108 + 8 * k) off).map fun k => pmc (nget s.pmc.cnt k)

/-- What a master reads of the quantity at off in the present mode (R29, R30): during a start a block that is not accessible
gives its reset values or its kept values. -/
def pairRead (s : State) (ms : Master) (off : Nat) : Option Nat :=
  match ms with
  | .hostBar4 => (userPair s off).map fun v => if modeIs s .sleep || modeIs s .off then 0 else v
  | .housekeeper => livePair s off
  | .hostBar0 =>
    (livePair s off).map fun v =>
      if hostMay s off || !rootRuns s then v
      else if modeIs s .sleep || modeIs s .off then 0
      else if (rowMasks off).kept = 0xFFFFFFFF ∨ (rowMasks off).held = 0xFFFFFFFF then v else 0

/-- The shadow of a reading master (R541). -/
def shadowOf (s : State) (ms : Master) : Option Shadow :=
  match ms with
  | .hostBar0 => s.shadow0
  | .hostBar4 => s.shadow4
  | .housekeeper => s.shadowK

/-- Replace the shadow of a reading master. -/
def setShadow (ms : Master) (sh : Option Shadow) (s : State) : State :=
  match ms with
  | .hostBar0 => { s with shadow0 := sh }
  | .hostBar4 => { s with shadow4 := sh }
  | .housekeeper => { s with shadowK := sh }

/-- The AUX_TS pair that a read of AUX_RES_LO latched for this master, when off is its low register (R423). -/
def latchedTime (s : State) (ms : Master) (off : Nat) : Option Nat :=
  let p := tget (fun _ => (0, 0)) s.aux.ts (masterNum ms)
  if isTagTime off && p.1 + 8 == off then some p.2 else none

/-- PAIR_LOW_READ (R423, R542, R593). -/
def execPairLowRead (ms : Master) (off : Nat) (s : State) : Host.Outcome State Fault Refusal :=
  match pairRead s ms off with
  | none => ok s
  | some live =>
    let v := if rootRuns s then (latchedTime s ms off).getD live else live
    let t := { s with rdata := BitVec.ofNat 32 v }
    if rootRuns s then ok (readEvent ms off (setShadow ms (some ⟨off, v / 2 ^ 32⟩) t)) else ok t

/-- PAIR_HIGH_READ (R423, R543, R593): off is the offset of the high register. A high read of AUX_TS uses up the latch. -/
def execPairHighRead (ms : Master) (off : Nat) (s : State) : Host.Outcome State Fault Refusal :=
  let lo := off - 4
  let live := if isResult lo then some (raw s off * 2 ^ 32) else pairRead s ms lo
  match live with
  | none => ok s
  | some v =>
    let high := (latchedTime s ms lo).getD v / 2 ^ 32
    if !rootRuns s then ok { s with rdata := BitVec.ofNat 32 (v / 2 ^ 32) }
    else
      let r : Nat × State := match shadowOf s ms with
        | some sh => if sh.low = lo then (sh.high, setShadow ms none s) else (high, s)
        | none => (high, s)
      let t := { r.2 with rdata := BitVec.ofNat 32 r.1 }
      let t := if (latchedTime s ms lo).isSome then
          { t with aux := { t.aux with ts := tset (fun _ => (0, 0)) t.aux.ts (masterNum ms) (0, 0) } }
        else t
      ok (readEvent ms off t)

/-- What the register at off of BAR 0 holds: computed values, the halves of a quantity, and else the stored register. -/
def readReg (s : State) (off : Nat) : Nat :=
  if off = SYS_MODE then sysMode s
  else if off = LND_STATUS then lndStatus s
  else if off = SHD_TRKVAL then toField 32 (getTrk s (fget s SHD_TRKSEL_TAP) (fget s SHD_TRKSEL_BAND))
  else match indexIn 16 SLC_GAGE off, indexIn 16 SHD_HWAGE off, indexIn 8 MOT_AVCAP off, indexIn 8 MOT_AVEL off with
    | some g, _, _, _ => trimAgeMs s g
    | _, some h, _, _ => oldestWhite s h
    | _, _, some m, _ => vcap s m
    | _, _, _, some m => if axisMoving s m then (Config.freeValue 12 s.time).toNat else raw s off
    | _, _, _, _ =>
      match livePair s off, livePair s (off - 4) with
      | some v, _ => v % 2 ^ 32
      | _, some v => v / 2 ^ 32 % 2 ^ 32
      | _, _ => raw s off

/-- What the register at off of BAR 4 holds (R350, R554). -/
def readUser (s : State) (off : Nat) : Nat :=
  if off = 0x8 then didx s 1
  else if off = 0xC then didx s 2
  else if off = 0x10 then didx s 0
  else match indexIn 16 (fun h => 0x40 + 4 * h) off with
    | some h => didx s (3 + h)
    | none =>
      match userPair s off, userPair s (off - 4) with
      | some v, _ => v % 2 ^ 32
      | _, some v => if off % 8 = 4 then v / 2 ^ 32 % 2 ^ 32 else 0
      | _, _ => 0

/-! Writes. -/

/-- Registers of BAR 0 whose writes are rows of their own. -/
def ownRow (off : Nat) : Bool :=
  [PWR_AVG, PWR_PEAK, MOT_PACE, LND_CTL, HWY_CTL, HWY_MCTL, SYS_LOCK, SYS_LIMP, PMC_CYC_LO, PMC_CYC_HI].contains off
    || isOne 16 HEAD_CTL off || isOne 16 HEAD_TAPS off || isOne 16 HEAD_READ off || isOne 16 HEAD_CLK off
    || isOne 16 HEAD_SP off || isOne 16 HEAD_TRIG off || isOne 256 TAP_CTL off || isOne 256 TAP_PHASE off
    || isOne 256 TAP_CLAMP off || isOne 256 TAP_PGA off || isOne 16 SLC_CMWIN off || isOne 16 MOT_HDOC off
    || isOne 16 LMP_SBIN0 off || isOne 16 LMP_SBIN1 off || isOne 16 LMP_SBIN2 off || isOne 16 LMP_SBIN3 off
    || isOne 19 HOST_RCTL off || isOne 4 AUX_CVCTL off || isOne 4 AUX_EXC off || isOne 8 PMC_LO off || isOne 8 PMC_HI off

/-- The stored value after a write of v by the access code of each field (R12, R15): RW, RWL while SYS_LOCK is clear, W1C
and W1S. PMC_CTL.FREEZE is left to its own row. -/
def written (s : State) (off v : Nat) : Nat :=
  let r := rowMasks off
  let rw := if off = PMC_CTL then 0x80000000 else r.rw
  let m := rw ||| (if flag s SYS_LOCK_LOCK then 0 else r.rwl)
  let x := (raw s off &&& (0xFFFFFFFF ^^^ m)) ||| (v &&& m)
  (x &&& (0xFFFFFFFF ^^^ (v &&& r.w1c))) ||| (v &&& r.w1s)

/-- A write that its own rule discards (R354, R495, and the rail registers of spec/10). -/
def writeDiscarded (off v : Nat) : Bool :=
  if off = PWR_VMON then
    decide (bitsOf v PWR_VMON_WARN_PCT.hi PWR_VMON_WARN_PCT.lo ≤ bitsOf v PWR_VMON_RESET_PCT.hi PWR_VMON_RESET_PCT.lo)
  else if off = LMP_RAIL then
    decide (bitsOf v LMP_RAIL_VMAX.hi LMP_RAIL_VMAX.lo < bitsOf v LMP_RAIL_VMIN.hi LMP_RAIL_VMIN.lo)
  else false

/-- HOST_RBASE of ring r while the ring runs or is not idle: the write is discarded with WR_REJ (R354). -/
def rbaseLocked (s : State) (off : Nat) : Bool :=
  match (indexIn 19 HOST_RBASE_LO off <|> indexIn 19 HOST_RBASE_HI off) with
  | some r => ringOn s r || !flag s (HOST_RSTAT_IDLE r)
  | none => false

/-- EN of axis m becomes 1 (R292, R293). -/
def axisEnable (m : Fin 8) (s : State) : State :=
  let x := getAxis s m
  let s := setAxis m { x with
    enPin := true, readyAt := s.time + 600 * fget s (MOT_ACTL_EN_DLY m), iref := fget s (MOT_AIREF_RUN_DUTY m) } s
  let s := fset s (MOT_ASTATUS_STATE m) 1
  schedule s (max s.time (x.lastMove + 6000000 * fget s (MOT_AIREF_STBY_DLY m))) (.irefStandby m)

/-- EN of axis m becomes 0 (R291, R292, R293): its step output stops, the axis is DISABLED, and a fault is over. -/
def axisDisable (m : Fin 8) (s : State) : State :=
  let s := cancel (stopNow m s) (.irefStandby m)
  let s := setAxis m { getAxis s m with segs := [], moveLeft := 0, takeUp := 0, owesRunup := false, enPin := false, iref := 0 } s
  holdCheck (fsets s [(MOT_ASTATUS_STATE m, 0), (MOT_ASTATUS_MOVE m, 0), (MOT_ASTATUS_REST m, 1)])

/-- A write of MOT_ACTL (R33, R263, R292 to R294): BIND and ENC change only while EN is 0, a new binding counts from 0, and
in HALT every axis stays disabled. -/
def writeActl (m : Fin 8) (v : Nat) (s : State) : State :=
  let on := flag s (MOT_ACTL_EN m)
  let old := (fget s (MOT_ACTL_BIND m), fget s (MOT_ACTL_ENC m))
  let s := setRaw s (MOT_ACTL m) (written s (MOT_ACTL m) v)
  let s := if on then fsets s [(MOT_ACTL_BIND m, old.1), (MOT_ACTL_ENC m, old.2)] else s
  let s := whenS (modeIs s .halt) (fun s => setFlag s (MOT_ACTL_EN m) false) s
  let s := if (fget s (MOT_ACTL_BIND m), fget s (MOT_ACTL_ENC m)) = old then s
    else setAxis m { getAxis s m with cmdSteps := 0, encCounts := 0 } s
  let now := flag s (MOT_ACTL_EN m)
  if !on && now then axisEnable m s else if on && !now then axisDisable m s else s

/-- A write of a register of comparator k restarts its count; EN from 0 to 1 makes it inside (R427, R428). -/
def writeWc (k off v : Nat) (s : State) : State :=
  let on := flag s (AUX_WC_CTL_EN k)
  let s := fset (setRaw s off (written s off v)) (AUX_WC_STAT_CNT k) 0
  if !on && flag s (AUX_WC_CTL_EN k) then fset s (AUX_WC_STAT_OUT k) 0 else s

/-- What a stored write makes the units do. -/
def writeFollow (off : Nat) (old : State) (s : State) : State :=
  if off = LMP_CTL then
    let s := if flag s LMP_CTL_BUS_EN then s else { s with lmp := { s.lmp with lstb := false } }
    railFollow (lbandFollow s)
  else if off = MOT_CTL then
    whenS (fget old MOT_CTL_PACE_MODE != 2 && fget s MOT_CTL_PACE_MODE == 2) admRequest s
  else if off = SYS_STARTSTAT then
    if flag s SYS_STARTSTAT_VALID then s
    else fsets s [(SYS_STARTSTAT_FKIND, 0), (SYS_STARTSTAT_FSTEP, 0), (SYS_STARTSTAT_CODE, 0)]
  else if off = HOST_EVENTS then
    whenS (raw s HOST_EVENTS % 32 == 0) (fun s => setFlag s HOST_ERRINFO_VALID false) s
  else if off = LNK_CTL then
    whenS (!flag s LNK_CTL_EN) (fun s => fset s LNK_STATUS_STATE 0) s
  else match indexIn 16 HEAD_EVENTS off with
    | some h => whenS (!flag s (HEAD_EVENTS_CONN_FAULT h)) (fun s => setFlag s (HEAD_CONN_VALID h) false) s
    | none => s

/-- The effect of a write of v at off of BAR 0 that has no row of its own (R11, R12, R15). -/
def regWriteEffect (off v : Nat) (s : State) : State :=
  if ownRow off || writeDiscarded off v then s
  else if rbaseLocked s off then hostEvent HOST_EVENTS_WR_REJ s
  else match (indexIn 8 MOT_ACTL off).bind (finOf 8) with
    | some m => writeActl m v s
    | none =>
      match (indexIn 16 AUX_WC_CTL off <|> indexIn 16 AUX_WC_LO off <|> indexIn 16 AUX_WC_HI off) with
      | some k => writeWc k off v s
      | none => if (rowOf off).isNone then s else writeFollow off s (setRaw (noteBand off s) off (written s off v))

/-- REG_WRITE (R11, R12, R29 to R31): by the host, or by the Housekeeper, which a start does not shut out. -/
def execRegWrite (byHk : Bool) (off : Nat) (v : Word) (s : State) : Host.Outcome State Fault Refusal :=
  if byHk then
    if !rootRuns s || modeIs s .sleep || modeIs s .off then ok s
    else ok (regWriteEffect off v.toNat (pmcEvents 0x11 { priv := some 2, mst := some 1, bar0 := some off } 1 s))
  else ok (onWrite off (regWriteEffect off v.toNat) s)

/-- An access of a wrong size, or any other than a write on BAR 2 (R348, R349): ACC_ERR for a read of BAR 0 or BAR 4, and for
BAR 2 outside SLEEP; a write of BAR 0 or BAR 4 is discarded. While the root does not run nothing sets (R593). -/
def execBadAccess (read : Bool) (bar off : Nat) (s : State) : Host.Outcome State Fault Refusal :=
  let s := if read then { s with rdata := 0 } else s
  let errs := if bar = 2 then !modeIs s .sleep else read
  if errs && rootRuns s && !modeIs s .off then
    ok (errInfo 4 0x1F (off % 2 ^ 17) (hostEvent HOST_EVENTS_ACC_ERR s))
  else ok s

/-- ROOT_STOPPED_ACCESS (R593, R594): a read returns what the register held; a write of SYS_CMD.START_COLD or START_WARM in
HALT is held; the MSI-X table keeps its behaviour; every other write is discarded. -/
def execRootStoppedAccess (bar : Nat) (write : Bool) (off : Nat) (v : Word) (s : State) :
    Host.Outcome State Fault Refusal :=
  if rootRuns s || modeIs s .off then ok s
  else if write then
    if bar = 0 ∧ off = SYS_CMD ∧ v.toNat % 4 ≠ 0 ∧ modeIs s .halt = true then
      ok { s with mode := { s.mode with heldStart := true } }
    else if bar = 0 ∧ msixOff off = true ∧ (rowOf off).isSome = true then ok (setRaw s off (written s off v.toNat))
    else ok s
  else ok { s with rdata := BitVec.ofNat 32 (if bar = 0 then readReg s off else if bar = 4 then readUser s off else 0) }

/-- CEL_CE_READ (R14, R534). -/
def execCelCeRead (s : State) : Host.Outcome State Fault Refusal := ok (rcRead CEL_CE s)

/-- CEL_UE_READ (R14, R534). -/
def execCelUeRead (s : State) : Host.Outcome State Fault Refusal := ok (rcRead CEL_UE s)

end Sys2Proof.Machine
end

