-- ==== Sys2Proof/Machine/Heads.lean ====
section
/-! DEFINITION. The commands of the sensor heads (spec/03, R51, R57 to R95). -/

namespace Sys2Proof.Machine

/-- HEAD_ONLINE (R86, R87, R91): a write of 1 to HEAD_CTL.ONLINE. The one tick of step 1 counts into the settling. -/
def execHeadOnline (h : Fin 16) (s : State) : Host.Outcome State Fault Refusal :=
  ok (onWrite (HEAD_CTL h) (fun s =>
    if headState s h ≠ 0 then s
    else
      let s := fset s (HEAD_STATUS_CFG_ERR h) 0
      let e := if modeIs s .halt then 9 else startError s h
      if e ≠ 0 then startFail h e s
      else
        let p := pixTicks s h
        let start := edgeAt p (s.time + 1)
        let s := fsets s [(HEAD_STATUS_STATE h, 1), (HEAD_CTL_ONLINE h, 1), (HEAD_STATUS_BAND h, 0)]
        let s := setHead h { getHead s h with
          clkOn := true, clkAt := start, aux := auxLevel s h 0, settleAt := start + 256 * p, wipesLeft := 0, wipeAt := 0
          warm := false, wipe := true, seenB0 := false, numbered := false, lastTrig := [] } s
        let s := (tapsOf s h).foldl (fun s t => fsets s [(TAP_STATUS_OWNED t, 1), (TAP_STATUS_HEAD t, h)]) s
        schedule (guestsAtTake h s) (start + 256 * p) (.headSettleDone h)) s)

/-- HEAD_SETTLE_DONE (R86 steps 3 and 4): the settling has ended, and the wipe start pulses follow one another, each as the
readout of the one before it ends. -/
def execHeadSettleDone (h : Fin 16) (s : State) : Host.Outcome State Fault Refusal :=
  let x := getHead s h
  if headState s h = 1 ∧ x.warm = false ∧ x.settleAt ≤ s.time ∧ x.wipeAt ≤ s.time then
    let n := if x.wipeAt = 0 then fget s (HEAD_CTL_WARMUP h) else x.wipesLeft
    if n = 0 then
      ok (schedule (setHead h { x with wipesLeft := 0, wipeAt := max 1 s.time, warm := true } s) s.time (.headWarmupDone h))
    else
      let r := readoutOf s h s.time
      let s := setHead h { x with wipesLeft := n - 1, wipeAt := max 1 r.done, sp := some (s.time, r.fall) } s
      ok (schedule s r.done (.headSettleDone h))
  else ok s

/-- HEAD_WARMUP_DONE (R79, R86 step 5, R150, R268): the head becomes ONLINE. -/
def execHeadWarmupDone (h : Fin 16) (s : State) : Host.Outcome State Fault Refusal :=
  let x := getHead s h
  if headState s h = 1 ∧ x.warm = true then
    let s := fset s (HEAD_STATUS_STATE h) 2
    let per := actField s (HEAD_TIMER_PERIOD h)
    let s := setHead h { getHead s h with onlineAt := s.time, timerAt := s.time + per } s
    let s := guestsAtOnline h (setRaw (gridStart h s) (MOT_HDOCNUM h) 0)
    let s := whenS (fget s (HEAD_TRIG_TRIG_SRC h) == 2) (fun s => schedule s (s.time + per) (.headTimerTrigger h)) s
    ok s
  else ok s

/-- HEAD_OFFLINE (R89): a write of 0 to HEAD_CTL.ONLINE. -/
def execHeadOffline (h : Fin 16) (s : State) : Host.Outcome State Fault Refusal :=
  ok (onWrite (HEAD_CTL h) (fun s =>
    match headState s h with
    | 1 => headToOffline h s
    | 2 => beginStop h s
    | _ => s) s)

/-- HEAD_STOP_DONE (R66, R84, R90, R91, R373): the packet closes and the head becomes OFFLINE. -/
def execHeadStopDone (h : Fin 16) (s : State) : Host.Outcome State Fault Refusal :=
  if headState s h = 3 ∧ headBusy s h = false ∧ (getHead s h).lines.isEmpty = true then
    ok (headToOffline h (closePacket h (skipFinish h (raw s (MOT_HDOCNUM h)) s)))
  else ok s

/-- HEAD_COMMIT (R84, R85): a write of 1 to HEAD_CTL.COMMIT. -/
def execHeadCommit (h : Fin 16) (s : State) : Host.Outcome State Fault Refusal :=
  ok (onWrite (HEAD_CTL h) (fun s =>
    if headState s h = 0 then
      let s := activateBandSet h s
      setHead h { getHead s h with aux := idleAux s h } s
    else if flag s (HEAD_CTL_COMMIT h) then s
    else setHead h { getHead s h with commitAt := s.time } (setFlag s (HEAD_CTL_COMMIT h) true)) s)

/-- HEAD_SWTRIG (R74, R76): a write of 1 to HEAD_CTL.SWTRIG. -/
def execHeadSwtrig (h : Fin 16) (s : State) : Host.Outcome State Fault Refusal :=
  ok (onWrite (HEAD_CTL h) (fun s => if fget s (HEAD_TRIG_TRIG_SRC h) = 3 then plainCause h s else s) s)

/-- HEAD_TIMER_TRIGGER (R74, R76): the head timer, counted from the tick on which the head became ONLINE; a
period of 0 that a COMMIT has brought in acts as 1 (DEDUCED, log entry 42). -/
def execHeadTimerTrigger (h : Fin 16) (s : State) : Host.Outcome State Fault Refusal :=
  let x := getHead s h
  if headState s h = 2 ∧ fget s (HEAD_TRIG_TRIG_SRC h) = 2 ∧ x.timerAt ≤ s.time then
    let s := plainCause h s
    let t := x.timerAt + max 1 (actField s (HEAD_TIMER_PERIOD h))
    ok (schedule (setHead h { getHead s h with timerAt := t } s) t (.headTimerTrigger h))
  else ok s

/-- Offset of a geometry-set register of a head (R82). -/
def geomOff (h : Nat) : GeomReg → Nat
  | .taps => HEAD_TAPS h | .read => HEAD_READ h | .clk => HEAD_CLK h | .sp => HEAD_SP h | .ctl => HEAD_CTL h
  | .trig => HEAD_TRIG h

/-- Geometry fields of the register, as a mask (R82). -/
def geomMask : GeomReg → Nat
  | .taps => 0xFF00FF | .read => 0xFF7F0FFF | .clk => 0x1017F | .sp => 0x10FFF1F | .ctl => 0x100 | .trig => 0x37

/-- Fields of the register that this command writes: CONN_ACT, WARMUP and READ_MODE of HEAD_CTL, whose other fields have
commands of their own, and every field of the others (R82). -/
def geomWritten : GeomReg → Nat
  | .ctl => 0xF10100 | .trig => 0xF37 | g => geomMask g

/-- HEAD_GEOMETRY_WRITE (R82, R83, R221). -/
def execHeadGeometryWrite (h : Fin 16) (reg : GeomReg) (v : Word) (s : State) : Host.Outcome State Fault Refusal :=
  ok (onWrite (geomOff h reg) (fun s =>
    let off := geomOff h reg
    let old := raw s off
    let geo := geomMask reg
    let rest := geomWritten reg &&& (0xFFFFFFFF ^^^ geo)
    let chg := (old &&& geo) != (v.toNat &&& geo)
    let take := if headState s h = 0 then geomWritten reg else rest
    let s := setRaw (noteBand off s) off ((old &&& (0xFFFFFFFF ^^^ take)) ||| (v.toNat &&& take))
    if headState s h = 0 then whenS chg (whiteRestartHead h) s
    else whenS chg (fun s => setFlag s (HEAD_EVENTS_WR_REJ h) true) s) s)

/-- TRIGGER_FIRE (R51): four ticks after an accepted cause. -/
def execTriggerFire (h : Fin 16) (s : State) : Host.Outcome State Fault Refusal :=
  match (getHead s h).lines.find? fun l => decide (l.stage = .accepted) && decide (l.fireAt ≤ s.time) with
  | some l => ok (fireLine h l s)
  | none => ok s

/-- EXPOSURE_END (R69, R71, R327): in DIRECT mode the second start pulse; diagnostic pulses. -/
def execExposureEnd (h : Fin 16) (s : State) : Host.Outcome State Fault Refusal :=
  match (getHead s h).lines.find? fun l => decide (l.stage = .exposing) && decide (l.expEnd ≤ s.time) with
  | none => ok s
  | some l =>
    let s :=
      if fget s (HEAD_CTL_READ_MODE h) = 0 then
        let x := getHead s h
        setHead h { x with lines := x.lines.map fun q => if q = l then { q with stage := .sensor } else q } s
      else startReadout h (some l) s
    ok (placeDiag h l s)

/-- TAP_PHASE_ACTIVATE (R123, R223): pending phases, and the trial phase of a phase search. -/
def execTapPhaseActivate (h : Fin 16) (s : State) : Host.Outcome State Fault Refusal :=
  let x := getHead s h
  match x.phaseAt with
  | none => ok s
  | some t =>
    if s.time < t then ok s
    else
      let s := activatePhase h (setHead h { x with phaseAt := none } s)
      match (getHead s h).lines.find? fun l => decide (l.stage = .reading) with
      | some l => ok (trialApply h l s)
      | none => ok s

/-- READOUT_END (R62, R65, R123, R190): as the last readout pixel period ends, pending PGA steps are taken; after the
turnaround the band-line is in the lanes. -/
def execReadoutEnd (h : Fin 16) (s : State) : Host.Outcome State Fault Refusal :=
  let x := getHead s h
  let s := match x.pgaAt with
    | some t => if t ≤ s.time then activatePga h (setHead h { x with pgaAt := none } s) else s
    | none => s
  match (getHead s h).lines.find? fun l =>
    decide (l.stage = .reading) && decide (turnaround s h l.readLast ≤ s.time) with
  | some l => ok (stopProgress h (intoLanes h l s))
  | none => ok s

/-- The visits of the groups at a busy window's close (R144): a visit that awaits its boundary is handed over, an overlap
band-line is counted, an overlap that is late ends (R146). -/
def visitsAtClose (h opens : Nat) (s : State) : State :=
  (List.range 16).foldl (fun s g => match finOf 16 g with
    | none => s
    | some gi =>
      let x := getGroup s g
      let ph := fget s (SLC_GSTATE_PHASE g)
      if ph = 1 then schedule s s.time (.guestHandover gi)
      else if 3 ≤ ph ∧ ph ≤ 4 ∧ x.overlap < 3 ∧ x.runEnd + 9600000 ≤ s.time then schedule s s.time (.overlapTimeout gi)
      else if ph = 4 ∧ x.running < 16 ∧ inRange s h (16 * g + x.running) = true ∧ x.runEnd < opens then
        setGroup g { x with overlap := min 4 (x.overlap + 1) } s
      else s) s

/-- Band of the trigger that comes next (R70): that of an accepted cause whose window has not opened, else BAND. -/
def bandToCome (s : State) (h : Nat) : Nat :=
  match (getHead s h).lines.find? fun l => decide (l.stage = .accepted) with
  | some l => l.band
  | none => fget s (HEAD_STATUS_BAND h)

/-- BUSY_WINDOW_CLOSE (R65, R70, R90, R95, R144). -/
def execBusyWindowClose (h : Fin 16) (s : State) : Host.Outcome State Fault Refusal :=
  let x := getHead s h
  match x.busy.find? fun b => decide (b.closes ≤ s.time) with
  | none => ok s
  | some b =>
    let s := setHead h { x with busy := x.busy.erase b, aux := auxLevel s h (bandToCome s h) } s
    let s := visitsAtClose h b.opens s
    if x.stopAtClose && decide (headState s h = 2) then ok (beginStop h s) else ok (stopProgress h s)

/-- HEAD_CONN_FAULT (R87, R93 to R95, R115, R117): tap t took its 64th consecutive "outside" decision. -/
def execHeadConnFault (t : Fin 256) (s : State) : Host.Outcome State Fault Refusal :=
  match (tapOwner s t).bind (finOf 16), flag s (SLC_CMWIN_CM_EN (t / 16)) with
  | some h, true =>
    let s := setTap t { getTap s t with outside := 64 } s
    let s := fsets s [(TAP_STATUS_CM_OUT t, 1), (TAP_EVENTS_CM_FAULT t, 1), (HEAD_STATUS_CM_OUT h, 1)]
    if headState s h = 1 then ok (startFail h 8 (headToOffline h s))
    else
      let first := !flag s (HEAD_EVENTS_CONN_FAULT h)
      let s := setFlag s (HEAD_EVENTS_CONN_FAULT h) true
      let s := whenS (!flag s (HEAD_CONN_VALID h)) (fun s => fsets s [(HEAD_CONN_TAP h, t), (HEAD_CONN_VALID h, 1)]) s
      let s := whenS first (raise 0 6 0x80 [h, t]) s
      if flag s (HEAD_CTL_CONN_ACT h) && decide (headState s h = 2) then
        if headBusy s h then ok (setHead h { getHead s h with stopAtClose := true } s) else ok (beginStop h s)
      else ok s
  | _, _ => ok s

/-- HEAD_TRIGSTAT_READ (R14). -/
def execHeadTrigstatRead (h : Fin 16) (s : State) : Host.Outcome State Fault Refusal := ok (rcRead (HEAD_TRIGSTAT h) s)

end Sys2Proof.Machine
end

