-- ==== Sys2Proof/Machine/Taps.lean ====
section
/-! DEFINITION. The commands of the taps (spec/04, R96 to R128). -/

namespace Sys2Proof.Machine

/-- TAP_OVR_READ (R14, R112). -/
def execTapOvrRead (t : Fin 256) (s : State) : Host.Outcome State Fault Refusal := ok (rcRead (TAP_OVR t) s)

/-- The decision on a common mode of mv millivolts at a tap of group g (R113 to R115): 1 for "outside". -/
def cmDecision (s : State) (g mv : Nat) : Nat :=
  let lo := min 1800 (fget s (SLC_CMWIN_CM_LO g))
  let hi := min 1800 (fget s (SLC_CMWIN_CM_HI g))
  b2n (flag s (SLC_CMWIN_CM_EN g) && !(decide (lo ≤ mv) && decide (mv ≤ hi)))

/-- HEAD_STATUS.CM_OUT shows whether any tap of the head is outside (R95). -/
def headOut (h : Nat) (s : State) : State :=
  setFlag s (HEAD_STATUS_CM_OUT h) ((tapsOf s h).any fun t => flag s (TAP_STATUS_CM_OUT t))

/-- CM_AVERAGE_DONE (R95, R113 to R118): an average of 256 decisions of a tap whose head's HnCLK runs, and the common mode that
the last of them saw. -/
def execCmAverageDone (t : Fin 256) (mv last : Nat) (s : State) : Host.Outcome State Fault Refusal :=
  match tapOwner s t with
  | some h =>
    let d := cmDecision s (t / 16) last
    let s := setTap t { getTap s t with outside := if d = 0 then 0 else (getTap s t).outside } s
    ok (headOut h (fsets s [(TAP_CM_CM_MV t, mv), (TAP_CM_VALID t, 1), (TAP_STATUS_CM_OUT t, d)]))
  | none => ok s

/-- TAP_FIXED_WRITE (R122): TAP_CLAMP or TAP_CTL. -/
def execTapFixedWrite (t : Fin 256) (clamp : Bool) (v : Word) (s : State) : Host.Outcome State Fault Refusal :=
  let off := if clamp then TAP_CLAMP t else TAP_CTL t
  ok (onWrite off (fun s =>
    match tapOwner s t with
    | some _ => setFlag s (TAP_EVENTS_WR_REJ t) true
    | none => writeRw off v.toNat s) s)

/-- TAP_LIVE_WRITE (R123, R124, R126, R221): TAP_PGA or TAP_PHASE. -/
def execTapLiveWrite (t : Fin 256) (pga : Bool) (v : Word) (s : State) : Host.Outcome State Fault Refusal :=
  let off := if pga then TAP_PGA t else TAP_PHASE t
  ok (onWrite off (fun s =>
    let s := whiteRestartTap t (writeRw off v.toNat s)
    match tapOwner s t with
    | some _ =>
      let x := getTap s t
      let s := setFlag s (TAP_STATUS_PEND t) true
      setTap t (if pga then { x with pgaPend := some s.time } else { x with phasePend := some s.time }) s
    | none => activate s off) s)

/-- SLC_CMWIN_WRITE (R114 to R116): the outside counts of the group's taps restart; with CM_EN = 0 every decision is "inside". -/
def execSlcCmwinWrite (g : Fin 16) (v : Word) (s : State) : Host.Outcome State Fault Refusal :=
  ok (onWrite (SLC_CMWIN g) (fun s =>
    let s := forN 16 (fun i s => setTap (16 * g + i) { getTap s (16 * g + i) with outside := 0 } s)
      (writeRw (SLC_CMWIN g) v.toNat s)
    whenS (!flag s (SLC_CMWIN_CM_EN g)) (fun s =>
      forN 16 headOut (forN 16 (fun i s => setFlag s (TAP_STATUS_CM_OUT (16 * g + i)) false) s)) s) s)

end Sys2Proof.Machine
end

