-- ==== Sys2Proof/Machine/Dispatch.lean ====
section
/-! DEFINITION. The dispatch: one arm for each command, a direct call of its meaning. -/

namespace Sys2Proof.Machine

/-- What a command does to everything but the queue. -/
def exec (i : Instr) (s : State) : Host.Outcome State Fault Refusal :=
  match i with
  | .regWrite byHk off v => Sys2Proof.Machine.execRegWrite byHk off v s
  | .badAccess read bar off => Sys2Proof.Machine.execBadAccess read bar off s
  | .rootStoppedAccess bar write off v => Sys2Proof.Machine.execRootStoppedAccess bar write off v s
  | .pairLowRead ms off => Sys2Proof.Machine.execPairLowRead ms off s
  | .pairHighRead ms off => Sys2Proof.Machine.execPairHighRead ms off s
  | .headTrigstatRead h => Sys2Proof.Machine.execHeadTrigstatRead h s
  | .tapOvrRead t => Sys2Proof.Machine.execTapOvrRead t s
  | .pipeEccCeRead => Sys2Proof.Machine.execPipeEccCeRead s
  | .pipeEccUeRead => Sys2Proof.Machine.execPipeEccUeRead s
  | .pipeClipRead h => Sys2Proof.Machine.execPipeClipRead h s
  | .lndLostRead cl => Sys2Proof.Machine.execLndLostRead cl s
  | .lndFlushcntRead => Sys2Proof.Machine.execLndFlushcntRead s
  | .motAdmstatRead => Sys2Proof.Machine.execMotAdmstatRead s
  | .motEerrRead e => Sys2Proof.Machine.execMotEerrRead e s
  | .lmpCntRead => Sys2Proof.Machine.execLmpCntRead s
  | .auxDropsRead => Sys2Proof.Machine.execAuxDropsRead s
  | .auxWcStatRead k => Sys2Proof.Machine.execAuxWcStatRead k s
  | .recRejRead => Sys2Proof.Machine.execRecRejRead s
  | .hwyErrcntRead => Sys2Proof.Machine.execHwyErrcntRead s
  | .lnkErrcntRead => Sys2Proof.Machine.execLnkErrcntRead s
  | .celCeRead => Sys2Proof.Machine.execCelCeRead s
  | .celUeRead => Sys2Proof.Machine.execCelUeRead s
  | .powerOnResetRelease straps bankFault => Sys2Proof.Machine.execPowerOnResetRelease straps bankFault s
  | .reset cause => Sys2Proof.Machine.execReset cause s
  | .warn rails vmon => Sys2Proof.Machine.execWarn rails vmon s
  | .warnClear vmon => Sys2Proof.Machine.execWarnClear vmon s
  | .railOvervoltage rail => Sys2Proof.Machine.execRailOvervoltage rail s
  | .bandgapCheck ok => Sys2Proof.Machine.execBandgapCheck ok s
  | .dieTempCheck temp => Sys2Proof.Machine.execDieTempCheck temp s
  | .pantryEpoch m => Sys2Proof.Machine.execPantryEpoch m s
  | .pwrBudgetWrite peak v => Sys2Proof.Machine.execPwrBudgetWrite peak v s
  | .rootLock => Sys2Proof.Machine.execRootLock s
  | .startStepDone step rep => Sys2Proof.Machine.execStartStepDone step rep s
  | .atticBackgroundCheck ok => Sys2Proof.Machine.execAtticBackgroundCheck ok s
  | .sysModereq v => Sys2Proof.Machine.execSysModereq v s
  | .startCold => Sys2Proof.Machine.execStartCold s
  | .startWarm => Sys2Proof.Machine.execStartWarm s
  | .heldStartBegin => Sys2Proof.Machine.execHeldStartBegin s
  | .wake => Sys2Proof.Machine.execWake s
  | .selftest tests => Sys2Proof.Machine.execSelftest tests s
  | .selftestDone pass rep => Sys2Proof.Machine.execSelftestDone pass rep s
  | .sysLock => Sys2Proof.Machine.execSysLock s
  | .sysLimpCelClear => Sys2Proof.Machine.execSysLimpCelClear s
  | .fwWrite => Sys2Proof.Machine.execFwWrite s
  | .fwWriteDone rep => Sys2Proof.Machine.execFwWriteDone rep s
  | .fwSwap => Sys2Proof.Machine.execFwSwap s
  | .fwSwapReady rep => Sys2Proof.Machine.execFwSwapReady rep s
  | .fwSwapExecute => Sys2Proof.Machine.execFwSwapExecute s
  | .fwSwapCancel => Sys2Proof.Machine.execFwSwapCancel s
  | .revertWindowEnd => Sys2Proof.Machine.execRevertWindowEnd s
  | .housekeeperFault => Sys2Proof.Machine.execHousekeeperFault s
  | .hkPauseEnd => Sys2Proof.Machine.execHkPauseEnd s
  | .linkDown => Sys2Proof.Machine.execLinkDown s
  | .perst => Sys2Proof.Machine.execPerst s
  | .linkUp width speed => Sys2Proof.Machine.execLinkUp width speed s
  | .busMasterEnable on => Sys2Proof.Machine.execBusMasterEnable on s
  | .clockFault f => Sys2Proof.Machine.execClockFault f s
  | .xsyncEdge falling => Sys2Proof.Machine.execXsyncEdge falling s
  | .headOnline h => Sys2Proof.Machine.execHeadOnline h s
  | .headSettleDone h => Sys2Proof.Machine.execHeadSettleDone h s
  | .headWarmupDone h => Sys2Proof.Machine.execHeadWarmupDone h s
  | .headOffline h => Sys2Proof.Machine.execHeadOffline h s
  | .headStopDone h => Sys2Proof.Machine.execHeadStopDone h s
  | .headCommit h => Sys2Proof.Machine.execHeadCommit h s
  | .headSwtrig h => Sys2Proof.Machine.execHeadSwtrig h s
  | .headTimerTrigger h => Sys2Proof.Machine.execHeadTimerTrigger h s
  | .headGeometryWrite h reg v => Sys2Proof.Machine.execHeadGeometryWrite h reg v s
  | .triggerFire h => Sys2Proof.Machine.execTriggerFire h s
  | .exposureEnd h => Sys2Proof.Machine.execExposureEnd h s
  | .tapPhaseActivate h => Sys2Proof.Machine.execTapPhaseActivate h s
  | .readoutEnd h => Sys2Proof.Machine.execReadoutEnd h s
  | .busyWindowClose h => Sys2Proof.Machine.execBusyWindowClose h s
  | .headConnFault t => Sys2Proof.Machine.execHeadConnFault t s
  | .cmAverageDone t mv last => Sys2Proof.Machine.execCmAverageDone t mv last s
  | .tapFixedWrite t clamp v => Sys2Proof.Machine.execTapFixedWrite t clamp v s
  | .tapLiveWrite t pga v => Sys2Proof.Machine.execTapLiveWrite t pga v s
  | .slcCmwinWrite g v => Sys2Proof.Machine.execSlcCmwinWrite g v s
  | .rotationStep g => Sys2Proof.Machine.execRotationStep g s
  | .guestHandover g => Sys2Proof.Machine.execGuestHandover g s
  | .sliceCalRunEnd g meas => Sys2Proof.Machine.execSliceCalRunEnd g meas s
  | .guestHandback g fit => Sys2Proof.Machine.execGuestHandback g fit s
  | .overlapTimeout g => Sys2Proof.Machine.execOverlapTimeout g s
  | .sliceFault g j => Sys2Proof.Machine.execSliceFault g j s
  | .guestStandin g => Sys2Proof.Machine.execGuestStandin g s
  | .sliceFaultReport g => Sys2Proof.Machine.execSliceFaultReport g s
  | .slcCmdRun g j => Sys2Proof.Machine.execSlcCmdRun g j s
  | .slcCmdReinstate g j => Sys2Proof.Machine.execSlcCmdReinstate g j s
  | .bandLineRecordStore h samples => Sys2Proof.Machine.execBandLineRecordStore h samples s
  | .packetTimeout h => Sys2Proof.Machine.execPacketTimeout h s
  | .scrubPass found => Sys2Proof.Machine.execScrubPass found s
  | .laneFault l => Sys2Proof.Machine.execLaneFault l s
  | .spareLaneTakeover l => Sys2Proof.Machine.execSpareLaneTakeover l s
  | .laneFaultReport l => Sys2Proof.Machine.execLaneFaultReport l s
  | .spareLaneFault sp => Sys2Proof.Machine.execSpareLaneFault sp s
  | .coefLoad slot => Sys2Proof.Machine.execCoefLoad slot s
  | .stagingGrant => Sys2Proof.Machine.execStagingGrant s
  | .coefFetchDone bytes celUe => Sys2Proof.Machine.execCoefFetchDone bytes celUe s
  | .coefCommit slot => Sys2Proof.Machine.execCoefCommit slot s
  | .commitCopyStart => Sys2Proof.Machine.execCommitCopyStart s
  | .commitCopyEnd => Sys2Proof.Machine.execCommitCopyEnd s
  | .coefRead slot => Sys2Proof.Machine.execCoefRead slot s
  | .calRun slot => Sys2Proof.Machine.execCalRun slot s
  | .calRunTrigger h => Sys2Proof.Machine.execCalRunTrigger h s
  | .calRunMeasureEnd h => Sys2Proof.Machine.execCalRunMeasureEnd h s
  | .calRunComplete h => Sys2Proof.Machine.execCalRunComplete h s
  | .gapSearchTimeout h => Sys2Proof.Machine.execGapSearchTimeout h s
  | .darkTrackUpdate t b samples => Sys2Proof.Machine.execDarkTrackUpdate t b samples s
  | .whiteTrackDue h b => Sys2Proof.Machine.execWhiteTrackDue h b s
  | .attSave slot => Sys2Proof.Machine.execAttSave slot s
  | .attSaveStepDone flashOk => Sys2Proof.Machine.execAttSaveStepDone flashOk s
  | .posChange m fwd => Sys2Proof.Machine.execPosChange m fwd s
  | .encoderEdge e a b j => Sys2Proof.Machine.execEncoderEdge e a b j s
  | .docSensorEdge k level runTime runPos => Sys2Proof.Machine.execDocSensorEdge k level runTime runPos s
  | .admissionGrant => Sys2Proof.Machine.execAdmissionGrant s
  | .releasePulseEnd => Sys2Proof.Machine.execReleasePulseEnd s
  | .motHdocWrite h v => Sys2Proof.Machine.execMotHdocWrite h v s
  | .fillEval => Sys2Proof.Machine.execFillEval s
  | .axisAtRest m => Sys2Proof.Machine.execAxisAtRest m s
  | .backupMoveDone m => Sys2Proof.Machine.execBackupMoveDone m s
  | .runupDone m => Sys2Proof.Machine.execRunupDone m s
  | .holdTimeout => Sys2Proof.Machine.execHoldTimeout s
  | .motProfile slot bytes => Sys2Proof.Machine.execMotProfile slot bytes s
  | .motAcmdStart m => Sys2Proof.Machine.execMotAcmdStart m s
  | .motAcmdStop m => Sys2Proof.Machine.execMotAcmdStop m s
  | .motAcmdImmediateStop m => Sys2Proof.Machine.execMotAcmdImmediateStop m s
  | .axisFault m drv => Sys2Proof.Machine.execAxisFault m drv s
  | .irefStandby m => Sys2Proof.Machine.execIrefStandby m s
  | .motPaceWrite v => Sys2Proof.Machine.execMotPaceWrite v s
  | .lampLoad slot bytes => Sys2Proof.Machine.execLampLoad slot bytes s
  | .lampLoadComplete => Sys2Proof.Machine.execLampLoadComplete s
  | .driveRecompute => Sys2Proof.Machine.execDriveRecompute s
  | .lmpSbinWrite k r v => Sys2Proof.Machine.execLmpSbinWrite k r v s
  | .stringDueTimeout k => Sys2Proof.Machine.execStringDueTimeout k s
  | .diagLate k => Sys2Proof.Machine.execDiagLate k s
  | .strobeEnd k => Sys2Proof.Machine.execStrobeEnd k s
  | .lstbFall => Sys2Proof.Machine.execLstbFall s
  | .lbandHoldEnd => Sys2Proof.Machine.execLbandHoldEnd s
  | .pulseDiagnosed k meas => Sys2Proof.Machine.execPulseDiagnosed k meas s
  | .redistApply k => Sys2Proof.Machine.execRedistApply k s
  | .redistSettleEnd k => Sys2Proof.Machine.execRedistSettleEnd k s
  | .servoPeriodEnd vmeas irail => Sys2Proof.Machine.execServoPeriodEnd vmeas irail s
  | .railOkSet => Sys2Proof.Machine.execRailOkSet s
  | .railFault kind => Sys2Proof.Machine.execRailFault kind s
  | .lmpCmdRestore sat str => Sys2Proof.Machine.execLmpCmdRestore sat str s
  | .lmpCmdRestoreAll => Sys2Proof.Machine.execLmpCmdRestoreAll s
  | .lmpCmdLampTest => Sys2Proof.Machine.execLmpCmdLampTest s
  | .lampTestPulse meas => Sys2Proof.Machine.execLampTestPulse meas s
  | .dbCmdPi v => Sys2Proof.Machine.execDbCmdPi v s
  | .dbCplCi v => Sys2Proof.Machine.execDbCplCi v s
  | .dbEvtCi v => Sys2Proof.Machine.execDbEvtCi v s
  | .dbImgPi h v => Sys2Proof.Machine.execDbImgPi h v s
  | .hostRctlWrite r v => Sys2Proof.Machine.execHostRctlWrite r v s
  | .ringIdle r => Sys2Proof.Machine.execRingIdle r s
  | .cmdFetchDone d => Sys2Proof.Machine.execCmdFetchDone d s
  | .ringFetchError r => Sys2Proof.Machine.execRingFetchError r s
  | .cmdDataReadError slot => Sys2Proof.Machine.execCmdDataReadError slot s
  | .nop slot => Sys2Proof.Machine.execNop slot s
  | .skipDoc slot => Sys2Proof.Machine.execSkipDoc slot s
  | .skipDocDone slot => Sys2Proof.Machine.execSkipDocDone slot s
  | .completionWrite => Sys2Proof.Machine.execCompletionWrite s
  | .packetDeliver h buf ecc => Sys2Proof.Machine.execPacketDeliver h buf ecc s
  | .msixSignal src => Sys2Proof.Machine.execMsixSignal src s
  | .msixUnmask vec => Sys2Proof.Machine.execMsixUnmask vec s
  | .landingDmaPop => Sys2Proof.Machine.execLandingDmaPop s
  | .lndDataLoRead ms => Sys2Proof.Machine.execLndDataLoRead ms s
  | .lndDataHiRead ms => Sys2Proof.Machine.execLndDataHiRead ms s
  | .lndDrop => Sys2Proof.Machine.execLndDrop s
  | .lndFlush => Sys2Proof.Machine.execLndFlush s
  | .lndCtlWrite v => Sys2Proof.Machine.execLndCtlWrite v s
  | .auxCvctlWrite c v => Sys2Proof.Machine.execAuxCvctlWrite c v s
  | .auxSwtrig c => Sys2Proof.Machine.execAuxSwtrig c s
  | .auxTimerTrigger c => Sys2Proof.Machine.execAuxTimerTrigger c s
  | .auxInjWrite c v => Sys2Proof.Machine.execAuxInjWrite c v s
  | .fcConversionDone c raw => Sys2Proof.Machine.execFcConversionDone c raw s
  | .pcOutput c raw => Sys2Proof.Machine.execPcOutput c raw s
  | .streamMsgTimeout c => Sys2Proof.Machine.execStreamMsgTimeout c s
  | .refSettled c => Sys2Proof.Machine.execRefSettled c s
  | .refFault c => Sys2Proof.Machine.execRefFault c s
  | .auxCalPeriod => Sys2Proof.Machine.execAuxCalPeriod s
  | .auxCalcmd v => Sys2Proof.Machine.execAuxCalcmd v s
  | .auxCalRangeDone c off gain => Sys2Proof.Machine.execAuxCalRangeDone c off gain s
  | .auxConvFault c => Sys2Proof.Machine.execAuxConvFault c s
  | .auxMigrate c => Sys2Proof.Machine.execAuxMigrate c s
  | .auxExcWrite n v => Sys2Proof.Machine.execAuxExcWrite n v s
  | .auxResLoRead ms off => Sys2Proof.Machine.execAuxResLoRead ms off s
  | .recSignalChange smp => Sys2Proof.Machine.execRecSignalChange smp s
  | .recArm => Sys2Proof.Machine.execRecArm s
  | .recDisarm => Sys2Proof.Machine.execRecDisarm s
  | .recHostTrig => Sys2Proof.Machine.execRecHostTrig s
  | .recCopy => Sys2Proof.Machine.execRecCopy s
  | .recClearEnd => Sys2Proof.Machine.execRecClearEnd s
  | .recCopyDone => Sys2Proof.Machine.execRecCopyDone s
  | .recRd0Read ms => Sys2Proof.Machine.execRecRd0Read ms s
  | .recRd3Read ms => Sys2Proof.Machine.execRecRd3Read ms s
  | .superframeSend => Sys2Proof.Machine.execSuperframeSend s
  | .superframeRx port bytes => Sys2Proof.Machine.execSuperframeRx port bytes s
  | .tokenRx a b => Sys2Proof.Machine.execTokenRx a b s
  | .replicaStep => Sys2Proof.Machine.execReplicaStep s
  | .hwyMsgSend v => Sys2Proof.Machine.execHwyMsgSend v s
  | .enumerationDone index n err udly ddly => Sys2Proof.Machine.execEnumerationDone index n err udly ddly s
  | .hwyBreak port => Sys2Proof.Machine.execHwyBreak port s
  | .foldComplete => Sys2Proof.Machine.execFoldComplete s
  | .hwyCutOff => Sys2Proof.Machine.execHwyCutOff s
  | .hwyRejoin => Sys2Proof.Machine.execHwyRejoin s
  | .hwyCtlWrite v => Sys2Proof.Machine.execHwyCtlWrite v s
  | .linkCycleEnd frames => Sys2Proof.Machine.execLinkCycleEnd frames s
  | .linkSizingDone count => Sys2Proof.Machine.execLinkSizingDone count s
  | .lnkResize => Sys2Proof.Machine.execLnkResize s
  | .pmcSnap => Sys2Proof.Machine.execPmcSnap s
  | .pmcFreeze b => Sys2Proof.Machine.execPmcFreeze b s
  | .pmcClr => Sys2Proof.Machine.execPmcClr s
  | .pmcLoadLow k v => Sys2Proof.Machine.execPmcLoadLow k v s
  | .pmcLoadHigh k v => Sys2Proof.Machine.execPmcLoadHigh k v s
  | .pmcOverflow k => Sys2Proof.Machine.execPmcOverflow k s
  | .jtagExtest on => Sys2Proof.Machine.execJtagExtest on s
  | .tmodeHigh on => Sys2Proof.Machine.execTmodeHigh on s
  | .porConditionsMet => Sys2Proof.Machine.execPorConditionsMet s
  | .trstNLow => Sys2Proof.Machine.execTrstNLow s
  | .perstRelease => Sys2Proof.Machine.execPerstRelease s
  | .hwySymbolLock port => Sys2Proof.Machine.execHwySymbolLock port s
  | .railOkClear => Sys2Proof.Machine.execRailOkClear s
  | .recMaskedTrigger smp => Sys2Proof.Machine.execRecMaskedTrigger smp s

end Sys2Proof.Machine
end

