-- ==== Sys2Proof/Machine/Tick.lean ====
section
/-! DEFINITION. What the block does by itself when no command waits: commands that have fallen due, and one tick of CORE
(spec/02, R36, R40, R41; DESIGN CHOICE, log entry 2). -/

namespace Sys2Proof.Machine

/-- Put a command at the end of the queue. -/
def enqueue (c : Instr) (s : State) : State := { s with pending := s.pending ++ [c] }

/-- Deadlines whose tick has come, in the order they were set. -/
def dueNow (s : State) : List Instr := (s.agenda.filter fun p => decide (p.1 ≤ s.time)).map fun p => p.2

/-- The deadlines that are due wait in the queue. -/
def takeDue (s : State) : State :=
  { s with pending := s.pending ++ dueNow s, agenda := s.agenda.filter fun p => !decide (p.1 ≤ s.time) }

/-- Free counts of one event type on this tick (R548; DESIGN CHOICE, log entry 4). -/
def freeCount (ev : Nat) (s : State) : State :=
  let r := draw s
  pmcEvents ev {} (Config.freeEvents ev r.1) r.2

/-- The event types of R548 that count ticks, and those whose source the spec leaves open. -/
def countTicks (s : State) : State :=
  let s := whenS s.mot.aboveFollow (pmcEvent 0x0E) s
  let s := whenS (decide (s.mot.k < 1)) (pmcEvent 0x24) s
  let s := whenS (fget s MOT_STATUS_PSTATE == 3) (pmcEvent 0x25) s
  let s := whenS s.mot.admReq (pmcEvent 0x27) s
  let s := whenS (fget s PIPE_STATUS_STAGE != 0) (pmcEvent 0x2F) s
  let s := whenS (decide (3072 ≤ lndUsed s)) (pmcEvent 0x36) s
  let s := pmcEvent (if s.fw.paused then 0x39 else 0x38) s
  [0x0C, 0x0D, 0x3C, 0x3D, 0x3E].foldl (fun s e => freeCount e s) s

/-- TIME and PMC_CYCLE move on (R40, R41, R545, R551): in SLEEP TIME moves by the 24 ticks of a SLOW edge, and CORE rests. -/
def advance (s : State) : State :=
  if modeIs s .sleep then { s with time := (s.time + 24) % 2 ^ 64 }
  else
    let s := { s with time := (s.time + 1) % 2 ^ 64 }
    if flag s PMC_CTL_FREEZE then s else { s with pmc := { s.pmc with cyc := (s.pmc.cyc + 1) % 2 ^ 64 } }

/-- t is a multiple of p ticks. -/
def every (s : State) (p : Nat) : Bool := decide (p ≠ 0) && s.time % p == 0

/-- What the block's own engines ask for on this tick: each command with the condition on which it comes. -/
def engines (s : State) : List (Bool × Instr) :=
  [(s.pipe.stage.isNone && (nextRequest s).isSome, .stagingGrant),
   (copyMay s, .commitCopyStart),
   (mayComplete s, .completionWrite),
   (dmaMayPop s && (lndNext s).isSome, .landingDmaPop),
   (isCutOff s, .hwyCutOff),
   (flag s SYS_FWSTAT_SWAP_PEND && docGap s, .fwSwapExecute),
   (hwyRuns s && hwyMaster s && every s 600, .superframeSend),
   (every s 6000, .fillEval),
   (every s (600000 * clampNat 10 10000 (fget s LMP_RECOMP_PERIOD)), .driveRecompute),
   (every s (600000000 * fget s AUX_CTL_CALPER), .auxCalPeriod)]
    ++ (List.finRange 16).map (fun (g : Fin 16) => (stepDue s g, .rotationStep g))
    ++ ((List.finRange 22).find? fun (k : Fin 22) => maySignal s k).toList.map (fun (k : Fin 22) => (true, .msixSignal k))

/-- Those whose condition holds wait in the queue. -/
def askEngines (s : State) : State := (engines s).foldl (fun a p => if p.1 then enqueue p.2 a else a) s

/-- What the firmware and the host block follow up on every tick (R192, R232, R249, R345, R359, R361, R496, R517, R522, R526). -/
def followUp (s : State) : State :=
  pbaSend (cplStall (admStopCheck (serveDue (deferredSave (limpFollow (ringFollow (stepTimes s)))))))

/-- One tick with no command waiting (R34 to R36): the recorder's sample of the tick that ends, then the next tick. -/
def tick (s : State) : State :=
  if !rootRuns s || modeIs s .off then s
  else if modeIs s .sleep then pbaSend (advance s)
  else askEngines (followUp (countTicks (lndTick (advance (recTick s)))))

/-- An empty queue: first what has fallen due, then a tick. -/
def idle (s : State) : State := if (dueNow s).isEmpty then tick s else takeDue s

end Sys2Proof.Machine
end

