-- ==== Sys2Proof/Machine/Touch.lean ====
section
/-! DEFINITION. The parts of the state, and for each command the parts it may change: the frame of every command. -/

namespace Sys2Proof.Machine

/-- The register at byte offset off of BAR 0 as it is stored. -/
def reg (s : State) (off : Nat) : Word := tget regReset s.regs off

/-- The registers are told apart by their rows of the register map: the offset of the first register of the row that holds off
(so HEAD_STATUS 0 stands for HEAD_STATUS of every head); a reserved offset stands for itself. -/
def regRow (off : Nat) : Nat := match rowOf off with | some r => r.base | none => off

/-- The parts of the state: the registers of one row of the register map, named by its first register (anyReg stands for all
of them), and each unit's other state. -/
inductive Part where
  | reg (first : Nat)
  | anyReg
  | agenda | time | draws | active | bands | emits | rdata | shadows | mode | start | fw | lnd | pmc | host | heads | taps
  | groups | pipe | pwr | shd | mot | lmp | att | aux | recd | hwy | lnk
  deriving DecidableEq, Repr

/-- A part of the state is the same before and after. -/
def Part.same (p : Part) (s t : State) : Prop :=
  match p with
  | .reg n => ∀ off, regRow off = n → Machine.reg t off = Machine.reg s off
  | .anyReg => True
  | .agenda => t.agenda = s.agenda
  | .time => t.time = s.time
  | .draws => t.fresh = s.fresh
  | .active => t.active = s.active
  | .bands => t.bandTick = s.bandTick ∧ t.bandLog = s.bandLog
  | .emits => t.emits = s.emits
  | .rdata => t.rdata = s.rdata
  | .shadows => t.shadow0 = s.shadow0 ∧ t.shadow4 = s.shadow4 ∧ t.shadowK = s.shadowK
  | .mode => t.mode = s.mode
  | .start => t.start = s.start
  | .fw => t.fw = s.fw
  | .lnd => t.lnd = s.lnd
  | .pmc => t.pmc = s.pmc
  | .host => t.host = s.host
  | .heads => t.heads = s.heads
  | .taps => t.taps = s.taps
  | .groups => t.groups = s.groups
  | .pipe => t.pipe = s.pipe
  | .pwr => t.pwr = s.pwr
  | .shd => t.shd = s.shd
  | .mot => t.mot = s.mot
  | .lmp => t.lmp = s.lmp
  | .att => t.att = s.att
  | .aux => t.aux = s.aux
  | .recd => t.recd = s.recd
  | .hwy => t.hwy = s.hwy
  | .lnk => t.lnk = s.lnk

/-- p is one of the parts ps; anyReg among them stands for every row of registers. -/
def Part.among (p : Part) (ps : List Part) : Bool :=
  ps.contains p || match p with | .reg _ => ps.contains .anyReg | _ => false

/-- From s to t only the parts ps may differ: the queue and every other part are the same. -/
def onlyTouches (ps : List Part) (s t : State) : Prop :=
  t.pending = s.pending ∧ ∀ p : Part, p.among ps = false → p.same s t

/-! The table of frames. -/

/-- What a read of a register with RC fields (R12, R14) may change. -/
def readParts : List Part :=
  [.agenda, .rdata, .pmc]

/-- What a command of the CMD ring that starts (R361) may change. -/
def commandParts : List Part :=
  [.agenda, .pmc, .host]

/-- What a position trigger of the auxiliary converters (R410) may change. -/
def auxTriggerParts : List Part :=
  [.aux, .reg AUX_STATUS, .reg AUX_EVENTS, .reg AUX_CALSTAT, .reg (AUX_EXC 0)]

/-- What a message that opens (R384, R389) may change. -/
def messageParts : List Part :=
  [.agenda, .lnd, .pmc, .recd, .reg LND_EVENTS, .reg (LND_LOST 0)]

/-- What a head that goes OFFLINE (R92) may change. -/
def offlineParts : List Part :=
  [.agenda, .active, .heads, .taps, .groups, .shd, .mot, .lmp, .reg (HEAD_CTL 0), .reg (HEAD_STATUS 0), .reg (TAP_STATUS 0),
    .reg (SLC_GSTATE 0), .reg (SHD_HSTAT 0)]

/-- What entry to LIMP (R517) may change. -/
def limpParts : List Part :=
  messageParts ++ [.mode, .shd, .mot, .lmp, .reg SYS_EVENTS, .reg (MOT_ASTATUS 0), .reg LMP_STATUS, .reg LMP_VSET,
    .reg LMP_CMDSTAT]

/-- What a sample of the transport recorder (R438 to R448) may change. -/
def sampleParts : List Part :=
  messageParts ++ [.reg SYS_ID, .reg REC_STATUS, .reg REC_EVENTS, .reg REC_INFO, .reg REC_LOST, .reg REC_REJ,
    .reg REC_CAPNUM, .reg REC_TTRIG_LO, .reg REC_TTRIG_HI, .reg REC_REJT_LO, .reg REC_REJT_HI, .reg REC_DEAD_CAP]

/-- What a start, or OFF (R16, R498) may change. -/
def resetParts : List Part :=
  commandParts ++ [.active, .shadows, .mode, .start, .fw, .lnd, .heads, .taps, .groups, .pipe, .pwr, .shd, .mot, .lmp, .att,
    .aux, .recd, .hwy, .lnk, .anyReg]

/-- What a trigger cause of a head (R60 to R64) may change. -/
def triggerParts : List Part :=
  messageParts ++ [.active, .host, .heads, .shd, .mot, .lmp, .reg SYS_LIMP, .reg (HEAD_CTL 0), .reg (HEAD_STATUS 0),
    .reg (HEAD_EVENTS 0), .reg (HEAD_TRIGSTAT 0), .reg (HEAD_LINE 0), .reg (HEAD_BAND 0 0), .reg (SHD_HSTAT 0),
    .reg MOT_EVENTS, .reg (MOT_HDOCNUM 0), .reg LMP_STATUS, .reg (LMP_SSTAT 0), .reg (LMP_SDRV 0 0)]

/-- What the comparison of a replica (R465) may change. -/
def compareParts : List Part :=
  messageParts ++ [.active, .host, .heads, .shd, .mot, .lmp, .hwy, .reg SYS_LIMP, .reg (HEAD_CTL 0), .reg (HEAD_STATUS 0),
    .reg (HEAD_EVENTS 0), .reg (HEAD_TRIGSTAT 0), .reg (HEAD_LINE 0), .reg (HEAD_BAND 0 0), .reg (SHD_HSTAT 0),
    .reg MOT_EVENTS, .reg LMP_STATUS, .reg (LMP_SSTAT 0), .reg (LMP_SDRV 0 0), .reg HWY_EVENTS]

/-- What the retirement of a slice (R138) may change. -/
def retireParts : List Part :=
  limpParts ++ [.groups, .att, .reg SYS_LIMP, .reg (TAP_STATUS 0), .reg SLC_STATUS, .reg SLC_EVENTS, .reg SLC_SUSP,
    .reg (SLC_GSTATE 0), .reg (SLC_GRETIRE 0), .reg ATT_STATUS, .reg ATT_EVENTS, .reg ATT_JRNL]

/-- What a cause of HALT (R519) may change. -/
def haltParts : List Part :=
  limpParts ++ offlineParts ++ [.start, .host, .pipe, .att, .reg SYS_FAULT, .reg SLC_CMDSTAT, .reg PIPE_STATUS,
    .reg ATT_STATUS, .reg ATT_EVENTS, .reg ATT_JRNL, .reg MOT_TO, .reg (MOT_ACTL 0), .reg (MOT_AVEL 0)]

/-- What each command may change: every other register, the queue and every other part of the state are as before. A register
stands for its whole row of the register map. -/
def touches (c : Instr) : List Part :=
  match c with
  | .regWrite _ off _ => .reg (regRow off) :: (limpParts ++ [.bands, .host, .reg SYS_STARTSTAT, .reg HOST_EVENTS,
      .reg HOST_ERRINFO, .reg (HEAD_CONN 0), .reg MOT_STATUS, .reg MOT_EVENTS, .reg MOT_ADMSTAT, .reg (MOT_ACTL 0),
      .reg (MOT_AEVENTS 0), .reg (MOT_AVEL 0), .reg LNK_STATUS, .reg (AUX_WC_STAT 0)])
  | .badAccess _ _ _ => [.agenda, .rdata, .host, .reg HOST_EVENTS, .reg HOST_ERRINFO]
  | .rootStoppedAccess _ _ off _ => .reg (regRow off) :: [.rdata, .mode]
  | .pairLowRead _ _ => readParts ++ [.shadows]
  | .pairHighRead _ _ => readParts ++ [.shadows, .aux]
  | .headTrigstatRead _ => readParts ++ [.reg (HEAD_TRIGSTAT 0)]
  | .tapOvrRead _ => readParts ++ [.reg (TAP_OVR 0)]
  | .pipeEccCeRead => readParts ++ [.reg PIPE_ECC_CE]
  | .pipeEccUeRead => readParts ++ [.reg PIPE_ECC_UE]
  | .pipeClipRead _ => readParts ++ [.reg (PIPE_CLIP 0)]
  | .lndLostRead _ => readParts ++ [.reg (LND_LOST 0)]
  | .lndFlushcntRead => readParts ++ [.reg LND_FLUSHCNT]
  | .motAdmstatRead => readParts ++ [.reg MOT_ADMSTAT]
  | .motEerrRead _ => readParts ++ [.reg (MOT_EERR 0)]
  | .lmpCntRead => readParts ++ [.reg LMP_CNT]
  | .auxDropsRead => readParts ++ [.reg AUX_DROPS]
  | .auxWcStatRead _ => readParts ++ [.reg (AUX_WC_STAT 0)]
  | .recRejRead => readParts ++ [.reg REC_REJ]
  | .hwyErrcntRead => readParts ++ [.reg HWY_ERRCNT]
  | .lnkErrcntRead => readParts ++ [.reg LNK_ERRCNT]
  | .celCeRead => readParts ++ [.reg CEL_CE]
  | .celUeRead => readParts ++ [.reg CEL_UE]
  | .powerOnResetRelease _ _ => resetParts ++ [.emits]
  | .reset _ => resetParts
  | .warn _ _ => limpParts ++ [.host, .pwr, .att, .reg PWR_STATUS, .reg PWR_EVENTS, .reg PWR_VMON, .reg PWR_VMEAS,
      .reg SLC_STATUS, .reg SHD_STATUS, .reg SHD_EVENTS, .reg ATT_STATUS, .reg ATT_EVENTS, .reg ATT_JRNL, .reg MOT_STATUS,
      .reg MOT_PANTRY]
  | .warnClear _ => messageParts ++ [.start, .pwr, .reg PWR_STATUS, .reg PWR_EVENTS, .reg PWR_VMEAS]
  | .railOvervoltage _ => haltParts ++ [.reg PWR_STATUS, .reg PWR_EVENTS]
  | .bandgapCheck _ => messageParts ++ [.reg PWR_STATUS, .reg PWR_EVENTS]
  | .dieTempCheck _ => haltParts ++ [.reg PWR_STATUS, .reg PWR_EVENTS]
  | .pantryEpoch _ => limpParts ++ [.pwr, .reg PWR_STATUS, .reg PWR_EVENTS, .reg PWR_LCORE, .reg PWR_LLAMP, .reg PWR_LMOT,
      .reg PWR_PLAN, .reg PWR_PEAKMEAS, .reg PWR_ETOT_LO, .reg PWR_ETOT_HI, .reg SLC_STATUS, .reg SHD_STATUS,
      .reg SHD_EVENTS, .reg MOT_STATUS, .reg MOT_PANTRY]
  | .pwrBudgetWrite _ _ => [.agenda, .pmc, .pwr, .reg PWR_AVG, .reg PWR_PEAK]
  | .rootLock => [.time, .reg CLK_STATUS]
  | .startStepDone _ _ => resetParts ++ [.emits]
  | .atticBackgroundCheck _ => messageParts ++ [.att, .reg ATT_STATUS, .reg ATT_EVENTS]
  | .sysModereq _ => haltParts ++ auxTriggerParts ++ [.reg AUX_DROPS, .reg CEL_STATUS]
  | .startCold => resetParts ++ [.emits]
  | .startWarm => resetParts ++ [.emits]
  | .heldStartBegin => resetParts ++ [.emits]
  | .wake => resetParts ++ [.emits]
  | .selftest _ => [.agenda, .mode, .pmc, .reg SYS_EVENTS, .reg SYS_DIAG]
  | .selftestDone _ _ => retireParts ++ [.heads, .pipe, .reg SYS_DIAG, .reg (SLC_GLAST 0), .reg PIPE_STATUS,
      .reg PIPE_EVENTS, .reg PIPE_LANEMAP, .reg PIPE_LANEFAIL, .reg PIPE_ECC_CE, .reg PIPE_ECC_UE, .reg PIPE_ECC_ROW,
      .reg (PIPE_SPROW 0)]
  | .sysLock => [.agenda, .pmc, .reg SYS_LOCK]
  | .sysLimpCelClear => [.agenda, .pmc, .reg SYS_LIMP]
  | .fwWrite => [.agenda, .fw, .pmc, .reg SYS_EVENTS, .reg SYS_FWSTAT]
  | .fwWriteDone _ => [.fw, .reg SYS_EVENTS, .reg SYS_FWSTAT]
  | .fwSwap => [.agenda, .fw, .pmc, .reg SYS_EVENTS, .reg SYS_FWSTAT]
  | .fwSwapReady _ => [.fw, .reg SYS_EVENTS, .reg SYS_FWSTAT]
  | .fwSwapExecute => [.agenda, .fw, .reg SYS_EVENTS, .reg SYS_FWSTAT, .reg SYS_FWVER]
  | .fwSwapCancel => [.agenda, .fw, .pmc, .reg SYS_EVENTS, .reg SYS_FWSTAT]
  | .revertWindowEnd => [.fw]
  | .housekeeperFault => resetParts ++ [.emits]
  | .hkPauseEnd => [.fw, .att, .reg ATT_STATUS]
  | .linkDown => haltParts ++ [.reg HOST_STATUS, .reg HOST_EVENTS]
  | .perst => haltParts ++ [.reg HOST_STATUS, .reg HOST_EVENTS, .reg (MSIX_ADDR_LO 0), .reg (MSIX_ADDR_HI 0),
      .reg (MSIX_DATA 0), .reg (MSIX_CTRL 0), .reg (MSIX_PBA 0)]
  | .linkUp _ _ => [.reg CLK_STATUS, .reg HOST_STATUS]
  | .busMasterEnable _ => [.reg HOST_STATUS]
  | .clockFault _ => haltParts ++ [.reg CLK_STATUS, .reg CLK_EVENTS, .reg CLK_FAULT_TIME_LO, .reg CLK_FAULT_TIME_HI,
      .reg HOST_STATUS, .reg HOST_EVENTS]
  | .xsyncEdge _ => compareParts ++ [.emits, .reg (MOT_HDOCNUM 0)]
  | .headOnline _ => [.agenda, .pmc, .heads, .reg (HEAD_CTL 0), .reg (HEAD_STATUS 0), .reg (HEAD_EVENTS 0), .reg (TAP_STATUS
      0), .reg (SLC_GSTATE 0)]
  | .headSettleDone _ => [.agenda, .heads]
  | .headWarmupDone _ => [.agenda, .heads, .mot, .reg (HEAD_STATUS 0), .reg (TAP_STATUS 0), .reg (SLC_GSTATE 0),
      .reg (MOT_HDOCNUM 0)]
  | .headOffline _ => offlineParts ++ [.pmc]
  | .headStopDone _ => offlineParts ++ [.pmc, .host]
  | .headCommit _ => [.agenda, .active, .pmc, .heads, .shd, .reg (HEAD_CTL 0), .reg (SHD_HSTAT 0)]
  | .headSwtrig _ => triggerParts
  | .headTimerTrigger _ => triggerParts
  | .headGeometryWrite _ _ _ => [.agenda, .bands, .pmc, .shd, .reg (HEAD_CTL 0), .reg (HEAD_EVENTS 0), .reg (HEAD_TAPS 0),
      .reg (HEAD_READ 0), .reg (HEAD_CLK 0), .reg (HEAD_SP 0), .reg (HEAD_TRIG 0), .reg (SHD_HSTAT 0)]
  | .triggerFire _ => [.agenda, .pmc, .heads, .lmp, .reg (SLC_GSTATE 0), .reg LMP_EVENTS, .reg LMP_CNT, .reg (LMP_SSTAT 0)]
  | .exposureEnd _ => [.agenda, .pmc, .heads, .lmp, .reg (LMP_SSTAT 0)]
  | .tapPhaseActivate _ => [.active, .heads, .taps, .shd, .reg (TAP_STATUS 0), .reg SHD_EVENTS, .reg (SHD_HSTAT 0)]
  | .readoutEnd _ => [.agenda, .active, .pmc, .heads, .taps, .reg (TAP_STATUS 0)]
  | .busyWindowClose _ => [.agenda, .heads, .groups, .shd, .reg (HEAD_CTL 0), .reg (HEAD_STATUS 0)]
  | .headConnFault _ => offlineParts ++ messageParts ++ [.reg (HEAD_EVENTS 0), .reg (HEAD_CONN 0), .reg (TAP_EVENTS 0)]
  | .cmAverageDone _ _ _ => [.taps, .reg (HEAD_STATUS 0), .reg (TAP_STATUS 0), .reg (TAP_CM 0)]
  | .tapFixedWrite _ _ _ => [.agenda, .pmc, .reg (TAP_CTL 0), .reg (TAP_CLAMP 0), .reg (TAP_EVENTS 0)]
  | .tapLiveWrite _ _ _ => [.agenda, .active, .pmc, .taps, .shd, .reg (TAP_PHASE 0), .reg (TAP_PGA 0), .reg (TAP_STATUS 0),
      .reg (SHD_HSTAT 0)]
  | .slcCmwinWrite _ _ => [.agenda, .pmc, .taps, .reg (HEAD_STATUS 0), .reg (TAP_STATUS 0), .reg (SLC_CMWIN 0)]
  | .rotationStep _ => [.agenda, .pmc, .groups, .reg SLC_EVENTS, .reg (SLC_GSTATE 0)]
  | .guestHandover _ => [.groups, .reg (TAP_STATUS 0), .reg (SLC_GSTATE 0)]
  | .sliceCalRunEnd _ _ => retireParts ++ [.reg SLC_CMDSTAT, .reg (SLC_GLAST 0)]
  | .guestHandback _ _ => retireParts ++ [.reg (SLC_GLAST 0)]
  | .overlapTimeout _ => [.agenda, .groups, .reg (TAP_STATUS 0), .reg (SLC_GSTATE 0), .reg (SLC_GLAST 0)]
  | .sliceFault _ _ => retireParts ++ [.heads, .taps]
  | .guestStandin _ => [.agenda, .heads, .taps, .groups, .reg (TAP_STATUS 0), .reg (SLC_GSTATE 0)]
  | .sliceFaultReport _ => messageParts ++ [.groups]
  | .slcCmdRun _ _ => [.agenda, .pmc, .groups, .reg SLC_EVENTS, .reg SLC_CMDSTAT]
  | .slcCmdReinstate _ _ => [.agenda, .pmc, .groups, .reg SLC_EVENTS, .reg SLC_CMDSTAT]
  | .bandLineRecordStore _ _ => messageParts ++ [.draws, .host, .heads, .groups, .pipe, .shd, .mot, .reg (HEAD_PERIOD 0),
      .reg (TAP_EVENTS 0), .reg (TAP_OVR 0), .reg PIPE_EVENTS, .reg PIPE_ECC_CE, .reg PIPE_ECC_UE, .reg PIPE_ECC_ROW,
      .reg (PIPE_CLIP 0), .reg (SHD_HSTAT 0), .reg MOT_STATUS, .reg MOT_EVENTS, .reg (MOT_ASTATUS 0), .reg (MOT_AEVENTS 0),
      .reg (MOT_AVEL 0)]
  | .packetTimeout _ => [.host]
  | .scrubPass _ => messageParts ++ [.pipe, .reg PIPE_EVENTS, .reg PIPE_ECC_CE, .reg PIPE_ECC_UE, .reg PIPE_ECC_ROW,
      .reg (PIPE_SPROW 0)]
  | .laneFault _ => limpParts ++ [.heads, .pipe, .reg SYS_LIMP, .reg PIPE_STATUS, .reg PIPE_EVENTS, .reg PIPE_LANEMAP,
      .reg PIPE_LANEFAIL]
  | .spareLaneTakeover _ => [.agenda, .heads, .pipe]
  | .laneFaultReport _ => messageParts ++ [.pipe]
  | .spareLaneFault _ => messageParts ++ [.reg PIPE_STATUS, .reg PIPE_EVENTS, .reg PIPE_LANEMAP]
  | .coefLoad _ => [.pipe]
  | .stagingGrant => [.agenda, .pmc, .pipe, .shd, .reg PIPE_STATUS, .reg SHD_STATUS, .reg (SHD_HSTAT 0)]
  | .coefFetchDone _ _ => limpParts ++ [.draws, .host, .pipe, .reg SYS_LIMP, .reg PIPE_STATUS, .reg CEL_EVENTS, .reg CEL_UE,
      .reg CEL_ERRADDR_LO, .reg CEL_ERRADDR_HI]
  | .coefCommit _ => commandParts ++ [.pipe, .reg PIPE_STATUS]
  | .commitCopyStart => commandParts ++ [.pipe, .shd, .reg PIPE_STATUS, .reg SHD_STATUS]
  | .commitCopyEnd => messageParts ++ [.host, .heads, .pipe, .shd, .reg PIPE_STATUS, .reg PIPE_EVENTS, .reg (PIPE_SPROW 0),
      .reg (PIPE_GEN 0), .reg SHD_STATUS, .reg SHD_EVENTS, .reg (SHD_HSTAT 0)]
  | .coefRead _ => commandParts ++ [.emits]
  | .calRun _ => messageParts ++ [.host, .shd, .reg (HEAD_STATUS 0), .reg SHD_STATUS, .reg SHD_EVENTS, .reg SHD_LAST,
      .reg SHD_LASTCNT, .reg (SHD_HSTAT 0)]
  | .calRunTrigger _ => triggerParts
  | .calRunMeasureEnd _ => [.agenda, .active, .taps, .pipe, .shd, .lmp, .reg (TAP_PHASE 0), .reg (TAP_STATUS 0),
      .reg (SHD_HSTAT 0)]
  | .calRunComplete _ => messageParts ++ [.active, .host, .heads, .shd, .reg (HEAD_STATUS 0), .reg SHD_STATUS,
      .reg SHD_EVENTS, .reg SHD_LAST, .reg SHD_LASTCNT, .reg (SHD_HSTAT 0)]
  | .gapSearchTimeout _ => [.agenda, .shd]
  | .darkTrackUpdate _ _ _ => messageParts ++ [.pipe, .shd, .reg SHD_EVENTS, .reg (SHD_HSTAT 0)]
  | .whiteTrackDue _ _ => messageParts ++ [.pipe, .shd, .reg SHD_EVENTS, .reg SHD_LAST, .reg SHD_LASTCNT, .reg (SHD_HSTAT
      0)]
  | .attSave _ => commandParts ++ [.att, .reg ATT_STATUS, .reg ATT_EVENTS]
  | .attSaveStepDone _ => commandParts ++ [.att, .reg ATT_STATUS, .reg ATT_EVENTS, .reg ATT_SEQ_LO, .reg ATT_SEQ_HI,
      .reg ATT_JRNL, .reg ATT_USED]
  | .posChange _ _ => compareParts ++ auxTriggerParts ++ [.emits, .reg (MOT_ASTATUS 0), .reg (MOT_AEVENTS 0), .reg (MOT_AVEL
      0), .reg (MOT_AFERR 0), .reg (MOT_HDOCNUM 0)]
  | .encoderEdge _ _ _ _ => compareParts ++ auxTriggerParts ++ [.emits, .reg (MOT_ASTATUS 0), .reg (MOT_AFERR 0),
      .reg (MOT_ECNT 0), .reg (MOT_EIDX 0), .reg (MOT_EERR 0), .reg (MOT_HDOCNUM 0)]
  | .docSensorEdge _ _ _ _ => [.agenda, .shd, .mot, .reg MOT_EVENTS, .reg MOT_ADMSTAT, .reg MOT_DSSTATE, .reg (MOT_ASTATUS
      0), .reg (MOT_AEVENTS 0), .reg (MOT_AVEL 0)]
  | .admissionGrant => [.agenda, .pmc, .mot, .reg MOT_ADMSTAT]
  | .releasePulseEnd => [.mot]
  | .motHdocWrite _ _ => [.agenda, .pmc, .mot, .reg (MOT_HDOC 0)]
  | .fillEval => limpParts ++ [.reg MOT_STATUS, .reg MOT_FILL, .reg MOT_EVENTS, .reg (MOT_AEVENTS 0)]
  | .axisAtRest _ => limpParts ++ [.reg MOT_STATUS, .reg (MOT_AEVENTS 0), .reg (MOT_AVEL 0)]
  | .backupMoveDone _ => [.agenda, .mot, .reg (MOT_ASTATUS 0), .reg (MOT_AEVENTS 0), .reg (MOT_AVEL 0)]
  | .runupDone _ => [.agenda, .mot, .reg (MOT_ASTATUS 0), .reg (MOT_AVEL 0)]
  | .holdTimeout => messageParts ++ [.reg MOT_EVENTS]
  | .motProfile _ _ => commandParts ++ [.mot]
  | .motAcmdStart _ => [.agenda, .pmc, .mot, .reg MOT_EVENTS, .reg (MOT_ASTATUS 0)]
  | .motAcmdStop _ => [.agenda, .pmc, .mot, .reg (MOT_ASTATUS 0), .reg (MOT_AEVENTS 0)]
  | .motAcmdImmediateStop _ => limpParts ++ [.reg MOT_STATUS, .reg (MOT_AEVENTS 0), .reg (MOT_AVEL 0)]
  | .axisFault _ _ => haltParts ++ [.reg MOT_STATUS, .reg MOT_EVENTS, .reg (MOT_AEVENTS 0)]
  | .irefStandby _ => [.mot]
  | .motPaceWrite _ => [.agenda, .pmc, .reg MOT_PACE, .reg MOT_EVENTS]
  | .lampLoad _ _ => messageParts ++ [.host, .lmp, .lnk, .reg (HEAD_BAND 0 0), .reg LMP_STATUS, .reg LMP_EVENTS,
      .reg LMP_VSET, .reg (LMP_SSTAT 0), .reg (LMP_SDRV 0 0)]
  | .lampLoadComplete => commandParts ++ [.lmp, .reg LMP_STATUS]
  | .driveRecompute => messageParts ++ [.lmp, .lnk, .reg LMP_EVENTS]
  | .lmpSbinWrite _ _ _ => [.agenda, .pmc, .reg (LMP_SBIN0 0), .reg (LMP_SBIN1 0), .reg (LMP_SBIN2 0), .reg (LMP_SBIN3 0)]
  | .stringDueTimeout _ => [.agenda, .lmp]
  | .diagLate _ => messageParts ++ [.lmp, .reg LMP_EVENTS, .reg LMP_CNT]
  | .strobeEnd _ => [.lmp]
  | .lstbFall => [.lmp]
  | .lbandHoldEnd => [.lmp]
  | .pulseDiagnosed _ _ => limpParts ++ [.heads, .reg SYS_LIMP, .reg (HEAD_BAND 0 0), .reg LMP_EVENTS, .reg LMP_LAST,
      .reg (LMP_SSTAT 0), .reg (LMP_SMEAS 0), .reg (LMP_SDRV 0 0)]
  | .redistApply _ => [.lmp, .reg (HEAD_BAND 0 0), .reg (LMP_SSTAT 0), .reg (LMP_SDRV 0 0)]
  | .redistSettleEnd _ => [.lmp]
  | .servoPeriodEnd _ _ => [.agenda, .pmc, .lmp, .reg LMP_STATUS, .reg LMP_EVENTS, .reg LMP_VSET, .reg LMP_HMIN,
      .reg LMP_IRAIL]
  | .railOkSet => [.agenda, .lmp, .reg LMP_STATUS]
  | .railFault _ => haltParts ++ [.reg LMP_EVENTS, .reg LMP_LAST]
  | .lmpCmdRestore _ _ => [.agenda, .pmc, .lmp, .reg LMP_CMDSTAT]
  | .lmpCmdRestoreAll => [.agenda, .pmc, .lmp, .reg LMP_CMDSTAT]
  | .lmpCmdLampTest => [.agenda, .pmc, .lmp, .reg LMP_STATUS, .reg LMP_VSET, .reg LMP_CMDSTAT]
  | .lampTestPulse _ => limpParts ++ [.reg SYS_LIMP, .reg (HEAD_BAND 0 0), .reg LMP_EVENTS, .reg LMP_LAST, .reg (LMP_SSTAT
      0), .reg (LMP_SMEAS 0), .reg (LMP_SDRV 0 0)]
  | .dbCmdPi _ => messageParts ++ [.host, .reg HOST_EVENTS, .reg HOST_ERRINFO, .reg (HOST_RHIDX 0)]
  | .dbCplCi _ => messageParts ++ [.host, .reg HOST_EVENTS, .reg HOST_ERRINFO, .reg (HOST_RHIDX 0)]
  | .dbEvtCi _ => messageParts ++ [.host, .reg HOST_EVENTS, .reg HOST_ERRINFO, .reg (HOST_RHIDX 0)]
  | .dbImgPi _ _ => messageParts ++ [.host, .reg HOST_EVENTS, .reg HOST_ERRINFO, .reg (HOST_RHIDX 0)]
  | .hostRctlWrite _ _ => commandParts ++ [.reg HOST_EVENTS, .reg (HOST_RCTL 0), .reg (HOST_RSTAT 0), .reg (HOST_RHIDX 0)]
  | .ringIdle _ => [.reg (HOST_RSTAT 0)]
  | .cmdFetchDone _ => commandParts ++ [.reg (HOST_RSTAT 0)]
  | .ringFetchError _ => messageParts ++ [.host, .reg HOST_EVENTS, .reg HOST_ERRINFO, .reg (HOST_RCTL 0), .reg (HOST_RSTAT
      0)]
  | .cmdDataReadError _ => commandParts ++ [.pipe, .reg HOST_EVENTS, .reg HOST_ERRINFO, .reg PIPE_STATUS]
  | .nop _ => commandParts
  | .skipDoc _ => commandParts
  | .skipDocDone _ => commandParts
  | .completionWrite => commandParts ++ [.emits, .reg HOST_EVENTS, .reg (HOST_RSTAT 0)]
  | .packetDeliver _ _ _ => limpParts ++ [.draws, .emits, .host, .reg SYS_LIMP, .reg (HOST_RSTAT 0), .reg CEL_EVENTS,
      .reg CEL_CE, .reg CEL_UE, .reg CEL_ERRADDR_LO, .reg CEL_ERRADDR_HI]
  | .msixSignal _ => [.emits, .host, .reg (MSIX_PBA 0)]
  | .msixUnmask _ => [.agenda, .emits, .pmc, .reg (MSIX_CTRL 0), .reg (MSIX_PBA 0)]
  | .landingDmaPop => commandParts ++ [.emits, .lnd, .reg (HOST_RSTAT 0)]
  | .lndDataLoRead _ => readParts ++ [.shadows, .lnd]
  | .lndDataHiRead _ => readParts ++ [.shadows, .lnd]
  | .lndDrop => [.agenda, .lnd, .pmc]
  | .lndFlush => [.agenda, .lnd, .pmc, .reg LND_EVENTS, .reg (LND_LOST 0), .reg LND_FLUSHCNT, .reg LND_FLUSHT_LO,
      .reg LND_FLUSHT_HI]
  | .lndCtlWrite _ => [.agenda, .pmc, .reg LND_CTL, .reg LND_EVENTS]
  | .auxCvctlWrite _ _ => messageParts ++ auxTriggerParts ++ [.reg AUX_DROPS, .reg (AUX_CVCTL 0)]
  | .auxSwtrig _ => auxTriggerParts ++ [.agenda, .pmc]
  | .auxTimerTrigger _ => auxTriggerParts ++ [.agenda]
  | .auxInjWrite _ _ => auxTriggerParts ++ [.agenda, .pmc]
  | .fcConversionDone _ _ => messageParts ++ auxTriggerParts ++ [.reg AUX_DROPS, .reg (AUX_RES_LO 0 0), .reg (AUX_RES_HI 0
      0), .reg (AUX_TS_LO 0 0), .reg (AUX_TS_HI 0 0), .reg (AUX_IRES_LO 0 0), .reg (AUX_IRES_HI 0 0), .reg (AUX_ITS_LO 0 0),
      .reg (AUX_ITS_HI 0 0), .reg (AUX_WC_STAT 0)]
  | .pcOutput _ _ => messageParts ++ auxTriggerParts ++ [.reg AUX_DROPS, .reg (AUX_RES_LO 0 0), .reg (AUX_RES_HI 0 0),
      .reg (AUX_TS_LO 0 0), .reg (AUX_TS_HI 0 0), .reg (AUX_IRES_LO 0 0), .reg (AUX_IRES_HI 0 0), .reg (AUX_ITS_LO 0 0),
      .reg (AUX_ITS_HI 0 0), .reg (AUX_WC_STAT 0)]
  | .streamMsgTimeout _ => messageParts ++ [.aux, .reg AUX_EVENTS, .reg AUX_DROPS]
  | .refSettled _ => [.agenda, .reg AUX_STATUS]
  | .refFault _ => messageParts ++ [.aux, .reg AUX_STATUS, .reg AUX_EVENTS, .reg AUX_CALSTAT, .reg AUX_DROPS]
  | .auxCalPeriod => messageParts ++ auxTriggerParts ++ [.reg AUX_DROPS]
  | .auxCalcmd _ => messageParts ++ auxTriggerParts ++ [.reg AUX_DROPS]
  | .auxCalRangeDone _ _ _ => messageParts ++ auxTriggerParts ++ [.reg AUX_DROPS, .reg (AUX_TRIM 0 0)]
  | .auxConvFault _ => limpParts ++ [.aux, .reg SYS_LIMP, .reg AUX_STATUS, .reg AUX_EVENTS, .reg AUX_CALSTAT,
      .reg AUX_DROPS]
  | .auxMigrate _ => [.agenda, .aux, .reg AUX_STATUS, .reg AUX_CALSTAT, .reg (AUX_EXC 0)]
  | .auxExcWrite _ _ => [.agenda, .pmc, .reg AUX_EVENTS, .reg (AUX_EXC 0)]
  | .auxResLoRead _ _ => readParts ++ [.shadows, .aux]
  | .recSignalChange _ => sampleParts
  | .recArm => messageParts ++ [.reg REC_STATUS, .reg REC_EVENTS]
  | .recDisarm => messageParts ++ [.reg REC_STATUS, .reg REC_EVENTS, .reg REC_DEAD_CAP]
  | .recHostTrig => [.agenda, .pmc, .recd]
  | .recCopy => [.agenda, .pmc, .reg REC_STATUS, .reg REC_EVENTS]
  | .recClearEnd => [.recd, .reg REC_STATUS, .reg REC_INFO, .reg REC_LOST, .reg REC_DEAD_ARM]
  | .recCopyDone => messageParts ++ [.emits, .reg REC_STATUS, .reg REC_EVENTS]
  | .recRd0Read _ => readParts ++ [.recd, .reg REC_EVENTS]
  | .recRd3Read _ => readParts ++ [.reg REC_EVENTS, .reg REC_RDIDX]
  | .superframeSend => compareParts ++ [.emits, .reg HWY_MSTAT]
  | .superframeRx _ _ => compareParts ++ limpParts ++ [.time, .draws, .emits, .start, .att, .reg SYS_STARTS,
      .reg SYS_STARTSTAT, .reg CLK_STATUS, .reg CLK_TIME_ERR, .reg CLK_STEER, .reg ATT_EVENTS, .reg HWY_STATUS,
      .reg HWY_ERRCNT, .reg HWY_MSTAT, .reg (HWY_MRX 0)]
  | .tokenRx _ _ => [.agenda, .emits, .hwy]
  | .replicaStep => triggerParts ++ [.hwy]
  | .hwyMsgSend _ => [.agenda, .pmc, .hwy, .reg HWY_MCTL, .reg HWY_MSTAT]
  | .enumerationDone _ _ _ _ _ => [.hwy, .reg SYS_LIMP, .reg CLK_STATUS, .reg HWY_STATUS, .reg HWY_EVENTS, .reg HWY_LINK]
  | .hwyBreak _ => limpParts ++ [.hwy, .reg SYS_LIMP, .reg CLK_STATUS, .reg HWY_STATUS, .reg HWY_EVENTS]
  | .foldComplete => messageParts ++ [.hwy, .reg CLK_STATUS, .reg HWY_STATUS]
  | .hwyCutOff => haltParts ++ [.reg HWY_EVENTS]
  | .hwyRejoin => [.agenda, .emits, .pmc, .hwy, .reg HWY_EVENTS]
  | .hwyCtlWrite _ => [.agenda, .pmc, .hwy, .reg CLK_STATUS, .reg HWY_CTL, .reg HWY_STATUS, .reg HWY_EVENTS, .reg HWY_MSTAT]
  | .linkCycleEnd _ => limpParts ++ [.draws, .emits, .lnk, .reg SYS_LIMP, .reg (HEAD_BAND 0 0), .reg LMP_EVENTS,
      .reg LMP_LAST, .reg (LMP_SSTAT 0), .reg (LMP_SMEAS 0), .reg (LMP_SDRV 0 0), .reg LNK_STATUS, .reg LNK_EVENTS,
      .reg LNK_CHK, .reg LNK_ERRCNT]
  | .linkSizingDone _ => limpParts ++ [.emits, .lnk, .reg SYS_LIMP, .reg LMP_EVENTS, .reg LNK_STATUS, .reg LNK_EVENTS,
      .reg LNK_CHK]
  | .lnkResize => [.agenda, .pmc, .lnk, .reg LNK_STATUS]
  | .pmcSnap => [.agenda, .pmc]
  | .pmcFreeze _ => [.agenda, .pmc, .reg PMC_CTL]
  | .pmcClr => [.agenda, .pmc]
  | .pmcLoadLow _ _ => [.agenda, .pmc]
  | .pmcLoadHigh _ _ => [.agenda, .pmc]
  | .pmcOverflow _ => messageParts ++ [.reg PMC_OVF]
  | .jtagExtest _ => resetParts
  | .tmodeHigh _ => resetParts
  | .porConditionsMet => [.pwr]
  | .trstNLow => [.pwr]
  | .perstRelease => [.host]
  | .hwySymbolLock _ => [.emits, .hwy]
  | .railOkClear => [.agenda, .shd, .lmp, .reg LMP_STATUS]
  | .recMaskedTrigger _ => sampleParts

end Sys2Proof.Machine
end

