-- ==== Sys2Proof/Safety.lean ====
section
/-! DEFINITION. What a safe run is, the invariants that statements about every state may need. -/

namespace Sys2Proof.Machine

/-- A step answers a next state. -/
def Goes (s : State) : Prop := ∃ t, step s = .next t

/-- Every table of the state that stands for memory or registers is in its one canonical form. -/
def tablesWf (s : State) : Bool :=
  tblWf regReset s.regs && tblWf regReset s.active
    && tblWf (fun _ => 0x4000) s.pipe.g && tblWf (fun _ => (0 : Int)) s.pipe.d0 && tblWf (fun _ => (0 : Int)) s.pipe.d1
    && tblWf lutDefault s.pipe.lut && tblWf (fun _ => (0 : Int)) s.pipe.trk
    && tblWf (fun _ => ({} : HeadSt)) s.heads && tblWf (fun _ => ({} : TapSt)) s.taps && tblWf (fun _ => ({} : GroupSt)) s.groups

/-- The counters of the block stay within their widths: TIME and PMC_CYCLE 64 bits, PMC0 to PMC7 48 bits, a counter's write
buffer 32 bits (R40, R545, R553). -/
def countersWf (s : State) : Prop :=
  s.time < 2 ^ 64 ∧ s.pmc.cyc < 2 ^ 64 ∧ (∀ p ∈ s.pmc.cnt, p.2 < 2 ^ 48) ∧ ∀ p ∈ s.pmc.buf, p.2 < 2 ^ 32

/-- What holds in every state that the block can be in. -/
structure Inv (s : State) : Prop where
  tables : tablesWf s = true
  counters : countersWf s

end Sys2Proof.Machine
end

