-- ==== Sys2Proof/Claims.lean ====
section
/-! DEFINITION. The words that several statements use: what it is for a command to do a thing that many commands do. -/

namespace Sys2Proof.Machine

/-- Command c reads the register at off, which the host may read: it answers with what the register holds, and then the RC
fields of the register are 0 and its other bits as before (R12, R14). -/
def ReadsAndClears (c : Instr) (off : Nat) : Prop :=
  ∀ s : State, Inv s → hostMay s off = true →
    ∃ t, exec c s = .next t ∧ t.rdata = reg s off ∧ reg t off = reg s off &&& ~~~ BitVec.ofNat 32 (rowMasks off).rc

/-- The command of a CMD slot has ended with this RESULT and STATUS: its completion waits for the CPL ring (R361, R365). -/
def Completed (t : State) (slot result status : Nat) : Prop :=
  (∃ c ∈ t.host.cplq, c.idx = slot ∧ c.result = result ∧ c.status = status ∧ c.time = t.time) ∧ ∀ d ∈ t.host.cmds, d.slot ≠ slot

/-- A message with these contents has been raised: it is open, or waits until its producer is free (R384, R389). -/
def Raised (t : State) (cls src code : Nat) (items : List Nat) : Prop :=
  (∃ m ∈ t.lnd.waiting, m.cls = cls ∧ m.src = src ∧ m.code = code ∧ m.items = items.map (BitVec.ofNat 64)) ∨
    ∃ o ∈ t.lnd.opened, o.msg.cls = cls ∧ o.msg.src = src ∧ o.msg.code = code ∧ o.msg.items = items.map (BitVec.ofNat 64)

/-- The superframe that has gone out last: its lane and its bytes (R461). -/
def lastFrame (t : State) : Option (Nat × List Byte) :=
  match t.emits.getLast? with
  | some (.superframe p f) => some (p, f)
  | _ => none

/-- The register of BAR 0 that a command writes for the host; none for a command that is no such write. START_COLD, START_WARM
and the unmasking of a vector, which also act where no write does, are left out. -/
def hostWrite (c : Instr) : Option Nat :=
  match c with
  | .regWrite false off _ => some off
  | .pwrBudgetWrite peak _ => some (if peak then PWR_PEAK else PWR_AVG)
  | .sysModereq _ => some SYS_MODEREQ
  | .wake => some SYS_CMD
  | .selftest _ => some SYS_CMD
  | .sysLock => some SYS_LOCK
  | .sysLimpCelClear => some SYS_LIMP
  | .fwWrite => some SYS_FWCMD
  | .fwSwap => some SYS_FWCMD
  | .fwSwapCancel => some SYS_FWCMD
  | .headOnline h => some (HEAD_CTL h)
  | .headOffline h => some (HEAD_CTL h)
  | .headCommit h => some (HEAD_CTL h)
  | .headSwtrig h => some (HEAD_CTL h)
  | .headGeometryWrite h r _ => some (geomOff h r)
  | .tapFixedWrite t clamp _ => some (if clamp then TAP_CLAMP t else TAP_CTL t)
  | .tapLiveWrite t pga _ => some (if pga then TAP_PGA t else TAP_PHASE t)
  | .slcCmwinWrite g _ => some (SLC_CMWIN g)
  | .slcCmdRun _ _ => some SLC_CMD
  | .slcCmdReinstate _ _ => some SLC_CMD
  | .motHdocWrite h _ => some (MOT_HDOC h)
  | .motPaceWrite _ => some MOT_PACE
  | .motAcmdStart m => some (MOT_ACMD m)
  | .motAcmdStop m => some (MOT_ACMD m)
  | .motAcmdImmediateStop m => some (MOT_ACMD m)
  | .lmpSbinWrite k r _ => some (sbinOff k r)
  | .lmpCmdRestore _ _ => some LMP_CMD
  | .lmpCmdRestoreAll => some LMP_CMD
  | .lmpCmdLampTest => some LMP_CMD
  | .hostRctlWrite r _ => some (HOST_RCTL r)
  | .lndDrop => some LND_CMD
  | .lndFlush => some LND_CMD
  | .lndCtlWrite _ => some LND_CTL
  | .auxCvctlWrite c _ => some (AUX_CVCTL c)
  | .auxSwtrig c => some (AUX_CVCTL c)
  | .auxInjWrite c _ => some (AUX_INJ c)
  | .auxCalcmd _ => some AUX_CALCMD
  | .auxExcWrite n _ => some (AUX_EXC n)
  | .recArm => some REC_CMD
  | .recDisarm => some REC_CMD
  | .recHostTrig => some REC_CMD
  | .recCopy => some REC_CMD
  | .hwyMsgSend _ => some HWY_MCTL
  | .hwyRejoin => some HWY_CMD
  | .hwyCtlWrite _ => some HWY_CTL
  | .lnkResize => some LNK_CMD
  | .pmcSnap => some PMC_CTL
  | .pmcFreeze _ => some PMC_CTL
  | .pmcClr => some PMC_CTL
  | .pmcLoadLow k _ => some (pmcLowOff k)
  | .pmcLoadHigh k _ => some (pmcLowOff k + 4)
  | _ => none

end Sys2Proof.Machine
end

