-- ==== Sys2Proof/Certificates/Slice0/Obligations.lean ====
section
/-! DEFINITION. The statements about the model, for the provers. Each says for which states and operands a command answers a
next state, and what that state holds; the frames are said once for every command. -/

open Sys2Proof Sys2Proof.Machine

/-! Accesses to registers (spec/00, spec/01, spec/02, spec/11, spec/18). -/

/-- R12, R15, R29, R30: a write that its master may make changes each bit of the register as its access code says: RW takes the
bit, RWL only while SYS_LOCK is clear, a 1 clears a W1C bit and sets a W1S bit, every other bit stays. PMC_CTL.FREEZE and the
registers of ownRow have commands of their own; MOT_ACTL and SYS_STARTSTAT have rules of their own (AxisEnableWritesAct, StartsRunTheirSteps). A
host write that the mode shuts out changes no register.
What the spec leaves open here follows log entry 12: the model's choice. -/
def Obligations.RegisterWriteFollowsAccessCodes : Prop :=
  (∀ (s : State) (byHk : Bool) (off : Nat) (r : RegRow) (v : Word), Inv s → rowOf off = some r →
    (byHk = false → hostMay s off = true) →
    (byHk = true → rootRuns s = true ∧ s.mode.mode ≠ .sleep ∧ s.mode.mode ≠ .off) →
    ownRow off = false → writeDiscarded off v.toNat = false → rbaseLocked s off = false → indexIn 8 MOT_ACTL off = none →
    off ≠ SYS_STARTSTAT →
    ∃ t, exec (.regWrite byHk off v) s = .next t ∧ ∀ i, i < 32 → (off = PMC_CTL → i = 31) →
      (reg t off).getLsbD i =
        if r.rw.testBit i || (r.rwl.testBit i && !flag s SYS_LOCK_LOCK) then v.getLsbD i
        else if r.w1c.testBit i then (reg s off).getLsbD i && !v.getLsbD i
        else if r.w1s.testBit i then (reg s off).getLsbD i || v.getLsbD i
        else (reg s off).getLsbD i) ∧
  (∀ (s : State) (off : Nat) (v : Word), hostMay s off = false →
    ∃ t, exec (.regWrite false off v) s = .next t ∧ ∀ o, reg t o = reg s o)

/-- R12, R14: each command that reads a register with RC fields answers with the value that the register holds, and then those
fields are 0 and its other bits as before. -/
def Obligations.ReadClearsRcFields : Prop :=
  (∀ h, ReadsAndClears (.headTrigstatRead h) (HEAD_TRIGSTAT h)) ∧
  (∀ t, ReadsAndClears (.tapOvrRead t) (TAP_OVR t)) ∧
  ReadsAndClears .pipeEccCeRead PIPE_ECC_CE ∧
  ReadsAndClears .pipeEccUeRead PIPE_ECC_UE ∧
  (∀ h, ReadsAndClears (.pipeClipRead h) (PIPE_CLIP h)) ∧
  (∀ k, ReadsAndClears (.lndLostRead k) (LND_LOST k)) ∧
  ReadsAndClears .lndFlushcntRead LND_FLUSHCNT ∧
  ReadsAndClears .motAdmstatRead MOT_ADMSTAT ∧
  (∀ e, ReadsAndClears (.motEerrRead e) (MOT_EERR e)) ∧
  ReadsAndClears .lmpCntRead LMP_CNT ∧
  ReadsAndClears .auxDropsRead AUX_DROPS ∧
  (∀ k, ReadsAndClears (.auxWcStatRead k) (AUX_WC_STAT k)) ∧
  ReadsAndClears .recRejRead REC_REJ ∧
  ReadsAndClears .hwyErrcntRead HWY_ERRCNT ∧
  ReadsAndClears .lnkErrcntRead LNK_ERRCNT ∧
  ReadsAndClears .celCeRead CEL_CE ∧
  ReadsAndClears .celUeRead CEL_UE

/-- R542, R543: a read of the low half gives bits 31:0 and leaves bits 63:32 of the same value in the reading master's shadow; a
read of the high half that the shadow names gives the shadow and empties it, and in any other case the live high half.
What the spec leaves open here follows log entry 14: the model's choice. -/
def Obligations.PairHalvesComeFromOneValue : Prop :=
  (∀ (s : State) (ms : Master) (off v : Nat), rootRuns s = true → pairRead s ms off = some v → latchedTime s ms off = none →
    ∃ t, exec (.pairLowRead ms off) s = .next t ∧ t.rdata = BitVec.ofNat 32 v ∧
      shadowOf t ms = some ⟨off, v / 2 ^ 32⟩) ∧
  (∀ (s : State) (ms : Master) (lo v high : Nat), rootRuns s = true → isResult lo = false → pairRead s ms lo = some v →
    shadowOf s ms = some ⟨lo, high⟩ →
    ∃ t, exec (.pairHighRead ms (lo + 4)) s = .next t ∧ t.rdata = BitVec.ofNat 32 high ∧ shadowOf t ms = none) ∧
  (∀ (s : State) (ms : Master) (lo v : Nat), rootRuns s = true → isResult lo = false → pairRead s ms lo = some v →
    ((shadowOf s ms).all fun sh => decide (sh.low ≠ lo)) = true → latchedTime s ms lo = none →
    ∃ t, exec (.pairHighRead ms (lo + 4)) s = .next t ∧ t.rdata = BitVec.ofNat 32 (v / 2 ^ 32) ∧ shadowOf t ms = shadowOf s ms)

/-- R348, R349, R593, R594: an access that the BARs do not take reads as 0 and sets HOST_EVENTS.ACC_ERR: a read of BAR 0 or BAR 4, and
outside SLEEP any access to BAR 2; a write of BAR 0 or BAR 4 is discarded. While the root does not run a read of BAR 0 gives the value
that the register holds and changes nothing else, a write of START_COLD or START_WARM in HALT is held, and any other write outside the
MSI-X table is discarded.
What the spec leaves open here follows log entry 15: the model's choice. -/
def Obligations.AccessesWithoutARegisterOrAClock : Prop :=
  (∀ (s : State) (read : Bool) (bar off : Nat), Inv s → rootRuns s = true → s.mode.mode ≠ .off →
    (bar = 2 → s.mode.mode ≠ .sleep) → (bar ≠ 2 → read = true) →
    ∃ t, exec (.badAccess read bar off) s = .next t ∧ flag t HOST_EVENTS_ACC_ERR = true ∧ (read = true → t.rdata = 0)) ∧
  (∀ (s : State) (bar off : Nat), bar ≠ 2 →
    ∃ t, exec (.badAccess false bar off) s = .next t ∧ t = s) ∧
  (∀ (s : State) (off : Nat) (v : Word), rootRuns s = false → s.mode.mode ≠ .off →
    ∃ t, exec (.rootStoppedAccess 0 false off v) s = .next t ∧ t = { s with rdata := BitVec.ofNat 32 (readReg s off) }) ∧
  (∀ (s : State) (v : Word), rootRuns s = false → s.mode.mode = .halt → v.toNat % 4 ≠ 0 →
    ∃ t, exec (.rootStoppedAccess 0 true SYS_CMD v) s = .next t ∧ t.mode.heldStart = true) ∧
  (∀ (s : State) (off : Nat) (v : Word), rootRuns s = false → s.mode.mode ≠ .off → msixOff off = false →
    (off = SYS_CMD → s.mode.mode ≠ .halt ∨ v.toNat % 4 = 0) →
    ∃ t, exec (.rootStoppedAccess 0 true off v) s = .next t ∧ t = s)

/-! Sensor heads and taps (spec/03, spec/04). -/

/-- R66, R84, R86, R87, R89, R90, R92: a write of 1 to ONLINE of an OFFLINE head makes it STARTING when validation finds no error, and the
settling ends 256 pixel periods after HnCLK starts; with an error (0x09 in HALT) the head stays OFFLINE, CFG_ERR holds the code, and
START_FAIL sets. The settling is followed by WARMUP wipe start pulses, one after the other's readout, and then the head is ONLINE. A
write of 0 to ONLINE abandons a start on its tick, with CFG_ERR and START_FAIL as they were; it makes an ONLINE head STOPPING; and a
STOPPING head whose band-lines are all stored closes its packet and becomes OFFLINE. That HnCLK starts at the first pixel clock edge
after the write's tick is the model's reading (log entry 41).
What the spec leaves open here follows log entry 22: the model's choice. -/
def Obligations.HeadsStartAndStop : Prop :=
  (∀ (s : State) (h : Fin 16), Inv s → hostMay s (HEAD_CTL h) = true → headState s h = 0 → s.mode.mode ≠ .halt →
    startError s h = 0 →
    ∃ t, exec (.headOnline h) s = .next t ∧ headState t h = 1 ∧ flag t (HEAD_CTL_ONLINE h) = true ∧
      fget t (HEAD_STATUS_CFG_ERR h) = 0 ∧
      (edgeAt (pixTicks s h) (s.time + 1) + 256 * pixTicks s h, .headSettleDone h) ∈ t.agenda) ∧
  (∀ (s : State) (h : Fin 16), Inv s → hostMay s (HEAD_CTL h) = true → headState s h = 0 →
    (s.mode.mode = .halt ∨ startError s h ≠ 0) →
    ∃ t, exec (.headOnline h) s = .next t ∧ headState t h = 0 ∧ flag t (HEAD_CTL_ONLINE h) = false ∧
      fget t (HEAD_STATUS_CFG_ERR h) = (if s.mode.mode = .halt then 9 else startError s h) ∧
      flag t (HEAD_EVENTS_START_FAIL h) = true) ∧
  (∀ (s : State) (h : Fin 16), Inv s → headState s h = 1 → (getHead s h).warm = false → (getHead s h).settleAt ≤ s.time →
    (getHead s h).wipeAt ≤ s.time →
    let n := if (getHead s h).wipeAt = 0 then fget s (HEAD_CTL_WARMUP h) else (getHead s h).wipesLeft
    ∃ t, exec (.headSettleDone h) s = .next t ∧
      if n = 0 then (getHead t h).warm = true ∧ (s.time, .headWarmupDone h) ∈ t.agenda
      else (getHead t h).wipesLeft = n - 1 ∧ (getHead t h).sp = some (s.time, (readoutOf s h s.time).fall) ∧
        ((readoutOf s h s.time).done, .headSettleDone h) ∈ t.agenda) ∧
  (∀ (s : State) (h : Fin 16), Inv s → headState s h = 1 → (getHead s h).warm = true →
    ∃ t, exec (.headWarmupDone h) s = .next t ∧ headState t h = 2 ∧ (getHead t h).onlineAt = s.time ∧
      raw t (MOT_HDOCNUM h) = 0) ∧
  (∀ (s : State) (h : Fin 16), Inv s → hostMay s (HEAD_CTL h) = true → headState s h = 1 →
    ∃ t, exec (.headOffline h) s = .next t ∧ headState t h = 0 ∧
      fget t (HEAD_STATUS_CFG_ERR h) = fget s (HEAD_STATUS_CFG_ERR h) ∧ reg t (HEAD_EVENTS h) = reg s (HEAD_EVENTS h)) ∧
  (∀ (s : State) (h : Fin 16), Inv s → hostMay s (HEAD_CTL h) = true → headState s h = 2 →
    ∃ t, exec (.headOffline h) s = .next t ∧ headState t h = 3 ∧ flag t (HEAD_CTL_ONLINE h) = false) ∧
  (∀ (s : State) (h : Fin 16), headState s h = 3 → headBusy s h = false → (getHead s h).lines = [] → Inv s →
    ∃ t, exec (.headStopDone h) s = .next t ∧ headState t h = 0 ∧ (getHead t h).clkOn = false ∧
      ∀ p ∈ t.host.openPkt, p.head ≠ h)

/-- R82 to R85, R221: COMMIT on an OFFLINE head makes every pending copy of its band set active and reads 0 (a copy written on
this very tick is left pending: log entry 42); on any other head it reads 1, and the active copies are as before. A write
of a geometry register is taken whole while the head is OFFLINE; otherwise the geometry fields stay, and a changed one sets
WR_REJ. -/
def Obligations.BandSetAndGeometryChangeByRule : Prop :=
  (∀ (s : State) (h : Fin 16), Inv s → hostMay s (HEAD_CTL h) = true → headState s h = 0 → s.bandTick ≠ s.time →
    ∃ t, exec (.headCommit h) s = .next t ∧ flag t (HEAD_CTL_COMMIT h) = false ∧ ∀ off ∈ bandSet h, act t off = raw s off) ∧
  (∀ (s : State) (h : Fin 16), Inv s → hostMay s (HEAD_CTL h) = true → headState s h ≠ 0 →
    flag s (HEAD_CTL_COMMIT h) = false →
    ∃ t, exec (.headCommit h) s = .next t ∧ flag t (HEAD_CTL_COMMIT h) = true ∧ (getHead t h).commitAt = s.time ∧
      t.active = s.active) ∧
  (∀ (s : State) (h : Fin 16) (r : GeomReg) (v : Word), Inv s → hostMay s (geomOff h r) = true → headState s h = 0 →
    ∃ t, exec (.headGeometryWrite h r v) s = .next t ∧
      raw t (geomOff h r) = (raw s (geomOff h r) &&& (0xFFFFFFFF ^^^ geomWritten r)) ||| (v.toNat &&& geomWritten r)) ∧
  (∀ (s : State) (h : Fin 16) (r : GeomReg) (v : Word), Inv s → hostMay s (geomOff h r) = true → headState s h ≠ 0 →
    ∃ t, exec (.headGeometryWrite h r v) s = .next t ∧
      raw t (geomOff h r) &&& geomMask r = raw s (geomOff h r) &&& geomMask r ∧
      ((raw s (geomOff h r) &&& geomMask r) ≠ (v.toNat &&& geomMask r) → flag t (HEAD_EVENTS_WR_REJ h) = true))

/-- R51, R74, R76 to R79, R88: a software or timer cause of an ONLINE head is accepted when no busy window is open and no
accepted trigger awaits its own: a band-line of the head's next band appears with the TIME tag of this tick, and its trigger
fires four ticks later. Otherwise it is an overrun: OVERRUN counts and TRIG_OVR sets. A B0 cause moves the line number on in
either case. While the head is STARTING it is ignored and counted; a write of SWTRIG while the source is another changes
nothing of the head. -/
def Obligations.TriggerCausesAreAcceptedOrCounted : Prop :=
  (∀ (s : State) (h : Fin 16) (c : Instr), Inv s →
    (c = .headSwtrig h ∧ hostMay s (HEAD_CTL h) = true ∧ fget s (HEAD_TRIG_TRIG_SRC h) = 3 ∨
      c = .headTimerTrigger h ∧ fget s (HEAD_TRIG_TRIG_SRC h) = 2 ∧ (getHead s h).timerAt ≤ s.time) →
    headState s h = 2 → sourceOpen s h = true →
    ((getHead s h).seenB0 = true ∨ fget s (HEAD_STATUS_BAND h) = 0) →
    ∃ t, exec c s = .next t ∧
      (if isOverrun s h = true then
        fget t (HEAD_TRIGSTAT_OVERRUN h) = satAdd 0xFFFF (fget s (HEAD_TRIGSTAT_OVERRUN h)) 1 ∧
          flag t (HEAD_EVENTS_TRIG_OVR h) = true
      else
        (∃ l ∈ (getHead t h).lines, l.band = fget s (HEAD_STATUS_BAND h) ∧ l.time = s.time ∧ l.stage = .accepted ∧
          l.fireAt = s.time + 4) ∧ (s.time + 4, .triggerFire h) ∈ t.agenda) ∧
      (fget s (HEAD_STATUS_BAND h) = 0 → raw t (HEAD_LINE h) =
        if (getHead s h).numbered = true then (raw s (HEAD_LINE h) + 1) % 2 ^ 32 else 0)) ∧
  (∀ (s : State) (h : Fin 16), Inv s → hostMay s (HEAD_CTL h) = true → fget s (HEAD_TRIG_TRIG_SRC h) = 3 →
    headState s h = 1 → sourceOpen s h = true →
    ∃ t, exec (.headSwtrig h) s = .next t ∧ t.heads = s.heads ∧
      fget t (HEAD_TRIGSTAT_IGNORED h) = satAdd 0xFFFF (fget s (HEAD_TRIGSTAT_IGNORED h)) 1) ∧
  (∀ (s : State) (h : Fin 16), fget s (HEAD_TRIG_TRIG_SRC h) ≠ 3 →
    ∃ t, exec (.headSwtrig h) s = .next t ∧ t.heads = s.heads ∧ ∀ off, reg t off = reg s off)

/-- R51, R64, R65, R68, R69, R71, R123: as a trigger fires, a busy window opens that lasts at least 3,000 ticks and to the end
of the exposure window, whose width is the band-line's EXPOSURE; at its end the band-line waits in the sensor (ROLLING), or
the second start pulse begins its readout (DIRECT); two pixel periods after its last pixel it is in the lanes; a busy window
that closes leaves the list, and a head told to stop at that tick is STOPPING. -/
def Obligations.BandLineMovesFromTriggerToLanes : Prop :=
  (∀ (s : State) (h : Fin 16) (l : BandLine), Inv s →
    ((getHead s h).lines.find? fun l => decide (l.stage = .accepted) && decide (l.fireAt ≤ s.time)) = some l →
    ∃ t, exec (.triggerFire h) s = .next t ∧
      (∃ b ∈ (getHead t h).busy, b.opens = s.time ∧ s.time + 3000 ≤ b.closes ∧ s.time + l.exposure ≤ b.closes ∧
        (b.closes, .busyWindowClose h) ∈ t.agenda) ∧
      (∃ q ∈ (getHead t h).lines, q.stage = .exposing ∧ q.band = l.band ∧ q.line = l.line ∧ q.expEnd = s.time + l.exposure) ∧
      (s.time + l.exposure, .exposureEnd h) ∈ t.agenda) ∧
  (∀ (s : State) (h : Fin 16) (l : BandLine), Inv s →
    ((getHead s h).lines.find? fun l => decide (l.stage = .exposing) && decide (l.expEnd ≤ s.time)) = some l →
    ∃ t, exec (.exposureEnd h) s = .next t ∧ ∃ q ∈ (getHead t h).lines, q.band = l.band ∧ q.line = l.line ∧
      if fget s (HEAD_CTL_READ_MODE h) = 0 then q.stage = .sensor
      else q.stage = .reading ∧ q.readAt = (readoutOf s h s.time).first ∧ q.readLast = (readoutOf s h s.time).last) ∧
  (∀ (s : State) (h : Fin 16) (l : BandLine), Inv s → ((getHead s h).pgaAt.all fun u => decide (s.time < u)) = true →
    ((getHead s h).lines.find? fun l =>
      decide (l.stage = .reading) && decide (turnaround s h l.readLast ≤ s.time)) = some l →
    ∃ t, exec (.readoutEnd h) s = .next t ∧
      ∃ q ∈ (getHead t h).lines, q.band = l.band ∧ q.line = l.line ∧ q.stage = .lanes ∧ q.gen.isSome = true) ∧
  (∀ (s : State) (h : Fin 16) (b : Busy), Inv s →
    ((getHead s h).busy.find? fun b => decide (b.closes ≤ s.time)) = some b → headState s h = 2 →
    ∃ t, exec (.busyWindowClose h) s = .next t ∧
      if (getHead s h).stopAtClose = true then headState t h = 3
      else (getHead t h).busy = (getHead s h).busy.erase b) ∧
  (∀ (s : State) (h : Fin 16) (u : Nat), Inv s → (getHead s h).phaseAt = some u → u ≤ s.time → runOf s h = none →
    ∃ t, exec (.tapPhaseActivate h) s = .next t ∧ (getHead t h).phaseAt = none ∧
      ∀ k ∈ tapsOf s h, ∀ w, (getTap s k).phasePend = some w → w < s.time → act t (TAP_PHASE k) = raw s (TAP_PHASE k))

/-- R87, R93 to R95: the 64th outside decision of a tap of a running head sets CONN_FAULT and names the tap unless one is named
already; with CONN_ACT = 1 and no busy window open the head is STOPPING; during a start the start fails with code 8. -/
def Obligations.ConnectionFaultIsReportedAndActedOn : Prop :=
  (∀ (s : State) (t : Fin 256) (h : Fin 16), Inv s → tapOwner s t = some h.val → flag s (SLC_CMWIN_CM_EN (t / 16)) = true →
    headState s h ≠ 1 →
    ∃ u, exec (.headConnFault t) s = .next u ∧ flag u (HEAD_EVENTS_CONN_FAULT h) = true ∧
      flag u (HEAD_CONN_VALID h) = true ∧
      fget u (HEAD_CONN_TAP h) = (if flag s (HEAD_CONN_VALID h) = true then fget s (HEAD_CONN_TAP h) else t) ∧
      (flag s (HEAD_CTL_CONN_ACT h) = true → headState s h = 2 → headBusy s h = false → headState u h = 3)) ∧
  (∀ (s : State) (t : Fin 256) (h : Fin 16), Inv s → tapOwner s t = some h.val → flag s (SLC_CMWIN_CM_EN (t / 16)) = true →
    headState s h = 1 →
    ∃ u, exec (.headConnFault t) s = .next u ∧ headState u h = 0 ∧ fget u (HEAD_STATUS_CFG_ERR h) = 8 ∧
      flag u (HEAD_EVENTS_START_FAIL h) = true)

/-- R113 to R117, R122 to R124: an average of a running tap gives CM_MV and VALID, and CM_OUT shows whether the last common mode
lay outside the group's window, whose limits are at most 1,800 mV; a write of TAP_CTL or TAP_CLAMP of an owned tap is
rejected, of another tap taken; a write of TAP_PHASE or TAP_PGA of an owned tap waits (PEND), of another tap it is active at
once; with CM_EN = 0 no tap of the group is outside.
What the spec leaves open here follows log entry 18: the model's choice. -/
def Obligations.TapRegistersChangeByRule : Prop :=
  (∀ (s : State) (t : Fin 256) (h mv last : Nat), Inv s → tapOwner s t = some h →
    ∃ u, exec (.cmAverageDone t mv last) s = .next u ∧ fget u (TAP_CM_CM_MV t) = mv % 2 ^ 12 ∧
      flag u (TAP_CM_VALID t) = true ∧
      flag u (TAP_STATUS_CM_OUT t) = (flag s (SLC_CMWIN_CM_EN (t / 16)) &&
        !(decide (min 1800 (fget s (SLC_CMWIN_CM_LO (t / 16))) ≤ last) &&
          decide (last ≤ min 1800 (fget s (SLC_CMWIN_CM_HI (t / 16))))))) ∧
  (∀ (s : State) (t : Fin 256) (clamp : Bool) (v : Word), Inv s →
    let off := if clamp then TAP_CLAMP t else TAP_CTL t
    hostMay s off = true →
    ∃ u, exec (.tapFixedWrite t clamp v) s = .next u ∧
      if (tapOwner s t).isSome = true then flag u (TAP_EVENTS_WR_REJ t) = true ∧ reg u off = reg s off
      else reg u off = reg (writeRw off v.toNat s) off) ∧
  (∀ (s : State) (t : Fin 256) (pga : Bool) (v : Word), Inv s →
    let off := if pga then TAP_PGA t else TAP_PHASE t
    hostMay s off = true →
    ∃ u, exec (.tapLiveWrite t pga v) s = .next u ∧ reg u off = reg (writeRw off v.toNat s) off ∧
      if (tapOwner s t).isSome = true then flag u (TAP_STATUS_PEND t) = true ∧ u.active = s.active
      else act u off = raw u off) ∧
  (∀ (s : State) (g : Fin 16) (v : Word), Inv s → hostMay s (SLC_CMWIN g) = true →
    ∃ u, exec (.slcCmwinWrite g v) s = .next u ∧ reg u (SLC_CMWIN g) = reg (writeRw (SLC_CMWIN g) v.toNat s) (SLC_CMWIN g) ∧
      (flag u (SLC_CMWIN_CM_EN g) = false → ∀ i : Fin 16, flag u (TAP_STATUS_CM_OUT (16 * g + i)) = false))

/-! Slices, rotation and guests (spec/05). -/

/-- R139, R140, R142 to R144: a rotation step that may run starts a visit. With the band-gap monitor in range, a slice that
serves the tap of a running head waits for the hand-over, and every other slice runs in place for 1,080,000 ticks; with it out of
range PRECOND sets and no visit starts. A step that comes during a visit stays pending. At the boundary of a band-line the guest
takes the tap and the slice's run starts. -/
def Obligations.RotationStepStartsAVisit : Prop :=
  (∀ (s : State) (g : Fin 16), Inv s → rotates s g = true → (stepDue s g = true ∨ (getGroup s g).stepPend = true) →
    fget s (SLC_GSTATE_PHASE g) = 0 → heldByRun s g = false → flag s PWR_STATUS_BG_OK = true →
    let i := fget s (SLC_GSTATE_VISIT g)
    ∃ t, exec (.rotationStep g) s = .next t ∧
      if i < 16 ∧ (tapOwner s (16 * g + i)).isSome = true ∧ fget s (SLC_GSTATE_GUEST_TAP g) ≠ i then
        fget t (SLC_GSTATE_PHASE g) = 1
      else fget t (SLC_GSTATE_PHASE g) = 2 ∧ (getGroup t g).running = i ∧ (getGroup t g).runEnd = s.time + 1080000) ∧
  (∀ (s : State) (g : Fin 16), Inv s → rotates s g = true → (stepDue s g = true ∨ (getGroup s g).stepPend = true) →
    fget s (SLC_GSTATE_PHASE g) = 0 → heldByRun s g = false → flag s PWR_STATUS_BG_OK = false →
    ∃ t, exec (.rotationStep g) s = .next t ∧ flag t SLC_EVENTS_PRECOND = true ∧ fget t (SLC_GSTATE_PHASE g) = 0) ∧
  (∀ (s : State) (g : Fin 16), Inv s → rotates s g = true → stepDue s g = true →
    (fget s (SLC_GSTATE_PHASE g) ≠ 0 ∨ heldByRun s g = true) →
    ∃ t, exec (.rotationStep g) s = .next t ∧ (getGroup t g).stepPend = true ∧ t.regs = s.regs) ∧
  (∀ (s : State) (g : Fin 16) (h : Nat), Inv s → fget s (SLC_GSTATE_PHASE g) = 1 → fget s (SLC_GSTATE_VISIT g) < 16 →
    tapOwner s (16 * g + fget s (SLC_GSTATE_VISIT g)) = some h → atBoundary s h = true →
    let i := fget s (SLC_GSTATE_VISIT g)
    ∃ t, exec (.guestHandover g) s = .next t ∧ fget t (SLC_GSTATE_PHASE g) = 2 ∧ fget t (SLC_GSTATE_GUEST_TAP g) = i ∧
      flag t (TAP_STATUS_GUEST (16 * g + i)) = true ∧ (getGroup t g).running = i ∧
      (getGroup t g).runEnd = s.time + 1080000)

/-- R137, R138, R144 to R148, R150, R156: at its end a run whose offsets, gains and INL points lie within their limits gives the slice its
new trims; the overlap begins when the guest serves its tap, else the visit is over. A failing run sets CAL_FAIL, SLC_GLAST names the
code, the count and the slice, and the trims stay; a run that a command made answers in SLC_CMDSTAT. When the fourth overlap band-line
has closed and the fit passes, the tap's residual set takes the fit, the guest leaves the tap and the visit moves on; a failing fit
reports code 0x44 with the number of failed checks, and the guest keeps the tap. 16 ms after a run without a complete overlap SLC_GLAST
records 0x48, the residual set is kept but unfitted, and the guest leaves.
What the spec leaves open here follows log entries 17 and 26: the model's choice. -/
def Obligations.SliceRunsAndOverlapsAreJudged : Prop :=
  (∀ (s : State) (g : Fin 16) (m : SliceMeas), Inv s → fget s (SLC_GSTATE_PHASE g) = 2 → (getGroup s g).running < 17 →
    (getGroup s g).runEnd ≤ s.time → (runResult m).1 = 0x40 →
    tblWf (fun _ => ({} : Trims)) (getGroup s g).trims = true →
    let i := (getGroup s g).running
    ∃ t, exec (.sliceCalRunEnd g m) s = .next t ∧ tget (fun _ => {}) (getGroup t g).trims i = trimsOf m ∧
      (if i < 16 ∧ fget s (SLC_GSTATE_GUEST_TAP g) = i then
        fget t (SLC_GSTATE_PHASE g) = 3 ∧ (s.time + 9600000, .overlapTimeout g) ∈ t.agenda
      else fget t (SLC_GSTATE_PHASE g) = restPhase s g ∧ fget t (SLC_GSTATE_VISIT g) = nextVisit s g (fget s (SLC_GSTATE_VISIT g)))) ∧
  (∀ (s : State) (g : Fin 16) (m : SliceMeas), Inv s → fget s (SLC_GSTATE_PHASE g) = 2 → (getGroup s g).running < 17 →
    (getGroup s g).runEnd ≤ s.time → (runResult m).1 ≠ 0x40 →
    let i := (getGroup s g).running
    ∃ t, exec (.sliceCalRunEnd g m) s = .next t ∧ (getGroup t g).trims = (getGroup s g).trims ∧
      flag t SLC_EVENTS_CAL_FAIL = true ∧ fget t (SLC_GLAST_CODE g) = (runResult m).1 ∧
      fget t (SLC_GLAST_COUNT g) = (runResult m).2 % 256 ∧ fget t (SLC_GLAST_SLICE g) = i ∧
      (nget (getGroup s g).fails i < 2 → fget t (SLC_GSTATE_VISIT g) = fget s (SLC_GSTATE_VISIT g))) ∧
  (∀ (s : State) (g : Fin 16) (m : SliceMeas), Inv s → fget s (SLC_GSTATE_PHASE g) ≠ 2 → (getGroup s g).cmdSlice < 17 →
    (getGroup s g).cmdEnd ≤ s.time →
    ∃ t, exec (.sliceCalRunEnd g m) s = .next t ∧ flag t SLC_CMDSTAT_BUSY = false ∧
      fget t SLC_CMDSTAT_CODE = (runResult m).1 ∧ (getGroup t g).cmdSlice = 17) ∧
  (∀ (s : State) (g : Fin 16) (f : ResidualFit), Inv s → fget s (SLC_GSTATE_PHASE g) = 4 → 4 ≤ (getGroup s g).overlap →
    (getGroup s g).running < 16 → fitErrors f = 0 → 8192 ≤ f.span → fget s (SLC_GSTATE_GUEST_TAP g) = (getGroup s g).running →
    tblWf (fun _ => ({} : Residual)) (getGroup s g).resid = true →
    let i := (getGroup s g).running
    ∃ t, exec (.guestHandback g f) s = .next t ∧
      tget (fun _ => {}) (getGroup t g).resid i = ⟨f.roff, f.rgNum, f.rgDen⟩ ∧
      flag t (TAP_STATUS_GUEST (16 * g + i)) = false ∧ fget t (SLC_GSTATE_GUEST_TAP g) = 16 ∧
      fget t (SLC_GSTATE_VISIT g) = nextVisit s g (fget s (SLC_GSTATE_VISIT g))) ∧
  (∀ (s : State) (g : Fin 16) (f : ResidualFit), Inv s → fget s (SLC_GSTATE_PHASE g) = 4 → 4 ≤ (getGroup s g).overlap →
    (getGroup s g).running < 16 → fitErrors f ≠ 0 → nget (getGroup s g).fails (getGroup s g).running < 2 →
    ∃ t, exec (.guestHandback g f) s = .next t ∧ flag t SLC_EVENTS_CAL_FAIL = true ∧ fget t (SLC_GLAST_CODE g) = 0x44 ∧
      fget t (SLC_GLAST_COUNT g) = fitErrors f ∧ fget t (SLC_GSTATE_GUEST_TAP g) = fget s (SLC_GSTATE_GUEST_TAP g) ∧
      (getGroup t g).resid = (getGroup s g).resid) ∧
  (∀ (s : State) (g : Fin 16), Inv s → (fget s (SLC_GSTATE_PHASE g) = 3 ∨ fget s (SLC_GSTATE_PHASE g) = 4) →
    (getGroup s g).overlap < 4 → (getGroup s g).running < 16 → (getGroup s g).runEnd + 9600000 ≤ s.time →
    (∀ h, tapOwner s (16 * g + (getGroup s g).running) = some h → atBoundary s h = true) →
    ∃ t, exec (.overlapTimeout g) s = .next t ∧ fget t (SLC_GLAST_CODE g) = 0x48 ∧
      (getGroup t g).resid = (getGroup s g).resid ∧ fget t (SLC_GSTATE_GUEST_TAP g) = 16 ∧
      fget t (SLC_GSTATE_VISIT g) = nextVisit s g (fget s (SLC_GSTATE_VISIT g)))

/-- R150 to R152: a fault of a slice that serves the tap of a head sets FAULT and RETIRE, suspends the group's rotation, and has the
guest take the tap within 250 us, 2 us after the fault where it is idle; the guest then serves that tap for good; and the P0 message, with
code 0x81 and the tick of the fault, follows when no band-line with replaced samples is left.
What the spec leaves open here follows log entry 27: the model's choice. -/
def Obligations.SliceFaultIsCoveredByTheGuest : Prop :=
  (∀ (s : State) (g : Fin 16) (i : Fin 17) (h : Nat), Inv s → i.val < 16 → tapOwner s (16 * g + i) = some h →
    bget (getGroup s g).failed i = false → bget (getGroup s g).failed 16 = false → (getGroup s g).committed = false →
    fget s (SLC_GSTATE_GUEST_TAP g) = 16 →
    ∃ t, exec (.sliceFault g i) s = .next t ∧ flag t SLC_EVENTS_FAULT = true ∧ flag t SLC_EVENTS_RETIRE = true ∧
      fget t SLC_SUSP_SUSP = setBit (fget s SLC_SUSP_SUSP) g % 65536 ∧ flag t (SLC_GRETIRE_VALID g) = true ∧
      fget t (SLC_GRETIRE_SLICE g) = i ∧ (edgeAt (pixTicks s h) (s.time + 1200), Instr.guestStandin g) ∈ t.agenda) ∧
  (∀ (s : State) (g : Fin 16) (r : FaultRep), Inv s → r.slice < 16 →
    (getGroup s g).report.find? (fun r => !r.served && decide (r.due ≤ s.time)) = some r →
    ∃ t, exec (.guestStandin g) s = .next t ∧ fget t (SLC_GSTATE_GUEST_TAP g) = r.slice ∧
      flag t (TAP_STATUS_GUEST (16 * g + r.slice)) = (tapOwner s (16 * g + r.slice)).isSome ∧
      (getGroup t g).committed = true ∧ (s.time, .sliceFaultReport g) ∈ t.agenda) ∧
  (∀ (s : State) (g : Fin 16) (r : FaultRep), Inv s →
    (getGroup s g).report.find? (fun r => r.served && !replacedInFlight s (16 * g + r.slice)) = some r → r.lines = [] →
    ∃ t, exec (.sliceFaultReport g) s = .next t ∧
      t = raiseAt r.time 0 0xA 0x81 [g.val, r.slice] (setGroup g { getGroup s g with report := (getGroup s g).report.erase r } s))

/-- R139, R156: a write of SLC_CMD is discarded with CMD_REJ while a request is in progress; a run of a slice that is not parked or while its
rotation runs, and a reinstatement outside SERVICE, answer code 0x47; with the band-gap monitor out of range the answer is 0x45; and a
request that may run is BUSY until its run ends 1,080,000 ticks later. -/
def Obligations.SliceCommandsAreAnswered : Prop :=
  (∀ (s : State) (g : Fin 16) (i : Fin 32) (c : Instr), (c = .slcCmdRun g i ∨ c = .slcCmdReinstate g i) → Inv s →
    hostMay s SLC_CMD = true → flag s SLC_CMDSTAT_BUSY = true →
    ∃ t, exec c s = .next t ∧ flag t SLC_EVENTS_CMD_REJ = true ∧ flag t SLC_CMDSTAT_BUSY = true) ∧
  (∀ (s : State) (g : Fin 16) (i : Fin 32) (c : Instr), Inv s → hostMay s SLC_CMD = true → flag s SLC_CMDSTAT_BUSY = false →
    (c = .slcCmdRun g i ∧ (17 ≤ i.val ∨ isParked s g i = false ∨
        bitOf (fget s SLC_SUSP_SUSP) g = false ∧ flag s SLC_CTL_ROT_EN = true) ∨
      c = .slcCmdReinstate g i ∧ (17 ≤ i.val ∨ isParked s g i = false ∨ s.mode.mode ≠ .service)) →
    ∃ t, exec c s = .next t ∧ flag t SLC_CMDSTAT_BUSY = false ∧ fget t SLC_CMDSTAT_CODE = 0x47) ∧
  (∀ (s : State) (g : Fin 16) (i : Fin 32) (c : Instr), Inv s → hostMay s SLC_CMD = true → flag s SLC_CMDSTAT_BUSY = false →
    i.val < 16 → isParked s g i = true →
    (c = .slcCmdRun g i ∧ flag s SLC_CTL_ROT_EN = false ∧ (getGroup s g).running = 17 ∨
      c = .slcCmdReinstate g i ∧ s.mode.mode = .service ∧ bget (getGroup s g).failed i = true) →
    ∃ t, exec c s = .next t ∧
      if flag s PWR_STATUS_BG_OK = true then
        flag t SLC_CMDSTAT_BUSY = true ∧ (getGroup t g).cmdSlice = i ∧ (getGroup t g).cmdEnd = s.time + 1080000
      else flag t SLC_CMDSTAT_BUSY = false ∧ fget t SLC_CMDSTAT_CODE = 0x45 ∧ flag t SLC_EVENTS_PRECOND = true)

/-! The pixel pipeline (spec/06). -/

/-- R81, R160 to R174, R370 to R373: as the oldest band-line leaves the lanes HEAD_PERIOD takes its line period and it leaves its head; its
record has the header and the packed payload of R370 to R374, from its samples in line index order, in a packet of its head, unless it
produces none, a SKIP_DOC takes it, or the line area is full. A packet whose time has run out is closed. -/
def Obligations.BandLineRecordReachesAPacket : Prop :=
  (∀ (s : State) (h : Fin 16) (xs : List Sample) (l : BandLine), Inv s →
    (getHead s h).lines.find? (fun l => decide (l.stage = .lanes)) = some l → headState s h = 2 →
    ∃ t, exec (.bandLineRecordStore h xs) s = .next t ∧ (getHead t h).lines = (getHead s h).lines.erase l ∧
      raw t (HEAD_PERIOD h) = min 0xFFFFFFFF l.period) ∧
  (∀ (s : State) (h : Fin 16) (xs : List Sample) (l : BandLine), Inv s →
    (getHead s h).lines.find? (fun l => decide (l.stage = .lanes)) = some l → headState s h = 2 →
    l.noRecord = false → l.drop = false → s.host.skips = [] →
    let ps := corrected s h l xs
    let w := binned l.hctl (ps.map fun p => if p.pix.dead then 0 else vOf s (headBand h l.band) l.hctl p.c)
    let pay := payload l.hctl l.thr w
    fillBytes s + 32 + pay.length ≤ lineArea s →
    ∃ t, exec (.bandLineRecordStore h xs) s = .next t ∧ ∃ p ∈ t.host.openPkt ++ t.host.closed, p.head = h ∧ ∃ r ∈ p.recs,
      r.doc = l.doc ∧ r.bytes = recordBytes h { l with flags := r.flags } (docEn s h || l.doc != 0)
        (ps.filter fun p => p.pix.ovr).length pay) ∧
  (∀ (s : State) (h : Fin 16) (p : Packet), openPacket s h = some p → p.recs ≠ [] →
    fget s (HOST_RPKTCTL_PKT_TO (3 + h)) ≠ 0 → p.since + 600 * fget s (HOST_RPKTCTL_PKT_TO (3 + h)) ≤ s.time →
    ∃ t, exec (.packetTimeout h) s = .next t ∧ p ∈ t.host.closed ∧ openPacket t h = none)

/-- R178 to R182, R193 to R195, R595: an error that a scrub pass finds is counted, shown in PIPE_ECC_ROW and reported; a row whose words
failed in two passes in a row, or hold an uncorrectable word, is hard, and its bank counts one more pending row. A faulty lane sets
LANE_FAULT and its PIPE_LANEFAIL bit; with a free spare that spare is assigned to it and takes over 1,200 ticks later, and its samples
are 0 only until then; without one LANE_UNCOVERED sets, and the device goes from SCAN to LIMP. The report follows once no marked
band-line is left. A faulty idle spare is out of use.
What the spec leaves open here follows log entries 28 and 29: the model's choice. -/
def Obligations.RowAndLaneErrorsAreHandled : Prop :=
  (∀ (s : State) (f : ScrubFind), Inv s → flag s PIPE_CTL_SCRUB_EN = true → f.ue = false →
    let row := 4096 * f.bank.val + f.row.val
    ∃ t, exec (.scrubPass [f]) s = .next t ∧ raw t PIPE_ECC_CE = satAdd 0xFFFFFFFF (raw s PIPE_ECC_CE) 1 ∧
      flag t PIPE_EVENTS_ECC_CE = true ∧ flag t PIPE_ECC_ROW_VALID = true ∧ fget t PIPE_ECC_ROW_BANK = f.bank ∧
      fget t PIPE_ECC_ROW_ROW = f.row ∧ bget t.pipe.once row = true ∧
      (bget s.pipe.once row = false → t.pipe.hard = s.pipe.hard) ∧
      (bget s.pipe.once row = true → rowState s row = 0 →
        fget t (PIPE_SPROW_PENDING f.bank) = min 255 (fget s (PIPE_SPROW_PENDING f.bank) + 1))) ∧
  (∀ (s : State) (f : ScrubFind), Inv s → flag s PIPE_CTL_SCRUB_EN = true → f.ue = true →
    let row := 4096 * f.bank.val + f.row.val
    ∃ t, exec (.scrubPass [f]) s = .next t ∧ raw t PIPE_ECC_UE = satAdd 0xFFFFFFFF (raw s PIPE_ECC_UE) 1 ∧
      flag t PIPE_EVENTS_ECC_UE = true ∧ flag t PIPE_ECC_ROW_UE = true ∧ bget t.pipe.once row = false ∧
      (rowState s row = 0 → fget t (PIPE_SPROW_PENDING f.bank) = min 255 (fget s (PIPE_SPROW_PENDING f.bank) + 1))) ∧
  (∀ (s : State) (l : Fin 34) (sp : Nat), Inv s → l.val < 32 → bitOf (fget s PIPE_LANEFAIL_FAIL) l = false →
    freeSpare s = some sp →
    ∃ t, exec (.laneFault l) s = .next t ∧ flag t PIPE_EVENTS_LANE_FAULT = true ∧
      bitOf (fget t PIPE_LANEFAIL_FAIL) l = true ∧ spareLane t sp = l ∧
      fget t PIPE_STATUS_SPARES = fget s PIPE_STATUS_SPARES - 1 ∧ (s.time + 1200, .spareLaneTakeover l) ∈ t.agenda) ∧
  (∀ (s : State) (l : Fin 34), Inv s → l.val < 32 → bitOf (fget s PIPE_LANEFAIL_FAIL) l = false → freeSpare s = none →
    ∃ t, exec (.laneFault l) s = .next t ∧ flag t PIPE_EVENTS_LANE_UNCOVERED = true ∧ flag t SYS_LIMP_LANE = true ∧
      (s.mode.mode = .scan → t.mode.mode = .limp)) ∧
  (∀ (s : State) (l : Fin 34) (r : LaneRep), Inv s →
    s.pipe.laneRep.find? (fun r => r.lane == l.val && !r.served && decide (r.time + 1200 ≤ s.time)) = some r →
    ∃ t, exec (.spareLaneTakeover l) s = .next t ∧ (∃ q ∈ t.pipe.laneRep, q = { r with served := true }) ∧
      (s.time, .laneFaultReport l) ∈ t.agenda ∧
      ∀ h < 16, ∀ q ∈ (getHead t h).lines, ∀ p ∈ q.dead, p.1 = r.serves → p.2.2 ≠ 2 ^ 64) ∧
  (∀ (s : State) (l : Fin 34) (r : LaneRep),
    s.pipe.laneRep.find? (fun r => r.lane == l.val && r.served && !deadInFlight s r.serves) = some r → r.lines = [] →
    ∃ t, exec (.laneFaultReport l) s = .next t ∧
      t = raiseAt r.time 0 0xB 0x80 [r.lane] { s with pipe := { s.pipe with laneRep := s.pipe.laneRep.erase r } }) ∧
  (∀ (s : State) (sp : Fin 2), Inv s → spareLane s sp = 0x3F → bitOf (fget s PIPE_LANEMAP_SP_FAIL) sp = false →
    ∃ t, exec (.spareLaneFault sp) s = .next t ∧ bitOf (fget t PIPE_LANEMAP_SP_FAIL) sp = true ∧
      fget t PIPE_STATUS_SPARES = fget s PIPE_STATUS_SPARES - 1 ∧ flag t PIPE_EVENTS_LANE_FAULT = true)

/-! Coefficient blocks (spec/06). -/

/-- R184 to R186, R192: a load asks for the staging area; once granted the area is being filled (STAGE 1); a block that fails a check
completes the load with the status of that check and frees the area, and one that passes is staged (STAGE 2) with its head and band.
R187, R189 to R191: COEF_COMMIT of what is not staged completes with 0x12, one with the abort bit frees the area, any other asks for
the commit; the copy begins where it may, and with a changed geometry it is refused with 0x13; at its end a gain block has put each entry
at the place of its line index, the head-band's generation number has moved on, and the area is free. COEF_READ writes the stored block,
or answers 0x14 where the buffer is too short.
What the spec leaves open here follows log entry 34: the model's choice. -/
def Obligations.CoefficientsAreStagedAndCommitted : Prop :=
  (∀ (s : State) (slot : Nat) (c : CmdEntry), cmdOf s slot 1 = some c → s.pipe.stage = none →
    ∃ t, exec (.coefLoad slot) s = .next t ∧ .load slot ∈ t.pipe.reqs) ∧
  (∀ (s : State) (slot : Nat) (c : CmdEntry), Inv s → s.pipe.stage = none → nextRequest s = some (.load slot) →
    cmdOf s slot 1 = some c →
    ∃ t, exec .stagingGrant s = .next t ∧ fget t PIPE_STATUS_STAGE = 1 ∧ (t.pipe.stage.map fun q => q.slot) = some (some slot) ∧
      (t.pipe.stage.map fun q => q.commit) = some (bitOf (byteAt c.desc 20) 0)) ∧
  (∀ (s : State) (b : List Byte) (q : Staged) (slot : Nat) (c : CmdEntry), Inv s → s.pipe.stage = some q →
    fget s PIPE_STATUS_STAGE = 1 → q.slot = some slot → s.host.cmds.find? (fun c => decide (c.slot = slot)) = some c →
    blockStatus s b ≠ 0 →
    ∃ t, exec (.coefFetchDone b false) s = .next t ∧ t.pipe.stage = none ∧ fget t PIPE_STATUS_STAGE = 0 ∧
      Completed t slot 0 (blockStatus s b)) ∧
  (∀ (s : State) (b : List Byte) (q : Staged) (slot : Nat) (c : CmdEntry), Inv s → s.pipe.stage = some q →
    fget s PIPE_STATUS_STAGE = 1 → q.slot = some slot → s.host.cmds.find? (fun c => decide (c.slot = slot)) = some c →
    q.commit = false → blockStatus s b = 0 →
    ∃ t, exec (.coefFetchDone b false) s = .next t ∧ fget t PIPE_STATUS_STAGE = 2 ∧ fget t PIPE_STATUS_STAGE_HEAD = byteAt b 5 ∧
      Completed t slot 0 0 ∧ ∃ p, t.pipe.stage = some p ∧ p.kind = byteAt b 4 ∧ p.entries = blockEntries b) ∧
  (∀ (s : State) (slot : Nat) (c : CmdEntry), Inv s → cmdOf s slot 2 = some c →
    s.host.cmds.find? (fun c => decide (c.slot = slot)) = some c →
    let fits (q : Staged) : Bool := fget s PIPE_STATUS_STAGE == 2 && !q.commit && q.kind == byteAt c.desc 8 &&
      q.head == byteAt c.desc 9 && (byteAt c.desc 8 == 4 || q.band == byteAt c.desc 10)
    ∃ t, exec (.coefCommit slot) s = .next t ∧
      if s.pipe.stage.any fits = false then Completed t slot 0 0x12
      else if bitOf (byteAt c.desc 11) 0 = true then Completed t slot 0 0 ∧ t.pipe.stage = none
      else (t.pipe.stage.map fun q => q.commit) = some true) ∧
  (∀ (s : State) (q : Staged), Inv s → s.pipe.stage = some q → copyMay s = true → q.geom = geomOf s q.head →
    ∃ t, exec .commitCopyStart s = .next t ∧ fget t PIPE_STATUS_STAGE = 3 ∧ (s.time, .commitCopyEnd) ∈ t.agenda) ∧
  (∀ (s : State) (q : Staged) (slot : Nat) (c : CmdEntry), Inv s → s.pipe.stage = some q → copyMay s = true →
    q.geom ≠ geomOf s q.head → q.slot = some slot → s.host.cmds.find? (fun c => decide (c.slot = slot)) = some c →
    ∃ t, exec .commitCopyStart s = .next t ∧ t.pipe.stage = none ∧ Completed t slot 0 0x13) ∧
  (∀ (s : State) (q : Staged), Inv s → s.pipe.stage = some q → fget s PIPE_STATUS_STAGE = 3 → q.kind = 2 →
    q.head < 16 → q.band < 8 → fget s (HEAD_READ_PPT q.head) ≤ 2048 →
    ∃ t, exec .commitCopyEnd s = .next t ∧ t.pipe.stage = none ∧ fget t PIPE_STATUS_STAGE = 0 ∧
      genOf t (headBand q.head q.band) = genNext (genOf s (headBand q.head q.band)) ∧
      ∀ p < q.entries.length,
        getG t (storeEntry (pixelAt s q.head p).1 q.band (pixelAt s q.head p).2) = q.entries.getD p 0) ∧
  (∀ (s : State) (slot : Nat) (c : CmdEntry), cmdOf s slot 3 = some c →
    s.host.cmds.find? (fun c => decide (c.slot = slot)) = some c →
    let kind := byteAt c.desc 20
    let h := byteAt c.desc 21
    let len := 32 + countOf s kind h * entrySize kind
    ∃ t, exec (.coefRead slot) s = .next t ∧
      if leAt c.desc 16 4 < len then Completed t slot 0 0x14
      else Completed t slot len 0 ∧
        .memWrite (leAt c.desc 8 8) (storedBlock s kind h (byteAt c.desc 22)) ∈ t.emits)

/-! Image calibration and the Attic (spec/07, spec/08). -/

/-- R199 to R206, R227: CAL_RUN is refused with the code of the first check that fails, in SHD_LAST, RUN_FAIL and its completion; else
the run is in progress and its first trigger one interval away. A trigger makes its band-line, or the run is aborted with 0x58 where
its precondition fails. A gap search that has lasted 10 s ends with 0x5A, and a run that has ended reports its code and count.
R206, R215, R216, R222, R224, R225, R230: when the measurement of a run is over, a dark run with more outliers than a thousandth of
the head's pixels ends with 0x5B, else its blocks are committed; a white run commits the blocks of the bands that pass; a phase search
writes the phases found; a lamp run takes the response tables of the strings that pass.
What the spec leaves open here follows log entries 20, 21 and 36: the model's choice. -/
def Obligations.CalibrationRunsAreDrivenAndJudged : Prop :=
  (∀ (s : State) (slot : Nat) (c : CmdEntry), Inv s → cmdOf s slot 4 = some c →
    s.host.cmds.find? (fun c => decide (c.slot = slot)) = some c → (s.shd.runs.any fun q => q.slot == slot) = false →
    runError s (runOfDesc s c) ≠ 0 →
    ∃ t, exec (.calRun slot) s = .next t ∧ fget t SHD_LAST_CODE = runError s (runOfDesc s c) ∧
      flag t SHD_EVENTS_RUN_FAIL = true ∧ Completed t slot 0 (runError s (runOfDesc s c)) ∧ t.shd = s.shd) ∧
  (∀ (s : State) (slot : Nat) (h : Fin 16) (c : CmdEntry), Inv s → cmdOf s slot 4 = some c →
    (s.shd.runs.any fun q => q.slot == slot) = false → runError s (runOfDesc s c) = 0 → (runOfDesc s c).head = h →
    (runOfDesc s c).gap = false →
    ∃ t, exec (.calRun slot) s = .next t ∧ runOfDesc s c ∈ t.shd.runs ∧ flag t (SHD_HSTAT_RUN h) = true ∧
      fget t (HEAD_STATUS_BAND h) = 0 ∧ (s.time + (runOfDesc s c).p1 / nbands s h, .calRunTrigger h) ∈ t.agenda) ∧
  (∀ (s : State) (h : Fin 16) (r r2 : RunSt) (b tag pt : Nat), Inv s → runOf s h = some r → runDrives s h = true → r.band ≠ 8 →
    headState s h = 2 → kindError s r = 0 → runPlan s r = some (b, tag, pt, r2) → isOverrun s h = false →
    ∃ t, exec (.calRunTrigger h) s = .next t ∧
      (∃ l ∈ (getHead t h).lines, l.band = b ∧ l.tag = tag ∧ l.time = s.time ∧ l.noRecord = true ∧ l.stage = .accepted) ∧
      (s.time + runInterval s r (if r.kind = 4 then 0 else r.band), .calRunTrigger h) ∈ t.agenda) ∧
  (∀ (s : State) (h : Fin 16) (r : RunSt) (c : Instr), Inv s → runOf s h = some r → r.stage = .measuring →
    (c = .calRunTrigger h ∧ r.gap = false ∧ r.band ≠ 8 ∧ headState s h = 2 ∧ kindError s r ≠ 0 ∨
      c = .gapSearchTimeout h ∧ r.gap = true ∧ s.shd.deferAt = none ∧ r.started + searchTicks ≤ s.time) →
    ∃ t, exec c s = .next t ∧ (s.time, .calRunComplete h) ∈ t.agenda ∧
      ((runOf t h).map fun q => (q.stage, q.code)) = some (.ended, if r.gap = true then 0x5A else 0x58)) ∧
  (∀ (s : State) (h : Fin 16) (r : RunSt) (c : CmdEntry), Inv s → runOf s h = some r → r.stage = .ended →
    s.host.cmds.find? (fun c => decide (c.slot = r.slot)) = some c →
    ∃ t, exec (.calRunComplete h) s = .next t ∧ runOf t h = none ∧ flag t (SHD_HSTAT_RUN h) = false ∧
      fget t SHD_LAST_CODE = r.code % 256 ∧ Completed t r.slot r.failing r.code) ∧
  (∀ (s : State) (h : Fin 16) (r : RunSt), Inv s → runOf s h = some r → r.stage = .measuring → r.band = 8 → r.kind = 1 →
    ((getHead s h).lines.any fun l => l.tag != 0) = false →
    let bad := (List.range (npix s h)).filter fun p => darkOutlier s r p
    ∃ t, exec (.calRunMeasureEnd h) s = .next t ∧
      if npix s h / 1000 < bad.length then
        ((runOf t h).map fun q => (q.stage, q.code, q.failing)) = some (.ended, 0x5B, bad.length)
      else ((runOf t h).map fun q => (q.code, q.failing, q.todo)) = some (0x50, bad.length, darkBlocks s r bad)) ∧
  (∀ (s : State) (h : Fin 16) (r : RunSt), Inv s → runOf s h = some r → r.stage = .measuring → r.band = 8 → r.kind = 2 →
    ((getHead s h).lines.any fun l => l.tag != 0) = false →
    let outliers (b : Nat) : Nat := (whiteBlock s h b fun p => (r.mean (pixKey p b 0) / 16, nget r.cnt (pixKey p b 0))).2
    ∃ t, exec (.calRunMeasureEnd h) s = .next t ∧
      ((runOf t h).map fun q => (q.code, q.todo.map fun b => b.2.1)) =
        some (if r.bandList.all (fun b => decide (outliers b ≤ npix s h / 1000)) = true then 0x50 else 0x5C,
          r.bandList.filter fun b => decide (outliers b ≤ npix s h / 1000))) ∧
  (∀ (s : State) (h : Fin 16) (r : RunSt), Inv s → runOf s h = some r → r.stage = .measuring → r.kind = 3 →
    3 * phPoints s h ≤ r.trial → ((getHead s h).lines.any fun l => l.tag != 0) = false →
    ∃ u, exec (.calRunMeasureEnd h) s = .next u ∧ (s.time, .calRunComplete h) ∈ u.agenda ∧
      ∀ t ∈ tapsOf s h, raw u (TAP_PHASE t) = match phaseResult s r t with
        | .inl i => phaseWord (fget s (HEAD_CLK_DIV h)) (trialPhase s r t i)
        | .inr _ => raw s (TAP_PHASE t)) ∧
  (∀ (s : State) (h : Fin 16) (r : RunSt), Inv s → runOf s h = some r → r.stage = .measuring → r.band = 8 → r.kind = 4 →
    ((getHead s h).lines.any fun l => l.tag != 0) = false →
    let strs := runStrings s r
    let pass := (List.range strs.length).filter fun n => lampPasses s r strs n
    ∃ t, exec (.calRunMeasureEnd h) s = .next t ∧ (pass = [] → t.lmp.resps = s.lmp.resps) ∧
      ((runOf t h).map fun q => (q.stage, q.code, q.failing)) =
        some (.ended, if pass.length = strs.length then 0x50 else 0x5F, strs.length - pass.length))

/-- R207 to R210: the mean of the good dark samples of a tap moves its TRK by the fraction 2^-K of its distance, rounded, within
TRK_LIM. R217 to R220: a white accumulation with WMIN band-lines gives its block, which waits for staging, or with too many outliers
is rejected with WFAIL and code 0x5C.
What the spec leaves open here follows log entries 35 and 37: the model's choice. -/
def Obligations.BackgroundTrackingUpdates : Prop :=
  (∀ (s : State) (t : Fin 256) (b : Fin 8) (h : Nat) (xs : List Sample) (l : BandLine), Inv s → tapOwner s t = some h →
    flag s (SHD_HTRK_TRK_EN h) = true → fget s (HEAD_READ_DARK h) ≠ 0 → l.stage = .lanes →
    (((getHead s h).lines.filter fun l => l.band == b.val && (l.stage == .reading || l.stage == .lanes) &&
      decide (l.readAt + fget s (HEAD_READ_DARK h) * pixTicks s h ≤ s.time)).getLast?) = some l →
    let dark := fget s (HEAD_READ_DARK h)
    let q := t.val - fget s (HEAD_TAPS_FIRST_TAP h)
    let ys := List.replicate (q * tapSamples s h) ⟨0, false⟩ ++ xs.take dark
    let good := (((List.range dark).map fun k => pixOf s h l ys t q k).filter fun p => !p.ovr && !p.dead).map fun p => p.code
    good ≠ [] →
    ∃ u, exec (.darkTrackUpdate t b xs) s = .next u ∧
      getTrk u t b = clampInt (-trkLim s h) (trkLim s h)
        (getTrk s t b + roundQ ((16 * darkDrift s h t b (pEff l.hctl l.period) good - getTrk s t b) / 2 ^ trkK s h t))) ∧
  (∀ (s : State) (h : Fin 16) (b : Fin 8), Inv s → wMin s h ≤ nget s.shd.incl (headBand h b) →
    let r := whiteBlock s h b fun p => ((getWhite s (headBand h b) p).w, (getWhite s (headBand h b) p).n)
    ∃ t, exec (.whiteTrackDue h b) s = .next t ∧
      if npix s h / 1000 < r.2 then
        flag t SHD_EVENTS_WFAIL = true ∧ fget t SHD_LAST_CODE = 0x5C ∧ fget t SHD_LAST_HEAD = h ∧ raw t SHD_LASTCNT = r.2
      else bitOf (fget t (SHD_HSTAT_DUE h)) b = true ∧ (headBand h b, r.1) ∈ t.shd.dueG)

/-- R249 to R252, R256, R524: ATT_SAVE starts a save at step 1, or is refused with 0x29 during one; each step of a save leads to the
next, the erase clears the bank that is not in use, a failed flash operation ends it with RESULT 4, and after step 7 the new bank is
the source; a background check that fails after a warm start reports BANK_BAD.
What the spec leaves open here follows log entry 38: the model's choice. -/
def Obligations.AtticSaveRunsItsSteps : Prop :=
  (∀ (s : State) (slot : Nat) (c : CmdEntry), Inv s → cmdOf s slot 7 = some c → s.att.step = 0 → s.att.slot ≠ some slot →
    ∃ t, exec (.attSave slot) s = .next t ∧ flag t ATT_STATUS_BUSY = true ∧ fget t ATT_STATUS_STEP = 1 ∧ t.att.step = 1) ∧
  (∀ (s : State) (slot : Nat) (c : CmdEntry), Inv s → cmdOf s slot 7 = some c → s.att.step ≠ 0 → s.att.slot ≠ some slot →
    s.host.cmds.find? (fun c => decide (c.slot = slot)) = some c →
    ∃ t, exec (.attSave slot) s = .next t ∧ Completed t slot 0 0x29 ∧ fget t ATT_STATUS_RESULT = 5 ∧
      flag t ATT_EVENTS_SAVE_FAIL = true ∧ t.att = s.att) ∧
  (∀ (s : State), Inv s → modeIn s saveModes = true → s.fw.paused = false → 1 ≤ s.att.step → s.att.step ≤ 6 →
    (s.att.step = 1 → recsFit s s.att.snap = true) →
    ∃ t, exec (.attSaveStepDone true) s = .next t ∧ t.att.step = s.att.step + 1 ∧ fget t ATT_STATUS_STEP = s.att.step + 1 ∧
      (s.att.step = 1 → bankOf t (targetBank s) = {}) ∧
      (s.att.step = 4 → (bankOf t (targetBank s)).recs = s.att.snap)) ∧
  (∀ (s : State), Inv s → modeIn s saveModes = true → s.fw.paused = false → s.att.step = 7 → s.att.late = [] →
    ∃ t, exec (.attSaveStepDone true) s = .next t ∧ t.att.step = 0 ∧ flag t ATT_STATUS_BUSY = false ∧
      fget t ATT_STATUS_RESULT = 1 ∧ fget t ATT_STATUS_SOURCE = targetBank s ∧ t.att.jrnl = []) ∧
  (∀ (s : State), Inv s → modeIn s saveModes = true → s.fw.paused = false → 2 ≤ s.att.step → s.att.step ≤ 6 →
    s.att.late = [] →
    ∃ t, exec (.attSaveStepDone false) s = .next t ∧ t.att.step = 0 ∧ flag t ATT_STATUS_BUSY = false ∧
      fget t ATT_STATUS_RESULT = 4 ∧ flag t ATT_EVENTS_SAVE_FAIL = true) ∧
  (∀ (s : State), Inv s → modeIn s saveModes = true → s.start.warm = true →
    (fget s ATT_STATUS_SOURCE = 1 ∨ fget s ATT_STATUS_SOURCE = 2) →
    ∃ t, exec (.atticBackgroundCheck false) s = .next t ∧ flag t ATT_EVENTS_BANK_BAD = true)

/-! Motion (spec/09). -/

/-- R262 to R266, R294: a step of a moving axis that is enabled counts as commanded and moves POS by one modulo 2^48, unless an
encoder is bound: then POS follows the encoder's counts. A change of one encoder input that counts moves COUNT and POS of every axis bound to it;
a change of both is an error, counted, that moves nothing. -/
def Obligations.PositionFollowsStepsOrCounts : Prop :=
  (∀ (s : State) (m : Fin 8) (fwd : Bool), Inv s → axisMoving s m = true → (getAxis s m).enPin = true →
    (getAxis s m).readyAt ≤ s.time →
    ∃ t, exec (.posChange m fwd) s = .next t ∧
      (getAxis t m).cmdSteps = (getAxis s m).cmdSteps + (if fwd = true then 1 else -1) ∧
      (getAxis t m).pos = if flag s (MOT_ACTL_BIND m) = true then (getAxis s m).pos
        else posAdd (getAxis s m).pos (if fwd = true then 1 else -1)) ∧
  (∀ (s : State) (e : Fin 4) (a b i fwd : Bool), Inv s → flag s (MOT_ECTL_EN e) = true →
    let x := tget (fun _ => ({} : EncSt)) s.mot.encs e
    x.a.xor a ≠ x.b.xor b → encCount s e (x.a != a) a b = some fwd →
    ∃ t, exec (.encoderEdge e a b i) s = .next t ∧
      raw t (MOT_ECNT e) = (raw s (MOT_ECNT e) + if fwd = true then 1 else 2 ^ 32 - 1) % 2 ^ 32 ∧
      (∀ m < 8, flag s (MOT_ACTL_BIND m) = true → fget s (MOT_ACTL_ENC m) = e →
        (getAxis t m).pos = posAdd (getAxis s m).pos (if fwd = true then 1 else -1)) ∧
      (flag s (MOT_ECTL_IDX_EN e) = true → i = true → x.i = false → raw t (MOT_EIDX e) = raw t (MOT_ECNT e))) ∧
  (∀ (s : State) (e : Fin 4) (a b i : Bool), Inv s → flag s (MOT_ECTL_EN e) = true →
    let x := tget (fun _ => ({} : EncSt)) s.mot.encs e
    x.a ≠ a → x.b ≠ b →
    ∃ t, exec (.encoderEdge e a b i) s = .next t ∧ raw t (MOT_EERR e) = satAdd 0xFFFFFFFF (raw s (MOT_EERR e)) 1 ∧
      flag t MOT_EVENTS_ENC_ERR = true ∧ raw t (MOT_ECNT e) = raw s (MOT_ECNT e) ∧ t.mot.axes = s.mot.axes)

/-- R273, R286, R287, R596: a qualified edge of a document sensor shows in COVERED; a clear edge of the feed sensor in admission mode
asks for admission; a grant ends the request, starts the release pulse of REL_W us, counts and reserves; and clearing DOC_EN ends the
open document with the earliest line that is not yet resolved.
What the spec leaves open here follows log entries 23 and 40: the model's choice. -/
def Obligations.SensorsAndAdmission : Prop :=
  (∀ (s : State) (k : Fin 16) (level : Bool) (u : Nat) (p : List Int), Inv s →
    bitOf (fget s MOT_DSSTATE_COVERED) k ≠ level →
    ∃ t, exec (.docSensorEdge k level u p) s = .next t ∧ bitOf (fget t MOT_DSSTATE_COVERED) k = level ∧
      (level = false → fget s MOT_CTL_PACE_MODE = 2 → fget s MOT_ADM_FEED_DS = k → t.mot.admReq = true)) ∧
  (∀ (s : State), Inv s → admMay s = true →
    let e := s.time + 600 * max 1 (fget s MOT_ADM_REL_W)
    ∃ t, exec .admissionGrant s = .next t ∧ t.mot.admReq = false ∧ t.mot.relEnd = e ∧
      bget t.mot.relOut (fget s MOT_ADM_TO_SEL) = true ∧
      fget t MOT_ADMSTAT_ADMITTED = satAdd 0xFFFF (fget s MOT_ADMSTAT_ADMITTED) 1 ∧
      t.mot.resv.getLast? = some ⟨1024 * raw s MOT_ADMKIB, [], []⟩ ∧ (e, .releasePulseEnd) ∈ t.agenda) ∧
  (∀ (s : State), s.mot.relEnd ≠ 0 → s.mot.relEnd ≤ s.time →
    ∃ t, exec .releasePulseEnd s = .next t ∧ t.mot.relEnd = 0 ∧ t.mot.relOut = []) ∧
  (∀ (s : State) (h : Fin 16) (v : Word), Inv s → hostMay s (MOT_HDOC h) = true →
    ∃ t, exec (.motHdocWrite h v) s = .next t ∧ reg t (MOT_HDOC h) = reg (writeRw (MOT_HDOC h) v.toNat s) (MOT_HDOC h) ∧
      (docEn s h = true → v.getLsbD 31 = false → docOpen s h = true → (getDoc t h).endNow = true ∧ (getDoc t h).edges = []))

/-- R278 to R284, R298, R466: an evaluation shows the fill; in FOLLOW mode a fill at or above HOLD stops the paced axes, and one at or
below FOLLOW leaves or sets the pace state 0; MOT_STATUS reports k. HOLD sends a message when it has lasted TIMEOUT. A write of MOT_PACE
whose watermarks are not in order is rejected.
What the spec leaves open here follows log entries 31, 32 and 33: the model's choice. -/
def Obligations.PaceFollowsTheFill : Prop :=
  (∀ (s : State), Inv s → hwyFollower s = false → fget s MOT_STATUS_PSTATE < 2 →
    ∃ t, exec .fillEval s = .next t ∧ fget t MOT_FILL_FILL = min 1023 (1024 * fillBytes s / usableBytes s) ∧
      fget t MOT_STATUS_K = (t.mot.k * 32768).floor.toNat % 65536 ∧
      (fget s MOT_CTL_PACE_MODE = 1 → (fget s MOT_PACE_HOLD : Rat) / 100 ≤ fillOf s → 2 ≤ fget t MOT_STATUS_PSTATE) ∧
      (fget s MOT_CTL_PACE_MODE = 1 → (fget s MOT_PACE_FOLLOW : Rat) / 100 < fillOf s →
        fillOf s < (fget s MOT_PACE_HOLD : Rat) / 100 → fget t MOT_STATUS_PSTATE = 1) ∧
      (fget s MOT_CTL_PACE_MODE ≠ 1 → fget t MOT_STATUS_PSTATE = 0)) ∧
  (∀ (s : State), Inv s → s.mode.mode = .hold → s.mot.holdAt + 600000 * max 1 (fget s MOT_HOLDTO_TIMEOUT) ≤ s.time →
    ∃ t, exec .holdTimeout s = .next t ∧ flag t MOT_EVENTS_HOLD_TO = true ∧ t.mode = s.mode) ∧
  (∀ (s : State) (v : Word), Inv s → hostMay s MOT_PACE = true →
    let fo := bitsOf v.toNat 6 0
    let ho := bitsOf v.toNat 14 8
    let re := bitsOf v.toNat 22 16
    ∃ t, exec (.motPaceWrite v) s = .next t ∧
      if 1 ≤ fo ∧ fo < ho ∧ ho ≤ 90 ∧ re < ho then
        fget t MOT_PACE_FOLLOW = fo ∧ fget t MOT_PACE_HOLD = ho ∧ fget t MOT_PACE_RESUME = re
      else flag t MOT_EVENTS_CFG_REJ = true ∧ raw t MOT_PACE = raw s MOT_PACE)

/-- R281 to R283, R291, R293: a moving axis that comes to rest is idle with velocity 0, and a stop that is complete ends its profile; a
back-up move that is complete sets BACKUP_DONE; a run-up that is complete goes on with the profile; the standby current follows
after STBY_DLY. -/
def Obligations.AxisComesToRestByRule : Prop :=
  (∀ (s : State) (m : Fin 8), Inv s → axisMoving s m = true → fget s (MOT_ASTATUS_MOVE m) ≠ 1 → fget s (MOT_ASTATUS_MOVE m) ≠ 2 →
    fget s MOT_STATUS_PSTATE ≠ 2 →
    ∃ t, exec (.axisAtRest m) s = .next t ∧ fget t (MOT_ASTATUS_STATE m) = 1 ∧ flag t (MOT_ASTATUS_REST m) = true ∧
      raw t (MOT_AVEL m) = 0 ∧
      (fget s (MOT_ASTATUS_MOVE m) = 3 → flag t (MOT_AEVENTS_PROF_DONE m) = true ∧ (getAxis t m).segs = []) ∧
      (fget s (MOT_ASTATUS_MOVE m) = 0 → (getAxis t m).segs = (getAxis s m).segs)) ∧
  (∀ (s : State) (m : Fin 8), Inv s → fget s (MOT_ASTATUS_MOVE m) = 1 → (getAxis s m).moveLeft = 0 → (getAxis s m).takeUp = 0 →
    s.mode.mode = .hold →
    ∃ t, exec (.backupMoveDone m) s = .next t ∧ flag t (MOT_AEVENTS_BACKUP_DONE m) = true ∧
      fget t (MOT_ASTATUS_MOVE m) = 0 ∧ flag t (MOT_ASTATUS_REST m) = true) ∧
  (∀ (s : State) (m : Fin 8), Inv s → fget s (MOT_ASTATUS_MOVE m) = 2 → (getAxis s m).moveLeft = 0 →
    ∃ t, exec (.runupDone m) s = .next t ∧ fget t (MOT_ASTATUS_MOVE m) = 0 ∧
      ((getAxis s m).segs ≠ [] → fget t (MOT_ASTATUS_STATE m) = 2 ∧ flag t (MOT_ASTATUS_REST m) = false)) ∧
  (∀ (s : State) (m : Fin 8), Inv s → flag s (MOT_ACTL_EN m) = true → flag s (MOT_ASTATUS_REST m) = true →
    (getAxis s m).lastMove + 6000000 * fget s (MOT_AIREF_STBY_DLY m) ≤ s.time →
    ∃ t, exec (.irefStandby m) s = .next t ∧ (getAxis t m).iref = fget s (MOT_AIREF_STBY_DUTY m) ∧ t.regs = s.regs)

/-- R289 to R291, R294, R295: a profile that fails its check answers 0x24, one with a ramp that does not fit 0x25, one that ends moving
0x26, and any other is loaded. START of an enabled idle axis with a profile sets it moving, any other START is rejected; STOP begins a controlled
stop, IMMEDIATE_STOP stops at once. A fault stops its axis, and the device with FE_ACT = 1.
What the spec leaves open here follows log entries 13 and 39: the model's choice. -/
def Obligations.ProfilesStartAndStop : Prop :=
  (∀ (s : State) (slot : Nat) (b : List Byte) (c : CmdEntry), Inv s → cmdOf s slot 6 = some c →
    s.host.cmds.find? (fun c => decide (c.slot = slot)) = some c →
    let gs := (List.range (byteAt b 5)).map fun n => segOf b n
    ∃ t, exec (.motProfile slot b) s = .next t ∧
      if profileOk s b = false then Completed t slot 0 0x24
      else if rampsFit 0 gs = false then Completed t slot 0 0x25
      else if (gs.getLast?.any fun g => g.kind == 0 && g.vEnd != 0) = true then Completed t slot 0 0x26
      else Completed t slot gs.length 0 ∧ (getAxis t (byteAt b 4)).loaded = gs) ∧
  (∀ (s : State) (m : Fin 8), Inv s → hostMay s (MOT_ACMD m) = true →
    ∃ t, exec (.motAcmdStart m) s = .next t ∧
      if (getAxis s m).loaded ≠ [] ∧ modeIn s [.scan, .calibrate, .service] = true ∧ flag s (MOT_ACTL_EN m) = true ∧
          fget s (MOT_ASTATUS_STATE m) = 1 then
        fget t (MOT_ASTATUS_STATE m) = 2 ∧ flag t (MOT_ASTATUS_REST m) = false ∧ (getAxis t m).segs = (getAxis s m).loaded
      else flag t MOT_EVENTS_CFG_REJ = true ∧ t.mot = s.mot) ∧
  (∀ (s : State) (m : Fin 8), Inv s → hostMay s (MOT_ACMD m) = true → axisMoving s m = true →
    ∃ t, exec (.motAcmdStop m) s = .next t ∧ fget t (MOT_ASTATUS_MOVE m) = 3 ∧ axisMoving t m = true) ∧
  (∀ (s : State) (m : Fin 8), Inv s → hostMay s (MOT_ACMD m) = true → axisMoving s m = true → fget s MOT_STATUS_PSTATE ≠ 2 →
    ∃ t, exec (.motAcmdImmediateStop m) s = .next t ∧ fget t (MOT_ASTATUS_STATE m) = 1 ∧
      flag t (MOT_ASTATUS_REST m) = true ∧ flag t (MOT_AEVENTS_PROF_DONE m) = true ∧ (getAxis t m).segs = []) ∧
  (∀ (s : State) (m : Fin 8) (drv : Bool), Inv s → (drv = true ∨ followFails s m = true) → s.mode.mode ≠ .off →
    s.mode.mode ≠ .halt →
    ∃ t, exec (.axisFault m drv) s = .next t ∧ fget t (MOT_ASTATUS_STATE m) = 3 ∧ (getAxis t m).enPin = false ∧
      flag t MOT_EVENTS_AXIS_FAULT = true ∧ (flag s (MOT_ACTL_FE_ACT m) = true → t.mode.mode = .halt))

/-- R33, R263, R291 to R293: a write of MOT_ACTL that sets EN makes the axis idle, enables its driver and gives the run current, with steps
from EN_DLY us on; one that clears EN disables the axis and its driver; BIND and ENC stay as they are while EN is 1; and in HALT EN
stays 0.
What the spec leaves open here follows log entry 13: the model's choice. -/
def Obligations.AxisEnableWritesAct : Prop :=
  (∀ (s : State) (m : Fin 8) (v : Word), Inv s → hostMay s (MOT_ACTL m) = true → flag s (MOT_ACTL_EN m) = false →
    v.getLsbD 31 = true → s.mode.mode ≠ .halt →
    ∃ t, exec (.regWrite false (MOT_ACTL m) v) s = .next t ∧ flag t (MOT_ACTL_EN m) = true ∧ fget t (MOT_ASTATUS_STATE m) = 1 ∧
      (getAxis t m).enPin = true ∧ (getAxis t m).readyAt = s.time + 600 * bitsOf v.toNat 15 8 ∧
      (getAxis t m).iref = fget s (MOT_AIREF_RUN_DUTY m)) ∧
  (∀ (s : State) (m : Fin 8) (v : Word), Inv s → hostMay s (MOT_ACTL m) = true → flag s (MOT_ACTL_EN m) = true →
    ∃ t, exec (.regWrite false (MOT_ACTL m) v) s = .next t ∧
      fget t (MOT_ACTL_BIND m) = fget s (MOT_ACTL_BIND m) ∧ fget t (MOT_ACTL_ENC m) = fget s (MOT_ACTL_ENC m) ∧
      (v.getLsbD 31 = false → fget s MOT_STATUS_PSTATE ≠ 2 → flag t (MOT_ACTL_EN m) = false ∧
        fget t (MOT_ASTATUS_STATE m) = 0 ∧ (getAxis t m).enPin = false ∧ (getAxis t m).iref = 0)) ∧
  (∀ (s : State) (m : Fin 8) (v : Word), Inv s → hostMay s (MOT_ACTL m) = true → s.mode.mode = .halt →
    ∃ t, exec (.regWrite false (MOT_ACTL m) v) s = .next t ∧ flag t (MOT_ACTL_EN m) = false)

/-! The lamp drive (spec/10). -/

/-- R303 to R308, R314: a lamp block that fails its check ends its command with the code and changes no entry; one that is accepted
replaces the entries, with TABLE and LOADING set, and its command ends with the number of its entries when no satellite has a table to
latch. A recompute loads the drive law's drives of every entry for the next B0 cause; a write of a bin register takes its bits and asks
for one.
What the spec leaves open here follows log entries 33 and 47: the model's choice. -/
def Obligations.LampBlockTakesEffect : Prop :=
  (∀ (s : State) (slot : Nat) (b : List Byte) (c : CmdEntry), Inv s → cmdOf s slot 5 = some c →
    s.host.cmds.find? (fun c => decide (c.slot = slot)) = some c → (s.lmp.load.any fun p => p.1 == slot) = false →
    fget s LNK_STATUS_STATE ≠ 1 →
    ∃ t, exec (.lampLoad slot b) s = .next t ∧
      if lampBlockError s b ≠ 0 then Completed t slot 0 (lampBlockError s b) ∧ t.lmp = s.lmp
      else t.lmp.entries = lampEntries b ∧ flag t LMP_STATUS_TABLE = true ∧ flag t LMP_STATUS_LOADING = true ∧
        t.lmp.load = s.lmp.load ++ [(slot, (lampEntries b).length)]) ∧
  (∀ (s : State) (slot n : Nat) (c : CmdEntry), Inv s → s.lmp.load = [(slot, n)] → satsPending s = false →
    s.host.cmds.find? (fun c => decide (c.slot = slot)) = some c →
    ∃ t, exec .lampLoadComplete s = .next t ∧ flag t LMP_STATUS_LOADING = false ∧ t.lmp.load = [] ∧ Completed t slot n 0) ∧
  (∀ (s : State), Inv s → hkRuns s = true → (s.lmp.entries.map fun e => strKey e.sat e.str).Nodup →
    ∃ t, exec .driveRecompute s = .next t ∧ ∀ e ∈ s.lmp.entries,
      (getStr t (strKey e.sat e.str)).nxt = drivesOf s e ∧ (getStr t (strKey e.sat e.str)).nxtAt = some s.time ∧
      (getStr t (strKey e.sat e.str)).drv = (getStr s (strKey e.sat e.str)).drv) ∧
  (∀ (s : State) (k : Fin 16) (r : Fin 4) (v : Word), Inv s → hostMay s (sbinOff k r) = true →
    ∃ t, exec (.lmpSbinWrite k r v) s = .next t ∧
      reg t (sbinOff k r) = reg (writeRw (sbinOff k r) v.toNat s) (sbinOff k r) ∧ (s.time, .driveRecompute) ∈ t.agenda)

/-- R315, R316, R324 to R328, R331: strobes and LSTB end, LBAND takes the band of the next trigger when its hold ends; a string whose short
strobes have lasted DUE_T is due, one that stays due 1 ms counts as late; and a diagnosed pulse whose current is too low or whose
voltage is too low drops its string, while a good one only gives its headroom.
What the spec leaves open here follows log entry 49: the model's choice. -/
def Obligations.LampPulsesAreDiagnosed : Prop :=
  (∀ (s : State) (k : Nat) (q : Nat × Nat × Nat × Nat × Nat × Bool), (getStr s k).strobe = some q → q.1 + q.2.1 ≤ s.time →
    ∃ t, exec (.strobeEnd k) s = .next t ∧ (getStr t k).strobe = none ∧ t.regs = s.regs) ∧
  (∀ (s : State), ∃ t, exec .lstbFall s = .next t ∧ t.lmp.lstb = false ∧ t.regs = s.regs) ∧
  (∀ (s : State) (u : Nat), s.lmp.hold = some u → u ≤ s.time →
    let h := fget s LMP_CTL_BUS_HEAD
    ∃ t, exec .lbandHoldEnd s = .next t ∧ t.lmp.hold = none ∧
      t.lmp.lband = (match (getHead s h).lines.find? fun l => decide (l.stage = .accepted) with
        | some l => l.band
        | none => fget s (HEAD_STATUS_BAND h)) % 8) ∧
  (∀ (s : State) (k : Nat), (getStr s k).scount ≠ 0 → (getStr s k).due = none →
    (getStr s k).firstShort + 60000 * max 1 (fget s LMP_DIAG_DUE_T) ≤ s.time →
    ∃ t, exec (.stringDueTimeout k) s = .next t ∧ (getStr t k).due = some s.time ∧ (s.time + 600000, .diagLate k) ∈ t.agenda) ∧
  (∀ (s : State) (k u : Nat), Inv s → (getStr s k).due = some u → u + 600000 ≤ s.time → (getStr s k).late = false →
    ∃ t, exec (.diagLate k) s = .next t ∧ fget t LMP_CNT_DIAG_LATE = satAdd 0xFFFF (fget s LMP_CNT_DIAG_LATE) 1 ∧
      flag t LMP_EVENTS_DIAG_LATE = true ∧ (getStr t k).late = true) ∧
  (∀ (s : State) (k : Nat) (m : PulseMeas) (q : Nat × Nat × Nat × Nat × Nat × Bool) (e : LampEntry), Inv s →
    (getStr s k).toDiag = some q → q.1 + 192 ≤ s.time → k < 16 → entryOf s k = some e → isDropped s e = false →
    let v := judge s (binOf s k) ((fsOf s k : Rat) * q.2.2.1 / 1023) m
    ∃ t, exec (.pulseDiagnosed k m) s = .next t ∧ (getStr t k).toDiag = none ∧ (getStr t k).scount = 0 ∧
      (getStr t k).drop = (match v with | .opened => 1 | .shorted => 2 | _ => 0) ∧
      ((v = .opened ∨ v = .shorted) → flag t LMP_EVENTS_DROP = true) ∧
      (v = .good → t.lmp.hr = s.lmp.hr ++ [(m.head, satOf k, strOf k)]))

/-- R320 to R323: a servo period of a rail that is on and met headroom samples sets VSET by the least of them, within VMIN and VMAX; the rail
is in regulation or out of it as it says, for a millisecond out of it a rail fault falls due, and a rail fault turns the rail off and halts the
device.
What the spec leaves open here follows log entry 48: the model's choice. -/
def Obligations.LampRailIsServed : Prop :=
  (∀ (s : State) (v i : Nat) (x : Nat × Nat × Nat), Inv s → flag s LMP_STATUS_RAIL_ON = true → leastSample s.lmp.hr = some x →
    ∃ t, exec (.servoPeriodEnd v i) s = .next t ∧ t.lmp.hr = [] ∧ fget t LMP_VSET_VMEAS = v % 65536 ∧
      fget t LMP_VSET_VSET = (clampInt (vMin s) (vMax s) (servoStep s x.1)).toNat ∧ fget t LMP_HMIN_HMIN = x.1 % 65536 ∧
      flag t LMP_STATUS_SERVO_LIM = (decide (x.1 < hrTgt s) &&
        decide (vMax s ≤ (clampInt (vMin s) (vMax s) (servoStep s x.1)).toNat))) ∧
  (∀ (s : State), Inv s → flag s LMP_STATUS_RAIL_ON = true →
    ∃ t, exec .railOkSet s = .next t ∧ flag t LMP_STATUS_RAIL_OK = true) ∧
  (∀ (s : State), Inv s → flag s LMP_STATUS_RAIL_ON = true → flag s LMP_STATUS_RAIL_OK = true →
    ∃ t, exec .railOkClear s = .next t ∧ flag t LMP_STATUS_RAIL_OK = false ∧ (s.time + 600000, .railFault 2) ∈ t.agenda) ∧
  (∀ (s : State) (k : Fin 3), Inv s → flag s LMP_STATUS_RAIL_ON = true → s.mode.mode ≠ .off → s.mode.mode ≠ .halt →
    (k = 2 → s.lmp.railSince ≠ 0 ∧ s.lmp.railSince + 600000 ≤ s.time ∧ flag s LMP_STATUS_RAIL_OK = false) →
    ∃ t, exec (.railFault k) s = .next t ∧ flag t LMP_EVENTS_RAIL_FAULT = true ∧ flag t LMP_STATUS_RAIL_ON = false ∧
      fget t LMP_LAST_KIND = 4 ∧ t.mode.mode = .halt)

/-- R333, R335, R338, R339: raised drives come into force 20 us after a drop, and 250 us after it the band is no longer flagged; RESTORE marks
the dropped strings that it names for the next B0 cause, or answers 1; LAMP_TEST in READY takes the local strings that are not
dropped, elsewhere it answers 2; and sixteen good pulses end the test of a string.
What the spec leaves open here follows log entries 47 and 49: the model's choice. -/
def Obligations.LampCommandsAct : Prop :=
  (∀ (s : State) (k : Nat) (e : LampEntry) (r : Redist), entryOf s k = some e → r ∈ s.lmp.redist → r.key = k → r.applied = false →
    r.time + 12000 ≤ s.time →
    ∃ t, exec (.redistApply k) s = .next t ∧ (∀ q ∈ t.lmp.redist, q.key = k → q.time + 12000 ≤ s.time → q.applied = true) ∧
      ∀ f ∈ siblings s e r.band, f ≠ e → f.sat = 0 → f.str < 16 → (getStr s f.str).riseAt.any (fun u => decide (u ≤ s.time)) = true →
        (getStr t f.str).drv = (getStr s f.str).rise) ∧
  (∀ (s : State) (k : Nat), ∃ t, exec (.redistSettleEnd k) s = .next t ∧
    t.lmp.redist = s.lmp.redist.filter fun r => !(r.key == k && decide (r.time + 150000 ≤ s.time))) ∧
  (∀ (s : State) (sat str : BitVec 8), Inv s → hostMay s LMP_CMD = true →
    let k := strKey sat.toNat (str.toNat % 16)
    ∃ t, exec (.lmpCmdRestore sat str) s = .next t ∧ fget t LMP_CMDSTAT_CODE = (if (entryOf s k).isNone = true then 1 else 0) ∧
      ((entryOf s k).any (isDropped s) = true → (getStr t k).restore = true)) ∧
  (∀ (s : State), Inv s → hostMay s LMP_CMD = true →
    ∃ t, exec .lmpCmdRestoreAll s = .next t ∧ fget t LMP_CMDSTAT_CODE = 0 ∧
      ∀ e ∈ s.lmp.entries, isDropped s e = true → (getStr t (strKey e.sat e.str)).restore = true) ∧
  (∀ (s : State), Inv s → hostMay s LMP_CMD = true → flag s LMP_CMDSTAT_BUSY = false →
    let ks := (s.lmp.entries.filter fun e => e.sat == 0 && !isDropped s e).map fun e => e.str
    ∃ t, exec .lmpCmdLampTest s = .next t ∧
      if s.mode.mode ≠ .ready then fget t LMP_CMDSTAT_CODE = 2 ∧ flag t LMP_CMDSTAT_BUSY = false
      else if ks ≠ [] ∧ flag s LMP_CTL_EN = true then flag t LMP_CMDSTAT_BUSY = true ∧ t.lmp.test = ks
      else flag t LMP_CMDSTAT_BUSY = false ∧ fget t LMP_CMDSTAT_CODE = 0) ∧
  (∀ (s : State) (m : PulseMeas) (k : Nat) (rest : List Nat), Inv s → s.mode.mode = .ready → s.lmp.test = k :: rest →
    judge s (binOf s k) ((binOf s k).iref : Nat) m = .good →
    ∃ t, exec (.lampTestPulse m) s = .next t ∧
      if s.lmp.testPulses + 1 < 16 then t.lmp.testPulses = s.lmp.testPulses + 1 ∧ t.lmp.test = s.lmp.test
      else t.lmp.testPulses = 0 ∧ t.lmp.test = rest ∧ (rest = [] → flag t LMP_CMDSTAT_BUSY = false))

/-! The host interface (spec/11). -/

/-- R349, R356, R357: outside SLEEP a doorbell that is valid for an enabled ring replaces the host index of that ring with the bits 16:0
that it brings; any other is discarded, sets DB_ERR, is recorded in HOST_ERRINFO where no other stands there, and raises a P0 message of the
ring and the value. In SLEEP and OFF, and while the root is stopped, a doorbell does nothing. -/
def Obligations.DoorbellsAreTakenOrReported : Prop :=
  (∀ (s : State) (v : Word) (h : Fin 16) (c : Instr) (r : Nat), (c, r) ∈ [(Instr.dbCmdPi v, 0), (Instr.dbCplCi v, 1), (Instr.dbEvtCi v, 2), (Instr.dbImgPi h v, 3 + h.val)] →
    rootRuns s = true → s.mode.mode ≠ .off → s.mode.mode ≠ .sleep →
    let i := bitsOf v.toNat 16 0
    ∃ t, exec c s = .next t ∧ t.host.cmds = s.host.cmds ∧
      if ringOn s r = true ∧ doorbellValid s r i = true then hidx t r = i ∧ flag t HOST_EVENTS_DB_ERR = flag s HOST_EVENTS_DB_ERR
      else hidx t r = hidx s r ∧ flag t HOST_EVENTS_DB_ERR = true ∧ Raised t 0 3 0x80 [r, i] ∧
        if flag s HOST_ERRINFO_VALID = true then reg t HOST_ERRINFO = reg s HOST_ERRINFO
        else flag t HOST_ERRINFO_VALID = true ∧ fget t HOST_ERRINFO_KIND = 1 ∧ fget t HOST_ERRINFO_RING = r ∧ fget t HOST_ERRINFO_IDX = i) ∧
  (∀ (s : State) (v : Word) (h : Fin 16) (c : Instr), c ∈ [Instr.dbCmdPi v, Instr.dbCplCi v, Instr.dbEvtCi v, Instr.dbImgPi h v] →
    (s.mode.mode = .off ∨ s.mode.mode = .sleep ∨ rootRuns s = false) →
    ∃ t, exec c s = .next t ∧ t = s)

/-- R353 to R355, R379: a write of HOST_RCTL that breaks the rules of R354 sets WR_REJ and changes nothing of the ring; another takes the
size and EN, and as EN goes from 0 to 1 both indexes restart and ERR clears. A disabled ring is idle once its last access has ended, and
a read of entries that fails stops its ring with ERR.
What the spec leaves open here follows log entry 50: the model's choice. -/
def Obligations.RingControlFollowsItsRules : Prop :=
  (∀ (s : State) (r : Fin 19) (v : Word), hostMay s (HOST_RCTL r) = true → rctlBreaks s r v.toNat = true →
    ∃ t, exec (.hostRctlWrite r v) s = .next t ∧ flag t HOST_EVENTS_WR_REJ = true ∧ reg t (HOST_RCTL r) = reg s (HOST_RCTL r) ∧
      reg t (HOST_RSTAT r) = reg s (HOST_RSTAT r) ∧ reg t (HOST_RHIDX r) = reg s (HOST_RHIDX r)) ∧
  (∀ (s : State) (r : Fin 19) (v : Word), hostMay s (HOST_RCTL r) = true → rctlBreaks s r v.toNat = false →
    ∃ t, exec (.hostRctlWrite r v) s = .next t ∧ fget t (HOST_RCTL_LOG2N r) = bitsOf v.toNat 20 16 ∧ ringOn t r = bitOf v.toNat 31 ∧
      if bitOf v.toNat 31 && !ringOn s r then didx t r = 0 ∧ hidx t r = 0 ∧ flag t (HOST_RSTAT_ERR r) = false
      else didx t r = didx s r ∧ hidx t r = hidx s r) ∧
  (∀ (s : State) (r : Fin 19), ringOn s r = false →
    ∃ t, exec (.ringIdle r) s = .next t ∧ flag t (HOST_RSTAT_IDLE r) = true) ∧
  (∀ (s : State) (r : Fin 19), entryPosted s r = true → r.val ≠ 1 → r.val ≠ 2 → busOn s = true →
    ∃ t, exec (.ringFetchError r) s = .next t ∧ ringOn t r = false ∧ flag t (HOST_RSTAT_ERR r) = true ∧ didx t r = didx s r ∧
      flag t HOST_EVENTS_FETCH_ERR = true)

/-- R352, R359 to R368, R380: a descriptor that may start is taken from CMD, the device index moves on, and it is in progress, or has
already ended with the code of the first common check that fails; NOP ends with RESULT 0; a failed read of command data ends the
command with 0x80. A completion goes out in a slot that the host has released, and the device index of CPL moves on.
What the spec leaves open here follows log entries 50 and 71: the model's choice. -/
def Obligations.CommandsAreTakenAndCompleted : Prop :=
  (∀ (s : State) (d : List Byte), entryPosted s 0 = true → busOn s = true → inProgress s < 64 → d.length = 64 →
    let c : CmdEntry := ⟨didx s 0 % ringN s 0, byteAt d 0, bitOf (byteAt d 1) 0, bitOf (byteAt d 1) 1, d⟩
    mayStart s c = true →
    ∃ t, exec (.cmdFetchDone d) s = .next t ∧ didx t 0 = (didx s 0 + 1) % (2 * ringN s 0) ∧
      if commonStatus s d = 0 then t.host.cmds = s.host.cmds ++ [c] ∧ t.host.cplq = s.host.cplq
      else Completed t c.slot 0 (commonStatus s d)) ∧
  (∀ (s : State) (slot : Nat) (c : CmdEntry), cmdOf s slot 0 = some c →
    ∃ t, exec (.nop slot) s = .next t ∧ Completed t slot 0 0) ∧
  (∀ (s : State) (slot : Nat) (c : CmdEntry) (q : Staged), cmdOf s slot 1 = some c → fget s PIPE_STATUS_STAGE = 1 →
    s.pipe.stage = some q → q.slot = some slot →
    ∃ t, exec (.cmdDataReadError slot) s = .next t ∧ Completed t slot 0 0x80 ∧ flag t HOST_EVENTS_DMA_RD_ERR = true ∧
      t.pipe.stage = none ∧ fget t PIPE_STATUS_STAGE = 0) ∧
  (∀ (s : State) (slot : Nat) (c : CmdEntry), (cmdOf s slot 5 = some c ∨ cmdOf s slot 6 = some c) →
    (s.lmp.load.any fun p => p.1 == slot) = false →
    ∃ t, exec (.cmdDataReadError slot) s = .next t ∧ Completed t slot 0 0x80 ∧ flag t HOST_EVENTS_DMA_RD_ERR = true) ∧
  (∀ (s : State) (c : Cpl) (l : List Cpl), s.host.cplq = c :: l → slotFree s 1 = true → busOn s = true →
    ∃ t, exec .completionWrite s = .next t ∧ t.host.cplq = l ∧ didx t 1 = (didx s 1 + 1) % (2 * ringN s 1) ∧
      t.emits = s.emits ++ [.memWrite (ringBase s 1 + didx s 1 % ringN s 1 * 16) (cplBytes c (ringPhase s 1))] ∧
      (c.irq = true → bget t.host.isr (if c.src = 0 then 0 else 1 + (c.src - 0x10)) = true)) ∧
  (∀ (s : State), slotFree s 1 = false → ringOn s 1 = true → s.host.unmet ≠ 0 →
    ∃ t, exec .completionWrite s = .next t ∧ flag t HOST_EVENTS_CPL_STALL = true ∧ t.host.cplq = s.host.cplq ∧ t.emits = s.emits)

/-- R369, R370, R374, R375, R534: the next posted buffer of a head is taken for its oldest closed packet: an invalid one completes with 0x31,
one that is too small with 0x30 and the packet's bytes, and one that holds the packet is written, its first four bytes last, and
completes with the packet's bytes; a word that the Cellar's ECC corrects is counted.
R376: SKIP_DOC ends with 0x2B for a head that forms no documents, and with 0x2A where its DOC names no document that is in capture or
stored; otherwise the stored records of the document are discarded, and it ends, with their number, at once or when the last band-line
of the document has been handled. -/
def Obligations.PacketsAreDeliveredOrSkipped : Prop :=
  (∀ (s : State) (h : Fin 16) (b : BufDesc) (e : CelEcc) (p : Packet), (s.host.closed.find? fun p => decide (p.head = h.val)) = some p →
    entryPosted s (3 + h.val) = true → busOn s = true →
    let slot := didx s (3 + h.val) % ringN s (3 + h.val)
    let held := bufInvalid b = false ∧ p.size ≤ b.len
    ∃ t, exec (.packetDeliver h b e) s = .next t ∧ didx t (3 + h.val) = (didx s (3 + h.val) + 1) % (2 * ringN s (3 + h.val)) ∧
      t.host.cplq = s.host.cplq ++ [if bufInvalid b then ⟨0, slot, 0x10 + h.val, 0x31, true, 0, s.time, false⟩
        else if b.len < p.size then ⟨p.size, slot, 0x10 + h.val, 0x30, true, 0, s.time, false⟩
        else ⟨p.size, slot, 0x10 + h.val, 0, bitOf b.flags 0, p.size, s.time, false⟩] ∧
      t.host.closed = (if held then s.host.closed.erase p else s.host.closed) ∧
      t.emits = s.emits ++ (if held then [.memWrite (b.addr + 4) (p.image.drop 4), .memWrite b.addr (p.image.take 4)] else [])) ∧
  (∀ (s : State) (h : Fin 16) (b : BufDesc) (a : Nat) (p : Packet), (s.host.closed.find? fun p => decide (p.head = h.val)) = some p →
    entryPosted s (3 + h.val) = true → busOn s = true → bufInvalid b = false → p.size ≤ b.len →
    ∃ t, exec (.packetDeliver h b (.corrected a)) s = .next t ∧ raw t CEL_CE = satAdd 0xFFFFFFFF (raw s CEL_CE) 1 ∧
      flag t CEL_EVENTS_CE = true ∧ raw t CEL_ERRADDR_LO = a % 2 ^ 32 ∧ flag t CEL_ERRADDR_HI_UE = false) ∧
  (∀ (s : State) (h : Fin 16) (b : BufDesc) (a : Nat) (p : Packet), (s.host.closed.find? fun p => decide (p.head = h.val)) = some p →
    entryPosted s (3 + h.val) = true → busOn s = true → bufInvalid b = false → p.size ≤ b.len →
    ∃ t, exec (.packetDeliver h b (.uncorrectable a)) s = .next t ∧ raw t CEL_UE = satAdd 0xFFFFFFFF (raw s CEL_UE) 1 ∧
      flag t CEL_EVENTS_UE = true ∧ raw t CEL_ERRADDR_LO = a % 2 ^ 32 ∧ flag t CEL_ERRADDR_HI_UE = true ∧ flag t SYS_LIMP_CEL = true) ∧
  (∀ (s : State) (slot : Nat) (c : CmdEntry), cmdOf s slot 8 = some c → (s.host.skips.any fun k => k.slot == slot) = false →
    (s.host.skips.any fun k => k.head == byteAt c.desc 8) = false →
    let h := byteAt c.desc 8
    let none' := skipTarget s h (leAt c.desc 12 4) = none
    let doc := (skipTarget s h (leAt c.desc 12 4)).getD 0
    let cap := inCapture s h doc = true ∨ lineOnWay s h doc = true
    let stored := (unwritten s h).filter fun r => r.ofDoc doc
    ∃ t, exec (.skipDoc slot) s = .next t ∧
      if docEn s h = false then Completed t slot 0 0x2B
      else if none' ∨ (¬ cap ∧ stored = []) then Completed t slot 0 0x2A
      else (∀ r ∈ unwritten t h, r.ofDoc doc = false) ∧ (if cap then (⟨slot, h, doc, stored.length⟩ : Skip) ∈ t.host.skips
        else Completed t slot stored.length 0)) ∧
  (∀ (s : State) (slot : Nat) (k : Skip) (c : CmdEntry), (s.host.skips.find? fun k => decide (k.slot = slot)) = some k →
    s.host.cmds.find? (fun c => decide (c.slot = slot)) = some c → inCapture s k.head k.doc = false → lineOnWay s k.head k.doc = false →
    ∃ t, exec (.skipDocDone slot) s = .next t ∧ Completed t slot k.count 0 ∧ k ∉ t.host.skips)

/-- R377, R378: a source that may signal ceases to be pending, as does every other that may signal the same vector, each with a new holdoff; the
vector's message goes out, or its PBA bit sets while it is masked, and an unmask sends a message that the PBA holds. -/
def Obligations.InterruptsAreSignalled : Prop :=
  (∀ (s : State) (k : Fin 22), maySignal s k = true →
    let v := fget s (HOST_ISRC_VEC k)
    ∃ t, exec (.msixSignal k) s = .next t ∧
      (∀ j, j < 22 → maySignal s j = true → fget s (HOST_ISRC_VEC j) = v →
        bget t.host.isr j = false ∧ nget t.host.holdEnd j = s.time + 600 * fget s (HOST_ISRC_HOLDOFF j)) ∧
      (if flag s (MSIX_CTRL_MASK v) then bitOf (raw t (MSIX_PBA (v / 32))) (v % 32) = true ∧ t.emits = s.emits
        else t.emits = s.emits ++ [.msix v (raw s (MSIX_ADDR_HI v) * 2 ^ 32 + raw s (MSIX_ADDR_LO v)) (raw s (MSIX_DATA v))])) ∧
  (∀ (s : State) (k : Fin 64), s.mode.mode ≠ .off →
    let held := bitOf (raw s (MSIX_PBA (k.val / 32))) (k.val % 32) = true ∧ busOn s = true
    ∃ t, exec (.msixUnmask k) s = .next t ∧ flag t (MSIX_CTRL_MASK k) = false ∧
      (held → bitOf (raw t (MSIX_PBA (k.val / 32))) (k.val % 32) = false) ∧
      t.emits = s.emits ++ (if held then [.msix k (raw s (MSIX_ADDR_HI k) * 2 ^ 32 + raw s (MSIX_ADDR_LO k)) (raw s (MSIX_DATA k))] else []))

/-- R345, R346, R382, R530, R597: a link loss clears LINK_UP and Bus Master Enable, leaves every ring as it stands and, outside OFF, SLEEP and
the starts, halts the device; a conventional reset also gives the MSI-X table and PBA their reset state. A link that comes up shows its width
and rate, and Bus Master Enable follows the host while the link is up.
What the spec leaves open here follows log entries 45 and 52: the model's choice. -/
def Obligations.LinkComesAndGoes : Prop :=
  (∀ (s : State), flag s HOST_STATUS_LINK_UP = true →
    ∃ t, exec .linkDown s = .next t ∧ flag t HOST_STATUS_LINK_UP = false ∧ flag t HOST_STATUS_BME = false ∧
      (∀ r, reg t (HOST_RCTL r) = reg s (HOST_RCTL r) ∧ reg t (HOST_RSTAT r) = reg s (HOST_RSTAT r) ∧ reg t (HOST_RHIDX r) = reg s (HOST_RHIDX r)) ∧
      if s.mode.mode = .off ∨ s.mode.mode = .sleep ∨ starting s = true then t.mode = s.mode
      else t.mode.mode = .halt ∧ flag t HOST_EVENTS_LINK_DOWN = true) ∧
  (∀ (s : State), ∃ t, exec .perst s = .next t ∧ t.host.perst = true ∧ flag t HOST_STATUS_LINK_UP = false ∧
    (∀ v, v < 64 → raw t (MSIX_ADDR_LO v) = 0 ∧ raw t (MSIX_ADDR_HI v) = 0 ∧ raw t (MSIX_DATA v) = 0 ∧ raw t (MSIX_CTRL v) = 1) ∧
    raw t (MSIX_PBA 0) = 0 ∧ raw t (MSIX_PBA 1) = 0) ∧
  (∀ (s : State), ∃ t, exec .perstRelease s = .next t ∧ t = { s with host := { s.host with perst := false } }) ∧
  (∀ (s : State) (w r : Nat), s.mode.mode ≠ .off → s.host.perst = false → (s.mode.mode = .coldStart → rootRuns s = true) →
    w ∈ [1, 2, 4, 8] → r ∈ [1, 2, 3, 4] →
    ∃ t, exec (.linkUp w r) s = .next t ∧ flag t HOST_STATUS_LINK_UP = true ∧ fget t HOST_STATUS_WIDTH = w ∧ fget t HOST_STATUS_SPEED = r) ∧
  (∀ (s : State) (b : Bool), flag s HOST_STATUS_LINK_UP = true →
    ∃ t, exec (.busMasterEnable b) s = .next t ∧ flag t HOST_STATUS_BME = b)

/-! The Landing (spec/12) and the performance counters (spec/18). -/

/-- R385, R392 to R396, R398: a drain takes the oldest complete message of the highest class. The DMA drain writes its words from word 1 on and then
word 0 into the EVT slot and makes the class's source pending; on the port, with DMA_EN 0, a low read opens the message and returns the
low half of its current word, and the high read after it returns the high half and moves on, the message closing after its last word.
R397, R398, R400, R401: DROP closes the message on the port; a flush discards what the queue, the port and the open messages hold and counts
it, with the TIME of the flush; DMA_EN is written only while no message is open on the port, and otherwise WR_REJ sets. -/
def Obligations.LandingIsDrainedAndControlled : Prop :=
  (∀ (s : State) (d : DoneMsg), dmaMayPop s = true → lndNext s = some d →
    ∃ t, exec .landingDmaPop s = .next t ∧ t.lnd.queue = s.lnd.queue.filter (fun e => decide (e ≠ d)) ∧ t.lnd.port = s.lnd.port ∧
      (let a := ringBase s 2 + didx s 2 % ringN s 2 * 128; t.emits = s.emits ++
        [.memWrite (a + 8) (msgBody d.msg d.seq), .memWrite a (leBytes (msgHeader d.msg d.seq (ringPhase s 2)) 8)]) ∧
      didx t 2 = (didx s 2 + 1) % (2 * ringN s 2) ∧ bget t.host.isr (17 + d.msg.cls) = true) ∧
  (∀ (s : State) (p : PortMsg), portReads s .hostBar0 = true → s.lnd.port = some p →
    ∃ t, exec (.lndDataLoRead .hostBar0) s = .next t ∧ t.rdata = BitVec.ofNat 32 (msgWord p.msg p.seq false p.idx) ∧
      t.shadow0 = some ⟨LND_DATA_LO, msgWord p.msg p.seq false p.idx / 2 ^ 32⟩ ∧ t.lnd = s.lnd) ∧
  (∀ (s : State), portReads s .hostBar0 = true → s.lnd.port = none → lndNext s = none →
    ∃ t, exec (.lndDataLoRead .hostBar0) s = .next t ∧ t.rdata = 0 ∧ t.lnd = s.lnd) ∧
  (∀ (s : State) (d : DoneMsg), portReads s .hostBar0 = true → s.lnd.port = none → lndNext s = some d →
    ∃ t, exec (.lndDataLoRead .hostBar0) s = .next t ∧ t.rdata = BitVec.ofNat 32 (msgHeader d.msg d.seq false) ∧
      t.lnd.port = some ⟨d.msg, d.seq, 0⟩ ∧ t.shadow0 = some ⟨LND_DATA_LO, msgHeader d.msg d.seq false / 2 ^ 32⟩ ∧
      t.lnd.queue = s.lnd.queue.filter fun e => decide (e ≠ d)) ∧
  (∀ (s : State) (p : PortMsg) (h : Nat), portReads s .hostBar0 = true → s.lnd.port = some p → s.shadow0 = some ⟨LND_DATA_LO, h⟩ →
    ∃ t, exec (.lndDataHiRead .hostBar0) s = .next t ∧ t.rdata = BitVec.ofNat 32 h ∧ t.shadow0 = none ∧ t.lnd.queue = s.lnd.queue ∧
      t.lnd.port = if p.idx + 1 < p.msg.len then some { p with idx := p.idx + 1 } else none) ∧
  (∀ (s : State) (p : PortMsg), portReads s .hostBar0 = true → s.lnd.port = some p → s.shadow0 = none →
    ∃ t, exec (.lndDataHiRead .hostBar0) s = .next t ∧ t.rdata = BitVec.ofNat 32 (msgWord p.msg p.seq false p.idx / 2 ^ 32) ∧ t.lnd = s.lnd) ∧
  (∀ (s : State) (m : Master) (c : Instr), c ∈ [Instr.lndDataLoRead m, Instr.lndDataHiRead m] → portReads s m = false →
    ∃ t, exec c s = .next t ∧ t.rdata = 0 ∧ t.lnd = s.lnd) ∧
  (∀ (s : State), hostMay s LND_CMD = true →
    ∃ t, exec .lndDrop s = .next t ∧ t.lnd = { s.lnd with port := none } ∧ t.regs = s.regs) ∧
  (∀ (s : State), hostMay s LND_CMD = true → s.time < 2 ^ 64 →
    ∃ t, exec .lndFlush s = .next t ∧ t.lnd.queue = [] ∧ t.lnd.port = none ∧ t.lnd.opened = s.lnd.opened.map (fun o => { o with lost := true }) ∧
      raw t LND_FLUSHCNT = satAdd 0xFFFFFFFF (raw s LND_FLUSHCNT) (s.lnd.queue.length + b2n s.lnd.port.isSome) ∧
      (∀ c, c < 4 → raw t (LND_LOST c) = satAdd 0xFFFFFFFF (raw s (LND_LOST c))
        (s.lnd.opened.filter fun o => !o.lost && decide (o.msg.cls = c)).length) ∧
      flag t LND_EVENTS_FLUSHED = true ∧ raw t LND_FLUSHT_LO + raw t LND_FLUSHT_HI * 2 ^ 32 = s.time) ∧
  (∀ (s : State) (v : Word), hostMay s LND_CTL = true →
    ∃ t, exec (.lndCtlWrite v) s = .next t ∧ t.lnd = s.lnd ∧
      if s.lnd.port.isSome then flag t LND_EVENTS_WR_REJ = true ∧ flag t LND_CTL_DMA_EN = flag s LND_CTL_DMA_EN
      else flag t LND_CTL_DMA_EN = bitOf v.toNat 0 ∧ flag t LND_EVENTS_WR_REJ = flag s LND_EVENTS_WR_REJ)

/-- R550 to R555: a snapshot copies the nine counters and TIME[47:0]; FREEZE and CLR act on their tick; a counter is loaded by the write of
its high half with the low half that waits in its buffer; a counter that has wrapped sets its bit of PMC_OVF and, with its bit of
PMC_OVFEN, raises a P3 message with its value. -/
def Obligations.CountersAreServed : Prop :=
  (∀ (s : State), hostMay s PMC_CTL = true →
    ∃ t, exec .pmcSnap s = .next t ∧ (∀ k, k < 8 → nget t.pmc.snap k = nget s.pmc.cnt k) ∧ nget t.pmc.snap 8 = s.pmc.cyc ∧
      t.pmc.snapTime = s.time % 2 ^ 48) ∧
  (∀ (s : State) (b : Bool), hostMay s PMC_CTL = true →
    ∃ t, exec (.pmcFreeze b) s = .next t ∧ flag t PMC_CTL_FREEZE = b ∧ (b = true → t.pmc = s.pmc)) ∧
  (∀ (s : State), hostMay s PMC_CTL = true →
    ∃ t, exec .pmcClr s = .next t ∧ t.pmc.cyc = 0 ∧ ∀ k, nget t.pmc.cnt k = 0) ∧
  (∀ (s : State) (k : Fin 9) (v : Word), hostMay s (pmcLowOff k) = true →
    ∃ t, exec (.pmcLoadLow k v) s = .next t ∧ nget t.pmc.buf k = v.toNat) ∧
  (∀ (s : State) (k : Fin 9) (v : Word), hostMay s (pmcLowOff k + 4) = true →
    ∃ t, exec (.pmcLoadHigh k v) s = .next t ∧ nget t.pmc.buf k = nget s.pmc.buf k ∧
      if k.val = 8 then t.pmc.cyc = v.toNat * 2 ^ 32 + nget s.pmc.buf k
      else nget t.pmc.cnt k = v.toNat % 2 ^ 16 * 2 ^ 32 + nget s.pmc.buf k) ∧
  (∀ (s : State) (k : Fin 8) (x : Nat × Nat), (s.pmc.wrapped.find? fun p => decide (p.1 = k.val)) = some x →
    ∃ t, exec (.pmcOverflow k) s = .next t ∧ bitOf (fget t PMC_OVF_OVF) k = true ∧
      (bitOf (fget s PMC_OVFEN_OVFEN) k = true → Raised t 3 5 (0x80 + k) [x.2]))

/-! The aux measurement block (spec/13). -/

/-- R411, R412, R421: enabling a converter starts its trigger, disabling it ends its pass and its conversion, and another reference is unsettled until
its detector says so. A software or timer trigger begins a pass over the entries 0 to LAST as they stand, is ignored with SEQ_OVR during
one, and is held during a calibration; an injected request joins a queue of four or is discarded with INJ_OVF. -/
def Obligations.AuxPassesAreTriggered : Prop :=
  (∀ (s : State) (c : Fin 4) (v : Word), hostMay s (AUX_CVCTL c) = true → auxRuns s = true →
    let was := flag s (AUX_CVCTL_EN c)
    ∃ t, exec (.auxCvctlWrite c v) s = .next t ∧ raw t (AUX_CVCTL c) = v.toNat &&& (rowMasks (AUX_CVCTL c)).rw ∧
      (fget t (AUX_CVCTL_REFSEL c) ≠ fget s (AUX_CVCTL_REFSEL c) → auxBit t AUX_STATUS_REF_SETTLED c = false ∧
        (s.time + 6000000, .refFault c) ∈ t.agenda) ∧
      (was = false → flag t (AUX_CVCTL_EN c) = true → auxBit t AUX_STATUS_RUN c = true ∧ (getCv t c).enAt = s.time ∧
        (fget t (AUX_CVCTL_TRIG c) = 1 → (s.time + 600 * max 1 (fget t (AUX_CVCTL_PERIOD c)), .auxTimerTrigger c) ∈ t.agenda)) ∧
      (was = true → flag t (AUX_CVCTL_EN c) = false → auxBit t AUX_STATUS_RUN c = false ∧ (getCv t c).pass = false ∧
        (getCv t c).cur = none ∧ (getCv t c).stream = [])) ∧
  (∀ (s : State) (c : Fin 4) (i : Instr), i ∈ [Instr.auxSwtrig c, Instr.auxTimerTrigger c] → hostMay s (AUX_CVCTL c) = true →
    (i = .auxSwtrig c → fget s (AUX_CVCTL_TRIG c) = 3) →
    (i = .auxTimerTrigger c → fget s (AUX_CVCTL_TRIG c) = 1 ∧ (getCv s c).enAt < s.time ∧
      (s.time - (getCv s c).enAt) % (600 * max 1 (fget s (AUX_CVCTL_PERIOD c))) = 0) →
    auxRuns s = true → flag s (AUX_CVCTL_EN c) = true → auxBit s AUX_STATUS_FAULT c = false →
    let x := getCv s c
    ∃ t, exec i s = .next t ∧
      (i = .auxTimerTrigger c → (s.time + 600 * max 1 (fget s (AUX_CVCTL_PERIOD c)), .auxTimerTrigger c) ∈ t.agenda) ∧
      if x.pass = true ∨ x.held = true then flag t AUX_EVENTS_SEQ_OVR = true ∧ (getCv t c).seq = x.seq
      else if x.calRange ≠ none ∨ x.calPend = true then (getCv t c).held = true ∧ (getCv t c).pass = false
      else (getCv t c).pass = true ∧ (getCv t c).entry = 0 ∧
        (getCv t c).seq = (List.range (lastEntry s c + 1)).map fun e => (raw s (AUX_SEQA c e), raw s (AUX_SEQB c e))) ∧
  (∀ (s : State) (c : Fin 2) (v : Word), hostMay s (AUX_INJ c) = true → auxRuns s = true →
    let k := if auxBit s AUX_STATUS_MIGR c then twin c else c.val
    ∃ t, exec (.auxInjWrite c v) s = .next t ∧
      if 4 ≤ injWaiting s c then flag t AUX_EVENTS_INJ_OVF = true ∧ t.aux = s.aux
      else (c.val, v.toNat) ∈ (getCv t k).inj ∨ (getCv t k).cur = some (.inj c v.toNat))

/-- R409, R412 to R418, R423, R424: a conversion that a fast converter ends, and a settled output of a precision converter, leave the clipped and
trimmed code in the slot of its entry or of its injected request, with VALID, OVR, the range and the channel, and COUNT one higher; an entry
with AUTO changes its range by the sample; a stream message closes 1 ms after its first result, and a read of a slot latches its tag and
time.
What the spec leaves open here follows log entry 54: the model's choice. -/
def Obligations.AuxResultsAreDelivered : Prop :=
  (∀ (s : State) (c : Fin 2) (x : Int) (o : Fin 4) (e : Fin 16), (getCv s c).cur = some (.entry o e) → auxRuns s = true →
    auxBit s AUX_STATUS_FAULT c = false →
    let a := ((getCv s o).seq.getD e (0, 0)).1
    let r := if bitOf a 16 then nget (getCv s o).range e else bitsOf a 19 17
    let u := convCode s c r x
    let code := clampInt (-32768) 32767 u
    ∃ t, exec (.fcConversionDone c x) s = .next t ∧ raw t (AUX_RES_LO o e) = toField 32 code ∧ flag t (AUX_RES_HI_VALID o e) = true ∧
      flag t (AUX_RES_HI_OVR o e) = decide (u ≠ code) ∧ fget t (AUX_RES_HI_RANGE o e) = r % 8 ∧ fget t (AUX_RES_HI_CH o e) = bitsOf a 31 26 ∧
      fget t (AUX_RES_HI_COUNT o e) = (fget s (AUX_RES_HI_COUNT o e) + 1) % 65536 ∧
      (bitOf a 16 = true → u ≠ code → nget (getCv t o).range e = upShift r x) ∧
      (bitOf a 16 = true → u = code → code.natAbs < 12288 → nget (getCv s o).small e = 7 → nget (getCv t o).range e = min 7 (r + 1))) ∧
  (∀ (s : State) (c o : Fin 2) (x : Int) (w : Nat), (getCv s c).cur = some (.inj o w) → auxRuns s = true →
    auxBit s AUX_STATUS_FAULT c = false →
    let k := bitsOf w 25 24
    let u := convCode s c (bitsOf w 12 10) x
    let code := clampInt (-32768) 32767 u
    ∃ t, exec (.fcConversionDone c x) s = .next t ∧ raw t (AUX_IRES_LO o k) = toField 32 code ∧ flag t (AUX_IRES_HI_VALID o k) = true ∧
      flag t (AUX_IRES_HI_OVR o k) = decide (u ≠ code) ∧ fget t (AUX_IRES_HI_CH o k) = bitsOf w 31 26) ∧
  (∀ (s : State) (c : Fin 2) (x : Int) (o : Fin 4) (e : Fin 16), (getCv s (c + 2)).cur = some (.entry o e) → auxRuns s = true →
    auxBit s AUX_STATUS_FAULT (c + 2) = false →
    let a := (getCv s o).seq.getD e (0, 0)
    let uns := pcUnsettled s (c + 2) a
    let u := convCode s (c + 2) (bitsOf a.1 19 17) x
    let code := clampInt (-8388608) 8388607 u
    ∃ t, exec (.pcOutput c x) s = .next t ∧
      if uns = true ∧ bitOf a.1 12 = false then t = s
      else raw t (AUX_RES_LO o e) = toField 32 code ∧ flag t (AUX_RES_HI_UNS o e) = uns ∧ flag t (AUX_RES_HI_OVR o e) = decide (u ≠ code) ∧
        (uns = false → (getCv s (c + 2)).settled + 1 < max 1 (bitsOf a.2 31 24) →
          (getCv t (c + 2)).settled = (getCv s (c + 2)).settled + 1 ∧ (getCv t (c + 2)).cur = some (.entry o e))) ∧
  (∀ (s : State) (c : Fin 4), (getCv s c).stream ≠ [] → (getCv s c).streamAt + 600000 ≤ s.time →
    ∃ t, exec (.streamMsgTimeout c) s = .next t ∧ (getCv t c).stream = [] ∧
      (4 ≤ auxWaiting s → flag t AUX_EVENTS_DROP = true ∧ raw t AUX_DROPS = satAdd 0xFFFFFFFF (raw s AUX_DROPS) (getCv s c).stream.length)) ∧
  (∀ (s : State) (m : Master) (c : Fin 4) (e : Fin 16), mayRead s m (AUX_RES_LO c e) = true →
    ∃ t, exec (.auxResLoRead m (AUX_RES_LO c e)) s = .next t ∧ t.rdata = reg s (AUX_RES_LO c e) ∧
      shadowOf t m = some ⟨AUX_RES_LO c e, raw s (AUX_RES_HI c e)⟩ ∧
      tget (fun _ => (0, 0)) t.aux.ts (masterNum m) = (AUX_RES_LO c e, getPair s (AUX_RES_LO c e + 8) (AUX_RES_LO c e + 12)))

/-- R419 to R422, R429 to R434: the reference detector's verdicts, calibrations asked for by the host or by CALPER and their ranges, a converter fault and
the move of its sequence to its twin, and the excitation that the host owns.
What the spec leaves open here follows log entries 33 and 54: the model's choice. -/
def Obligations.AuxReferencesAndFaults : Prop :=
  (∀ (s : State) (c : Fin 4), s.mode.mode ≠ .off → s.mode.mode ≠ .sleep →
    ∃ t, exec (.refSettled c) s = .next t ∧ auxBit t AUX_STATUS_REF_SETTLED c = true) ∧
  (∀ (s : State) (c : Fin 4), s.mode.mode ≠ .off → s.mode.mode ≠ .sleep →
    (auxBit s AUX_STATUS_REF_SETTLED c = true ∨ (getCv s c).refAt + 6000000 ≤ s.time) →
    ∃ t, exec (.refFault c) s = .next t ∧ auxBit t AUX_STATUS_REF_SETTLED c = false ∧ flag t AUX_EVENTS_REF_FAULT = true ∧
      ((getCv s c).calRange ≠ none → fget t AUX_CALSTAT_CODE = 0x76 ∧ auxBit t AUX_STATUS_CAL c = false ∧ (getCv t c).calRange = none)) ∧
  (∀ (s : State), fget s AUX_CTL_CALPER ≠ 0 → auxRuns s = true →
    ∃ t, exec .auxCalPeriod s = .next t ∧
      if 1 ≤ fget s PWR_STATUS_LEVEL then t.aux.calDue = true ∧ t.regs = s.regs
      else ∀ c : Fin 4, flag s (AUX_CVCTL_EN c) = true → (getCv s c).calRange = none → (getCv s c).calPend = false →
        auxBit s AUX_STATUS_FAULT c = false → auxBit s AUX_STATUS_REF_SETTLED c = true →
        (getCv t c).calPend = true ∨ (getCv t c).calRange = some 0) ∧
  (∀ (s : State) (v : Word), hostMay s AUX_CALCMD = true → bitOf v.toNat 8 = true → auxRuns s = true →
    let c := v.toNat % 4
    ∃ t, exec (.auxCalcmd v) s = .next t ∧
      if auxBit s AUX_STATUS_FAULT c then fget t AUX_CALSTAT_CODE = 0x72 ∧ fget t AUX_CALSTAT_CONV = c
      else if (getCv s c).calRange ≠ none ∨ (getCv s c).calPend = true then fget t AUX_CALSTAT_CODE = 0x73 ∧ fget t AUX_CALSTAT_CONV = c
      else if auxBit s AUX_STATUS_REF_SETTLED c = false then fget t AUX_CALSTAT_CODE = 0x71 ∧ fget t AUX_CALSTAT_CONV = c
      else (getCv t c).calPend = true ∨ (getCv t c).calRange = some 0) ∧
  (∀ (s : State) (c : Fin 4) (off gain : Int) (r : Fin 8) (e : Nat), (getCv s c).calRange = some r.val → (getCv s c).calEnd = some e →
    e ≤ s.time →
    let d := 4 * (gain - off)
    let f := 3 * convSpan c
    let offOk := off.natAbs ≤ (if c.val < 2 then 1310 else 335544)
    let good := offOk ∧ 88 * f ≤ 100 * d ∧ 100 * d ≤ 112 * f
    ∃ t, exec (.auxCalRangeDone c off gain) s = .next t ∧
      fget t (AUX_TRIM_OFF c r) = (if good then toField 16 (if c.val < 2 then off else roundDiv off 128) else fget s (AUX_TRIM_OFF c r)) ∧
      fget t (AUX_TRIM_GC c r) = (if good then (roundDiv (32768 * f) d).toNat else fget s (AUX_TRIM_GC c r)) ∧
      (r.val < 7 → (getCv t c).calRange = some (r.val + 1)) ∧
      (r.val = 7 → (getCv t c).calRange = none ∧ auxBit t AUX_STATUS_CAL c = false) ∧
      (r.val = 7 → (getCv s c).calFail = none → good → fget t AUX_CALSTAT_CODE = 0x70) ∧
      (r.val = 7 → (getCv s c).calFail = none → ¬ good → fget t AUX_CALSTAT_CODE = (if offOk then 0x75 else 0x74) ∧ flag t AUX_EVENTS_CAL_FAIL = true)) ∧
  (∀ (s : State) (c : Fin 4), auxBit s AUX_STATUS_FAULT c = false → auxRuns s = true →
    ∃ t, exec (.auxConvFault c) s = .next t ∧ auxBit t AUX_STATUS_FAULT c = true ∧ flag t AUX_EVENTS_CONV_FAULT = true ∧ (getCv t c).cur = none ∧
      if auxBit s AUX_STATUS_FAULT (twin c) then flag t AUX_EVENTS_UNCOVERED = true ∧ flag t SYS_LIMP_AUX = true
      else (s.time + 150000, .auxMigrate c) ∈ t.agenda) ∧
  (∀ (s : State) (c : Fin 4), auxBit s AUX_STATUS_FAULT c = true → auxBit s AUX_STATUS_MIGR c = false →
    auxBit s AUX_STATUS_FAULT (twin c) = false → auxRuns s = true →
    ∃ t, exec (.auxMigrate c) s = .next t ∧ auxBit t AUX_STATUS_MIGR c = true ∧ (getCv t c).inj = [] ∧
      ∀ q ∈ (getCv s c).inj, q ∈ (getCv t (twin c)).inj ∨ (getCv t (twin c)).cur = some (.inj q.1 q.2)) ∧
  (∀ (s : State) (n : Fin 4) (v : Word), hostMay s (AUX_EXC n) = true →
    let o := fget s (AUX_EXC_OWNER n)
    let l := bitsOf v.toNat 29 27
    ∃ t, exec (.auxExcWrite n v) s = .next t ∧ fget t (AUX_EXC_OWNER n) = bitsOf v.toNat 31 30 ∧
      (if o = 0 ∨ o = 3 then fget t (AUX_EXC_LVL n) = l else fget t (AUX_EXC_LVL n) = fget s (AUX_EXC_LVL n) ∧
        (l ≠ fget s (AUX_EXC_LVL n) → flag t AUX_EVENTS_WR_REJ = true)) ∧
      (auxRuns s = true → bitsOf v.toNat 31 30 = 0 → fget t (AUX_EXC_LVL n) ≠ 7 → fget t (AUX_EXC_STATE n) = fget t (AUX_EXC_LVL n)))

/-! The transport recorder (spec/14). -/

/-- R438, R440 to R449: a sample of the signals. In PRE a cause makes it the trigger record, and an unmasked change is stored or merges into the
latest record; in POST changes are stored until the capture holds POST of them and is complete; in the states that take no trigger a cause is
rejected and counted.
What the spec leaves open here follows log entry 25: the model's choice. -/
def Obligations.RecorderTakesSamples : Prop :=
  (∀ (s : State) (x : BitVec 64) (c : Instr), c ∈ [Instr.recSignalChange x, Instr.recMaskedTrigger x] → recSamples s = true → recState s = 2 →
    0 < s.recd.causes + b2n (recSampleCause s.recd x) →
    let pre := s.recd.mem.length
    let eff := min (bitsOf s.recd.span 13 0) (16383 - pre)
    ∃ t, exec c s = .next t ∧ t.recd.mem = s.recd.mem ++ [{ st := x, time := s.time, trig := true, arm := s.recd.armOwed, resume := s.recd.resume }] ∧
      raw t REC_CAPNUM = (raw s REC_CAPNUM + 1) % 2 ^ 32 ∧ raw t REC_TTRIG_LO = s.time % 2 ^ 32 ∧ fget t REC_INFO_PRE_ACT = pre % 2 ^ 14 ∧
      flag t REC_INFO_TRIGGERED = true ∧ (eff < bitsOf s.recd.span 13 0 → flag t REC_EVENTS_CLAMPED = true) ∧
      (if 0 < eff then recState t = 3 else recState t = (if flag s REC_CTL_AUTO then 5 else 4) ∧ flag t REC_EVENTS_DONE = true) ∧
      t.recd.prev = x ∧ t.recd.causes = 0) ∧
  (∀ (s : State) (x : BitVec 64) (c : Instr), c ∈ [Instr.recSignalChange x, Instr.recMaskedTrigger x] → recSamples s = true → recState s = 2 →
    s.recd.causes = 0 → recSampleCause s.recd x = false → s.recd.armOwed = false →
    let changed := x.toNat &&& (0xFFFFFFFFFFFFFFFF ^^^ s.recd.mask) ≠ s.recd.prev.toNat &&& (0xFFFFFFFFFFFFFFFF ^^^ s.recd.mask)
    ∃ t, exec c s = .next t ∧ recState t = 2 ∧ t.recd.prev = x ∧
      if ¬ changed then t.recd.mem = s.recd.mem
      else if recMerge s x = none then
        t.recd.mem.getLast? = (if bitsOf s.recd.span 29 16 = 0 then none else some { st := x, time := s.time, resume := s.recd.resume }) ∧
        t.recd.mem.length = min (s.recd.mem.length + 1) (bitsOf s.recd.span 29 16)
      else t.recd.mem = s.recd.mem.dropLast ++ (s.recd.mem.getLast?.toList.map fun e => { e with rep := e.rep + 1 })) ∧
  (∀ (s : State) (x : BitVec 64) (c : Instr), c ∈ [Instr.recSignalChange x, Instr.recMaskedTrigger x] → recSamples s = true → recState s = 3 →
    recMerge s x = none →
    let changed := x.toNat &&& (0xFFFFFFFFFFFFFFFF ^^^ s.recd.mask) ≠ s.recd.prev.toNat &&& (0xFFFFFFFFFFFFFFFF ^^^ s.recd.mask)
    ∃ t, exec c s = .next t ∧
      if ¬ changed then t.recd.mem = s.recd.mem ∧ recState t = 3
      else t.recd.mem = s.recd.mem ++ [{ st := x, time := s.time, resume := s.recd.resume }] ∧ t.recd.post = s.recd.post + 1 ∧
        (if s.recd.post + 1 < s.recd.postEff then recState t = 3 else recState t = (if flag s REC_CTL_AUTO then 5 else 4) ∧
          flag t REC_EVENTS_DONE = true ∧ raw t REC_DEAD_CAP = min 0xFFFFFFFF (s.time - s.recd.trigAt))) ∧
  (∀ (s : State) (x : BitVec 64) (c : Instr), c ∈ [Instr.recSignalChange x, Instr.recMaskedTrigger x] → recSamples s = true → recState s ∈ [1, 4, 5] →
    0 < s.recd.causes + b2n (recSampleCause s.recd x) →
    ∃ t, exec c s = .next t ∧ raw t REC_REJ = satAdd 0xFFFFFFFF (raw s REC_REJ) (s.recd.causes + b2n (recSampleCause s.recd x)) ∧
      flag t REC_EVENTS_REJ = true ∧ t.recd.mem = s.recd.mem ∧ recState t = recState s)

/-- R443, R450 to R454, R457: ARM clears the memory and takes the set-up, and the end of CLEAR enters PRE; ARM and COPY elsewhere set CMD_REJ; DISARM
acts by the state that it meets; a host trigger counts as a cause of the next sample; a copy writes the records to the host; a readout
outside IDLE and HELD reads 0 and sets RD_REJ.
What the spec leaves open here follows log entry 25: the model's choice. -/
def Obligations.RecorderIsCommanded : Prop :=
  (∀ (s : State), hostMay s REC_CMD = true →
    ∃ t, exec .recArm s = .next t ∧
      if recState s = 0 ∨ recState s = 4 then recState t = 1 ∧ (s.time + 4096, .recClearEnd) ∈ t.agenda ∧
        t.recd.span = raw s REC_SPAN ∧ t.recd.trig = raw s REC_TRIG ∧ t.recd.mask = getPair s REC_MASK_LO REC_MASK_HI
      else recState t = recState s ∧ flag t REC_EVENTS_CMD_REJ = true) ∧
  (∀ (s : State), hostMay s REC_CMD = true →
    ∃ t, exec .recDisarm s = .next t ∧
      (recState s = 2 → recState t = 0 ∧ t.recd.causes = 0 ∧ t.recd.mem = s.recd.mem) ∧
      (recState s = 3 → recState t = (if flag s REC_CTL_AUTO then 5 else 4) ∧ flag t REC_EVENTS_DONE = true) ∧
      (recState s = 1 ∨ recState s = 5 → recState t = recState s ∧ t.recd.disarm = true) ∧
      (recState s = 0 ∨ recState s = 4 → t.regs = s.regs ∧ t.recd = s.recd)) ∧
  (∀ (s : State), hostMay s REC_CMD = true →
    ∃ t, exec .recHostTrig s = .next t ∧ t.recd = { s.recd with causes := s.recd.causes + 1 } ∧ t.regs = s.regs) ∧
  (∀ (s : State), hostMay s REC_CMD = true →
    ∃ t, exec .recCopy s = .next t ∧ if recState s = 0 ∨ recState s = 4 then recState t = 5
      else recState t = recState s ∧ flag t REC_EVENTS_CMD_REJ = true) ∧
  (∀ (s : State), recState s = 1 →
    ∃ t, exec .recClearEnd s = .next t ∧ recState t = (if s.recd.disarm then 0 else 2) ∧ t.recd.mem = [] ∧ fget t REC_INFO_COUNT = 0 ∧
      flag t REC_INFO_TRIGGERED = false ∧ fget t REC_INFO_PRE_ACT = 0 ∧ raw t REC_LOST = 0 ∧ (s.recd.disarm = false → t.recd.armOwed = true)) ∧
  (∀ (s : State), recState s = 5 → busOn s = true →
    ∃ t, exec .recCopyDone s = .next t ∧ flag t REC_EVENTS_COPY_DONE = true ∧
      t.emits = s.emits ++ (if s.recd.mem = [] then [] else [.memWrite (recDma s) (s.recd.mem.flatMap RecEntry.bytes)]) ∧
      recState t = if s.recd.disarm then 0 else if flag s REC_CTL_AUTO then 1 else 4) ∧
  (∀ (s : State) (m : Master), mayRead s m (REC_RD 0) = true →
    let b := match s.recd.mem.drop (fget s REC_RDIDX_IDX) with | e :: _ => e.bytes | [] => []
    ∃ t, exec (.recRd0Read m) s = .next t ∧
      if recState s = 0 ∨ recState s = 4 then t.rdata = BitVec.ofNat 32 (leAt b 0 4) ∧ tget (fun _ => []) t.recd.latch (masterNum m) = b ∧ t.regs = s.regs
      else t.rdata = 0 ∧ flag t REC_EVENTS_RD_REJ = true ∧ t.recd = s.recd) ∧
  (∀ (s : State) (m : Master), mayRead s m (REC_RD 3) = true →
    ∃ t, exec (.recRd3Read m) s = .next t ∧
      if recState s = 0 ∨ recState s = 4 then t.rdata = BitVec.ofNat 32 (leAt (tget (fun _ => []) s.recd.latch (masterNum m)) 12 4) ∧
        fget t REC_RDIDX_IDX = (fget s REC_RDIDX_IDX + 1) % 2 ^ 14
      else t.rdata = 0 ∧ flag t REC_EVENTS_RD_REJ = true)

/-! Joined systems and the lamp link (spec/02, spec/15). -/

/-- R52, R74, R461 to R465: a selected XSYNC edge of a controller that stands alone is a cause of every head whose source it is; a joined master forwards
causes as tokens and sends a superframe on both lanes at every multiple of 600 ticks; a follower repeats a token and makes its change 150
ticks after its cause.
R46, R461, R462, R465, R466: a superframe whose CRC is wrong is counted; one on the lane in use gives a follower the master's pace, fill, limits and
flags and its offset from master TIME, and is repeated with HOP one higher; one that returns to the master gives it the members' merged
fill, limit and flags.
What the spec leaves open here follows log entries 55 and 56: the model's choice. -/
def Obligations.CausesAndSuperframesAreShared : Prop :=
  (∀ (s : State) (f : Bool) (h : Fin 16), flag s CLK_CTL_XSYNC_EN = true → flag s CLK_CTL_XSYNC_EDGE = f → rootRuns s = true →
    s.mode.mode ≠ .sleep → s.hwy.joined = false → fget s (HEAD_TRIG_TRIG_SRC h) = 1 → headState s h = 2 → sourceOpen s h = true →
    ((getHead s h).seenB0 = true ∨ fget s (HEAD_STATUS_BAND h) = 0) →
    ∃ t, exec (.xsyncEdge f) s = .next t ∧
      if isOverrun s h then fget t (HEAD_TRIGSTAT_OVERRUN h) = satAdd 0xFFFF (fget s (HEAD_TRIGSTAT_OVERRUN h)) 1
      else (∃ l ∈ (getHead t h).lines, l.band = fget s (HEAD_STATUS_BAND h) ∧ l.time = s.time ∧ l.fireAt = s.time + 4) ∧
        (s.time + 4, .triggerFire h) ∈ t.agenda) ∧
  (∀ (s : State) (f : Bool), flag s CLK_CTL_XSYNC_EN = true → flag s CLK_CTL_XSYNC_EDGE = f → rootRuns s = true →
    s.mode.mode ≠ .sleep → hwyMaster s = true →
    let free := max (match s.hwy.lastFwd with | some t => max s.time (t + 15) | none => s.time) (if s.hwy.sent < 11 then 0 else (s.time / 600 + 1) * 600)
    ∃ t, exec (.xsyncEdge f) s = .next t ∧ t.heads = s.heads ∧
      if free ≤ s.time + 5 then t.emits = s.emits ++ [.token 4 (s.time % 256)] ∧ (⟨s.time, 0, true, true⟩ : TokStep) ∈ t.hwy.steps ∧
        (s.time + 150, .replicaStep) ∈ t.agenda
      else t.emits = s.emits ∧ flag t HWY_EVENTS_TOK_DROP = true) ∧
  (∀ (s : State), hwyRuns s = true → hwyMaster s = true → s.time % 600 = 0 →
    let q := slotPlace (s.hwy.slot.getD slotNone) s
    let body := bytesOf [(s.hwy.seq + 1) % 256, 0, ownFlags s + fget s MOT_STATUS_PSTATE] ++ leBytes s.time 8 ++ (List.range 8).flatMap (fun a => leBytes (getAxis s a).pos 6) ++ leBytes (fget s MOT_STATUS_K) 2 ++ leBytes (fget s MOT_FILL_FILL) 2 ++ leBytes (ownKlim s) 2 ++ slotBytes q.2
    ∃ t, exec .superframeSend s = .next t ∧ t.emits = s.emits ++ [.superframe 0 (sfSeal body), .superframe 1 (sfSeal body)] ∧
      t.hwy.seq = (s.hwy.seq + 1) % 256 ∧ t.hwy.sent = 0) ∧
  (∀ (s : State) (a b : BitVec 8), hwyRuns s = true → hwyFollower s = true →
    let ty := bitsOf a.toNat 3 2
    let own := ty = 0 ∧ axisShared s (bitsOf a.toNat 7 5) = true
    ∃ t, exec (.tokenRx a b) s = .next t ∧ t.emits = s.emits ++ [.token a.toNat b.toNat] ∧ t.hwy.steps = s.hwy.steps ++
      (if own then [⟨causeTick s b.toNat, bitsOf a.toNat 7 5, false, !bitOf a.toNat 4⟩] else if ty = 1 then [⟨causeTick s b.toNat, bitsOf a.toNat 7 5, true, true⟩] else [])) ∧
  (∀ (s : State) (q : TokStep), s.hwy.steps = [q] → q.cause + 150 ≤ s.time → q.xsync = false →
    ∃ t, exec .replicaStep s = .next t ∧ t.hwy.steps = [] ∧ nget t.hwy.repl q.axis = posAdd (nget s.hwy.repl q.axis) (if q.fwd then 1 else -1)) ∧
  (∀ (s : State) (p : Fin 2) (b : List Byte), hwyRuns s = true → s.hwy.joined = true → sfGood b = false →
    ∃ t, exec (.superframeRx p b) s = .next t ∧ fget t HWY_ERRCNT_CRC = satAdd 0xFFFF (fget s HWY_ERRCNT_CRC) 1 ∧ t.hwy = s.hwy ∧ t.emits = s.emits) ∧
  (∀ (s : State) (p : Fin 2) (b : List Byte), hwyRuns s = true → hwyFollower s = true → sfGood b = true → fget s HWY_STATUS_LANE = p.val →
    s.hwy.folding = false → s.hwy.timeLoad = false → bitOf (byteAt b 3) 4 = false →
    let e : Int := (s.time : Int) - (leAt b 4 8 + 10 * (byteAt b 2 + 1) : Nat)
    ∃ t, exec (.superframeRx p b) s = .next t ∧ t.hwy.k = leAt b 60 2 ∧ t.hwy.fill = leAt b 62 2 ∧ t.hwy.klim = leAt b 64 2 ∧
      t.hwy.flags = byteAt b 3 ∧ t.hwy.lastSf = some s.time ∧ nget t.hwy.hops p = byteAt b 2 + 1 ∧ fget t CLK_TIME_ERR_ERR = toField 16 e ∧
      flag t CLK_STATUS_TIME_ALIGNED = decide (e.natAbs ≤ 2) ∧ t.emits.length = s.emits.length + 1 ∧
      (lastFrame t).map (fun x => (x.1, sfGood x.2, byteAt x.2 1, byteAt x.2 2, leAt x.2 4 8)) = some (p.val, true, byteAt b 1, (byteAt b 2 + 1) % 256, leAt b 4 8)) ∧
  (∀ (s : State) (b : List Byte), hwyRuns s = true → hwyMaster s = true → sfGood b = true → flag s HWY_STATUS_FOLDED = false →
    bitOf (byteAt b 3) 4 = false →
    ∃ t, exec (.superframeRx 0 b) s = .next t ∧ t.hwy.fill = leAt b 62 2 ∧ t.hwy.klim = leAt b 64 2 ∧ t.hwy.flags = byteAt b 3 ∧ t.emits = s.emits ∧
      (bitOf (byteAt b 3) 7 = true → t.hwy.allSeen = true) ∧
      (bitOf (byteAt b 3) 7 = false → s.hwy.allSeen = true → flag t HWY_EVENTS_MEMBER_LOST = true ∧ flag t SYS_LIMP_HWY = true))

/-- R459, R468, R469, R471 to R473: EN of HWY_CTL sets only in READY with every head OFFLINE and leaves the ring as it clears; a host message is sent while none
is in transit; enumeration joins the controller with its index, or leaves it alone with the cause of the failure; the first break folds
the ring, which is over 250 us later, and a follower without superframes for 250 us halts; REJOIN is for READY.
What the spec leaves open here follows log entry 57: the model's choice. -/
def Obligations.RingIsFormedAndBroken : Prop :=
  (∀ (s : State) (v : Word), hostMay s HWY_CTL = true →
    ∃ t, exec (.hwyCtlWrite v) s = .next t ∧ fget t HWY_CTL_AXMASK = bitsOf v.toNat 7 0 ∧
      if bitOf v.toNat 31 = false then flag t HWY_CTL_EN = false ∧ (flag s HWY_CTL_EN = true → t.hwy.joined = false ∧ fget t HWY_STATUS_N = 0)
      else if flag s HWY_CTL_EN = true ∨ (s.mode.mode = .ready ∧ headsOffline s = true) then flag t HWY_CTL_EN = true ∧ t.hwy = s.hwy
      else flag t HWY_CTL_EN = false ∧ flag t HWY_EVENTS_CMD_REJ = true) ∧
  (∀ (s : State) (v : Word), hostMay s HWY_MCTL = true →
    ∃ t, exec (.hwyMsgSend v) s = .next t ∧ fget t HWY_MCTL_DST = bitsOf v.toNat 3 0 ∧ flag t HWY_MCTL_BCAST = bitOf v.toNat 4 ∧
      if bitOf v.toNat 8 && !flag s HWY_MSTAT_TX_BUSY then t.hwy.txPart = some 0 ∧ flag t HWY_MSTAT_TX_BUSY = true else t.hwy = s.hwy) ∧
  (∀ (s : State) (i n u d : Nat), hwyRuns s = true → (flag s HWY_STATUS_MASTER = true → s.hwy.enuming = true) → i < n → n ≤ 16 →
    (flag s HWY_STATUS_MASTER = true ↔ i = 0) → u ≤ 48 → d ≤ 48 → s.mode.mode ≠ .warmStart →
    ∃ t, exec (.enumerationDone i n 0 u d) s = .next t ∧ t.hwy.joined = true ∧ fget t HWY_STATUS_INDEX = i ∧ fget t HWY_STATUS_N = n ∧
      fget t HWY_LINK_U_DLY = u ∧ fget t HWY_LINK_D_DLY = d ∧ fget t CLK_STATUS_HOPS = i ∧ flag t HWY_STATUS_FOLDED = false ∧
      t.hwy.timeLoad = !flag s HWY_STATUS_MASTER) ∧
  (∀ (s : State) (i n e u d : Nat), hwyRuns s = true → (flag s HWY_STATUS_MASTER = true → s.hwy.enuming = true) → e ∈ [1, 2, 3, 4, 5] →
    ∃ t, exec (.enumerationDone i n e u d) s = .next t ∧ t.hwy.joined = false ∧ fget t HWY_STATUS_ENUM_ERR = e ∧ flag t HWY_EVENTS_ENUM_FAIL = true) ∧
  (∀ (s : State) (p : Fin 2), hwyRuns s = true → bget s.hwy.broken p = false → s.hwy.joined = true →
    ∃ t, exec (.hwyBreak p) s = .next t ∧ flag t HWY_EVENTS_BREAK = true ∧ bget t.hwy.broken p = true ∧ flag t HWY_STATUS_FOLDED = true ∧
      (flag s HWY_STATUS_FOLDED = false → t.hwy.folding = true ∧ (s.time + 150000, .foldComplete) ∈ t.agenda) ∧
      (flag s HWY_STATUS_FOLDED = true → hwyMaster s = true → flag t HWY_EVENTS_MEMBER_LOST = true ∧ flag t SYS_LIMP_HWY = true)) ∧
  (∀ (s : State), s.hwy.folding = true →
    ∃ t, exec .foldComplete s = .next t ∧ t.hwy.folding = false ∧ t.hwy.lost = [] ∧
      (flag s HWY_STATUS_MASTER = false → fget t HWY_STATUS_LANE = foldLane s)) ∧
  (∀ (s : State), isCutOff s = true →
    ∃ t, exec .hwyCutOff s = .next t ∧ t.mode.mode = .halt ∧ flag t HWY_EVENTS_CUT_OFF = true) ∧
  (∀ (s : State), hostMay s HWY_CMD = true →
    ∃ t, exec .hwyRejoin s = .next t ∧ if s.mode.mode ≠ .ready then flag t HWY_EVENTS_CMD_REJ = true ∧ t.hwy = s.hwy
      else if flag s HWY_CTL_EN = true ∧ flag s HWY_STATUS_MASTER = true then t.hwy.enuming = true else t.hwy = s.hwy) ∧
  (∀ (s : State) (p : Fin 2), hwyRuns s = true →
    ∃ t, exec (.hwySymbolLock p) s = .next t ∧ bget t.hwy.lock p = true)

/-- R475, R478 to R481, R485, R486, R488: sizing ends with the count of satellites and the cycle time, or with a chain fault; each latch takes the responses, counts those whose
CRC is wrong, and begins the next cycle; RESIZE begins sizing in READY and HOLD.
What the spec leaves open here follows log entry 58: the model's choice. -/
def Obligations.LampLinkRunsItsCycles : Prop :=
  (∀ (s : State) (c : Option Nat), flag s LNK_CTL_EN = true → fget s LNK_STATUS_STATE = 1 → sizedN s c = none →
    ∃ t, exec (.linkSizingDone c) s = .next t ∧ flag t LNK_EVENTS_SIZE_FAULT = true ∧ fget t LNK_STATUS_STATE = 0 ∧ fget t LNK_STATUS_N = 0 ∧
      (starting s = true → flag t SYS_LIMP_LNK = true)) ∧
  (∀ (s : State) (c : Option Nat) (n : Nat), flag s LNK_CTL_EN = true → fget s LNK_STATUS_STATE = 1 → sizedN s c = some n →
    ∃ t, exec (.linkSizingDone c) s = .next t ∧ fget t LNK_STATUS_N = n ∧ fget t LNK_STATUS_CYCLE = cycleUs s n ∧
      fget t LNK_STATUS_STATE = (if n = 0 then 3 else 2) ∧ (fget s LNK_STATUS_N ≠ n → flag t LNK_EVENTS_CHAIN = true)) ∧
  (∀ (s : State) (l : List (List Byte)), flag s LNK_CTL_EN = true → 2 ≤ fget s LNK_STATUS_STATE → s.mode.mode ≠ .off → s.mode.mode ≠ .sleep →
    oneWire s = false → s.lnk.streak < 7 → fget s LNK_STATUS_STATE = 3 →
    let bad := (List.range (chainN s)).filter fun i => (getSat s (i + 1)).sent != 255 && !frameGood s (l.getD i [])
    ∃ t, exec (.linkCycleEnd l) s = .next t ∧ raw t LNK_ERRCNT = satAdd 0xFFFFFFFF (raw s LNK_ERRCNT) bad.length ∧
      (if bad = [] ∧ l.length = chainN s then t.lnk.streak = 0 else t.lnk.streak = s.lnk.streak + 1) ∧
      (t.emits.length = s.emits.length + if 2 ≤ fget t LNK_STATUS_STATE then chainN s else 0)) ∧
  (∀ (s : State) (l : List (List Byte)), flag s LNK_CTL_EN = true → fget s LNK_STATUS_STATE = 3 → s.mode.mode ≠ .off → s.mode.mode ≠ .sleep →
    oneWire s = false → s.lnk.streak = 7 → 0 < chainN s → (getSat s 1).sent ≠ 255 → frameGood s (l.getD 0 []) = false →
    ∃ t, exec (.linkCycleEnd l) s = .next t ∧ flag t LNK_EVENTS_LINK_FAULT = true ∧ flag t SYS_LIMP_LNK = true ∧ t.lnk.deficit = true) ∧
  (∀ (s : State), hostMay s LNK_CMD = true →
    ∃ t, exec .lnkResize s = .next t ∧
      if flag s LNK_CTL_EN = true ∧ (s.mode.mode = .ready ∨ s.mode.mode = .hold) then fget t LNK_STATUS_STATE = 1 ∧ t.lnk.known = false
      else t.lnk = s.lnk ∧ t.regs = s.regs)

/-! Supplies, resets, clocks and the Pantry (spec/02, spec/16, spec/20). -/

/-- R35, R41, R492, R498, R502, R564, R566, R572: in OFF the conditions of power-on start the count to release; at release the straps are sampled and a cold start
begins, or the device is held in OFF where a bank is supplied under its strap; a reset takes the device to OFF from every mode with its
causes added to those that stand, and so do EXTEST and TMODE; the root locks in step 2 of a cold start, with TIME at 0.
What the spec leaves open here follows log entry 60: the model's choice. -/
def Obligations.PowerComesAndGoes : Prop :=
  (∀ (s : State), s.mode.mode = .off → s.pwr.extest = false → s.pwr.tmode = false → s.pwr.heldOff = false →
    ∃ t, exec .porConditionsMet s = .next t ∧ t = { s with pwr := { s.pwr with por := true } }) ∧
  (∀ (s : State) (v : Word), Inv s → s.mode.mode = .off → s.pwr.por = true → s.pwr.extest = false → s.pwr.tmode = false →
    ∃ t, exec (.powerOnResetRelease v []) s = .next t ∧ t.mode.mode = .coldStart ∧ t.pwr.por = false ∧
      raw t SYS_STRAP = bitsOf v.toNat 15 8 * 256 + bitsOf v.toNat 2 0 ∧ flag t CLK_STATUS_ROOT_LOCK = false ∧
      fget t SYS_STARTS_COLD = satAdd 4095 (fget s SYS_STARTS_COLD) 1 ∧ t.start.on = true ∧ t.start.warm = false) ∧
  (∀ (s : State) (v : Word) (l : List (Fin 8)), s.mode.mode = .off → s.pwr.por = true → s.pwr.extest = false → s.pwr.tmode = false → l ≠ [] →
    ∃ t, exec (.powerOnResetRelease v l) s = .next t ∧
      if banksUnder v.toNat l then t.mode.mode = .off ∧ t.pwr.heldOff = true ∧ bitOf (fget t PWR_RSTCAUSE_UV) 4 = true
      else t.mode.mode = .halt ∧ flag t PWR_EVENTS_OV = true ∧ bitOf (fget t PWR_STATUS_RAIL_OK) 4 = false) ∧
  (∀ (s : State) (c : ResetCause), Inv s → (c.uv ≠ 0 ∨ c.pin = true) →
    ∃ t, exec (.reset c) s = .next t ∧ t.mode.mode = .off ∧ fget t PWR_RSTCAUSE_UV = fget s PWR_RSTCAUSE_UV ||| c.uv.toNat ∧
      (c.pin = true → flag t PWR_RSTCAUSE_PIN = true ∧ t.pwr.heldOff = false) ∧ flag t HOST_STATUS_LINK_UP = false ∧
      t.host.cmds = [] ∧ t.lnd = {}) ∧
  (∀ (s : State) (i : Instr), i ∈ [Instr.jtagExtest true, Instr.tmodeHigh true] →
    ∃ t, exec i s = .next t ∧ t.mode.mode = .off ∧ (i = .jtagExtest true → t.pwr.extest = true) ∧ (i = .tmodeHigh true → t.pwr.tmode = true)) ∧
  (∀ (s : State), ∃ t, exec (.jtagExtest false) s = .next t ∧ t = { s with pwr := { s.pwr with extest := false } }) ∧
  (∀ (s : State), ∃ t, exec (.tmodeHigh false) s = .next t ∧ t = { s with pwr := { s.pwr with tmode := false } }) ∧
  (∀ (s : State), ∃ t, exec .trstNLow s = .next t ∧ t = { s with pwr := { s.pwr with extest := false } }) ∧
  (∀ (s : State), s.mode.mode = .coldStart → stepRuns s 2 = true → rootRuns s = false →
    ∃ t, exec .rootLock s = .next t ∧ rootRuns t = true ∧ flag t CLK_STATUS_REF_OK = true ∧ t.time = 0 ∧
      flag t CLK_STATUS_TIME_ALIGNED = (!flag s HWY_CTL_EN || flag s HWY_STATUS_MASTER))

/-- R496 to R501, R517: WARN clears the bits of the rails that are low, and on its first tick sets WARN, level 6 and the survival budget, stops the pace and abandons
a save; it clears above the threshold with its hysteresis. An over-voltage and a die above 150 C halt the device; the band-gap monitor and the die sensor
report as they change.
R54 to R56, R519: outside OFF a clock fault sets its event bit, clears the bit that shows the clock, latches TIME where no other stands, and halts the device; a fault
of the reference or of the root stops the clocks.
What the spec leaves open here follows log entries 64 and 70: the model's choice. -/
def Obligations.SuppliesAndClocksAreWatched : Prop :=
  (∀ (s : State) (r : BitVec 10) (v : Nat), s.mode.mode ≠ .off → (r ≠ 0 ∨ v < 10 * fget s PWR_VMON_WARN_PCT) →
    ∃ t, exec (.warn r v) s = .next t ∧ flag t PWR_STATUS_WARN = true ∧ fget t PWR_VMEAS_VMON = min 0xFFFF v ∧
      (∀ k, k < 9 → r.getLsbD k = true → bitOf (fget t PWR_STATUS_RAIL_OK) k = false) ∧
      (flag s PWR_STATUS_WARN = false → fget t PWR_STATUS_LEVEL = 6 ∧ t.pwr.avg = raw s PWR_SURV ∧ flag t PWR_EVENTS_WARN = true ∧
        2 ≤ fget t MOT_STATUS_PSTATE ∧ t.mot.warnStop = true ∧ (s.att.step < 6 → t.att.step = 0))) ∧
  (∀ (s : State) (v : Nat), flag s PWR_STATUS_WARN = true → s.mode.mode ≠ .off →
    10 * (fget s PWR_VMON_WARN_PCT + fget s PWR_VMON_HYST_PCT) ≤ v →
    ∃ t, exec (.warnClear v) s = .next t ∧ flag t PWR_STATUS_WARN = false ∧ fget t PWR_STATUS_RAIL_OK = 0x3FF ∧
      flag t PWR_EVENTS_WARN_CLR = true ∧ t.pwr.avg = raw s PWR_AVG) ∧
  (∀ (s : State) (k : Fin 10), s.mode.mode ≠ .off →
    ∃ t, exec (.railOvervoltage k) s = .next t ∧ flag t PWR_EVENTS_OV = true ∧ bitOf (fget t PWR_STATUS_RAIL_OK) k = false ∧ t.mode.mode = .halt ∧
      (s.mode.mode ≠ .halt → flag s SYS_FAULT_VALID = false → fget t SYS_FAULT_CODE = 8)) ∧
  (∀ (s : State) (b : Bool), s.mode.mode ≠ .off →
    ∃ t, exec (.bandgapCheck b) s = .next t ∧ flag t PWR_STATUS_BG_OK = b ∧ t.mode = s.mode ∧
      (b = false → flag s PWR_STATUS_BG_OK = true → flag t PWR_EVENTS_BG_FAULT = true)) ∧
  (∀ (s : State) (c : Int), s.mode.mode ≠ .off →
    ∃ t, exec (.dieTempCheck c) s = .next t ∧ flag t PWR_STATUS_TJ_HIGH = decide (145 < c) ∧
      (145 < c → flag s PWR_STATUS_TJ_HIGH = false → flag t PWR_EVENTS_TJ_HIGH = true) ∧
      (if 150 < c then t.mode.mode = .halt else t.mode = s.mode)) ∧
  (∀ (s : State) (c : ClockFault), s.mode.mode ≠ .off → flag s (clockPresent c) = true →
    ∃ t, exec (.clockFault [c]) s = .next t ∧ flag t (clockEvent c) = true ∧ flag t (clockPresent c) = false ∧ t.mode.mode = .halt ∧
      (s.mode.mode ≠ .halt → flag s SYS_FAULT_VALID = false → fget t SYS_FAULT_CODE = 2 ∧ fget t SYS_FAULT_SRC = 1) ∧
      (raw s CLK_EVENTS = 0 → s.time < 2 ^ 64 → getPair t CLK_FAULT_TIME_LO CLK_FAULT_TIME_HI = s.time) ∧
      ((c = .refLost ∨ c = .rootUnlock) → rootRuns t = false))

/-- R503 to R510: a budget write comes into force at an epoch boundary; there the Pantry publishes the energies of the epoch and, outside HALT, its plan, the level that follows from
the forecast, KP, REFUSE and OVER.
What the spec leaves open here follows log entry 59: the model's choice. -/
def Obligations.PantryKeepsTheBudget : Prop :=
  (∀ (s : State) (p : Bool) (v : Word), hostMay s (if p then PWR_PEAK else PWR_AVG) = true →
    ∃ t, exec (.pwrBudgetWrite p v) s = .next t ∧ raw t (if p then PWR_PEAK else PWR_AVG) = v.toNat ∧
      (if p then t.pwr = { s.pwr with peakAt := some s.time } else t.pwr = { s.pwr with avgAt := some s.time })) ∧
  (∀ (s : State) (x : PantryMeas), s.time % 600000 = 0 → flag s PWR_CTL_PANTRY_EN = true → modeIn s planModes = true → rootRuns s = true →
    let u := bookEpoch x (budgetsFollow s)
    let p := forecast x u
    let kp := if (nextLevel u p).1 < 5 then 32768 else kpOf u p
    ∃ t, exec (.pantryEpoch x) s = .next t ∧ raw t PWR_LCORE = min 0xFFFFFFFF x.core ∧ raw t PWR_LLAMP = uj (lampEnergy s x.lamp) ∧
      raw t PWR_LMOT = uj ((List.range 8).foldl (fun a m => a + axisEnergy s x m) (0 : Rat)) ∧ raw t PWR_PEAKMEAS = min 0xFFFFFFFF x.peak ∧
      raw t PWR_PLAN = uj p.fc ∧ fget t PWR_STATUS_LEVEL = (nextLevel u p).1 ∧ fget t MOT_PANTRY_KP = kp ∧
      flag t MOT_PANTRY_REFUSE = decide ((nextLevel u p).1 = 6) ∧ flag t PWR_STATUS_OVER = (decide ((nextLevel u p).1 = 6) && overBudget u p kp) ∧
      (fget s PWR_STATUS_LEVEL ≠ (nextLevel u p).1 → flag t PWR_EVENTS_SHED_CHG = true)) ∧
  (∀ (s : State) (x : PantryMeas), s.time % 600000 = 0 → flag s PWR_CTL_PANTRY_EN = true → s.mode.mode = .halt → rootRuns s = true →
    ∃ t, exec (.pantryEpoch x) s = .next t ∧ raw t PWR_LCORE = min 0xFFFFFFFF x.core ∧ fget t PWR_STATUS_LEVEL = fget s PWR_STATUS_LEVEL ∧
      fget t MOT_PANTRY_KP = fget s MOT_PANTRY_KP) ∧
  (∀ (s : State) (x : PantryMeas), s.time % 600000 = 0 → (∃ u, s.pwr.avgAt = some u ∧ u < s.time) →
    ∃ t, exec (.pantryEpoch x) s = .next t ∧ t.pwr.avgAt = none ∧ t.pwr.avg = if flag s PWR_STATUS_WARN then s.pwr.avg else raw s PWR_AVG)

/-! Modes, starts, self-test and firmware (spec/17). -/

/-- R513 to R516, R519, R520, R594: a mode request that the table allows takes the device to its target at once, with PREV and MODE_CHG; another sets REQ_REJ. START_COLD and
START_WARM begin a start in HALT, or wait there for a stopped root; WAKE begins a warm start in SLEEP; elsewhere they set REQ_REJ, which is the model's
reading of the table of SYS_EVENTS (log entry 61). -/
def Obligations.ModesChangeByRequest : Prop :=
  (∀ (s : State) (v : Word) (m : Mode), hostMay s SYS_MODEREQ = true → modeOf (bitsOf v.toNat 3 0) = some m →
    ∃ t, exec (.sysModereq v) s = .next t ∧
      if m = s.mode.mode then t.mode = s.mode ∧ t.regs = s.regs
      else if requestTarget s m = none then t.mode = s.mode ∧ flag t SYS_EVENTS_REQ_REJ = true
      else some t.mode.mode = requestTarget s m ∧ t.mode.prev = s.mode.mode ∧ flag t SYS_EVENTS_MODE_CHG = true) ∧
  (∀ (s : State) (v : Word), hostMay s SYS_MODEREQ = true → modeOf (bitsOf v.toNat 3 0) = none →
    ∃ t, exec (.sysModereq v) s = .next t ∧ t.mode = s.mode ∧ flag t SYS_EVENTS_REQ_REJ = true) ∧
  (∀ (s : State) (w : Bool), Inv s → hostMay s SYS_CMD = true → s.mode.mode = .halt → rootRuns s = true →
    ∃ t, exec (if w then .startWarm else .startCold) s = .next t ∧ t.mode.mode = (if w then .warmStart else .coldStart) ∧ t.mode.prev = .halt ∧
      t.start.on = true ∧ t.start.warm = w ∧ flag t SYS_STARTSTAT_KIND = w ∧
      (if w then fget t SYS_STARTS_WARM = satAdd 4095 (fget s SYS_STARTS_WARM) 1 else fget t SYS_STARTS_COLD = satAdd 4095 (fget s SYS_STARTS_COLD) 1)) ∧
  (∀ (s : State) (i : Instr), i ∈ [Instr.startCold, Instr.startWarm] → s.mode.mode = .halt → rootRuns s = false →
    ∃ t, exec i s = .next t ∧ t = { s with mode := { s.mode with heldStart := true } }) ∧
  (∀ (s : State), s.mode.mode = .halt → s.mode.heldStart = true → rootRuns s = false →
    ∃ t, exec .heldStartBegin s = .next t ∧ t.mode.mode = .coldStart ∧ t.start.on = true ∧ t.start.warm = false ∧ t.mode.heldStart = false) ∧
  (∀ (s : State), hostMay s SYS_CMD = true → s.mode.mode = .sleep →
    ∃ t, exec .wake s = .next t ∧ t.mode.mode = .warmStart ∧ t.start.on = true ∧ t.start.warm = true) ∧
  (∀ (s : State) (i : Instr), hostMay s SYS_CMD = true → i ∈ [Instr.startCold, Instr.startWarm, Instr.wake] →
    (i = .wake → s.mode.mode ≠ .sleep) → (i ≠ .wake → s.mode.mode ≠ .halt) →
    ∃ t, exec i s = .next t ∧ t.mode = s.mode ∧ flag t SYS_EVENTS_REQ_REJ = true)

/-- R248, R522, R526: a step of a start that its report lets end counts as done, and the last one takes a controller that stands alone to READY; one that fails is recorded, and the
device begins a cold start, or halts where the previous start had failed too; a cold start without a calibration source halts. The record clears with a 1 written
to VALID.
What the spec leaves open here follows log entry 62: the model's choice. -/
def Obligations.StartsRunTheirSteps : Prop :=
  (∀ (s : State) (k : Fin 17) (r : StepReport), starting s = true → stepRuns s k = true → flag s PWR_STATUS_WARN = false → failCode s k r = 0 →
    stepMayEnd s k = true → (k.val = 14 → s.start.warm = false → sourceLost (r.pairs.map fun p => p.1) s = false) →
    ∃ t, exec (.startStepDone k r) s = .next t ∧
      if k.val = 16 then (if s.hwy.joined then t.start.waitAll = true ∧ t.mode = s.mode
        else t.mode.mode = .ready ∧ t.start.on = false ∧ fget t SYS_STARTS_FAILS = 0)
      else stepDone t k = true ∧ t.mode.prev = s.mode.prev) ∧
  (∀ (s : State) (k : Fin 17) (r : StepReport), Inv s → starting s = true → stepRuns s k = true → flag s PWR_STATUS_WARN = false → failCode s k r ≠ 0 →
    ∃ t, exec (.startStepDone k r) s = .next t ∧ flag t SYS_STARTSTAT_VALID = true ∧ fget t SYS_STARTSTAT_FSTEP = k.val ∧
      fget t SYS_STARTSTAT_CODE = failCode s k r ∧ flag t SYS_STARTSTAT_FKIND = s.start.warm ∧
      if fget s SYS_STARTS_FAILS = 0 then t.mode.mode = .coldStart ∧ t.start.warm = false ∧ fget t SYS_STARTS_FAILS = 1
      else t.mode.mode = .halt) ∧
  (∀ (s : State) (r : StepReport), s.mode.mode = .coldStart → stepRuns s 14 = true → flag s PWR_STATUS_WARN = false → stepMayEnd s 14 = true →
    s.start.warm = false → sourceLost (r.pairs.map fun p => p.1) s = true →
    ∃ t, exec (.startStepDone 14 r) s = .next t ∧ t.mode.mode = .halt ∧
      (flag s SYS_FAULT_VALID = false → fget t SYS_FAULT_CODE = 4 ∧ fget t SYS_FAULT_SRC = 0xD)) ∧
  (∀ (s : State) (v : Word), hostMay s SYS_STARTSTAT = true →
    ∃ t, exec (.regWrite false SYS_STARTSTAT v) s = .next t ∧
      if bitOf v.toNat 31 then flag t SYS_STARTSTAT_VALID = false ∧ fget t SYS_STARTSTAT_FSTEP = 0 ∧ fget t SYS_STARTSTAT_CODE = 0
      else flag t SYS_STARTSTAT_VALID = flag s SYS_STARTSTAT_VALID)

/-- R15, R518, R521, R539: SELFTEST in DIAGNOSE begins the tests, and their end shows in SYS_DIAG which passed and which failed, test 3 failing while a packet was stored;
LOCK sets and the CEL bit of SYS_LIMP clears as they are written.
R23, R531, R535 to R538: a firmware command begins in the modes that are up while none is in progress; a write ends with its code and gives the inactive slot its image; a swap waits for a
gap between documents, exchanges the slots and pauses the Housekeeper, and is cancelled with code 7. A Housekeeper fault reverts a fresh image, fails a
start, or halts the device.
What the spec leaves open here follows log entries 63 and 69: the model's choice. -/
def Obligations.SelfTestsAndFirmware : Prop :=
  (∀ (s : State) (v : BitVec 4), hostMay s SYS_CMD = true →
    ∃ t, exec (.selftest v) s = .next t ∧
      if s.mode.mode = .diagnose ∧ flag s SYS_DIAG_BUSY = false then flag t SYS_DIAG_BUSY = true ∧ fget t SYS_DIAG_PASS = 0 ∧ fget t SYS_DIAG_FAIL = 0
      else flag t SYS_EVENTS_REQ_REJ = true ∧ t.mode = s.mode ∧ raw t SYS_DIAG = raw s SYS_DIAG) ∧
  (∀ (s : State) (v : BitVec 4) (r : DiagReport), flag s SYS_DIAG_BUSY = true →
    ∃ t, exec (.selftestDone v r) s = .next t ∧ flag t SYS_DIAG_BUSY = false ∧ flag t SYS_EVENTS_DIAG_DONE = true ∧
      (∀ k, k < 4 → bitOf (fget t SYS_DIAG_PASS) k = (bitOf s.mode.tests k && v.getLsbD k && !(k == 3 && bitOf s.mode.tests 4))) ∧
      (∀ k, k < 4 → bitOf (fget t SYS_DIAG_FAIL) k = (bitOf s.mode.tests k && !(v.getLsbD k && !(k == 3 && bitOf s.mode.tests 4))))) ∧
  (∀ (s : State), hostMay s SYS_LOCK = true →
    ∃ t, exec .sysLock s = .next t ∧ flag t SYS_LOCK_LOCK = true) ∧
  (∀ (s : State), hostMay s SYS_LIMP = true →
    ∃ t, exec .sysLimpCelClear s = .next t ∧ flag t SYS_LIMP_CEL = false ∧ flag t SYS_LIMP_LNK = flag s SYS_LIMP_LNK) ∧
  (∀ (s : State) (i : Instr), i ∈ [Instr.fwWrite, Instr.fwSwap] → hostMay s SYS_FWCMD = true →
    ∃ t, exec i s = .next t ∧
      if flag s SYS_FWSTAT_BUSY then flag t SYS_EVENTS_REQ_REJ = true ∧ t.fw = s.fw
      else if modeIn s upModes = false then fget t SYS_FWSTAT_CODE = 4 ∧ flag t SYS_EVENTS_FW_FAIL = true
      else flag t SYS_FWSTAT_BUSY = true ∧ t.fw.op = (if i = .fwWrite then 1 else 2)) ∧
  (∀ (s : State) (r : FwReport), s.fw.op = 1 → (r.readOk = true → r.valid = true → activeSeq s < r.seq → s.att.step = 0) →
    let code := if !r.readOk then 8 else if !r.valid then 1 else if r.seq ≤ activeSeq s then 2 else if !r.flashOk then 3 else 0
    ∃ t, exec (.fwWriteDone r) s = .next t ∧ flag t SYS_FWSTAT_BUSY = false ∧ fget t SYS_FWSTAT_CODE = code ∧ t.fw.op = 0 ∧
      (if code = 0 then flag t SYS_EVENTS_FW_DONE = true ∧ (if activeB s then t.fw.seqA = r.seq ∧ t.fw.validA = true else t.fw.seqB = r.seq ∧ t.fw.validB = true)
        else flag t SYS_EVENTS_FW_FAIL = true) ∧
      (if activeB s then t.fw.seqB = s.fw.seqB ∧ t.fw.validB = s.fw.validB else t.fw.seqA = s.fw.seqA ∧ t.fw.validA = s.fw.validA)) ∧
  (∀ (s : State) (r : FwReport), s.fw.op = 2 → flag s SYS_FWSTAT_SWAP_PEND = false →
    ∃ t, exec (.fwSwapReady r) s = .next t ∧
      if r.valid then flag t SYS_FWSTAT_SWAP_PEND = true ∧ t.fw.op = 2 else fget t SYS_FWSTAT_CODE = 5 ∧ t.fw.op = 0 ∧ flag t SYS_EVENTS_FW_FAIL = true) ∧
  (∀ (s : State), flag s SYS_FWSTAT_SWAP_PEND = true → docGap s = true →
    ∃ t, exec .fwSwapExecute s = .next t ∧ flag t SYS_FWSTAT_ACTIVE = !activeB s ∧ fget t SYS_FWSTAT_CODE = 0 ∧ flag t SYS_FWSTAT_SWAP_PEND = false ∧
      t.fw.paused = true ∧ t.fw.window = true ∧ (s.time + 1200000, .hkPauseEnd) ∈ t.agenda ∧ (s.time + 600000000, .revertWindowEnd) ∈ t.agenda) ∧
  (∀ (s : State), flag s SYS_FWSTAT_SWAP_PEND = true → docGap s = false →
    ∃ t, exec .fwSwapExecute s = .next t ∧ t = s) ∧
  (∀ (s : State), hostMay s SYS_FWCMD = true →
    ∃ t, exec .fwSwapCancel s = .next t ∧ if s.fw.op = 2 then fget t SYS_FWSTAT_CODE = 7 ∧ t.fw.op = 0 ∧ flag t SYS_FWSTAT_SWAP_PEND = false
      else flag t SYS_EVENTS_REQ_REJ = true ∧ t.fw = s.fw) ∧
  (∀ (s : State), ∃ t, exec .revertWindowEnd s = .next t ∧ t = { s with fw := { s.fw with window := false } }) ∧
  (∀ (s : State), Inv s → s.mode.mode ≠ .off →
    ∃ t, exec .housekeeperFault s = .next t ∧
      if starting s = true then flag t SYS_STARTSTAT_VALID = true ∧ fget t SYS_STARTSTAT_CODE = 9
      else if s.fw.window = true then t.mode = s.mode ∧ flag t SYS_FWSTAT_ACTIVE = !activeB s ∧ fget t SYS_FWSTAT_CODE = 6 ∧
        flag t SYS_EVENTS_FW_REVERT = true ∧ t.fw.paused = true ∧ t.fw.window = false
      else t.mode.mode = .halt) ∧
  (∀ (s : State), s.fw.paused = true → ∃ t, exec .hkPauseEnd s = .next t ∧ t.fw.paused = false)

/-! The whole block. -/

/-- R11, R29, R30, R593: a host write that the mode or a stopped root shuts out changes nothing but what the performance counters count of
it. The writes of one register that other commands carry are in it too. -/
def Obligations.WritesThatAreShutOutDoNothing : Prop :=
  ∀ (c : Instr) (off : Nat) (s : State), hostWrite c = some off → hostMay s off = false →
    ∃ t, exec c s = .next t ∧ onlyTouches [.pmc, .agenda] s t

/-- The frame of every command: it answers a next state in which the queue and every part that is not of its row in the table of frames are as
before, and what had been sent stands. -/
def Obligations.EveryCommandKeepsToItsParts : Prop :=
  ∀ (c : Instr) (s : State), ∃ t, exec c s = .next t ∧ onlyTouches (touches c) s t ∧ ∃ l, t.emits = s.emits ++ l

/-- A step takes the command at the front of the queue and carries it out on the state with the queue's rest. -/
def Obligations.StepRunsTheFrontCommand : Prop :=
  ∀ (c : Instr) (l : List Instr) (s : State), step { s with pending := c :: l } = exec c { s with pending := l }

/-- R36, R40, R593 and log entry 2, the model's choice of how time passes: on an empty queue the deadlines that are due come to wait in it; where
none is due a tick passes: TIME moves on by one, by 24 in SLEEP, and nothing changes in OFF or while the root is stopped. -/
def Obligations.AnEmptyQueueLetsTimePass : Prop :=
  (∀ (s : State), s.pending = [] → dueNow s ≠ [] →
    step s = .next { s with pending := dueNow s, agenda := s.agenda.filter fun p => !decide (p.1 ≤ s.time) }) ∧
  (∀ (s : State), s.pending = [] → dueNow s = [] → (s.mode.mode = .off ∨ rootRuns s = false) → step s = .next s) ∧
  (∀ (s : State), s.pending = [] → dueNow s = [] → s.mode.mode ≠ .off → rootRuns s = true →
    ∃ t, step s = .next t ∧ t.time = (s.time + if s.mode.mode = .sleep then 24 else 1) % 2 ^ 64)

/-- Every step answers a next state, and keeps the invariant: the tables that stand for registers and memories stay in their one canonical form, and TIME and the
performance counters within their widths (R40, R545, R553). -/
def Obligations.EveryStepKeepsTheInvariant : Prop :=
  ∀ (s : State), Inv s → ∃ t, step s = .next t ∧ Inv t

/-- The state after reset meets the invariant. -/
def Obligations.ResetMeetsTheInvariant : Prop := Inv State.reset

/-- R492, R498, R16: after reset the device is in OFF with its root stopped, nothing waits and nothing has been sent, no message is stored, and every register of the map holds
the reset value of its row; the values of the map that the spec does not state are the model's (log entries 43 to 45). -/
def Obligations.ResetLeavesEveryRegisterAtItsValue : Prop :=
  State.reset.mode.mode = .off ∧ rootRuns State.reset = false ∧ State.reset.pending = [] ∧ State.reset.emits = [] ∧ State.reset.lnd = {} ∧
    State.reset.time = 0 ∧ ∀ (off : Nat) (r : RegRow), rowOf off = some r → reg State.reset off = BitVec.ofNat 32 r.reset

/-- The frame between units of one kind: a command of one head leaves every other head as it is, with its control, status, event and trigger
registers; a command of one tap group leaves every other group, and a profile command every other axis. -/
def Obligations.UnitsAreLeftAloneByEachOther : Prop :=
  (∀ (s : State) (h k : Fin 16) (r : GeomReg) (v : Word) (c : Instr), k ≠ h → c ∈ [Instr.headOnline h, Instr.headSettleDone h, Instr.headWarmupDone h, Instr.headOffline h, Instr.headStopDone h, Instr.headCommit h, Instr.headSwtrig h, Instr.headTimerTrigger h, Instr.headGeometryWrite h r v, Instr.triggerFire h, Instr.exposureEnd h, Instr.tapPhaseActivate h, Instr.readoutEnd h, Instr.busyWindowClose h] →
    ∃ t, exec c s = .next t ∧ getHead t k = getHead s k ∧ reg t (HEAD_CTL k) = reg s (HEAD_CTL k) ∧ reg t (HEAD_STATUS k) = reg s (HEAD_STATUS k) ∧
      reg t (HEAD_EVENTS k) = reg s (HEAD_EVENTS k) ∧ reg t (HEAD_TRIGSTAT k) = reg s (HEAD_TRIGSTAT k) ∧ reg t (HEAD_LINE k) = reg s (HEAD_LINE k)) ∧
  (∀ (s : State) (g k : Fin 16) (m : SliceMeas) (f : ResidualFit) (i : Fin 17) (c : Instr), k ≠ g → c ∈ [Instr.rotationStep g, Instr.guestHandover g, Instr.sliceCalRunEnd g m, Instr.guestHandback g f, Instr.overlapTimeout g, Instr.sliceFault g i, Instr.guestStandin g, Instr.sliceFaultReport g] →
    ∃ t, exec c s = .next t ∧ getGroup t k = getGroup s k ∧ reg t (SLC_GSTATE k) = reg s (SLC_GSTATE k) ∧ reg t (SLC_GRETIRE k) = reg s (SLC_GRETIRE k) ∧
      reg t (SLC_GLAST k) = reg s (SLC_GLAST k)) ∧
  (∀ (s : State) (m k : Fin 8) (c : Instr), k ≠ m → c ∈ [Instr.motAcmdStart m, Instr.motAcmdStop m, Instr.irefStandby m] →
    ∃ t, exec c s = .next t ∧ getAxis t k = getAxis s k ∧ reg t (MOT_ACTL k) = reg s (MOT_ACTL k) ∧ reg t (MOT_ASTATUS k) = reg s (MOT_ASTATUS k) ∧
      reg t (MOT_AVEL k) = reg s (MOT_AVEL k))
end

