-- ==== Sys2Proof/Laws/Tbl.lean ====
section
/-! SUPPORT. The laws of sparse tables: a read after a write, and that a write keeps the canonical form. -/

namespace Sys2Proof.Machine

variable {α : Type} [DecidableEq α] {d : Nat → α}

theorem tblWfFrom_mono {t : Tbl α} {lo hi : Nat} (h : lo ≤ hi) (w : tblWfFrom d hi t = true) : tblWfFrom d lo t = true := by
  cases t with
  | nil => rfl
  | cons p r =>
    simp only [tblWfFrom, Bool.and_eq_true, decide_eq_true_eq] at w ⊢
    exact ⟨⟨by omega, w.1.2⟩, w.2⟩

theorem tget_below {t : Tbl α} {lo k : Nat} (w : tblWfFrom d lo t = true) (h : k < lo) : tget d t k = d k := by
  induction t generalizing lo with
  | nil => rfl
  | cons p r ih =>
    simp only [tblWfFrom, Bool.and_eq_true, decide_eq_true_eq] at w
    have hne : ¬ p.1 = k := by omega
    simp only [tget, hne, if_false]
    exact ih w.2 (by omega)

theorem filter_wfFrom {t : Tbl α} {lo k : Nat} (w : tblWfFrom d lo t = true) :
    tblWfFrom d lo (t.filter fun p => p.1 != k) = true := by
  induction t generalizing lo with
  | nil => rfl
  | cons p r ih =>
    simp only [tblWfFrom, Bool.and_eq_true, decide_eq_true_eq] at w
    rw [List.filter_cons]
    split
    · simp only [tblWfFrom, Bool.and_eq_true, decide_eq_true_eq]
      exact ⟨w.1, ih w.2⟩
    · exact ih (tblWfFrom_mono (by omega) w.2)

theorem tput_wfFrom {t : Tbl α} {lo k : Nat} {v : α} (hv : v ≠ d k) (w : tblWfFrom d lo t = true) (h : lo ≤ k) :
    tblWfFrom d lo (tput t k v) = true := by
  induction t generalizing lo with
  | nil => simp [tput, tblWfFrom, hv, h]
  | cons p r ih =>
    have w' := w
    simp only [tblWfFrom, Bool.and_eq_true, decide_eq_true_eq] at w
    simp only [tput]
    split
    · rename_i hj
      subst hj
      simp [tblWfFrom, hv, h, w.2]
    · split
      · simp only [tblWfFrom, Bool.and_eq_true, decide_eq_true_eq]
        exact ⟨⟨h, hv⟩, ⟨by omega, w.1.2⟩, w.2⟩
      · simp only [tblWfFrom, Bool.and_eq_true, decide_eq_true_eq]
        exact ⟨w.1, ih w.2 (by omega)⟩

theorem tset_eq {t : Tbl α} {k : Nat} {v : α} : tset d t k v = if v = d k then t.filter (fun p => p.1 != k) else tput t k v := by
  cases t <;> rfl

/-- A write keeps the canonical form. -/
theorem tset_wf {t : Tbl α} {k : Nat} {v : α} (w : tblWf d t = true) : tblWf d (tset d t k v) = true := by
  rw [tset_eq]
  split
  · exact filter_wfFrom w
  · rename_i hv
    exact tput_wfFrom hv w (Nat.zero_le k)

omit [DecidableEq α] in
theorem tget_filter {t : Tbl α} {k : Nat} : tget d (t.filter fun p => p.1 != k) k = d k := by
  induction t with
  | nil => rfl
  | cons p r ih =>
    rw [List.filter_cons]
    split
    · rename_i h
      have hj : ¬ p.1 = k := by simpa using h
      simpa [tget, hj] using ih
    · exact ih

omit [DecidableEq α] in
theorem tget_filter_other {t : Tbl α} {k j : Nat} (h : j ≠ k) : tget d (t.filter fun p => p.1 != k) j = tget d t j := by
  induction t with
  | nil => rfl
  | cons p r ih =>
    rw [List.filter_cons]
    split
    · simp only [tget, ih]
    · rename_i hp
      have hk : ¬ p.1 = j := by
        have : p.1 = k := by simpa using hp
        omega
      simp [tget, hk, ih]

omit [DecidableEq α] in
theorem tget_tput {t : Tbl α} {k : Nat} {v : α} : tget d (tput t k v) k = v := by
  induction t with
  | nil => simp [tput, tget]
  | cons p r ih =>
    simp only [tput]
    split
    · simp [tget]
    · rename_i hj
      split
      · simp [tget]
      · simpa [tget, hj] using ih

omit [DecidableEq α] in
theorem tget_tput_other {t : Tbl α} {k j : Nat} {v : α} (h : j ≠ k) : tget d (tput t k v) j = tget d t j := by
  induction t with
  | nil => simp [tput, tget, Ne.symm h]
  | cons p r ih =>
    simp only [tput]
    split
    · rename_i hj
      simp [tget, hj, Ne.symm h]
    · split
      · simp [tget, Ne.symm h]
      · by_cases hp : p.1 = j
        · simp [tget, hp]
        · simp [tget, hp, ih]

/-- A read after a write of the same key gives the value written. -/
@[simp] theorem tget_tset {t : Tbl α} {k : Nat} {v : α} : tget d (tset d t k v) k = v := by
  rw [tset_eq]
  split
  · rename_i hv
    rw [tget_filter, hv]
  · exact tget_tput

/-- A write leaves every other key alone. -/
theorem tget_tset_other {t : Tbl α} {k j : Nat} {v : α} (h : j ≠ k) : tget d (tset d t k v) j = tget d t j := by
  rw [tset_eq]
  split
  · exact tget_filter_other h
  · exact tget_tput_other h

omit [DecidableEq α] in
theorem mem_tput {t : Tbl α} {k : Nat} {v : α} {p : Nat × α} (h : p ∈ tput t k v) : p ∈ t ∨ p = (k, v) := by
  induction t with
  | nil => exact .inr (by simpa [tput] using h)
  | cons q r ih =>
    simp only [tput] at h
    split at h
    · rcases List.mem_cons.1 h with e | e
      · exact .inr e
      · exact .inl (List.mem_cons_of_mem _ e)
    · split at h
      · rcases List.mem_cons.1 h with e | e
        · exact .inr e
        · exact .inl e
      · rcases List.mem_cons.1 h with e | e
        · exact .inl (e ▸ List.mem_cons_self)
        · exact (ih e).imp (List.mem_cons_of_mem _) id

/-- Every entry after a write was there before, or is the one written. -/
theorem mem_tset {t : Tbl α} {k : Nat} {v : α} {p : Nat × α} (h : p ∈ tset d t k v) : p ∈ t ∨ p = (k, v) := by
  rw [tset_eq] at h
  split at h
  · exact .inl (List.mem_filter.1 h).1
  · exact mem_tput h

/-- Bounded entries stay bounded under a write of a bounded value. -/
theorem nset_bound {t : Tbl Nat} {k v b : Nat} (h : ∀ p ∈ t, p.2 < b) (e : v < b) : ∀ p ∈ nset t k v, p.2 < b := by
  intro p q
  rcases mem_tset q with r | r
  · exact h p r
  · exact r ▸ e

/-- An entry read from a table of bounded entries is bounded. -/
theorem nget_bound {t : Tbl Nat} {k b : Nat} (h : ∀ p ∈ t, p.2 < b) (e : 0 < b) : nget t k < b := by
  induction t with
  | nil => exact e
  | cons q r ih =>
    simp only [nget, tget]
    split
    · exact h q List.mem_cons_self
    · exact ih fun p hp => h p (List.mem_cons_of_mem _ hp)

end Sys2Proof.Machine
end

