-- ==== Sys2Proof/Laws/Within.lean ====
section
/-! SUPPORT. The relation that says once what an operation can do: which parts of the state it may change (as a set of bits),
that it leaves the queue alone, only appends to what has been sent, and keeps the invariants. One lemma for each operation
that the others are built from. -/

namespace Sys2Proof.Machine

/-- The number of a row of the register map, by its first register; an offset that begins no row has a number of its own. -/
def rowNum (first : Nat) : Nat :=
  let k := allRows.findIdx fun r => Nat.beq r.base first
  if k < 298 then k else 298 + first

/-- The number of the row of the register at off. -/
def rowIdx (off : Nat) : Nat := rowNum (regRow off)

/-- The bit of a part in a set of parts. -/
def Part.bit (p : Part) : Nat :=
  match p with
  | .agenda => 0
  | .time => 1
  | .draws => 2
  | .active => 3
  | .bands => 4
  | .emits => 5
  | .rdata => 6
  | .shadows => 7
  | .mode => 8
  | .start => 9
  | .fw => 10
  | .lnd => 11
  | .pmc => 12
  | .host => 13
  | .heads => 14
  | .taps => 15
  | .groups => 16
  | .pipe => 17
  | .pwr => 18
  | .shd => 19
  | .mot => 20
  | .lmp => 21
  | .att => 22
  | .aux => 23
  | .recd => 24
  | .hwy => 25
  | .lnk => 26
  | .anyReg => 31
  | .reg n => 32 + rowNum n

/-- p lies outside the set m of parts. -/
def Part.outside (m : Nat) (p : Part) : Bool :=
  !m.testBit p.bit && match p with | .reg _ => !m.testBit 31 | _ => true

/-- Set a is contained in set m. -/
def Sub (a m : Nat) : Prop := ∀ k, a.testBit k = true → m.testBit k = true

/-- From s to t only the parts in m may differ; the queue is the same, what was sent stays sent, draws are only used up, and
the invariants are kept. -/
structure Within (m : Nat) (s t : State) : Prop where
  pending : t.pending = s.pending
  emits : s.emits <+: t.emits
  fresh : s.fresh ≤ t.fresh
  inv : Inv s → Inv t
  parts : ∀ p : Part, p.outside m = true → p.same s t

/-- An outcome is a next state that is Within. -/
def WithinO (m : Nat) (s : State) (o : Host.Outcome State Fault Refusal) : Prop := ∃ t, o = .next t ∧ Within m s t

/-- The bits of every row of the register map. -/
def everyRow : Nat := 0x3ffffffffffffffffffffffffffffffffffffffffffffffffffffffffffffffffffffffffff <<< 32

/-- The set of bits of a list of parts; anyReg brings every row of the register map. -/
def partsMask (ps : List Part) : Nat :=
  ps.foldr (fun p m => (if p = .anyReg then everyRow else 0) ||| 1 <<< p.bit ||| m) 0

theorem Sub.of {a m : Nat} (h : a &&& m = a) : Sub a m := by
  intro k hk
  have e : (a &&& m).testBit k = true := by rw [h]; exact hk
  rw [Nat.testBit_and, Bool.and_eq_true] at e
  exact e.2

/-- A set contained in M lies in whatever contains M. -/
theorem Sub.up {a b m : Nat} (h : Sub b m) (e : a &&& b = a) : Sub a m := fun k hk => h k (Sub.of e k hk)

theorem Sub.bit {a m k : Nat} (h : Sub a m) (e : a.testBit k = true) : m.testBit k = true := h k e

theorem Sub.refl (m : Nat) : Sub m m := fun _ h => h

theorem Part.same_refl (p : Part) (s : State) : p.same s s := by
  cases p <;> first | rfl | trivial | exact ⟨rfl, rfl⟩ | exact ⟨rfl, rfl, rfl⟩ | exact fun _ _ => rfl

theorem Part.same_trans {p : Part} {s t u : State} (h : p.same s t) (k : p.same t u) : p.same s u := by
  cases p <;> first
    | exact Eq.trans k h
    | trivial
    | exact ⟨k.1.trans h.1, k.2.trans h.2⟩
    | exact ⟨k.1.trans h.1, k.2.1.trans h.2.1, k.2.2.trans h.2.2⟩
    | exact fun o b => (k o b).trans (h o b)

theorem Within.refl (m : Nat) (s : State) : Within m s s :=
  ⟨rfl, List.prefix_refl _, Nat.le_refl _, id, fun p _ => p.same_refl s⟩

theorem Within.trans {m : Nat} {s t u : State} (h : Within m s t) (k : Within m t u) : Within m s u :=
  ⟨k.pending.trans h.pending, h.emits.trans k.emits, Nat.le_trans h.fresh k.fresh, fun i => k.inv (h.inv i),
    fun p q => Part.same_trans (h.parts p q) (k.parts p q)⟩

theorem Within.cut {m : Nat} {s : State} {G : Prop} (x : State) (h : Within m s x) (k : Within m s x → G) : G := k h

theorem WithinO.next {m : Nat} {s t : State} (h : Within m s t) : WithinO m s (.next t) := ⟨t, rfl, h⟩

/-- The register at off lies in a row of m, or m holds every register. -/
def Reach (m off : Nat) : Prop := m.testBit (32 + rowIdx off) = true ∨ m.testBit 31 = true

theorem Reach.of {m off b : Nat} (h : rowIdx off = b) (k : m.testBit (32 + b) = true) : Reach m off :=
  .inl (by rw [h]; exact k)

theorem Reach.ite {a m x y : Nat} {b : Bool} (hm : Sub a m) (h : Reach a x) (k : Reach a y) :
    Reach m (if b = true then x else y) := by
  split
  · exact h.elim (fun e => .inl (hm _ e)) (fun e => .inr (hm _ e))
  · exact k.elim (fun e => .inl (hm _ e)) (fun e => .inr (hm _ e))

theorem Reach.all {m off : Nat} (k : m.testBit 31 = true) : Reach m off := .inr k

theorem Sub.reach {a m off : Nat} (h : Sub a m) (r : Reach a off) : Reach m off :=
  r.elim (fun k => .inl (h _ k)) (fun k => .inr (h _ k))

/-- A set with a bit of its own set leaves the part with that bit out. -/
theorem Part.not_outside {p : Part} {m : Nat} (h : m.testBit p.bit = true) : ¬ p.outside m = true := by
  simp [Part.outside, h]

theorem Within.set_agenda {m : Nat} {s0 s : State} {x : List (Nat × Instr)} (b : m.testBit 0 = true) (h : Within m s0 s) :
    Within m s0 { s with agenda := x } :=
  ⟨h.pending, h.emits, h.fresh, fun j => have i := h.inv j; ⟨i.tables, i.counters⟩, by
    intro p q
    have a := h.parts p q
    cases p <;> first | exact a | exact absurd q (Part.not_outside b)⟩

theorem Within.set_rdata {m : Nat} {s0 s : State} {x : Word} (b : m.testBit 6 = true) (h : Within m s0 s) :
    Within m s0 { s with rdata := x } :=
  ⟨h.pending, h.emits, h.fresh, fun j => have i := h.inv j; ⟨i.tables, i.counters⟩, by
    intro p q
    have a := h.parts p q
    cases p <;> first | exact a | exact absurd q (Part.not_outside b)⟩

theorem Within.set_mode {m : Nat} {s0 s : State} {x : ModeSt} (b : m.testBit 8 = true) (h : Within m s0 s) :
    Within m s0 { s with mode := x } :=
  ⟨h.pending, h.emits, h.fresh, fun j => have i := h.inv j; ⟨i.tables, i.counters⟩, by
    intro p q
    have a := h.parts p q
    cases p <;> first | exact a | exact absurd q (Part.not_outside b)⟩

theorem Within.set_start {m : Nat} {s0 s : State} {x : StartSt} (b : m.testBit 9 = true) (h : Within m s0 s) :
    Within m s0 { s with start := x } :=
  ⟨h.pending, h.emits, h.fresh, fun j => have i := h.inv j; ⟨i.tables, i.counters⟩, by
    intro p q
    have a := h.parts p q
    cases p <;> first | exact a | exact absurd q (Part.not_outside b)⟩

theorem Within.set_fw {m : Nat} {s0 s : State} {x : FwSt} (b : m.testBit 10 = true) (h : Within m s0 s) :
    Within m s0 { s with fw := x } :=
  ⟨h.pending, h.emits, h.fresh, fun j => have i := h.inv j; ⟨i.tables, i.counters⟩, by
    intro p q
    have a := h.parts p q
    cases p <;> first | exact a | exact absurd q (Part.not_outside b)⟩

theorem Within.set_lnd {m : Nat} {s0 s : State} {x : LndSt} (b : m.testBit 11 = true) (h : Within m s0 s) :
    Within m s0 { s with lnd := x } :=
  ⟨h.pending, h.emits, h.fresh, fun j => have i := h.inv j; ⟨i.tables, i.counters⟩, by
    intro p q
    have a := h.parts p q
    cases p <;> first | exact a | exact absurd q (Part.not_outside b)⟩

theorem Within.set_host {m : Nat} {s0 s : State} {x : HostSt} (b : m.testBit 13 = true) (h : Within m s0 s) :
    Within m s0 { s with host := x } :=
  ⟨h.pending, h.emits, h.fresh, fun j => have i := h.inv j; ⟨i.tables, i.counters⟩, by
    intro p q
    have a := h.parts p q
    cases p <;> first | exact a | exact absurd q (Part.not_outside b)⟩

theorem Within.set_pwr {m : Nat} {s0 s : State} {x : PwrSt} (b : m.testBit 18 = true) (h : Within m s0 s) :
    Within m s0 { s with pwr := x } :=
  ⟨h.pending, h.emits, h.fresh, fun j => have i := h.inv j; ⟨i.tables, i.counters⟩, by
    intro p q
    have a := h.parts p q
    cases p <;> first | exact a | exact absurd q (Part.not_outside b)⟩

theorem Within.set_shd {m : Nat} {s0 s : State} {x : ShdSt} (b : m.testBit 19 = true) (h : Within m s0 s) :
    Within m s0 { s with shd := x } :=
  ⟨h.pending, h.emits, h.fresh, fun j => have i := h.inv j; ⟨i.tables, i.counters⟩, by
    intro p q
    have a := h.parts p q
    cases p <;> first | exact a | exact absurd q (Part.not_outside b)⟩

theorem Within.set_mot {m : Nat} {s0 s : State} {x : MotSt} (b : m.testBit 20 = true) (h : Within m s0 s) :
    Within m s0 { s with mot := x } :=
  ⟨h.pending, h.emits, h.fresh, fun j => have i := h.inv j; ⟨i.tables, i.counters⟩, by
    intro p q
    have a := h.parts p q
    cases p <;> first | exact a | exact absurd q (Part.not_outside b)⟩

theorem Within.set_lmp {m : Nat} {s0 s : State} {x : LmpSt} (b : m.testBit 21 = true) (h : Within m s0 s) :
    Within m s0 { s with lmp := x } :=
  ⟨h.pending, h.emits, h.fresh, fun j => have i := h.inv j; ⟨i.tables, i.counters⟩, by
    intro p q
    have a := h.parts p q
    cases p <;> first | exact a | exact absurd q (Part.not_outside b)⟩

theorem Within.set_att {m : Nat} {s0 s : State} {x : AttSt} (b : m.testBit 22 = true) (h : Within m s0 s) :
    Within m s0 { s with att := x } :=
  ⟨h.pending, h.emits, h.fresh, fun j => have i := h.inv j; ⟨i.tables, i.counters⟩, by
    intro p q
    have a := h.parts p q
    cases p <;> first | exact a | exact absurd q (Part.not_outside b)⟩

theorem Within.set_aux {m : Nat} {s0 s : State} {x : AuxSt} (b : m.testBit 23 = true) (h : Within m s0 s) :
    Within m s0 { s with aux := x } :=
  ⟨h.pending, h.emits, h.fresh, fun j => have i := h.inv j; ⟨i.tables, i.counters⟩, by
    intro p q
    have a := h.parts p q
    cases p <;> first | exact a | exact absurd q (Part.not_outside b)⟩

theorem Within.set_recd {m : Nat} {s0 s : State} {x : RecSt} (b : m.testBit 24 = true) (h : Within m s0 s) :
    Within m s0 { s with recd := x } :=
  ⟨h.pending, h.emits, h.fresh, fun j => have i := h.inv j; ⟨i.tables, i.counters⟩, by
    intro p q
    have a := h.parts p q
    cases p <;> first | exact a | exact absurd q (Part.not_outside b)⟩

theorem Within.set_hwy {m : Nat} {s0 s : State} {x : HwySt} (b : m.testBit 25 = true) (h : Within m s0 s) :
    Within m s0 { s with hwy := x } :=
  ⟨h.pending, h.emits, h.fresh, fun j => have i := h.inv j; ⟨i.tables, i.counters⟩, by
    intro p q
    have a := h.parts p q
    cases p <;> first | exact a | exact absurd q (Part.not_outside b)⟩

theorem Within.set_lnk {m : Nat} {s0 s : State} {x : LnkSt} (b : m.testBit 26 = true) (h : Within m s0 s) :
    Within m s0 { s with lnk := x } :=
  ⟨h.pending, h.emits, h.fresh, fun j => have i := h.inv j; ⟨i.tables, i.counters⟩, by
    intro p q
    have a := h.parts p q
    cases p <;> first | exact a | exact absurd q (Part.not_outside b)⟩

theorem Within.set_bandTick {m : Nat} {s0 s : State} {x : Nat} (b : m.testBit 4 = true) (h : Within m s0 s) :
    Within m s0 { s with bandTick := x } :=
  ⟨h.pending, h.emits, h.fresh, fun j => have i := h.inv j; ⟨i.tables, i.counters⟩, by
    intro p q
    have a := h.parts p q
    cases p <;> first | exact a | exact absurd q (Part.not_outside b)⟩

theorem Within.set_bandLog {m : Nat} {s0 s : State} {x : Tbl (Option Word)} (b : m.testBit 4 = true) (h : Within m s0 s) :
    Within m s0 { s with bandLog := x } :=
  ⟨h.pending, h.emits, h.fresh, fun j => have i := h.inv j; ⟨i.tables, i.counters⟩, by
    intro p q
    have a := h.parts p q
    cases p <;> first | exact a | exact absurd q (Part.not_outside b)⟩

theorem Within.set_shadow0 {m : Nat} {s0 s : State} {x : Option Shadow} (b : m.testBit 7 = true) (h : Within m s0 s) :
    Within m s0 { s with shadow0 := x } :=
  ⟨h.pending, h.emits, h.fresh, fun j => have i := h.inv j; ⟨i.tables, i.counters⟩, by
    intro p q
    have a := h.parts p q
    cases p <;> first | exact a | exact absurd q (Part.not_outside b)⟩

theorem Within.set_shadow4 {m : Nat} {s0 s : State} {x : Option Shadow} (b : m.testBit 7 = true) (h : Within m s0 s) :
    Within m s0 { s with shadow4 := x } :=
  ⟨h.pending, h.emits, h.fresh, fun j => have i := h.inv j; ⟨i.tables, i.counters⟩, by
    intro p q
    have a := h.parts p q
    cases p <;> first | exact a | exact absurd q (Part.not_outside b)⟩

theorem Within.set_shadowK {m : Nat} {s0 s : State} {x : Option Shadow} (b : m.testBit 7 = true) (h : Within m s0 s) :
    Within m s0 { s with shadowK := x } :=
  ⟨h.pending, h.emits, h.fresh, fun j => have i := h.inv j; ⟨i.tables, i.counters⟩, by
    intro p q
    have a := h.parts p q
    cases p <;> first | exact a | exact absurd q (Part.not_outside b)⟩

theorem Within.set_time {m : Nat} {s0 s : State} {x : Nat} (ht : x < 2 ^ 64) (b : m.testBit 1 = true) (h : Within m s0 s) :
    Within m s0 { s with time := x } :=
  ⟨h.pending, h.emits, h.fresh, fun j => have i := h.inv j; ⟨i.tables, ht, i.counters.2⟩, by
    intro p q
    have a := h.parts p q
    cases p <;> first | exact a | exact absurd q (Part.not_outside b)⟩

theorem Within.set_pmc {m : Nat} {s0 s : State} {x : PmcSt} (hp : countersWf s → countersWf { s with pmc := x }) (b : m.testBit 12 = true) (h : Within m s0 s) :
    Within m s0 { s with pmc := x } :=
  ⟨h.pending, h.emits, h.fresh, fun j => have i := h.inv j; ⟨i.tables, hp i.counters⟩, by
    intro p q
    have a := h.parts p q
    cases p <;> first | exact a | exact absurd q (Part.not_outside b)⟩

theorem Within.set_active {m : Nat} {s0 s : State} {x : Tbl Word} (hp : tblWf regReset s.active = true → tblWf regReset x = true) (b : m.testBit 3 = true) (h : Within m s0 s) :
    Within m s0 { s with active := x } :=
  ⟨h.pending, h.emits, h.fresh, fun j => have i := h.inv j; ⟨by have := i.tables; simp only [tablesWf, Bool.and_eq_true] at this ⊢; simp only [hp, this, and_self], i.counters⟩, by
    intro p q
    have a := h.parts p q
    cases p <;> first | exact a | exact absurd q (Part.not_outside b)⟩

theorem Within.set_heads {m : Nat} {s0 s : State} {x : Tbl HeadSt} (hp : tblWf (fun _ => ({} : HeadSt)) s.heads = true → tblWf (fun _ => ({} : HeadSt)) x = true) (b : m.testBit 14 = true) (h : Within m s0 s) :
    Within m s0 { s with heads := x } :=
  ⟨h.pending, h.emits, h.fresh, fun j => have i := h.inv j; ⟨by have := i.tables; simp only [tablesWf, Bool.and_eq_true] at this ⊢; simp only [hp, this, and_self], i.counters⟩, by
    intro p q
    have a := h.parts p q
    cases p <;> first | exact a | exact absurd q (Part.not_outside b)⟩

theorem Within.set_taps {m : Nat} {s0 s : State} {x : Tbl TapSt} (hp : tblWf (fun _ => ({} : TapSt)) s.taps = true → tblWf (fun _ => ({} : TapSt)) x = true) (b : m.testBit 15 = true) (h : Within m s0 s) :
    Within m s0 { s with taps := x } :=
  ⟨h.pending, h.emits, h.fresh, fun j => have i := h.inv j; ⟨by have := i.tables; simp only [tablesWf, Bool.and_eq_true] at this ⊢; simp only [hp, this, and_self], i.counters⟩, by
    intro p q
    have a := h.parts p q
    cases p <;> first | exact a | exact absurd q (Part.not_outside b)⟩

theorem Within.set_groups {m : Nat} {s0 s : State} {x : Tbl GroupSt} (hp : tblWf (fun _ => ({} : GroupSt)) s.groups = true → tblWf (fun _ => ({} : GroupSt)) x = true) (b : m.testBit 16 = true) (h : Within m s0 s) :
    Within m s0 { s with groups := x } :=
  ⟨h.pending, h.emits, h.fresh, fun j => have i := h.inv j; ⟨by have := i.tables; simp only [tablesWf, Bool.and_eq_true] at this ⊢; simp only [hp, this, and_self], i.counters⟩, by
    intro p q
    have a := h.parts p q
    cases p <;> first | exact a | exact absurd q (Part.not_outside b)⟩

/-- The tables of the pixel pipeline are in canonical form. -/
def pipeWf (p : PipeSt) : Bool :=
  tblWf (fun _ => 0x4000) p.g && tblWf (fun _ => (0 : Int)) p.d0 && tblWf (fun _ => (0 : Int)) p.d1
    && tblWf lutDefault p.lut && tblWf (fun _ => (0 : Int)) p.trk

theorem Within.set_pipe {m : Nat} {s0 s : State} {x : PipeSt} (hp : pipeWf s.pipe = true → pipeWf x = true) (b : m.testBit 17 = true) (h : Within m s0 s) :
    Within m s0 { s with pipe := x } :=
  ⟨h.pending, h.emits, h.fresh, fun j => have i := h.inv j; ⟨by have := i.tables; simp only [tablesWf, pipeWf, Bool.and_eq_true] at this hp ⊢; simp only [hp, this, and_self], i.counters⟩, by
    intro p q
    have a := h.parts p q
    cases p <;> first | exact a | exact absurd q (Part.not_outside b)⟩

/-! From a set of bits back to the list of parts. -/

theorem rowNum_inj {a b : Nat} (h : rowNum a = rowNum b) : a = b := by
  have len : allRows.length = 298 := by decide +kernel
  have hit : ∀ x, (allRows.findIdx fun r => Nat.beq r.base x) < 298 →
      (allRows.map RegRow.base)[allRows.findIdx fun r => Nat.beq r.base x]? = some x := by
    intro x hx
    rw [List.getElem?_map, List.getElem?_eq_getElem (by omega)]
    have e := List.findIdx_getElem (xs := allRows) (p := fun r => Nat.beq r.base x) (w := by omega)
    simpa using Nat.eq_of_beq_eq_true e
  unfold rowNum at h
  simp only at h
  split at h <;> split at h
  · rename_i ha hb
    have e := hit a ha
    rw [h, hit b hb] at e
    exact (Option.some.inj e).symm
  · omega
  · omega
  · omega

theorem partsMask_bit {ps : List Part} {p : Part} (h : (partsMask ps).testBit p.bit = true) :
    p ∈ ps ∨ (.anyReg ∈ ps ∧ ∃ n, p = .reg n) := by
  induction ps with
  | nil => simp [partsMask] at h
  | cons q r ih =>
    have e : partsMask (q :: r) =
        ((if q = .anyReg then everyRow else 0) ||| 1 <<< q.bit ||| partsMask r) := rfl
    rw [e, Nat.testBit_or, Nat.testBit_or] at h
    simp only [Bool.or_eq_true] at h
    rcases h with (h | h) | h
    · split at h
      · rename_i hq
        by_cases hp : ∃ n, p = .reg n
        · exact .inr ⟨by simp [hq], hp⟩
        · exfalso
          have b : p.bit < 32 := by
            cases p <;> simp_all [Part.bit]
          rw [everyRow, Nat.testBit_shiftLeft] at h
          simp only [Bool.and_eq_true, decide_eq_true_eq] at h
          omega
      · simp at h
    · left
      have b : q.bit = p.bit := by
        rw [Nat.testBit_shiftLeft, Bool.and_eq_true, decide_eq_true_eq] at h
        have := h.2
        rw [Nat.testBit_one_eq_true_iff_self_eq_zero] at this
        omega
      have : p = q := by
        cases p <;> cases q <;> simp only [Part.bit] at b <;> first
          | rfl
          | omega
          | exact congrArg _ (rowNum_inj (by omega))
      simp [this]
    · rcases ih h with k | ⟨k, n⟩
      · exact .inl (List.mem_cons_of_mem _ k)
      · exact .inr ⟨List.mem_cons_of_mem _ k, n⟩

/-- What is not among the parts ps lies outside their set. -/
theorem Part.outside_of {ps : List Part} {p : Part} (h : p.among ps = false) : p.outside (partsMask ps) = true := by
  have nm : p ∉ ps := by
    intro k
    simp [Part.among, k] at h
  have nb : (partsMask ps).testBit p.bit = false := by
    refine Bool.eq_false_iff.2 fun c => ?_
    rcases partsMask_bit c with k | ⟨k, n, rfl⟩
    · exact nm k
    · simp [Part.among, k] at h
  unfold Part.outside
  rw [nb]
  cases p with
  | reg n =>
    have na : Part.anyReg ∉ ps := by
      intro k
      simp [Part.among, k] at h
    have b : (partsMask ps).testBit 31 = false := by
      refine Bool.eq_false_iff.2 fun c => ?_
      rcases partsMask_bit (p := .anyReg) c with k | ⟨k, _⟩
      · exact na k
      · exact na k
    simp [b]
  | _ => rfl

/-- Within the set of the parts ps, only those parts may differ. -/
theorem Within.only {ps : List Part} {s t : State} (h : Within (partsMask ps) s t) : onlyTouches ps s t :=
  ⟨h.pending, fun p q => h.parts p (Part.outside_of q)⟩

/-! The operations of Machine/Ops.lean on registers, draws, deadlines and outputs. -/

theorem setRaw_within {m : Nat} {s0 s : State} {off v : Nat} (b : Reach m off)
    (h : Within m s0 s) : Within m s0 (setRaw s off v) :=
  ⟨h.pending, h.emits, h.fresh, fun j => have i := h.inv j; ⟨by
    have := i.tables
    simp only [tablesWf, setRaw, Bool.and_eq_true] at this ⊢
    simp only [this, tset_wf, and_self], i.counters⟩, by
    intro p q
    have a := h.parts p q
    cases p with
    | reg n =>
      intro o e
      rw [← a o e]
      refine tget_tset_other ?_
      rintro rfl
      exact b.elim (fun k => Part.not_outside (p := .reg n) (by rw [← e]; exact k) q) fun k => by simp [Part.outside, k] at q
    | _ => exact a⟩

theorem fset_within {m : Nat} {s0 s : State} {f : Fld} {x : Nat} (b : Reach m f.off)
    (h : Within m s0 s) : Within m s0 (fset s f x) := setRaw_within b h

theorem setFlag_within {m : Nat} {s0 s : State} {f : Fld} {x : Bool} (b : Reach m f.off)
    (h : Within m s0 s) : Within m s0 (setFlag s f x) := fset_within b h

theorem setPair_within {m : Nat} {s0 s : State} {lo hi v : Nat} (b : Reach m lo)
    (c : Reach m hi) (h : Within m s0 s) : Within m s0 (setPair lo hi v s) :=
  setRaw_within c (setRaw_within b h)

theorem fsets_nil {m : Nat} {s0 s : State} (h : Within m s0 s) : Within m s0 (fsets s []) := h

theorem fsets_cons {m : Nat} {s0 s : State} {f : Fld} {x : Nat} {l : List (Fld × Nat)}
    (h : Within m s0 (fsets (fset s f x) l)) : Within m s0 (fsets s ((f, x) :: l)) := h

theorem fsets_within {m : Nat} {s0 s : State} {l : List (Fld × Nat)}
    (b : ∀ p ∈ l, Reach m p.1.off) (h : Within m s0 s) : Within m s0 (fsets s l) := by
  induction l generalizing s with
  | nil => exact h
  | cons p r ih =>
    exact ih (fun q hq => b q (List.mem_cons_of_mem _ hq)) (fset_within (b p List.mem_cons_self) h)

theorem draw_within {m : Nat} {s0 s : State} (b : m.testBit 2 = true) (h : Within m s0 s) : Within m s0 (draw s).2 :=
  ⟨h.pending, h.emits, Nat.le_succ_of_le h.fresh, fun j => have i := h.inv j; ⟨i.tables, i.counters⟩, by
    intro p q
    have a := h.parts p q
    cases p <;> first | exact a | exact absurd q (Part.not_outside b)⟩

theorem emit_within {m : Nat} {s0 s : State} {e : Emit} (b : m.testBit 5 = true) (h : Within m s0 s) :
    Within m s0 (emit s e) :=
  ⟨h.pending, h.emits.trans (List.prefix_append _ _), h.fresh, fun j => have i := h.inv j; ⟨i.tables, i.counters⟩, by
    intro p q
    have a := h.parts p q
    cases p <;> first | exact a | exact absurd q (Part.not_outside b)⟩

theorem foldl_within {α : Type} {m : Nat} {s0 s : State} {f : State → α → State} {l : List α}
    (k : ∀ t a, Within m s0 t → Within m s0 (f t a)) (h : Within m s0 s) : Within m s0 (l.foldl f s) := by
  induction l generalizing s with
  | nil => exact h
  | cons a r ih => exact ih (k _ _ h)

theorem forN_within {m n : Nat} {s0 s : State} {f : Nat → State → State}
    (k : ∀ j t, Within m s0 t → Within m s0 (f j t)) (h : Within m s0 s) : Within m s0 (forN n f s) :=
  foldl_within (fun _ _ => k _ _) h

theorem whenS_within {m : Nat} {s0 s : State} {b : Bool} {f : State → State}
    (k : ∀ t, Within m s0 t → Within m s0 (f t)) (h : Within m s0 s) : Within m s0 (whenS b f s) := by
  unfold whenS
  split
  · exact k _ h
  · exact h

end Sys2Proof.Machine
end

