-- ==== Sys2Proof/Laws/Map.lean ====
section
/-! SUPPORT. The row of the register map to which each register belongs, whatever its index. -/

namespace Sys2Proof.Machine

set_option Elab.async false

theorem rowNums0 : rowNum 0x8 = 2 ∧
    rowNum 0xc = 3 ∧
    rowNum 0x10 = 4 ∧
    rowNum 0x14 = 5 ∧
    rowNum 0x18 = 6 ∧
    rowNum 0x1c = 7 ∧
    rowNum 0x20 = 8 ∧
    rowNum 0x24 = 9 ∧
    rowNum 0x28 = 10 ∧
    rowNum 0x2c = 11 ∧
    rowNum 0x3c = 15 ∧
    rowNum 0x40 = 16 ∧
    rowNum 0x44 = 17 ∧
    rowNum 0x1000 = 18 ∧
    rowNum 0x1004 = 19 ∧
    rowNum 0x1008 = 20 ∧
    rowNum 0x1018 = 23 ∧
    rowNum 0x101c = 24 ∧
    rowNum 0x1020 = 25 ∧
    rowNum 0x1024 = 26 := by decide +kernel

theorem rowNums1 : rowNum 0x2000 = 27 ∧
    rowNum 0x2004 = 28 ∧
    rowNum 0x2008 = 29 ∧
    rowNum 0x200c = 30 ∧
    rowNum 0x2010 = 31 ∧
    rowNum 0x2014 = 32 ∧
    rowNum 0x2020 = 33 ∧
    rowNum 0x2024 = 34 ∧
    rowNum 0x2028 = 35 ∧
    rowNum 0x2040 = 39 ∧
    rowNum 0x2044 = 40 ∧
    rowNum 0x2048 = 41 ∧
    rowNum 0x204c = 42 ∧
    rowNum 0x2050 = 43 ∧
    rowNum 0x2054 = 44 ∧
    rowNum 0x2058 = 45 ∧
    rowNum 0x3004 = 49 ∧
    rowNum 0x3008 = 50 ∧
    rowNum 0x300c = 51 ∧
    rowNum 0x3040 = 52 := by decide +kernel

theorem rowNums2 : rowNum 0x3108 = 55 ∧
    rowNum 0x310c = 56 ∧
    rowNum 0x3118 = 59 ∧
    rowNum 0x3800 = 60 ∧
    rowNum 0x3804 = 61 ∧
    rowNum 0x3808 = 62 ∧
    rowNum 0x380c = 63 ∧
    rowNum 0x3c00 = 64 ∧
    rowNum 0x4000 = 65 ∧
    rowNum 0x4008 = 67 ∧
    rowNum 0x400c = 68 ∧
    rowNum 0x4010 = 69 ∧
    rowNum 0x4014 = 70 ∧
    rowNum 0x4020 = 71 ∧
    rowNum 0x4030 = 72 ∧
    rowNum 0x4034 = 73 ∧
    rowNum 0x4038 = 74 ∧
    rowNum 0x5000 = 75 ∧
    rowNum 0x5004 = 76 ∧
    rowNum 0x5008 = 77 := by decide +kernel

theorem rowNums3 : rowNum 0x6000 = 91 ∧
    rowNum 0x6004 = 92 ∧
    rowNum 0x6008 = 93 ∧
    rowNum 0x600c = 94 ∧
    rowNum 0x6010 = 95 ∧
    rowNum 0x6014 = 96 ∧
    rowNum 0x6018 = 97 ∧
    rowNum 0x601c = 98 ∧
    rowNum 0x6020 = 99 ∧
    rowNum 0x6024 = 100 ∧
    rowNum 0x6028 = 101 ∧
    rowNum 0x602c = 102 ∧
    rowNum 0x6030 = 103 ∧
    rowNum 0x6034 = 104 ∧
    rowNum 0x6038 = 105 ∧
    rowNum 0x6040 = 106 ∧
    rowNum 0x8000 = 107 ∧
    rowNum 0x8004 = 108 ∧
    rowNum 0x8008 = 109 ∧
    rowNum 0x800c = 110 := by decide +kernel

theorem rowNums4 : rowNum 0x8010 = 111 ∧
    rowNum 0x8014 = 112 ∧
    rowNum 0x8018 = 113 ∧
    rowNum 0x801c = 114 ∧
    rowNum 0xa000 = 115 ∧
    rowNum 0xa004 = 116 ∧
    rowNum 0xa008 = 117 ∧
    rowNum 0xa00c = 118 ∧
    rowNum 0xa010 = 119 ∧
    rowNum 0xa014 = 120 ∧
    rowNum 0xa100 = 121 ∧
    rowNum 0xa104 = 122 ∧
    rowNum 0xa10c = 124 ∧
    rowNum 0xaf00 = 125 ∧
    rowNum 0xb000 = 126 ∧
    rowNum 0xb004 = 127 ∧
    rowNum 0xb008 = 128 ∧
    rowNum 0xb00c = 129 ∧
    rowNum 0xb010 = 130 ∧
    rowNum 0xb014 = 131 := by decide +kernel

theorem rowNums5 : rowNum 0xb018 = 132 ∧
    rowNum 0xb01c = 133 ∧
    rowNum 0xb080 = 135 ∧
    rowNum 0xb500 = 138 ∧
    rowNum 0xb600 = 139 ∧
    rowNum 0xc000 = 140 ∧
    rowNum 0xc004 = 141 ∧
    rowNum 0xc008 = 142 ∧
    rowNum 0xc00c = 143 ∧
    rowNum 0xc010 = 144 ∧
    rowNum 0xc100 = 148 ∧
    rowNum 0xc104 = 149 ∧
    rowNum 0xc10c = 151 ∧
    rowNum 0xc114 = 153 ∧
    rowNum 0xc118 = 154 ∧
    rowNum 0xd000 = 156 ∧
    rowNum 0xd004 = 157 ∧
    rowNum 0xd008 = 158 ∧
    rowNum 0xd00c = 159 ∧
    rowNum 0xd010 = 160 := by decide +kernel

theorem rowNums6 : rowNum 0xd014 = 161 ∧
    rowNum 0xd018 = 162 ∧
    rowNum 0xd01c = 163 ∧
    rowNum 0xe000 = 164 ∧
    rowNum 0xe004 = 165 ∧
    rowNum 0xe008 = 166 ∧
    rowNum 0xe00c = 167 ∧
    rowNum 0xe010 = 168 ∧
    rowNum 0xe014 = 169 ∧
    rowNum 0xe018 = 170 ∧
    rowNum 0xe01c = 171 ∧
    rowNum 0xe020 = 172 ∧
    rowNum 0xe028 = 174 ∧
    rowNum 0xe02c = 175 ∧
    rowNum 0xe03c = 178 ∧
    rowNum 0xe040 = 179 ∧
    rowNum 0xe100 = 180 ∧
    rowNum 0xe104 = 181 ∧
    rowNum 0xe108 = 182 ∧
    rowNum 0xe114 = 185 := by decide +kernel

theorem rowNums7 : rowNum 0xe120 = 188 ∧
    rowNum 0xe12c = 191 ∧
    rowNum 0xe130 = 192 ∧
    rowNum 0xe138 = 194 ∧
    rowNum 0xe300 = 195 ∧
    rowNum 0xe304 = 196 ∧
    rowNum 0xe308 = 197 ∧
    rowNum 0xe30c = 198 ∧
    rowNum 0xe400 = 199 ∧
    rowNum 0xe408 = 201 ∧
    rowNum 0xe40c = 202 ∧
    rowNum 0xf000 = 203 ∧
    rowNum 0xf004 = 204 ∧
    rowNum 0xf008 = 205 ∧
    rowNum 0xf014 = 208 ∧
    rowNum 0xf018 = 209 ∧
    rowNum 0xf020 = 211 ∧
    rowNum 0xf024 = 212 ∧
    rowNum 0xf02c = 214 ∧
    rowNum 0xf030 = 215 := by decide +kernel

theorem rowNums8 : rowNum 0xf034 = 216 ∧
    rowNum 0xf038 = 217 ∧
    rowNum 0xf100 = 218 ∧
    rowNum 0xf104 = 219 ∧
    rowNum 0xf108 = 220 ∧
    rowNum 0xf10c = 221 ∧
    rowNum 0xf110 = 222 ∧
    rowNum 0xf114 = 223 ∧
    rowNum 0xf120 = 224 ∧
    rowNum 0x10000 = 225 ∧
    rowNum 0x10004 = 226 ∧
    rowNum 0x10008 = 227 ∧
    rowNum 0x1000c = 228 ∧
    rowNum 0x10010 = 229 ∧
    rowNum 0x10014 = 230 ∧
    rowNum 0x11000 = 231 ∧
    rowNum 0x11004 = 232 ∧
    rowNum 0x11008 = 233 ∧
    rowNum 0x1100c = 234 ∧
    rowNum 0x11010 = 235 := by decide +kernel

theorem rowNums9 : rowNum 0x11014 = 236 ∧
    rowNum 0x11018 = 237 ∧
    rowNum 0x1101c = 238 ∧
    rowNum 0x11080 = 240 ∧
    rowNum 0x12000 = 241 ∧
    rowNum 0x12004 = 242 ∧
    rowNum 0x12008 = 243 ∧
    rowNum 0x1200c = 244 ∧
    rowNum 0x12010 = 245 ∧
    rowNum 0x12014 = 246 ∧
    rowNum 0x12020 = 247 ∧
    rowNum 0x12040 = 248 ∧
    rowNum 0x12060 = 249 ∧
    rowNum 0x12100 = 250 ∧
    rowNum 0x12400 = 253 ∧
    rowNum 0x12404 = 254 ∧
    rowNum 0x12408 = 255 ∧
    rowNum 0x1240c = 256 ∧
    rowNum 0x12800 = 257 ∧
    rowNum 0x12804 = 258 := by decide +kernel

theorem rowNums10 : rowNum 0x12808 = 259 ∧
    rowNum 0x1280c = 260 ∧
    rowNum 0x12900 = 261 ∧
    rowNum 0x12904 = 262 ∧
    rowNum 0x12908 = 263 ∧
    rowNum 0x1290c = 264 ∧
    rowNum 0x12a00 = 265 ∧
    rowNum 0x13000 = 266 ∧
    rowNum 0x13004 = 267 ∧
    rowNum 0x13008 = 268 ∧
    rowNum 0x1300c = 269 ∧
    rowNum 0x13010 = 270 ∧
    rowNum 0x13014 = 271 ∧
    rowNum 0x13018 = 272 ∧
    rowNum 0x1301c = 273 ∧
    rowNum 0x13020 = 274 ∧
    rowNum 0x13024 = 275 ∧
    rowNum 0x13028 = 276 ∧
    rowNum 0x1302c = 277 ∧
    rowNum 0x13030 = 278 := by decide +kernel

theorem rowNums11 : rowNum 0x13034 = 279 ∧
    rowNum 0x13038 = 280 ∧
    rowNum 0x1303c = 281 ∧
    rowNum 0x13040 = 282 ∧
    rowNum 0x13044 = 283 ∧
    rowNum 0x13048 = 284 ∧
    rowNum 0x1304c = 285 ∧
    rowNum 0x13050 = 286 ∧
    rowNum 0x13054 = 287 ∧
    rowNum 0x13060 = 290 ∧
    rowNum 0x13064 = 291 ∧
    rowNum 0x14000 = 292 ∧
    rowNum 0x14004 = 293 ∧
    rowNum 0x14008 = 294 ∧
    rowNum 0x1400c = 295 ∧
    rowNum 0x14010 = 296 ∧
    rowNum 0x14014 = 297 := by decide +kernel

theorem rowsOf0_0 : 
    regRow (0x8) = 0x8 ∧
    regRow (0xc) = 0xc ∧
    regRow (0x10) = 0x10 ∧
    regRow (0x14) = 0x14 ∧
    regRow (0x18) = 0x18 ∧
    regRow (0x1c) = 0x1c ∧
    regRow (0x20) = 0x20 ∧
    regRow (0x24) = 0x24 ∧
    regRow (0x28) = 0x28 ∧
    regRow (0x2c) = 0x2c := by decide +kernel

theorem SYS_MODEREQ_row : rowIdx SYS_MODEREQ = 2 := (congrArg rowNum rowsOf0_0.1).trans rowNums0.1
theorem SYS_CMD_row : rowIdx SYS_CMD = 3 := (congrArg rowNum rowsOf0_0.2.1).trans rowNums0.2.1
theorem SYS_EVENTS_row : rowIdx SYS_EVENTS = 4 := (congrArg rowNum rowsOf0_0.2.2.1).trans rowNums0.2.2.1
theorem SYS_LOCK_row : rowIdx SYS_LOCK = 5 := (congrArg rowNum rowsOf0_0.2.2.2.1).trans rowNums0.2.2.2.1
theorem SYS_STARTS_row : rowIdx SYS_STARTS = 6 := (congrArg rowNum rowsOf0_0.2.2.2.2.1).trans rowNums0.2.2.2.2.1
theorem SYS_STARTSTAT_row : rowIdx SYS_STARTSTAT = 7 := (congrArg rowNum rowsOf0_0.2.2.2.2.2.1).trans rowNums0.2.2.2.2.2.1
theorem SYS_FAULT_row : rowIdx SYS_FAULT = 8 := (congrArg rowNum rowsOf0_0.2.2.2.2.2.2.1).trans rowNums0.2.2.2.2.2.2.1
theorem SYS_LIMP_row : rowIdx SYS_LIMP = 9 := (congrArg rowNum rowsOf0_0.2.2.2.2.2.2.2.1).trans rowNums0.2.2.2.2.2.2.2.1
theorem SYS_DIAG_row : rowIdx SYS_DIAG = 10 := (congrArg rowNum rowsOf0_0.2.2.2.2.2.2.2.2.1).trans rowNums0.2.2.2.2.2.2.2.2.1
theorem SYS_STRAP_row : rowIdx SYS_STRAP = 11 := (congrArg rowNum rowsOf0_0.2.2.2.2.2.2.2.2.2).trans rowNums0.2.2.2.2.2.2.2.2.2.1

theorem rowsOf0_1 : 
    regRow (0x3c) = 0x3c ∧
    regRow (0x40) = 0x40 ∧
    regRow (0x44) = 0x44 := by decide +kernel

theorem SYS_FWCMD_row : rowIdx SYS_FWCMD = 15 := (congrArg rowNum rowsOf0_1.1).trans rowNums0.2.2.2.2.2.2.2.2.2.2.1
theorem SYS_FWSTAT_row : rowIdx SYS_FWSTAT = 16 := (congrArg rowNum rowsOf0_1.2.1).trans rowNums0.2.2.2.2.2.2.2.2.2.2.2.1
theorem SYS_FWVER_row : rowIdx SYS_FWVER = 17 := (congrArg rowNum rowsOf0_1.2.2).trans rowNums0.2.2.2.2.2.2.2.2.2.2.2.2.1

theorem rowsOf1_0 : 
    regRow (0x1000) = 0x1000 ∧
    regRow (0x1004) = 0x1004 ∧
    regRow (0x1008) = 0x1008 ∧
    regRow (0x1018) = 0x1018 ∧
    regRow (0x101c) = 0x101c ∧
    regRow (0x1020) = 0x1020 ∧
    regRow (0x1024) = 0x1024 := by decide +kernel

theorem CLK_CTL_row : rowIdx CLK_CTL = 18 := (congrArg rowNum rowsOf1_0.1).trans rowNums0.2.2.2.2.2.2.2.2.2.2.2.2.2.1
theorem CLK_STATUS_row : rowIdx CLK_STATUS = 19 := (congrArg rowNum rowsOf1_0.2.1).trans rowNums0.2.2.2.2.2.2.2.2.2.2.2.2.2.2.1
theorem CLK_EVENTS_row : rowIdx CLK_EVENTS = 20 := (congrArg rowNum rowsOf1_0.2.2.1).trans rowNums0.2.2.2.2.2.2.2.2.2.2.2.2.2.2.2.1
theorem CLK_TIME_ERR_row : rowIdx CLK_TIME_ERR = 23 := (congrArg rowNum rowsOf1_0.2.2.2.1).trans rowNums0.2.2.2.2.2.2.2.2.2.2.2.2.2.2.2.2.1
theorem CLK_STEER_row : rowIdx CLK_STEER = 24 := (congrArg rowNum rowsOf1_0.2.2.2.2.1).trans rowNums0.2.2.2.2.2.2.2.2.2.2.2.2.2.2.2.2.2.1
theorem CLK_FAULT_TIME_LO_row : rowIdx CLK_FAULT_TIME_LO = 25 := (congrArg rowNum rowsOf1_0.2.2.2.2.2.1).trans rowNums0.2.2.2.2.2.2.2.2.2.2.2.2.2.2.2.2.2.2.1
theorem CLK_FAULT_TIME_HI_row : rowIdx CLK_FAULT_TIME_HI = 26 := (congrArg rowNum rowsOf1_0.2.2.2.2.2.2).trans rowNums0.2.2.2.2.2.2.2.2.2.2.2.2.2.2.2.2.2.2.2

theorem rowsOf2_0 : 
    regRow (0x2000) = 0x2000 ∧
    regRow (0x2004) = 0x2004 ∧
    regRow (0x2008) = 0x2008 ∧
    regRow (0x200c) = 0x200c ∧
    regRow (0x2010) = 0x2010 ∧
    regRow (0x2014) = 0x2014 ∧
    regRow (0x2020) = 0x2020 ∧
    regRow (0x2024) = 0x2024 ∧
    regRow (0x2028) = 0x2028 ∧
    regRow (0x2040) = 0x2040 := by decide +kernel

theorem PWR_CTL_row : rowIdx PWR_CTL = 27 := (congrArg rowNum rowsOf2_0.1).trans rowNums1.1
theorem PWR_STATUS_row : rowIdx PWR_STATUS = 28 := (congrArg rowNum rowsOf2_0.2.1).trans rowNums1.2.1
theorem PWR_EVENTS_row : rowIdx PWR_EVENTS = 29 := (congrArg rowNum rowsOf2_0.2.2.1).trans rowNums1.2.2.1
theorem PWR_VMON_row : rowIdx PWR_VMON = 30 := (congrArg rowNum rowsOf2_0.2.2.2.1).trans rowNums1.2.2.2.1
theorem PWR_VMEAS_row : rowIdx PWR_VMEAS = 31 := (congrArg rowNum rowsOf2_0.2.2.2.2.1).trans rowNums1.2.2.2.2.1
theorem PWR_RSTCAUSE_row : rowIdx PWR_RSTCAUSE = 32 := (congrArg rowNum rowsOf2_0.2.2.2.2.2.1).trans rowNums1.2.2.2.2.2.1
theorem PWR_AVG_row : rowIdx PWR_AVG = 33 := (congrArg rowNum rowsOf2_0.2.2.2.2.2.2.1).trans rowNums1.2.2.2.2.2.2.1
theorem PWR_PEAK_row : rowIdx PWR_PEAK = 34 := (congrArg rowNum rowsOf2_0.2.2.2.2.2.2.2.1).trans rowNums1.2.2.2.2.2.2.2.1
theorem PWR_SURV_row : rowIdx PWR_SURV = 35 := (congrArg rowNum rowsOf2_0.2.2.2.2.2.2.2.2.1).trans rowNums1.2.2.2.2.2.2.2.2.1
theorem PWR_LCORE_row : rowIdx PWR_LCORE = 39 := (congrArg rowNum rowsOf2_0.2.2.2.2.2.2.2.2.2).trans rowNums1.2.2.2.2.2.2.2.2.2.1

theorem rowsOf2_1 : 
    regRow (0x2044) = 0x2044 ∧
    regRow (0x2048) = 0x2048 ∧
    regRow (0x204c) = 0x204c ∧
    regRow (0x2050) = 0x2050 ∧
    regRow (0x2054) = 0x2054 ∧
    regRow (0x2058) = 0x2058 := by decide +kernel

theorem PWR_LLAMP_row : rowIdx PWR_LLAMP = 40 := (congrArg rowNum rowsOf2_1.1).trans rowNums1.2.2.2.2.2.2.2.2.2.2.1
theorem PWR_LMOT_row : rowIdx PWR_LMOT = 41 := (congrArg rowNum rowsOf2_1.2.1).trans rowNums1.2.2.2.2.2.2.2.2.2.2.2.1
theorem PWR_PLAN_row : rowIdx PWR_PLAN = 42 := (congrArg rowNum rowsOf2_1.2.2.1).trans rowNums1.2.2.2.2.2.2.2.2.2.2.2.2.1
theorem PWR_PEAKMEAS_row : rowIdx PWR_PEAKMEAS = 43 := (congrArg rowNum rowsOf2_1.2.2.2.1).trans rowNums1.2.2.2.2.2.2.2.2.2.2.2.2.2.1
theorem PWR_ETOT_LO_row : rowIdx PWR_ETOT_LO = 44 := (congrArg rowNum rowsOf2_1.2.2.2.2.1).trans rowNums1.2.2.2.2.2.2.2.2.2.2.2.2.2.2.1
theorem PWR_ETOT_HI_row : rowIdx PWR_ETOT_HI = 45 := (congrArg rowNum rowsOf2_1.2.2.2.2.2).trans rowNums1.2.2.2.2.2.2.2.2.2.2.2.2.2.2.2.1

theorem rowsOf3_0 : 
    regRow (0x3004) = 0x3004 ∧
    regRow (0x3008) = 0x3008 ∧
    regRow (0x300c) = 0x300c := by decide +kernel

theorem HOST_STATUS_row : rowIdx HOST_STATUS = 49 := (congrArg rowNum rowsOf3_0.1).trans rowNums1.2.2.2.2.2.2.2.2.2.2.2.2.2.2.2.2.1
theorem HOST_EVENTS_row : rowIdx HOST_EVENTS = 50 := (congrArg rowNum rowsOf3_0.2.1).trans rowNums1.2.2.2.2.2.2.2.2.2.2.2.2.2.2.2.2.2.1
theorem HOST_ERRINFO_row : rowIdx HOST_ERRINFO = 51 := (congrArg rowNum rowsOf3_0.2.2).trans rowNums1.2.2.2.2.2.2.2.2.2.2.2.2.2.2.2.2.2.2.1

theorem rowsOf4_0 : ∀ a < 2, 
    regRow (0x3c00 + a * 4) = 0x3c00 := by decide +kernel

theorem MSIX_PBA_row (i : Nat) : rowIdx (MSIX_PBA i) = 64 := (congrArg rowNum (rowsOf4_0 (i % 2) (Nat.mod_lt _ (by decide)))).trans rowNums2.2.2.2.2.2.2.2.1

theorem rowsOf5_0 : ∀ a < 19, 
    regRow (0x3108 + a * 32) = 0x3108 ∧
    regRow (0x310c + a * 32) = 0x310c ∧
    regRow (0x3118 + a * 32) = 0x3118 := by decide +kernel

theorem HOST_RCTL_row (i : Nat) : rowIdx (HOST_RCTL i) = 55 := (congrArg rowNum (rowsOf5_0 (i % 19) (Nat.mod_lt _ (by decide))).1).trans rowNums2.1
theorem HOST_RSTAT_row (i : Nat) : rowIdx (HOST_RSTAT i) = 56 := (congrArg rowNum (rowsOf5_0 (i % 19) (Nat.mod_lt _ (by decide))).2.1).trans rowNums2.2.1
theorem HOST_RHIDX_row (i : Nat) : rowIdx (HOST_RHIDX i) = 59 := (congrArg rowNum (rowsOf5_0 (i % 19) (Nat.mod_lt _ (by decide))).2.2).trans rowNums2.2.2.1

theorem rowsOf6_0 : ∀ a < 22, 
    regRow (0x3040 + a * 4) = 0x3040 := by decide +kernel

theorem HOST_ISRC_row (i : Nat) : rowIdx (HOST_ISRC i) = 52 := (congrArg rowNum (rowsOf6_0 (i % 22) (Nat.mod_lt _ (by decide)))).trans rowNums1.2.2.2.2.2.2.2.2.2.2.2.2.2.2.2.2.2.2.2

theorem rowsOf7_0 : ∀ a < 64, 
    regRow (0x3800 + a * 16) = 0x3800 ∧
    regRow (0x3804 + a * 16) = 0x3804 ∧
    regRow (0x3808 + a * 16) = 0x3808 ∧
    regRow (0x380c + a * 16) = 0x380c := by decide +kernel

theorem MSIX_ADDR_LO_row (i : Nat) : rowIdx (MSIX_ADDR_LO i) = 60 := (congrArg rowNum (rowsOf7_0 (i % 64) (Nat.mod_lt _ (by decide))).1).trans rowNums2.2.2.2.1
theorem MSIX_ADDR_HI_row (i : Nat) : rowIdx (MSIX_ADDR_HI i) = 61 := (congrArg rowNum (rowsOf7_0 (i % 64) (Nat.mod_lt _ (by decide))).2.1).trans rowNums2.2.2.2.2.1
theorem MSIX_DATA_row (i : Nat) : rowIdx (MSIX_DATA i) = 62 := (congrArg rowNum (rowsOf7_0 (i % 64) (Nat.mod_lt _ (by decide))).2.2.1).trans rowNums2.2.2.2.2.2.1
theorem MSIX_CTRL_row (i : Nat) : rowIdx (MSIX_CTRL i) = 63 := (congrArg rowNum (rowsOf7_0 (i % 64) (Nat.mod_lt _ (by decide))).2.2.2).trans rowNums2.2.2.2.2.2.2.1

theorem rowsOf8_0 : 
    regRow (0x4000) = 0x4000 ∧
    regRow (0x4008) = 0x4008 ∧
    regRow (0x400c) = 0x400c ∧
    regRow (0x4010) = 0x4010 ∧
    regRow (0x4014) = 0x4014 ∧
    regRow (0x4030) = 0x4030 ∧
    regRow (0x4034) = 0x4034 ∧
    regRow (0x4038) = 0x4038 := by decide +kernel

theorem LND_CTL_row : rowIdx LND_CTL = 65 := (congrArg rowNum rowsOf8_0.1).trans rowNums2.2.2.2.2.2.2.2.2.1
theorem LND_EVENTS_row : rowIdx LND_EVENTS = 67 := (congrArg rowNum rowsOf8_0.2.1).trans rowNums2.2.2.2.2.2.2.2.2.2.1
theorem LND_CMD_row : rowIdx LND_CMD = 68 := (congrArg rowNum rowsOf8_0.2.2.1).trans rowNums2.2.2.2.2.2.2.2.2.2.2.1
theorem LND_DATA_LO_row : rowIdx LND_DATA_LO = 69 := (congrArg rowNum rowsOf8_0.2.2.2.1).trans rowNums2.2.2.2.2.2.2.2.2.2.2.2.1
theorem LND_DATA_HI_row : rowIdx LND_DATA_HI = 70 := (congrArg rowNum rowsOf8_0.2.2.2.2.1).trans rowNums2.2.2.2.2.2.2.2.2.2.2.2.2.1
theorem LND_FLUSHCNT_row : rowIdx LND_FLUSHCNT = 72 := (congrArg rowNum rowsOf8_0.2.2.2.2.2.1).trans rowNums2.2.2.2.2.2.2.2.2.2.2.2.2.2.2.1
theorem LND_FLUSHT_LO_row : rowIdx LND_FLUSHT_LO = 73 := (congrArg rowNum rowsOf8_0.2.2.2.2.2.2.1).trans rowNums2.2.2.2.2.2.2.2.2.2.2.2.2.2.2.2.1
theorem LND_FLUSHT_HI_row : rowIdx LND_FLUSHT_HI = 74 := (congrArg rowNum rowsOf8_0.2.2.2.2.2.2.2).trans rowNums2.2.2.2.2.2.2.2.2.2.2.2.2.2.2.2.2.1

theorem rowsOf9_0 : ∀ a < 4, 
    regRow (0x4020 + a * 4) = 0x4020 := by decide +kernel

theorem LND_LOST_row (i : Nat) : rowIdx (LND_LOST i) = 71 := (congrArg rowNum (rowsOf9_0 (i % 4) (Nat.mod_lt _ (by decide)))).trans rowNums2.2.2.2.2.2.2.2.2.2.2.2.2.2.1

theorem rowsOf10_0 : 
    regRow (0x5000) = 0x5000 ∧
    regRow (0x5004) = 0x5004 ∧
    regRow (0x5008) = 0x5008 := by decide +kernel

theorem PMC_CTL_row : rowIdx PMC_CTL = 75 := (congrArg rowNum rowsOf10_0.1).trans rowNums2.2.2.2.2.2.2.2.2.2.2.2.2.2.2.2.2.2.1
theorem PMC_OVF_row : rowIdx PMC_OVF = 76 := (congrArg rowNum rowsOf10_0.2.1).trans rowNums2.2.2.2.2.2.2.2.2.2.2.2.2.2.2.2.2.2.2.1
theorem PMC_OVFEN_row : rowIdx PMC_OVFEN = 77 := (congrArg rowNum rowsOf10_0.2.2).trans rowNums2.2.2.2.2.2.2.2.2.2.2.2.2.2.2.2.2.2.2.2

theorem rowsOf11_0 : ∀ a < 16, 
    regRow (0x6000 + a * 256) = 0x6000 ∧
    regRow (0x6004 + a * 256) = 0x6004 ∧
    regRow (0x6008 + a * 256) = 0x6008 ∧
    regRow (0x600c + a * 256) = 0x600c ∧
    regRow (0x6010 + a * 256) = 0x6010 ∧
    regRow (0x6014 + a * 256) = 0x6014 ∧
    regRow (0x6018 + a * 256) = 0x6018 ∧
    regRow (0x601c + a * 256) = 0x601c ∧
    regRow (0x6020 + a * 256) = 0x6020 ∧
    regRow (0x6024 + a * 256) = 0x6024 := by decide +kernel

theorem HEAD_CTL_row (i : Nat) : rowIdx (HEAD_CTL i) = 91 := (congrArg rowNum (rowsOf11_0 (i % 16) (Nat.mod_lt _ (by decide))).1).trans rowNums3.1
theorem HEAD_STATUS_row (i : Nat) : rowIdx (HEAD_STATUS i) = 92 := (congrArg rowNum (rowsOf11_0 (i % 16) (Nat.mod_lt _ (by decide))).2.1).trans rowNums3.2.1
theorem HEAD_EVENTS_row (i : Nat) : rowIdx (HEAD_EVENTS i) = 93 := (congrArg rowNum (rowsOf11_0 (i % 16) (Nat.mod_lt _ (by decide))).2.2.1).trans rowNums3.2.2.1
theorem HEAD_TAPS_row (i : Nat) : rowIdx (HEAD_TAPS i) = 94 := (congrArg rowNum (rowsOf11_0 (i % 16) (Nat.mod_lt _ (by decide))).2.2.2.1).trans rowNums3.2.2.2.1
theorem HEAD_READ_row (i : Nat) : rowIdx (HEAD_READ i) = 95 := (congrArg rowNum (rowsOf11_0 (i % 16) (Nat.mod_lt _ (by decide))).2.2.2.2.1).trans rowNums3.2.2.2.2.1
theorem HEAD_CLK_row (i : Nat) : rowIdx (HEAD_CLK i) = 96 := (congrArg rowNum (rowsOf11_0 (i % 16) (Nat.mod_lt _ (by decide))).2.2.2.2.2.1).trans rowNums3.2.2.2.2.2.1
theorem HEAD_SP_row (i : Nat) : rowIdx (HEAD_SP i) = 97 := (congrArg rowNum (rowsOf11_0 (i % 16) (Nat.mod_lt _ (by decide))).2.2.2.2.2.2.1).trans rowNums3.2.2.2.2.2.2.1
theorem HEAD_TRIG_row (i : Nat) : rowIdx (HEAD_TRIG i) = 98 := (congrArg rowNum (rowsOf11_0 (i % 16) (Nat.mod_lt _ (by decide))).2.2.2.2.2.2.2.1).trans rowNums3.2.2.2.2.2.2.2.1
theorem HEAD_PITCH_row (i : Nat) : rowIdx (HEAD_PITCH i) = 99 := (congrArg rowNum (rowsOf11_0 (i % 16) (Nat.mod_lt _ (by decide))).2.2.2.2.2.2.2.2.1).trans rowNums3.2.2.2.2.2.2.2.2.1
theorem HEAD_TIMER_row (i : Nat) : rowIdx (HEAD_TIMER i) = 100 := (congrArg rowNum (rowsOf11_0 (i % 16) (Nat.mod_lt _ (by decide))).2.2.2.2.2.2.2.2.2).trans rowNums3.2.2.2.2.2.2.2.2.2.1

theorem rowsOf11_1 : ∀ a < 16, 
    regRow (0x6028 + a * 256) = 0x6028 ∧
    regRow (0x602c + a * 256) = 0x602c ∧
    regRow (0x6030 + a * 256) = 0x6030 ∧
    regRow (0x6034 + a * 256) = 0x6034 ∧
    regRow (0x6038 + a * 256) = 0x6038 := by decide +kernel

theorem HEAD_AUX_row (i : Nat) : rowIdx (HEAD_AUX i) = 101 := (congrArg rowNum (rowsOf11_1 (i % 16) (Nat.mod_lt _ (by decide))).1).trans rowNums3.2.2.2.2.2.2.2.2.2.2.1
theorem HEAD_TRIGSTAT_row (i : Nat) : rowIdx (HEAD_TRIGSTAT i) = 102 := (congrArg rowNum (rowsOf11_1 (i % 16) (Nat.mod_lt _ (by decide))).2.1).trans rowNums3.2.2.2.2.2.2.2.2.2.2.2.1
theorem HEAD_LINE_row (i : Nat) : rowIdx (HEAD_LINE i) = 103 := (congrArg rowNum (rowsOf11_1 (i % 16) (Nat.mod_lt _ (by decide))).2.2.1).trans rowNums3.2.2.2.2.2.2.2.2.2.2.2.2.1
theorem HEAD_PERIOD_row (i : Nat) : rowIdx (HEAD_PERIOD i) = 104 := (congrArg rowNum (rowsOf11_1 (i % 16) (Nat.mod_lt _ (by decide))).2.2.2.1).trans rowNums3.2.2.2.2.2.2.2.2.2.2.2.2.2.1
theorem HEAD_CONN_row (i : Nat) : rowIdx (HEAD_CONN i) = 105 := (congrArg rowNum (rowsOf11_1 (i % 16) (Nat.mod_lt _ (by decide))).2.2.2.2).trans rowNums3.2.2.2.2.2.2.2.2.2.2.2.2.2.2.1

theorem rowsOf12_0 : ∀ a < 16, ∀ b < 8, 
    regRow (0x6040 + a * 256 + b * 4) = 0x6040 := by decide +kernel

theorem HEAD_BAND_row (i : Nat) (j : Nat) : rowIdx (HEAD_BAND i j) = 106 := (congrArg rowNum (rowsOf12_0 (i % 16) (Nat.mod_lt _ (by decide)) (j % 8) (Nat.mod_lt _ (by decide)))).trans rowNums3.2.2.2.2.2.2.2.2.2.2.2.2.2.2.2.1

theorem rowsOf13_0 : ∀ a < 16, ∀ b < 16, 
    regRow (0x8000 + (16 * a + b) * 32) = 0x8000 ∧
    regRow (0x8004 + (16 * a + b) * 32) = 0x8004 ∧
    regRow (0x8008 + (16 * a + b) * 32) = 0x8008 ∧
    regRow (0x800c + (16 * a + b) * 32) = 0x800c ∧
    regRow (0x8010 + (16 * a + b) * 32) = 0x8010 ∧
    regRow (0x8014 + (16 * a + b) * 32) = 0x8014 ∧
    regRow (0x8018 + (16 * a + b) * 32) = 0x8018 ∧
    regRow (0x801c + (16 * a + b) * 32) = 0x801c := by decide +kernel

theorem TAP_CTL_row (i : Nat) : rowIdx (TAP_CTL i) = 107 := by
  have e := (rowsOf13_0 (i % 256 / 16) (by omega) (i % 256 % 16) (by omega)).1
  rw [Nat.div_add_mod] at e
  exact (congrArg rowNum e).trans rowNums3.2.2.2.2.2.2.2.2.2.2.2.2.2.2.2.2.1
theorem TAP_PHASE_row (i : Nat) : rowIdx (TAP_PHASE i) = 108 := by
  have e := (rowsOf13_0 (i % 256 / 16) (by omega) (i % 256 % 16) (by omega)).2.1
  rw [Nat.div_add_mod] at e
  exact (congrArg rowNum e).trans rowNums3.2.2.2.2.2.2.2.2.2.2.2.2.2.2.2.2.2.1
theorem TAP_CLAMP_row (i : Nat) : rowIdx (TAP_CLAMP i) = 109 := by
  have e := (rowsOf13_0 (i % 256 / 16) (by omega) (i % 256 % 16) (by omega)).2.2.1
  rw [Nat.div_add_mod] at e
  exact (congrArg rowNum e).trans rowNums3.2.2.2.2.2.2.2.2.2.2.2.2.2.2.2.2.2.2.1
theorem TAP_PGA_row (i : Nat) : rowIdx (TAP_PGA i) = 110 := by
  have e := (rowsOf13_0 (i % 256 / 16) (by omega) (i % 256 % 16) (by omega)).2.2.2.1
  rw [Nat.div_add_mod] at e
  exact (congrArg rowNum e).trans rowNums3.2.2.2.2.2.2.2.2.2.2.2.2.2.2.2.2.2.2.2
theorem TAP_STATUS_row (i : Nat) : rowIdx (TAP_STATUS i) = 111 := by
  have e := (rowsOf13_0 (i % 256 / 16) (by omega) (i % 256 % 16) (by omega)).2.2.2.2.1
  rw [Nat.div_add_mod] at e
  exact (congrArg rowNum e).trans rowNums4.1
theorem TAP_EVENTS_row (i : Nat) : rowIdx (TAP_EVENTS i) = 112 := by
  have e := (rowsOf13_0 (i % 256 / 16) (by omega) (i % 256 % 16) (by omega)).2.2.2.2.2.1
  rw [Nat.div_add_mod] at e
  exact (congrArg rowNum e).trans rowNums4.2.1
theorem TAP_OVR_row (i : Nat) : rowIdx (TAP_OVR i) = 113 := by
  have e := (rowsOf13_0 (i % 256 / 16) (by omega) (i % 256 % 16) (by omega)).2.2.2.2.2.2.1
  rw [Nat.div_add_mod] at e
  exact (congrArg rowNum e).trans rowNums4.2.2.1
theorem TAP_CM_row (i : Nat) : rowIdx (TAP_CM i) = 114 := by
  have e := (rowsOf13_0 (i % 256 / 16) (by omega) (i % 256 % 16) (by omega)).2.2.2.2.2.2.2
  rw [Nat.div_add_mod] at e
  exact (congrArg rowNum e).trans rowNums4.2.2.2.1

theorem rowsOf14_0 : 
    regRow (0xa000) = 0xa000 ∧
    regRow (0xa004) = 0xa004 ∧
    regRow (0xa008) = 0xa008 ∧
    regRow (0xa00c) = 0xa00c ∧
    regRow (0xa010) = 0xa010 ∧
    regRow (0xa014) = 0xa014 := by decide +kernel

theorem SLC_CTL_row : rowIdx SLC_CTL = 115 := (congrArg rowNum rowsOf14_0.1).trans rowNums4.2.2.2.2.1
theorem SLC_STATUS_row : rowIdx SLC_STATUS = 116 := (congrArg rowNum rowsOf14_0.2.1).trans rowNums4.2.2.2.2.2.1
theorem SLC_EVENTS_row : rowIdx SLC_EVENTS = 117 := (congrArg rowNum rowsOf14_0.2.2.1).trans rowNums4.2.2.2.2.2.2.1
theorem SLC_SUSP_row : rowIdx SLC_SUSP = 118 := (congrArg rowNum rowsOf14_0.2.2.2.1).trans rowNums4.2.2.2.2.2.2.2.1
theorem SLC_CMD_row : rowIdx SLC_CMD = 119 := (congrArg rowNum rowsOf14_0.2.2.2.2.1).trans rowNums4.2.2.2.2.2.2.2.2.1
theorem SLC_CMDSTAT_row : rowIdx SLC_CMDSTAT = 120 := (congrArg rowNum rowsOf14_0.2.2.2.2.2).trans rowNums4.2.2.2.2.2.2.2.2.2.1

theorem rowsOf15_0 : ∀ a < 16, 
    regRow (0xaf00 + a * 4) = 0xaf00 := by decide +kernel

theorem SLC_CMWIN_row (i : Nat) : rowIdx (SLC_CMWIN i) = 125 := (congrArg rowNum (rowsOf15_0 (i % 16) (Nat.mod_lt _ (by decide)))).trans rowNums4.2.2.2.2.2.2.2.2.2.2.2.2.2.1

theorem rowsOf16_0 : ∀ a < 16, 
    regRow (0xa100 + a * 16) = 0xa100 ∧
    regRow (0xa104 + a * 16) = 0xa104 ∧
    regRow (0xa10c + a * 16) = 0xa10c := by decide +kernel

theorem SLC_GSTATE_row (i : Nat) : rowIdx (SLC_GSTATE i) = 121 := (congrArg rowNum (rowsOf16_0 (i % 16) (Nat.mod_lt _ (by decide))).1).trans rowNums4.2.2.2.2.2.2.2.2.2.2.1
theorem SLC_GRETIRE_row (i : Nat) : rowIdx (SLC_GRETIRE i) = 122 := (congrArg rowNum (rowsOf16_0 (i % 16) (Nat.mod_lt _ (by decide))).2.1).trans rowNums4.2.2.2.2.2.2.2.2.2.2.2.1
theorem SLC_GLAST_row (i : Nat) : rowIdx (SLC_GLAST i) = 124 := (congrArg rowNum (rowsOf16_0 (i % 16) (Nat.mod_lt _ (by decide))).2.2).trans rowNums4.2.2.2.2.2.2.2.2.2.2.2.2.1

theorem rowsOf17_0 : 
    regRow (0xb000) = 0xb000 ∧
    regRow (0xb004) = 0xb004 ∧
    regRow (0xb008) = 0xb008 ∧
    regRow (0xb00c) = 0xb00c ∧
    regRow (0xb010) = 0xb010 ∧
    regRow (0xb014) = 0xb014 ∧
    regRow (0xb018) = 0xb018 ∧
    regRow (0xb01c) = 0xb01c := by decide +kernel

theorem PIPE_CTL_row : rowIdx PIPE_CTL = 126 := (congrArg rowNum rowsOf17_0.1).trans rowNums4.2.2.2.2.2.2.2.2.2.2.2.2.2.2.1
theorem PIPE_STATUS_row : rowIdx PIPE_STATUS = 127 := (congrArg rowNum rowsOf17_0.2.1).trans rowNums4.2.2.2.2.2.2.2.2.2.2.2.2.2.2.2.1
theorem PIPE_EVENTS_row : rowIdx PIPE_EVENTS = 128 := (congrArg rowNum rowsOf17_0.2.2.1).trans rowNums4.2.2.2.2.2.2.2.2.2.2.2.2.2.2.2.2.1
theorem PIPE_LANEMAP_row : rowIdx PIPE_LANEMAP = 129 := (congrArg rowNum rowsOf17_0.2.2.2.1).trans rowNums4.2.2.2.2.2.2.2.2.2.2.2.2.2.2.2.2.2.1
theorem PIPE_LANEFAIL_row : rowIdx PIPE_LANEFAIL = 130 := (congrArg rowNum rowsOf17_0.2.2.2.2.1).trans rowNums4.2.2.2.2.2.2.2.2.2.2.2.2.2.2.2.2.2.2.1
theorem PIPE_ECC_CE_row : rowIdx PIPE_ECC_CE = 131 := (congrArg rowNum rowsOf17_0.2.2.2.2.2.1).trans rowNums4.2.2.2.2.2.2.2.2.2.2.2.2.2.2.2.2.2.2.2
theorem PIPE_ECC_UE_row : rowIdx PIPE_ECC_UE = 132 := (congrArg rowNum rowsOf17_0.2.2.2.2.2.2.1).trans rowNums5.1
theorem PIPE_ECC_ROW_row : rowIdx PIPE_ECC_ROW = 133 := (congrArg rowNum rowsOf17_0.2.2.2.2.2.2.2).trans rowNums5.2.1

theorem rowsOf18_0 : ∀ a < 16, 
    regRow (0xb600 + a * 4) = 0xb600 := by decide +kernel

theorem PIPE_CLIP_row (i : Nat) : rowIdx (PIPE_CLIP i) = 139 := (congrArg rowNum (rowsOf18_0 (i % 16) (Nat.mod_lt _ (by decide)))).trans rowNums5.2.2.2.2.1

theorem rowsOf19_0 : ∀ a < 17, 
    regRow (0xb080 + a * 4) = 0xb080 := by decide +kernel

theorem PIPE_SPROW_row (i : Nat) : rowIdx (PIPE_SPROW i) = 135 := (congrArg rowNum (rowsOf19_0 (i % 17) (Nat.mod_lt _ (by decide)))).trans rowNums5.2.2.1

theorem rowsOf20_0 : ∀ a < 64, 
    regRow (0xb500 + a * 4) = 0xb500 := by decide +kernel

theorem PIPE_GEN_row (i : Nat) : rowIdx (PIPE_GEN i) = 138 := (congrArg rowNum (rowsOf20_0 (i % 64) (Nat.mod_lt _ (by decide)))).trans rowNums5.2.2.2.1

theorem rowsOf21_0 : 
    regRow (0xc000) = 0xc000 ∧
    regRow (0xc004) = 0xc004 ∧
    regRow (0xc008) = 0xc008 ∧
    regRow (0xc00c) = 0xc00c ∧
    regRow (0xc010) = 0xc010 := by decide +kernel

theorem SHD_CTL_row : rowIdx SHD_CTL = 140 := (congrArg rowNum rowsOf21_0.1).trans rowNums5.2.2.2.2.2.1
theorem SHD_STATUS_row : rowIdx SHD_STATUS = 141 := (congrArg rowNum rowsOf21_0.2.1).trans rowNums5.2.2.2.2.2.2.1
theorem SHD_EVENTS_row : rowIdx SHD_EVENTS = 142 := (congrArg rowNum rowsOf21_0.2.2.1).trans rowNums5.2.2.2.2.2.2.2.1
theorem SHD_LAST_row : rowIdx SHD_LAST = 143 := (congrArg rowNum rowsOf21_0.2.2.2.1).trans rowNums5.2.2.2.2.2.2.2.2.1
theorem SHD_LASTCNT_row : rowIdx SHD_LASTCNT = 144 := (congrArg rowNum rowsOf21_0.2.2.2.2).trans rowNums5.2.2.2.2.2.2.2.2.2.1

theorem rowsOf22_0 : ∀ a < 16, 
    regRow (0xc100 + a * 32) = 0xc100 ∧
    regRow (0xc104 + a * 32) = 0xc104 ∧
    regRow (0xc10c + a * 32) = 0xc10c ∧
    regRow (0xc114 + a * 32) = 0xc114 ∧
    regRow (0xc118 + a * 32) = 0xc118 := by decide +kernel

theorem SHD_HTRK_row (i : Nat) : rowIdx (SHD_HTRK i) = 148 := (congrArg rowNum (rowsOf22_0 (i % 16) (Nat.mod_lt _ (by decide))).1).trans rowNums5.2.2.2.2.2.2.2.2.2.2.1
theorem SHD_HREF_row (i : Nat) : rowIdx (SHD_HREF i) = 149 := (congrArg rowNum (rowsOf22_0 (i % 16) (Nat.mod_lt _ (by decide))).2.1).trans rowNums5.2.2.2.2.2.2.2.2.2.2.2.1
theorem SHD_HWHT_row (i : Nat) : rowIdx (SHD_HWHT i) = 151 := (congrArg rowNum (rowsOf22_0 (i % 16) (Nat.mod_lt _ (by decide))).2.2.1).trans rowNums5.2.2.2.2.2.2.2.2.2.2.2.2.1
theorem SHD_HPHS_row (i : Nat) : rowIdx (SHD_HPHS i) = 153 := (congrArg rowNum (rowsOf22_0 (i % 16) (Nat.mod_lt _ (by decide))).2.2.2.1).trans rowNums5.2.2.2.2.2.2.2.2.2.2.2.2.2.1
theorem SHD_HSTAT_row (i : Nat) : rowIdx (SHD_HSTAT i) = 154 := (congrArg rowNum (rowsOf22_0 (i % 16) (Nat.mod_lt _ (by decide))).2.2.2.2).trans rowNums5.2.2.2.2.2.2.2.2.2.2.2.2.2.2.1

theorem rowsOf23_0 : 
    regRow (0xd000) = 0xd000 ∧
    regRow (0xd004) = 0xd004 ∧
    regRow (0xd008) = 0xd008 ∧
    regRow (0xd00c) = 0xd00c ∧
    regRow (0xd010) = 0xd010 ∧
    regRow (0xd014) = 0xd014 ∧
    regRow (0xd018) = 0xd018 ∧
    regRow (0xd01c) = 0xd01c := by decide +kernel

theorem ATT_CTL_row : rowIdx ATT_CTL = 156 := (congrArg rowNum rowsOf23_0.1).trans rowNums5.2.2.2.2.2.2.2.2.2.2.2.2.2.2.2.1
theorem ATT_STATUS_row : rowIdx ATT_STATUS = 157 := (congrArg rowNum rowsOf23_0.2.1).trans rowNums5.2.2.2.2.2.2.2.2.2.2.2.2.2.2.2.2.1
theorem ATT_EVENTS_row : rowIdx ATT_EVENTS = 158 := (congrArg rowNum rowsOf23_0.2.2.1).trans rowNums5.2.2.2.2.2.2.2.2.2.2.2.2.2.2.2.2.2.1
theorem ATT_FLASH_row : rowIdx ATT_FLASH = 159 := (congrArg rowNum rowsOf23_0.2.2.2.1).trans rowNums5.2.2.2.2.2.2.2.2.2.2.2.2.2.2.2.2.2.2.1
theorem ATT_SEQ_LO_row : rowIdx ATT_SEQ_LO = 160 := (congrArg rowNum rowsOf23_0.2.2.2.2.1).trans rowNums5.2.2.2.2.2.2.2.2.2.2.2.2.2.2.2.2.2.2.2
theorem ATT_SEQ_HI_row : rowIdx ATT_SEQ_HI = 161 := (congrArg rowNum rowsOf23_0.2.2.2.2.2.1).trans rowNums6.1
theorem ATT_JRNL_row : rowIdx ATT_JRNL = 162 := (congrArg rowNum rowsOf23_0.2.2.2.2.2.2.1).trans rowNums6.2.1
theorem ATT_USED_row : rowIdx ATT_USED = 163 := (congrArg rowNum rowsOf23_0.2.2.2.2.2.2.2).trans rowNums6.2.2.1

theorem rowsOf24_0 : 
    regRow (0xe000) = 0xe000 ∧
    regRow (0xe004) = 0xe004 ∧
    regRow (0xe008) = 0xe008 ∧
    regRow (0xe00c) = 0xe00c ∧
    regRow (0xe010) = 0xe010 ∧
    regRow (0xe014) = 0xe014 ∧
    regRow (0xe018) = 0xe018 ∧
    regRow (0xe01c) = 0xe01c ∧
    regRow (0xe020) = 0xe020 ∧
    regRow (0xe028) = 0xe028 := by decide +kernel

theorem MOT_CTL_row : rowIdx MOT_CTL = 164 := (congrArg rowNum rowsOf24_0.1).trans rowNums6.2.2.2.1
theorem MOT_PACE_row : rowIdx MOT_PACE = 165 := (congrArg rowNum rowsOf24_0.2.1).trans rowNums6.2.2.2.2.1
theorem MOT_PACERATE_row : rowIdx MOT_PACERATE = 166 := (congrArg rowNum rowsOf24_0.2.2.1).trans rowNums6.2.2.2.2.2.1
theorem MOT_HOLDTO_row : rowIdx MOT_HOLDTO = 167 := (congrArg rowNum rowsOf24_0.2.2.2.1).trans rowNums6.2.2.2.2.2.2.1
theorem MOT_STATUS_row : rowIdx MOT_STATUS = 168 := (congrArg rowNum rowsOf24_0.2.2.2.2.1).trans rowNums6.2.2.2.2.2.2.2.1
theorem MOT_FILL_row : rowIdx MOT_FILL = 169 := (congrArg rowNum rowsOf24_0.2.2.2.2.2.1).trans rowNums6.2.2.2.2.2.2.2.2.1
theorem MOT_EVENTS_row : rowIdx MOT_EVENTS = 170 := (congrArg rowNum rowsOf24_0.2.2.2.2.2.2.1).trans rowNums6.2.2.2.2.2.2.2.2.2.1
theorem MOT_ADM_row : rowIdx MOT_ADM = 171 := (congrArg rowNum rowsOf24_0.2.2.2.2.2.2.2.1).trans rowNums6.2.2.2.2.2.2.2.2.2.2.1
theorem MOT_ADMKIB_row : rowIdx MOT_ADMKIB = 172 := (congrArg rowNum rowsOf24_0.2.2.2.2.2.2.2.2.1).trans rowNums6.2.2.2.2.2.2.2.2.2.2.2.1
theorem MOT_ADMSTAT_row : rowIdx MOT_ADMSTAT = 174 := (congrArg rowNum rowsOf24_0.2.2.2.2.2.2.2.2.2).trans rowNums6.2.2.2.2.2.2.2.2.2.2.2.2.1

theorem rowsOf24_1 : 
    regRow (0xe02c) = 0xe02c ∧
    regRow (0xe03c) = 0xe03c ∧
    regRow (0xe040) = 0xe040 := by decide +kernel

theorem MOT_PANTRY_row : rowIdx MOT_PANTRY = 175 := (congrArg rowNum rowsOf24_1.1).trans rowNums6.2.2.2.2.2.2.2.2.2.2.2.2.2.1
theorem MOT_DSSTATE_row : rowIdx MOT_DSSTATE = 178 := (congrArg rowNum rowsOf24_1.2.1).trans rowNums6.2.2.2.2.2.2.2.2.2.2.2.2.2.2.1
theorem MOT_TO_row : rowIdx MOT_TO = 179 := (congrArg rowNum rowsOf24_1.2.2).trans rowNums6.2.2.2.2.2.2.2.2.2.2.2.2.2.2.2.1

theorem rowsOf25_0 : ∀ a < 4, 
    regRow (0xe300 + a * 16) = 0xe300 ∧
    regRow (0xe304 + a * 16) = 0xe304 ∧
    regRow (0xe308 + a * 16) = 0xe308 ∧
    regRow (0xe30c + a * 16) = 0xe30c := by decide +kernel

theorem MOT_ECTL_row (i : Nat) : rowIdx (MOT_ECTL i) = 195 := (congrArg rowNum (rowsOf25_0 (i % 4) (Nat.mod_lt _ (by decide))).1).trans rowNums7.2.2.2.2.1
theorem MOT_ECNT_row (i : Nat) : rowIdx (MOT_ECNT i) = 196 := (congrArg rowNum (rowsOf25_0 (i % 4) (Nat.mod_lt _ (by decide))).2.1).trans rowNums7.2.2.2.2.2.1
theorem MOT_EIDX_row (i : Nat) : rowIdx (MOT_EIDX i) = 197 := (congrArg rowNum (rowsOf25_0 (i % 4) (Nat.mod_lt _ (by decide))).2.2.1).trans rowNums7.2.2.2.2.2.2.1
theorem MOT_EERR_row (i : Nat) : rowIdx (MOT_EERR i) = 198 := (congrArg rowNum (rowsOf25_0 (i % 4) (Nat.mod_lt _ (by decide))).2.2.2).trans rowNums7.2.2.2.2.2.2.2.1

theorem rowsOf26_0 : ∀ a < 8, 
    regRow (0xe100 + a * 64) = 0xe100 ∧
    regRow (0xe104 + a * 64) = 0xe104 ∧
    regRow (0xe108 + a * 64) = 0xe108 ∧
    regRow (0xe114 + a * 64) = 0xe114 ∧
    regRow (0xe120 + a * 64) = 0xe120 ∧
    regRow (0xe12c + a * 64) = 0xe12c ∧
    regRow (0xe130 + a * 64) = 0xe130 ∧
    regRow (0xe138 + a * 64) = 0xe138 := by decide +kernel

theorem MOT_ACTL_row (i : Nat) : rowIdx (MOT_ACTL i) = 180 := (congrArg rowNum (rowsOf26_0 (i % 8) (Nat.mod_lt _ (by decide))).1).trans rowNums6.2.2.2.2.2.2.2.2.2.2.2.2.2.2.2.2.1
theorem MOT_ASTATUS_row (i : Nat) : rowIdx (MOT_ASTATUS i) = 181 := (congrArg rowNum (rowsOf26_0 (i % 8) (Nat.mod_lt _ (by decide))).2.1).trans rowNums6.2.2.2.2.2.2.2.2.2.2.2.2.2.2.2.2.2.1
theorem MOT_AEVENTS_row (i : Nat) : rowIdx (MOT_AEVENTS i) = 182 := (congrArg rowNum (rowsOf26_0 (i % 8) (Nat.mod_lt _ (by decide))).2.2.1).trans rowNums6.2.2.2.2.2.2.2.2.2.2.2.2.2.2.2.2.2.2.1
theorem MOT_AVEL_row (i : Nat) : rowIdx (MOT_AVEL i) = 185 := (congrArg rowNum (rowsOf26_0 (i % 8) (Nat.mod_lt _ (by decide))).2.2.2.1).trans rowNums6.2.2.2.2.2.2.2.2.2.2.2.2.2.2.2.2.2.2.2
theorem MOT_AIREF_row (i : Nat) : rowIdx (MOT_AIREF i) = 188 := (congrArg rowNum (rowsOf26_0 (i % 8) (Nat.mod_lt _ (by decide))).2.2.2.2.1).trans rowNums7.1
theorem MOT_AFERR_row (i : Nat) : rowIdx (MOT_AFERR i) = 191 := (congrArg rowNum (rowsOf26_0 (i % 8) (Nat.mod_lt _ (by decide))).2.2.2.2.2.1).trans rowNums7.2.1
theorem MOT_ABACK_row (i : Nat) : rowIdx (MOT_ABACK i) = 192 := (congrArg rowNum (rowsOf26_0 (i % 8) (Nat.mod_lt _ (by decide))).2.2.2.2.2.2.1).trans rowNums7.2.2.1
theorem MOT_ACMD_row (i : Nat) : rowIdx (MOT_ACMD i) = 194 := (congrArg rowNum (rowsOf26_0 (i % 8) (Nat.mod_lt _ (by decide))).2.2.2.2.2.2.2).trans rowNums7.2.2.2.1

theorem rowsOf27_0 : ∀ a < 16, 
    regRow (0xe400 + a * 16) = 0xe400 ∧
    regRow (0xe408 + a * 16) = 0xe408 ∧
    regRow (0xe40c + a * 16) = 0xe40c := by decide +kernel

theorem MOT_HDOC_row (i : Nat) : rowIdx (MOT_HDOC i) = 199 := (congrArg rowNum (rowsOf27_0 (i % 16) (Nat.mod_lt _ (by decide))).1).trans rowNums7.2.2.2.2.2.2.2.2.1
theorem MOT_HEDGE_row (i : Nat) : rowIdx (MOT_HEDGE i) = 201 := (congrArg rowNum (rowsOf27_0 (i % 16) (Nat.mod_lt _ (by decide))).2.1).trans rowNums7.2.2.2.2.2.2.2.2.2.1
theorem MOT_HDOCNUM_row (i : Nat) : rowIdx (MOT_HDOCNUM i) = 202 := (congrArg rowNum (rowsOf27_0 (i % 16) (Nat.mod_lt _ (by decide))).2.2).trans rowNums7.2.2.2.2.2.2.2.2.2.2.1

theorem rowsOf28_0 : 
    regRow (0xf000) = 0xf000 ∧
    regRow (0xf004) = 0xf004 ∧
    regRow (0xf008) = 0xf008 ∧
    regRow (0xf014) = 0xf014 ∧
    regRow (0xf018) = 0xf018 ∧
    regRow (0xf020) = 0xf020 ∧
    regRow (0xf024) = 0xf024 ∧
    regRow (0xf02c) = 0xf02c ∧
    regRow (0xf030) = 0xf030 ∧
    regRow (0xf034) = 0xf034 := by decide +kernel

theorem LMP_CTL_row : rowIdx LMP_CTL = 203 := (congrArg rowNum rowsOf28_0.1).trans rowNums7.2.2.2.2.2.2.2.2.2.2.2.1
theorem LMP_STATUS_row : rowIdx LMP_STATUS = 204 := (congrArg rowNum rowsOf28_0.2.1).trans rowNums7.2.2.2.2.2.2.2.2.2.2.2.2.1
theorem LMP_EVENTS_row : rowIdx LMP_EVENTS = 205 := (congrArg rowNum rowsOf28_0.2.2.1).trans rowNums7.2.2.2.2.2.2.2.2.2.2.2.2.2.1
theorem LMP_VSET_row : rowIdx LMP_VSET = 208 := (congrArg rowNum rowsOf28_0.2.2.2.1).trans rowNums7.2.2.2.2.2.2.2.2.2.2.2.2.2.2.1
theorem LMP_HMIN_row : rowIdx LMP_HMIN = 209 := (congrArg rowNum rowsOf28_0.2.2.2.2.1).trans rowNums7.2.2.2.2.2.2.2.2.2.2.2.2.2.2.2.1
theorem LMP_IRAIL_row : rowIdx LMP_IRAIL = 211 := (congrArg rowNum rowsOf28_0.2.2.2.2.2.1).trans rowNums7.2.2.2.2.2.2.2.2.2.2.2.2.2.2.2.2.1
theorem LMP_DIAG_row : rowIdx LMP_DIAG = 212 := (congrArg rowNum rowsOf28_0.2.2.2.2.2.2.1).trans rowNums7.2.2.2.2.2.2.2.2.2.2.2.2.2.2.2.2.2.1
theorem LMP_CMD_row : rowIdx LMP_CMD = 214 := (congrArg rowNum rowsOf28_0.2.2.2.2.2.2.2.1).trans rowNums7.2.2.2.2.2.2.2.2.2.2.2.2.2.2.2.2.2.2.1
theorem LMP_CMDSTAT_row : rowIdx LMP_CMDSTAT = 215 := (congrArg rowNum rowsOf28_0.2.2.2.2.2.2.2.2.1).trans rowNums7.2.2.2.2.2.2.2.2.2.2.2.2.2.2.2.2.2.2.2
theorem LMP_LAST_row : rowIdx LMP_LAST = 216 := (congrArg rowNum rowsOf28_0.2.2.2.2.2.2.2.2.2).trans rowNums8.1

theorem rowsOf28_1 : 
    regRow (0xf038) = 0xf038 := by decide +kernel

theorem LMP_CNT_row : rowIdx LMP_CNT = 217 := (congrArg rowNum rowsOf28_1).trans rowNums8.2.1

theorem rowsOf29_0 : ∀ a < 16, 
    regRow (0xf100 + a * 64) = 0xf100 ∧
    regRow (0xf104 + a * 64) = 0xf104 ∧
    regRow (0xf108 + a * 64) = 0xf108 ∧
    regRow (0xf10c + a * 64) = 0xf10c ∧
    regRow (0xf110 + a * 64) = 0xf110 ∧
    regRow (0xf114 + a * 64) = 0xf114 := by decide +kernel

theorem LMP_SSTAT_row (i : Nat) : rowIdx (LMP_SSTAT i) = 218 := (congrArg rowNum (rowsOf29_0 (i % 16) (Nat.mod_lt _ (by decide))).1).trans rowNums8.2.2.1
theorem LMP_SMEAS_row (i : Nat) : rowIdx (LMP_SMEAS i) = 219 := (congrArg rowNum (rowsOf29_0 (i % 16) (Nat.mod_lt _ (by decide))).2.1).trans rowNums8.2.2.2.1
theorem LMP_SBIN0_row (i : Nat) : rowIdx (LMP_SBIN0 i) = 220 := (congrArg rowNum (rowsOf29_0 (i % 16) (Nat.mod_lt _ (by decide))).2.2.1).trans rowNums8.2.2.2.2.1
theorem LMP_SBIN1_row (i : Nat) : rowIdx (LMP_SBIN1 i) = 221 := (congrArg rowNum (rowsOf29_0 (i % 16) (Nat.mod_lt _ (by decide))).2.2.2.1).trans rowNums8.2.2.2.2.2.1
theorem LMP_SBIN2_row (i : Nat) : rowIdx (LMP_SBIN2 i) = 222 := (congrArg rowNum (rowsOf29_0 (i % 16) (Nat.mod_lt _ (by decide))).2.2.2.2.1).trans rowNums8.2.2.2.2.2.2.1
theorem LMP_SBIN3_row (i : Nat) : rowIdx (LMP_SBIN3 i) = 223 := (congrArg rowNum (rowsOf29_0 (i % 16) (Nat.mod_lt _ (by decide))).2.2.2.2.2).trans rowNums8.2.2.2.2.2.2.2.1

theorem rowsOf30_0 : ∀ a < 16, ∀ b < 8, 
    regRow (0xf120 + a * 64 + b * 4) = 0xf120 := by decide +kernel

theorem LMP_SDRV_row (i : Nat) (j : Nat) : rowIdx (LMP_SDRV i j) = 224 := (congrArg rowNum (rowsOf30_0 (i % 16) (Nat.mod_lt _ (by decide)) (j % 8) (Nat.mod_lt _ (by decide)))).trans rowNums8.2.2.2.2.2.2.2.2.1

theorem rowsOf31_0 : 
    regRow (0x10000) = 0x10000 ∧
    regRow (0x10004) = 0x10004 ∧
    regRow (0x10008) = 0x10008 ∧
    regRow (0x1000c) = 0x1000c ∧
    regRow (0x10010) = 0x10010 ∧
    regRow (0x10014) = 0x10014 := by decide +kernel

theorem LNK_CTL_row : rowIdx LNK_CTL = 225 := (congrArg rowNum rowsOf31_0.1).trans rowNums8.2.2.2.2.2.2.2.2.2.1
theorem LNK_STATUS_row : rowIdx LNK_STATUS = 226 := (congrArg rowNum rowsOf31_0.2.1).trans rowNums8.2.2.2.2.2.2.2.2.2.2.1
theorem LNK_EVENTS_row : rowIdx LNK_EVENTS = 227 := (congrArg rowNum rowsOf31_0.2.2.1).trans rowNums8.2.2.2.2.2.2.2.2.2.2.2.1
theorem LNK_CMD_row : rowIdx LNK_CMD = 228 := (congrArg rowNum rowsOf31_0.2.2.2.1).trans rowNums8.2.2.2.2.2.2.2.2.2.2.2.2.1
theorem LNK_CHK_row : rowIdx LNK_CHK = 229 := (congrArg rowNum rowsOf31_0.2.2.2.2.1).trans rowNums8.2.2.2.2.2.2.2.2.2.2.2.2.2.1
theorem LNK_ERRCNT_row : rowIdx LNK_ERRCNT = 230 := (congrArg rowNum rowsOf31_0.2.2.2.2.2).trans rowNums8.2.2.2.2.2.2.2.2.2.2.2.2.2.2.1

theorem rowsOf32_0 : 
    regRow (0x11000) = 0x11000 ∧
    regRow (0x11004) = 0x11004 ∧
    regRow (0x11008) = 0x11008 ∧
    regRow (0x1100c) = 0x1100c ∧
    regRow (0x11010) = 0x11010 ∧
    regRow (0x11014) = 0x11014 ∧
    regRow (0x11018) = 0x11018 ∧
    regRow (0x1101c) = 0x1101c := by decide +kernel

theorem HWY_CTL_row : rowIdx HWY_CTL = 231 := (congrArg rowNum rowsOf32_0.1).trans rowNums8.2.2.2.2.2.2.2.2.2.2.2.2.2.2.2.1
theorem HWY_STATUS_row : rowIdx HWY_STATUS = 232 := (congrArg rowNum rowsOf32_0.2.1).trans rowNums8.2.2.2.2.2.2.2.2.2.2.2.2.2.2.2.2.1
theorem HWY_EVENTS_row : rowIdx HWY_EVENTS = 233 := (congrArg rowNum rowsOf32_0.2.2.1).trans rowNums8.2.2.2.2.2.2.2.2.2.2.2.2.2.2.2.2.2.1
theorem HWY_CMD_row : rowIdx HWY_CMD = 234 := (congrArg rowNum rowsOf32_0.2.2.2.1).trans rowNums8.2.2.2.2.2.2.2.2.2.2.2.2.2.2.2.2.2.2.1
theorem HWY_LINK_row : rowIdx HWY_LINK = 235 := (congrArg rowNum rowsOf32_0.2.2.2.2.1).trans rowNums8.2.2.2.2.2.2.2.2.2.2.2.2.2.2.2.2.2.2.2
theorem HWY_ERRCNT_row : rowIdx HWY_ERRCNT = 236 := (congrArg rowNum rowsOf32_0.2.2.2.2.2.1).trans rowNums9.1
theorem HWY_MCTL_row : rowIdx HWY_MCTL = 237 := (congrArg rowNum rowsOf32_0.2.2.2.2.2.2.1).trans rowNums9.2.1
theorem HWY_MSTAT_row : rowIdx HWY_MSTAT = 238 := (congrArg rowNum rowsOf32_0.2.2.2.2.2.2.2).trans rowNums9.2.2.1

theorem rowsOf33_0 : ∀ a < 16, 
    regRow (0x11080 + a * 4) = 0x11080 := by decide +kernel

theorem HWY_MRX_row (i : Nat) : rowIdx (HWY_MRX i) = 240 := (congrArg rowNum (rowsOf33_0 (i % 16) (Nat.mod_lt _ (by decide)))).trans rowNums9.2.2.2.1

theorem rowsOf34_0 : 
    regRow (0x12000) = 0x12000 ∧
    regRow (0x12004) = 0x12004 ∧
    regRow (0x12008) = 0x12008 ∧
    regRow (0x1200c) = 0x1200c ∧
    regRow (0x12010) = 0x12010 ∧
    regRow (0x12014) = 0x12014 := by decide +kernel

theorem AUX_CTL_row : rowIdx AUX_CTL = 241 := (congrArg rowNum rowsOf34_0.1).trans rowNums9.2.2.2.2.1
theorem AUX_STATUS_row : rowIdx AUX_STATUS = 242 := (congrArg rowNum rowsOf34_0.2.1).trans rowNums9.2.2.2.2.2.1
theorem AUX_EVENTS_row : rowIdx AUX_EVENTS = 243 := (congrArg rowNum rowsOf34_0.2.2.1).trans rowNums9.2.2.2.2.2.2.1
theorem AUX_CALCMD_row : rowIdx AUX_CALCMD = 244 := (congrArg rowNum rowsOf34_0.2.2.2.1).trans rowNums9.2.2.2.2.2.2.2.1
theorem AUX_CALSTAT_row : rowIdx AUX_CALSTAT = 245 := (congrArg rowNum rowsOf34_0.2.2.2.2.1).trans rowNums9.2.2.2.2.2.2.2.2.1
theorem AUX_DROPS_row : rowIdx AUX_DROPS = 246 := (congrArg rowNum rowsOf34_0.2.2.2.2.2).trans rowNums9.2.2.2.2.2.2.2.2.2.1

theorem rowsOf35_0 : ∀ a < 2, 
    regRow (0x12060 + a * 4) = 0x12060 := by decide +kernel

theorem AUX_INJ_row (i : Nat) : rowIdx (AUX_INJ i) = 249 := (congrArg rowNum (rowsOf35_0 (i % 2) (Nat.mod_lt _ (by decide)))).trans rowNums9.2.2.2.2.2.2.2.2.2.2.2.2.1

theorem rowsOf36_0 : ∀ a < 2, ∀ b < 4, 
    regRow (0x12800 + a * 64 + b * 16) = 0x12800 ∧
    regRow (0x12804 + a * 64 + b * 16) = 0x12804 ∧
    regRow (0x12808 + a * 64 + b * 16) = 0x12808 ∧
    regRow (0x1280c + a * 64 + b * 16) = 0x1280c := by decide +kernel

theorem AUX_IRES_LO_row (i : Nat) (j : Nat) : rowIdx (AUX_IRES_LO i j) = 257 := (congrArg rowNum (rowsOf36_0 (i % 2) (Nat.mod_lt _ (by decide)) (j % 4) (Nat.mod_lt _ (by decide))).1).trans rowNums9.2.2.2.2.2.2.2.2.2.2.2.2.2.2.2.2.2.2.1
theorem AUX_IRES_HI_row (i : Nat) (j : Nat) : rowIdx (AUX_IRES_HI i j) = 258 := (congrArg rowNum (rowsOf36_0 (i % 2) (Nat.mod_lt _ (by decide)) (j % 4) (Nat.mod_lt _ (by decide))).2.1).trans rowNums9.2.2.2.2.2.2.2.2.2.2.2.2.2.2.2.2.2.2.2
theorem AUX_ITS_LO_row (i : Nat) (j : Nat) : rowIdx (AUX_ITS_LO i j) = 259 := (congrArg rowNum (rowsOf36_0 (i % 2) (Nat.mod_lt _ (by decide)) (j % 4) (Nat.mod_lt _ (by decide))).2.2.1).trans rowNums10.1
theorem AUX_ITS_HI_row (i : Nat) (j : Nat) : rowIdx (AUX_ITS_HI i j) = 260 := (congrArg rowNum (rowsOf36_0 (i % 2) (Nat.mod_lt _ (by decide)) (j % 4) (Nat.mod_lt _ (by decide))).2.2.2).trans rowNums10.2.1

theorem rowsOf37_0 : ∀ a < 4, 
    regRow (0x12020 + a * 4) = 0x12020 ∧
    regRow (0x12040 + a * 4) = 0x12040 := by decide +kernel

theorem AUX_CVCTL_row (i : Nat) : rowIdx (AUX_CVCTL i) = 247 := (congrArg rowNum (rowsOf37_0 (i % 4) (Nat.mod_lt _ (by decide))).1).trans rowNums9.2.2.2.2.2.2.2.2.2.2.1
theorem AUX_EXC_row (i : Nat) : rowIdx (AUX_EXC i) = 248 := (congrArg rowNum (rowsOf37_0 (i % 4) (Nat.mod_lt _ (by decide))).2).trans rowNums9.2.2.2.2.2.2.2.2.2.2.2.1

theorem rowsOf38_0 : ∀ a < 4, ∀ b < 8, 
    regRow (0x12a00 + a * 32 + b * 4) = 0x12a00 := by decide +kernel

theorem AUX_TRIM_row (i : Nat) (j : Nat) : rowIdx (AUX_TRIM i j) = 265 := (congrArg rowNum (rowsOf38_0 (i % 4) (Nat.mod_lt _ (by decide)) (j % 8) (Nat.mod_lt _ (by decide)))).trans rowNums10.2.2.2.2.2.2.1

theorem rowsOf39_0 : ∀ a < 4, ∀ b < 16, 
    regRow (0x12100 + a * 128 + b * 8) = 0x12100 := by decide +kernel

theorem AUX_SEQA_row (i : Nat) (j : Nat) : rowIdx (AUX_SEQA i j) = 250 := (congrArg rowNum (rowsOf39_0 (i % 4) (Nat.mod_lt _ (by decide)) (j % 16) (Nat.mod_lt _ (by decide)))).trans rowNums9.2.2.2.2.2.2.2.2.2.2.2.2.2.1

theorem rowsOf40_0 : ∀ a < 4, ∀ b < 16, 
    regRow (0x12400 + a * 256 + b * 16) = 0x12400 ∧
    regRow (0x12404 + a * 256 + b * 16) = 0x12404 ∧
    regRow (0x12408 + a * 256 + b * 16) = 0x12408 ∧
    regRow (0x1240c + a * 256 + b * 16) = 0x1240c := by decide +kernel

theorem AUX_RES_LO_row (i : Nat) (j : Nat) : rowIdx (AUX_RES_LO i j) = 253 := (congrArg rowNum (rowsOf40_0 (i % 4) (Nat.mod_lt _ (by decide)) (j % 16) (Nat.mod_lt _ (by decide))).1).trans rowNums9.2.2.2.2.2.2.2.2.2.2.2.2.2.2.1
theorem AUX_RES_HI_row (i : Nat) (j : Nat) : rowIdx (AUX_RES_HI i j) = 254 := (congrArg rowNum (rowsOf40_0 (i % 4) (Nat.mod_lt _ (by decide)) (j % 16) (Nat.mod_lt _ (by decide))).2.1).trans rowNums9.2.2.2.2.2.2.2.2.2.2.2.2.2.2.2.1
theorem AUX_TS_LO_row (i : Nat) (j : Nat) : rowIdx (AUX_TS_LO i j) = 255 := (congrArg rowNum (rowsOf40_0 (i % 4) (Nat.mod_lt _ (by decide)) (j % 16) (Nat.mod_lt _ (by decide))).2.2.1).trans rowNums9.2.2.2.2.2.2.2.2.2.2.2.2.2.2.2.2.1
theorem AUX_TS_HI_row (i : Nat) (j : Nat) : rowIdx (AUX_TS_HI i j) = 256 := (congrArg rowNum (rowsOf40_0 (i % 4) (Nat.mod_lt _ (by decide)) (j % 16) (Nat.mod_lt _ (by decide))).2.2.2).trans rowNums9.2.2.2.2.2.2.2.2.2.2.2.2.2.2.2.2.2.1

theorem rowsOf41_0 : ∀ a < 16, 
    regRow (0x12900 + a * 16) = 0x12900 ∧
    regRow (0x12904 + a * 16) = 0x12904 ∧
    regRow (0x12908 + a * 16) = 0x12908 ∧
    regRow (0x1290c + a * 16) = 0x1290c := by decide +kernel

theorem AUX_WC_CTL_row (i : Nat) : rowIdx (AUX_WC_CTL i) = 261 := (congrArg rowNum (rowsOf41_0 (i % 16) (Nat.mod_lt _ (by decide))).1).trans rowNums10.2.2.1
theorem AUX_WC_LO_row (i : Nat) : rowIdx (AUX_WC_LO i) = 262 := (congrArg rowNum (rowsOf41_0 (i % 16) (Nat.mod_lt _ (by decide))).2.1).trans rowNums10.2.2.2.1
theorem AUX_WC_HI_row (i : Nat) : rowIdx (AUX_WC_HI i) = 263 := (congrArg rowNum (rowsOf41_0 (i % 16) (Nat.mod_lt _ (by decide))).2.2.1).trans rowNums10.2.2.2.2.1
theorem AUX_WC_STAT_row (i : Nat) : rowIdx (AUX_WC_STAT i) = 264 := (congrArg rowNum (rowsOf41_0 (i % 16) (Nat.mod_lt _ (by decide))).2.2.2).trans rowNums10.2.2.2.2.2.1

theorem rowsOf42_0 : 
    regRow (0x13000) = 0x13000 ∧
    regRow (0x13004) = 0x13004 ∧
    regRow (0x13008) = 0x13008 ∧
    regRow (0x1300c) = 0x1300c ∧
    regRow (0x13010) = 0x13010 ∧
    regRow (0x13014) = 0x13014 ∧
    regRow (0x13018) = 0x13018 ∧
    regRow (0x1301c) = 0x1301c ∧
    regRow (0x13020) = 0x13020 ∧
    regRow (0x13024) = 0x13024 := by decide +kernel

theorem REC_CTL_row : rowIdx REC_CTL = 266 := (congrArg rowNum rowsOf42_0.1).trans rowNums10.2.2.2.2.2.2.2.1
theorem REC_STATUS_row : rowIdx REC_STATUS = 267 := (congrArg rowNum rowsOf42_0.2.1).trans rowNums10.2.2.2.2.2.2.2.2.1
theorem REC_EVENTS_row : rowIdx REC_EVENTS = 268 := (congrArg rowNum rowsOf42_0.2.2.1).trans rowNums10.2.2.2.2.2.2.2.2.2.1
theorem REC_CMD_row : rowIdx REC_CMD = 269 := (congrArg rowNum rowsOf42_0.2.2.2.1).trans rowNums10.2.2.2.2.2.2.2.2.2.2.1
theorem REC_SPAN_row : rowIdx REC_SPAN = 270 := (congrArg rowNum rowsOf42_0.2.2.2.2.1).trans rowNums10.2.2.2.2.2.2.2.2.2.2.2.1
theorem REC_TRIG_row : rowIdx REC_TRIG = 271 := (congrArg rowNum rowsOf42_0.2.2.2.2.2.1).trans rowNums10.2.2.2.2.2.2.2.2.2.2.2.2.1
theorem REC_MASK_LO_row : rowIdx REC_MASK_LO = 272 := (congrArg rowNum rowsOf42_0.2.2.2.2.2.2.1).trans rowNums10.2.2.2.2.2.2.2.2.2.2.2.2.2.1
theorem REC_MASK_HI_row : rowIdx REC_MASK_HI = 273 := (congrArg rowNum rowsOf42_0.2.2.2.2.2.2.2.1).trans rowNums10.2.2.2.2.2.2.2.2.2.2.2.2.2.2.1
theorem REC_PMASK_LO_row : rowIdx REC_PMASK_LO = 274 := (congrArg rowNum rowsOf42_0.2.2.2.2.2.2.2.2.1).trans rowNums10.2.2.2.2.2.2.2.2.2.2.2.2.2.2.2.1
theorem REC_PMASK_HI_row : rowIdx REC_PMASK_HI = 275 := (congrArg rowNum rowsOf42_0.2.2.2.2.2.2.2.2.2).trans rowNums10.2.2.2.2.2.2.2.2.2.2.2.2.2.2.2.2.1

theorem rowsOf42_1 : 
    regRow (0x13028) = 0x13028 ∧
    regRow (0x1302c) = 0x1302c ∧
    regRow (0x13030) = 0x13030 ∧
    regRow (0x13034) = 0x13034 ∧
    regRow (0x13038) = 0x13038 ∧
    regRow (0x1303c) = 0x1303c ∧
    regRow (0x13040) = 0x13040 ∧
    regRow (0x13044) = 0x13044 ∧
    regRow (0x13048) = 0x13048 ∧
    regRow (0x1304c) = 0x1304c := by decide +kernel

theorem REC_PVAL_LO_row : rowIdx REC_PVAL_LO = 276 := (congrArg rowNum rowsOf42_1.1).trans rowNums10.2.2.2.2.2.2.2.2.2.2.2.2.2.2.2.2.2.1
theorem REC_PVAL_HI_row : rowIdx REC_PVAL_HI = 277 := (congrArg rowNum rowsOf42_1.2.1).trans rowNums10.2.2.2.2.2.2.2.2.2.2.2.2.2.2.2.2.2.2.1
theorem REC_INFO_row : rowIdx REC_INFO = 278 := (congrArg rowNum rowsOf42_1.2.2.1).trans rowNums10.2.2.2.2.2.2.2.2.2.2.2.2.2.2.2.2.2.2.2
theorem REC_LOST_row : rowIdx REC_LOST = 279 := (congrArg rowNum rowsOf42_1.2.2.2.1).trans rowNums11.1
theorem REC_REJ_row : rowIdx REC_REJ = 280 := (congrArg rowNum rowsOf42_1.2.2.2.2.1).trans rowNums11.2.1
theorem REC_CAPNUM_row : rowIdx REC_CAPNUM = 281 := (congrArg rowNum rowsOf42_1.2.2.2.2.2.1).trans rowNums11.2.2.1
theorem REC_TTRIG_LO_row : rowIdx REC_TTRIG_LO = 282 := (congrArg rowNum rowsOf42_1.2.2.2.2.2.2.1).trans rowNums11.2.2.2.1
theorem REC_TTRIG_HI_row : rowIdx REC_TTRIG_HI = 283 := (congrArg rowNum rowsOf42_1.2.2.2.2.2.2.2.1).trans rowNums11.2.2.2.2.1
theorem REC_REJT_LO_row : rowIdx REC_REJT_LO = 284 := (congrArg rowNum rowsOf42_1.2.2.2.2.2.2.2.2.1).trans rowNums11.2.2.2.2.2.1
theorem REC_REJT_HI_row : rowIdx REC_REJT_HI = 285 := (congrArg rowNum rowsOf42_1.2.2.2.2.2.2.2.2.2).trans rowNums11.2.2.2.2.2.2.1

theorem rowsOf42_2 : 
    regRow (0x13050) = 0x13050 ∧
    regRow (0x13054) = 0x13054 ∧
    regRow (0x13060) = 0x13060 := by decide +kernel

theorem REC_DEAD_CAP_row : rowIdx REC_DEAD_CAP = 286 := (congrArg rowNum rowsOf42_2.1).trans rowNums11.2.2.2.2.2.2.2.1
theorem REC_DEAD_ARM_row : rowIdx REC_DEAD_ARM = 287 := (congrArg rowNum rowsOf42_2.2.1).trans rowNums11.2.2.2.2.2.2.2.2.1
theorem REC_RDIDX_row : rowIdx REC_RDIDX = 290 := (congrArg rowNum rowsOf42_2.2.2).trans rowNums11.2.2.2.2.2.2.2.2.2.1

theorem rowsOf43_0 : ∀ a < 4, 
    regRow (0x13064 + a * 4) = 0x13064 := by decide +kernel

theorem REC_RD_row (i : Nat) : rowIdx (REC_RD i) = 291 := (congrArg rowNum (rowsOf43_0 (i % 4) (Nat.mod_lt _ (by decide)))).trans rowNums11.2.2.2.2.2.2.2.2.2.2.1

theorem rowsOf44_0 : 
    regRow (0x14000) = 0x14000 ∧
    regRow (0x14004) = 0x14004 ∧
    regRow (0x14008) = 0x14008 ∧
    regRow (0x1400c) = 0x1400c ∧
    regRow (0x14010) = 0x14010 ∧
    regRow (0x14014) = 0x14014 := by decide +kernel

theorem CEL_STATUS_row : rowIdx CEL_STATUS = 292 := (congrArg rowNum rowsOf44_0.1).trans rowNums11.2.2.2.2.2.2.2.2.2.2.2.1
theorem CEL_EVENTS_row : rowIdx CEL_EVENTS = 293 := (congrArg rowNum rowsOf44_0.2.1).trans rowNums11.2.2.2.2.2.2.2.2.2.2.2.2.1
theorem CEL_CE_row : rowIdx CEL_CE = 294 := (congrArg rowNum rowsOf44_0.2.2.1).trans rowNums11.2.2.2.2.2.2.2.2.2.2.2.2.2.1
theorem CEL_UE_row : rowIdx CEL_UE = 295 := (congrArg rowNum rowsOf44_0.2.2.2.1).trans rowNums11.2.2.2.2.2.2.2.2.2.2.2.2.2.2.1
theorem CEL_ERRADDR_LO_row : rowIdx CEL_ERRADDR_LO = 296 := (congrArg rowNum rowsOf44_0.2.2.2.2.1).trans rowNums11.2.2.2.2.2.2.2.2.2.2.2.2.2.2.2.1
theorem CEL_ERRADDR_HI_row : rowIdx CEL_ERRADDR_HI = 297 := (congrArg rowNum rowsOf44_0.2.2.2.2.2).trans rowNums11.2.2.2.2.2.2.2.2.2.2.2.2.2.2.2.2

theorem SYS_EVENTS_DIAG_DONE_row : rowIdx SYS_EVENTS_DIAG_DONE.off = 4 := SYS_EVENTS_row
theorem SYS_EVENTS_FW_REVERT_row : rowIdx SYS_EVENTS_FW_REVERT.off = 4 := SYS_EVENTS_row
theorem SYS_EVENTS_FW_FAIL_row : rowIdx SYS_EVENTS_FW_FAIL.off = 4 := SYS_EVENTS_row
theorem SYS_EVENTS_FW_DONE_row : rowIdx SYS_EVENTS_FW_DONE.off = 4 := SYS_EVENTS_row
theorem SYS_EVENTS_HALT_row : rowIdx SYS_EVENTS_HALT.off = 4 := SYS_EVENTS_row
theorem SYS_EVENTS_LIMP_row : rowIdx SYS_EVENTS_LIMP.off = 4 := SYS_EVENTS_row
theorem SYS_EVENTS_START_FAIL_row : rowIdx SYS_EVENTS_START_FAIL.off = 4 := SYS_EVENTS_row
theorem SYS_EVENTS_REQ_REJ_row : rowIdx SYS_EVENTS_REQ_REJ.off = 4 := SYS_EVENTS_row
theorem SYS_EVENTS_MODE_CHG_row : rowIdx SYS_EVENTS_MODE_CHG.off = 4 := SYS_EVENTS_row
theorem SYS_LOCK_LOCK_row : rowIdx SYS_LOCK_LOCK.off = 5 := SYS_LOCK_row
theorem SYS_STARTS_FAILS_row : rowIdx SYS_STARTS_FAILS.off = 6 := SYS_STARTS_row
theorem SYS_STARTS_WARM_row : rowIdx SYS_STARTS_WARM.off = 6 := SYS_STARTS_row
theorem SYS_STARTS_COLD_row : rowIdx SYS_STARTS_COLD.off = 6 := SYS_STARTS_row
theorem SYS_STARTSTAT_VALID_row : rowIdx SYS_STARTSTAT_VALID.off = 7 := SYS_STARTSTAT_row
theorem SYS_STARTSTAT_FKIND_row : rowIdx SYS_STARTSTAT_FKIND.off = 7 := SYS_STARTSTAT_row
theorem SYS_STARTSTAT_FSTEP_row : rowIdx SYS_STARTSTAT_FSTEP.off = 7 := SYS_STARTSTAT_row
theorem SYS_STARTSTAT_CODE_row : rowIdx SYS_STARTSTAT_CODE.off = 7 := SYS_STARTSTAT_row
theorem SYS_STARTSTAT_STEP_row : rowIdx SYS_STARTSTAT_STEP.off = 7 := SYS_STARTSTAT_row
theorem SYS_STARTSTAT_KIND_row : rowIdx SYS_STARTSTAT_KIND.off = 7 := SYS_STARTSTAT_row
theorem SYS_FAULT_VALID_row : rowIdx SYS_FAULT_VALID.off = 8 := SYS_FAULT_row
theorem SYS_FAULT_SRC_row : rowIdx SYS_FAULT_SRC.off = 8 := SYS_FAULT_row
theorem SYS_FAULT_CODE_row : rowIdx SYS_FAULT_CODE.off = 8 := SYS_FAULT_row
theorem SYS_LIMP_CEL_row : rowIdx SYS_LIMP_CEL.off = 9 := SYS_LIMP_row
theorem SYS_LIMP_HWY_row : rowIdx SYS_LIMP_HWY.off = 9 := SYS_LIMP_row
theorem SYS_LIMP_LNK_row : rowIdx SYS_LIMP_LNK.off = 9 := SYS_LIMP_row
theorem SYS_LIMP_AUX_row : rowIdx SYS_LIMP_AUX.off = 9 := SYS_LIMP_row
theorem SYS_LIMP_LAMP_row : rowIdx SYS_LIMP_LAMP.off = 9 := SYS_LIMP_row
theorem SYS_LIMP_LANE_row : rowIdx SYS_LIMP_LANE.off = 9 := SYS_LIMP_row
theorem SYS_LIMP_SLICE_row : rowIdx SYS_LIMP_SLICE.off = 9 := SYS_LIMP_row
theorem SYS_DIAG_BUSY_row : rowIdx SYS_DIAG_BUSY.off = 10 := SYS_DIAG_row
theorem SYS_DIAG_PASS_row : rowIdx SYS_DIAG_PASS.off = 10 := SYS_DIAG_row
theorem SYS_DIAG_FAIL_row : rowIdx SYS_DIAG_FAIL.off = 10 := SYS_DIAG_row
theorem SYS_STRAP_HWY_MASTER_N_row : rowIdx SYS_STRAP_HWY_MASTER_N.off = 11 := SYS_STRAP_row
theorem SYS_FWSTAT_BUSY_row : rowIdx SYS_FWSTAT_BUSY.off = 16 := SYS_FWSTAT_row
theorem SYS_FWSTAT_ACTIVE_row : rowIdx SYS_FWSTAT_ACTIVE.off = 16 := SYS_FWSTAT_row
theorem SYS_FWSTAT_SWAP_PEND_row : rowIdx SYS_FWSTAT_SWAP_PEND.off = 16 := SYS_FWSTAT_row
theorem SYS_FWSTAT_CODE_row : rowIdx SYS_FWSTAT_CODE.off = 16 := SYS_FWSTAT_row
theorem SYS_FWVER_VERSION_row : rowIdx SYS_FWVER_VERSION.off = 17 := SYS_FWVER_row
theorem CLK_CTL_XSYNC_EDGE_row : rowIdx CLK_CTL_XSYNC_EDGE.off = 18 := CLK_CTL_row
theorem CLK_CTL_XSYNC_EN_row : rowIdx CLK_CTL_XSYNC_EN.off = 18 := CLK_CTL_row
theorem CLK_STATUS_HOPS_row : rowIdx CLK_STATUS_HOPS.off = 19 := CLK_STATUS_row
theorem CLK_STATUS_TIME_ALIGNED_row : rowIdx CLK_STATUS_TIME_ALIGNED.off = 19 := CLK_STATUS_row
theorem CLK_STATUS_PCIE_REF_OK_row : rowIdx CLK_STATUS_PCIE_REF_OK.off = 19 := CLK_STATUS_row
theorem CLK_STATUS_CEL_LOCK_row : rowIdx CLK_STATUS_CEL_LOCK.off = 19 := CLK_STATUS_row
theorem CLK_STATUS_ROOT_LOCK_row : rowIdx CLK_STATUS_ROOT_LOCK.off = 19 := CLK_STATUS_row
theorem CLK_STATUS_REF_OK_row : rowIdx CLK_STATUS_REF_OK.off = 19 := CLK_STATUS_row
theorem CLK_EVENTS_PCIE_REF_LOST_row : rowIdx CLK_EVENTS_PCIE_REF_LOST.off = 20 := CLK_EVENTS_row
theorem CLK_EVENTS_CEL_UNLOCK_row : rowIdx CLK_EVENTS_CEL_UNLOCK.off = 20 := CLK_EVENTS_row
theorem CLK_EVENTS_ROOT_UNLOCK_row : rowIdx CLK_EVENTS_ROOT_UNLOCK.off = 20 := CLK_EVENTS_row
theorem CLK_EVENTS_REF_LOST_row : rowIdx CLK_EVENTS_REF_LOST.off = 20 := CLK_EVENTS_row
theorem CLK_TIME_ERR_ERR_row : rowIdx CLK_TIME_ERR_ERR.off = 23 := CLK_TIME_ERR_row
theorem CLK_STEER_STEER_row : rowIdx CLK_STEER_STEER.off = 24 := CLK_STEER_row
theorem PWR_CTL_PANTRY_EN_row : rowIdx PWR_CTL_PANTRY_EN.off = 27 := PWR_CTL_row
theorem PWR_CTL_REPORT_row : rowIdx PWR_CTL_REPORT.off = 27 := PWR_CTL_row
theorem PWR_STATUS_WARN_row : rowIdx PWR_STATUS_WARN.off = 28 := PWR_STATUS_row
theorem PWR_STATUS_BG_OK_row : rowIdx PWR_STATUS_BG_OK.off = 28 := PWR_STATUS_row
theorem PWR_STATUS_OVER_row : rowIdx PWR_STATUS_OVER.off = 28 := PWR_STATUS_row
theorem PWR_STATUS_TJ_HIGH_row : rowIdx PWR_STATUS_TJ_HIGH.off = 28 := PWR_STATUS_row
theorem PWR_STATUS_LEVEL_row : rowIdx PWR_STATUS_LEVEL.off = 28 := PWR_STATUS_row
theorem PWR_STATUS_RAIL_OK_row : rowIdx PWR_STATUS_RAIL_OK.off = 28 := PWR_STATUS_row
theorem PWR_EVENTS_OVER_row : rowIdx PWR_EVENTS_OVER.off = 29 := PWR_EVENTS_row
theorem PWR_EVENTS_SHED_CHG_row : rowIdx PWR_EVENTS_SHED_CHG.off = 29 := PWR_EVENTS_row
theorem PWR_EVENTS_TJ_HIGH_row : rowIdx PWR_EVENTS_TJ_HIGH.off = 29 := PWR_EVENTS_row
theorem PWR_EVENTS_BG_FAULT_row : rowIdx PWR_EVENTS_BG_FAULT.off = 29 := PWR_EVENTS_row
theorem PWR_EVENTS_OV_row : rowIdx PWR_EVENTS_OV.off = 29 := PWR_EVENTS_row
theorem PWR_EVENTS_WARN_CLR_row : rowIdx PWR_EVENTS_WARN_CLR.off = 29 := PWR_EVENTS_row
theorem PWR_EVENTS_WARN_row : rowIdx PWR_EVENTS_WARN.off = 29 := PWR_EVENTS_row
theorem PWR_VMON_HYST_PCT_row : rowIdx PWR_VMON_HYST_PCT.off = 30 := PWR_VMON_row
theorem PWR_VMON_WARN_PCT_row : rowIdx PWR_VMON_WARN_PCT.off = 30 := PWR_VMON_row
theorem PWR_VMEAS_VMON_row : rowIdx PWR_VMEAS_VMON.off = 31 := PWR_VMEAS_row
theorem PWR_RSTCAUSE_PIN_row : rowIdx PWR_RSTCAUSE_PIN.off = 32 := PWR_RSTCAUSE_row
theorem PWR_RSTCAUSE_UV_row : rowIdx PWR_RSTCAUSE_UV.off = 32 := PWR_RSTCAUSE_row
theorem HOST_STATUS_LINK_UP_row : rowIdx HOST_STATUS_LINK_UP.off = 49 := HOST_STATUS_row
theorem HOST_STATUS_BME_row : rowIdx HOST_STATUS_BME.off = 49 := HOST_STATUS_row
theorem HOST_STATUS_WIDTH_row : rowIdx HOST_STATUS_WIDTH.off = 49 := HOST_STATUS_row
theorem HOST_STATUS_SPEED_row : rowIdx HOST_STATUS_SPEED.off = 49 := HOST_STATUS_row
theorem HOST_EVENTS_CPL_STALL_row : rowIdx HOST_EVENTS_CPL_STALL.off = 50 := HOST_EVENTS_row
theorem HOST_EVENTS_WR_REJ_row : rowIdx HOST_EVENTS_WR_REJ.off = 50 := HOST_EVENTS_row
theorem HOST_EVENTS_ACC_ERR_row : rowIdx HOST_EVENTS_ACC_ERR.off = 50 := HOST_EVENTS_row
theorem HOST_EVENTS_LINK_DOWN_row : rowIdx HOST_EVENTS_LINK_DOWN.off = 50 := HOST_EVENTS_row
theorem HOST_EVENTS_DMA_RD_ERR_row : rowIdx HOST_EVENTS_DMA_RD_ERR.off = 50 := HOST_EVENTS_row
theorem HOST_EVENTS_FETCH_ERR_row : rowIdx HOST_EVENTS_FETCH_ERR.off = 50 := HOST_EVENTS_row
theorem HOST_EVENTS_DB_ERR_row : rowIdx HOST_EVENTS_DB_ERR.off = 50 := HOST_EVENTS_row
theorem HOST_ERRINFO_VALID_row : rowIdx HOST_ERRINFO_VALID.off = 51 := HOST_ERRINFO_row
theorem HOST_ERRINFO_KIND_row : rowIdx HOST_ERRINFO_KIND.off = 51 := HOST_ERRINFO_row
theorem HOST_ERRINFO_RING_row : rowIdx HOST_ERRINFO_RING.off = 51 := HOST_ERRINFO_row
theorem HOST_ERRINFO_IDX_row : rowIdx HOST_ERRINFO_IDX.off = 51 := HOST_ERRINFO_row
theorem HOST_ISRC_VEC_row (i : Nat) : rowIdx (HOST_ISRC_VEC i).off = 52 := HOST_ISRC_row i
theorem HOST_ISRC_HOLDOFF_row (i : Nat) : rowIdx (HOST_ISRC_HOLDOFF i).off = 52 := HOST_ISRC_row i
theorem HOST_RCTL_EN_row (i : Nat) : rowIdx (HOST_RCTL_EN i).off = 55 := HOST_RCTL_row i
theorem HOST_RCTL_LOG2N_row (i : Nat) : rowIdx (HOST_RCTL_LOG2N i).off = 55 := HOST_RCTL_row i
theorem HOST_RSTAT_IDLE_row (i : Nat) : rowIdx (HOST_RSTAT_IDLE i).off = 56 := HOST_RSTAT_row i
theorem HOST_RSTAT_ERR_row (i : Nat) : rowIdx (HOST_RSTAT_ERR i).off = 56 := HOST_RSTAT_row i
theorem HOST_RSTAT_DIDX_row (i : Nat) : rowIdx (HOST_RSTAT_DIDX i).off = 56 := HOST_RSTAT_row i
theorem HOST_RHIDX_HIDX_row (i : Nat) : rowIdx (HOST_RHIDX_HIDX i).off = 59 := HOST_RHIDX_row i
theorem LND_CTL_DMA_EN_row : rowIdx LND_CTL_DMA_EN.off = 65 := LND_CTL_row
theorem LND_EVENTS_WR_REJ_row : rowIdx LND_EVENTS_WR_REJ.off = 67 := LND_EVENTS_row
theorem LND_EVENTS_FLUSHED_row : rowIdx LND_EVENTS_FLUSHED.off = 67 := LND_EVENTS_row
theorem LND_EVENTS_LOST_row : rowIdx LND_EVENTS_LOST.off = 67 := LND_EVENTS_row
theorem PMC_CTL_FREEZE_row : rowIdx PMC_CTL_FREEZE.off = 75 := PMC_CTL_row
theorem PMC_OVF_OVF_row : rowIdx PMC_OVF_OVF.off = 76 := PMC_OVF_row
theorem PMC_OVFEN_OVFEN_row : rowIdx PMC_OVFEN_OVFEN.off = 77 := PMC_OVFEN_row
theorem HEAD_CTL_WARMUP_row (i : Nat) : rowIdx (HEAD_CTL_WARMUP i).off = 91 := HEAD_CTL_row i
theorem HEAD_CTL_CONN_ACT_row (i : Nat) : rowIdx (HEAD_CTL_CONN_ACT i).off = 91 := HEAD_CTL_row i
theorem HEAD_CTL_READ_MODE_row (i : Nat) : rowIdx (HEAD_CTL_READ_MODE i).off = 91 := HEAD_CTL_row i
theorem HEAD_CTL_COMMIT_row (i : Nat) : rowIdx (HEAD_CTL_COMMIT i).off = 91 := HEAD_CTL_row i
theorem HEAD_CTL_ONLINE_row (i : Nat) : rowIdx (HEAD_CTL_ONLINE i).off = 91 := HEAD_CTL_row i
theorem HEAD_STATUS_CFG_ERR_row (i : Nat) : rowIdx (HEAD_STATUS_CFG_ERR i).off = 92 := HEAD_STATUS_row i
theorem HEAD_STATUS_CM_OUT_row (i : Nat) : rowIdx (HEAD_STATUS_CM_OUT i).off = 92 := HEAD_STATUS_row i
theorem HEAD_STATUS_BAND_row (i : Nat) : rowIdx (HEAD_STATUS_BAND i).off = 92 := HEAD_STATUS_row i
theorem HEAD_STATUS_STATE_row (i : Nat) : rowIdx (HEAD_STATUS_STATE i).off = 92 := HEAD_STATUS_row i
theorem HEAD_EVENTS_WR_REJ_row (i : Nat) : rowIdx (HEAD_EVENTS_WR_REJ i).off = 93 := HEAD_EVENTS_row i
theorem HEAD_EVENTS_START_FAIL_row (i : Nat) : rowIdx (HEAD_EVENTS_START_FAIL i).off = 93 := HEAD_EVENTS_row i
theorem HEAD_EVENTS_TRIG_OVR_row (i : Nat) : rowIdx (HEAD_EVENTS_TRIG_OVR i).off = 93 := HEAD_EVENTS_row i
theorem HEAD_EVENTS_CONN_FAULT_row (i : Nat) : rowIdx (HEAD_EVENTS_CONN_FAULT i).off = 93 := HEAD_EVENTS_row i
theorem HEAD_TAPS_FIRST_TAP_row (i : Nat) : rowIdx (HEAD_TAPS_FIRST_TAP i).off = 94 := HEAD_TAPS_row i
theorem HEAD_READ_DARK_row (i : Nat) : rowIdx (HEAD_READ_DARK i).off = 95 := HEAD_READ_row i
theorem HEAD_READ_PPT_row (i : Nat) : rowIdx (HEAD_READ_PPT i).off = 95 := HEAD_READ_row i
theorem HEAD_CLK_DIV_row (i : Nat) : rowIdx (HEAD_CLK_DIV i).off = 96 := HEAD_CLK_row i
theorem HEAD_TRIG_TRIG_SRC_row (i : Nat) : rowIdx (HEAD_TRIG_TRIG_SRC i).off = 98 := HEAD_TRIG_row i
theorem HEAD_TRIG_AXIS_row (i : Nat) : rowIdx (HEAD_TRIG_AXIS i).off = 98 := HEAD_TRIG_row i
theorem HEAD_TIMER_PERIOD_row (i : Nat) : rowIdx (HEAD_TIMER_PERIOD i).off = 100 := HEAD_TIMER_row i
theorem HEAD_AUX_AUX_MODE_row (i : Nat) : rowIdx (HEAD_AUX_AUX_MODE i).off = 101 := HEAD_AUX_row i
theorem HEAD_TRIGSTAT_IGNORED_row (i : Nat) : rowIdx (HEAD_TRIGSTAT_IGNORED i).off = 102 := HEAD_TRIGSTAT_row i
theorem HEAD_TRIGSTAT_OVERRUN_row (i : Nat) : rowIdx (HEAD_TRIGSTAT_OVERRUN i).off = 102 := HEAD_TRIGSTAT_row i
theorem HEAD_CONN_VALID_row (i : Nat) : rowIdx (HEAD_CONN_VALID i).off = 105 := HEAD_CONN_row i
theorem HEAD_CONN_TAP_row (i : Nat) : rowIdx (HEAD_CONN_TAP i).off = 105 := HEAD_CONN_row i
theorem HEAD_BAND_EXPOSURE_row (i : Nat) (j : Nat) : rowIdx (HEAD_BAND_EXPOSURE i j).off = 106 := HEAD_BAND_row i j
theorem TAP_CTL_REV_row (i : Nat) : rowIdx (TAP_CTL_REV i).off = 107 := TAP_CTL_row i
theorem TAP_CTL_INV_row (i : Nat) : rowIdx (TAP_CTL_INV i).off = 107 := TAP_CTL_row i
theorem TAP_CTL_MODE_row (i : Nat) : rowIdx (TAP_CTL_MODE i).off = 107 := TAP_CTL_row i
theorem TAP_PHASE_BASE_row (i : Nat) : rowIdx (TAP_PHASE_BASE i).off = 108 := TAP_PHASE_row i
theorem TAP_PHASE_COARSE_row (i : Nat) : rowIdx (TAP_PHASE_COARSE i).off = 108 := TAP_PHASE_row i
theorem TAP_PHASE_FINE_row (i : Nat) : rowIdx (TAP_PHASE_FINE i).off = 108 := TAP_PHASE_row i
theorem TAP_CLAMP_CLAMP_row (i : Nat) : rowIdx (TAP_CLAMP_CLAMP i).off = 109 := TAP_CLAMP_row i
theorem TAP_STATUS_OWNED_row (i : Nat) : rowIdx (TAP_STATUS_OWNED i).off = 111 := TAP_STATUS_row i
theorem TAP_STATUS_HEAD_row (i : Nat) : rowIdx (TAP_STATUS_HEAD i).off = 111 := TAP_STATUS_row i
theorem TAP_STATUS_PEND_row (i : Nat) : rowIdx (TAP_STATUS_PEND i).off = 111 := TAP_STATUS_row i
theorem TAP_STATUS_GUEST_row (i : Nat) : rowIdx (TAP_STATUS_GUEST i).off = 111 := TAP_STATUS_row i
theorem TAP_STATUS_CM_OUT_row (i : Nat) : rowIdx (TAP_STATUS_CM_OUT i).off = 111 := TAP_STATUS_row i
theorem TAP_EVENTS_WR_REJ_row (i : Nat) : rowIdx (TAP_EVENTS_WR_REJ i).off = 112 := TAP_EVENTS_row i
theorem TAP_EVENTS_OVR_SEEN_row (i : Nat) : rowIdx (TAP_EVENTS_OVR_SEEN i).off = 112 := TAP_EVENTS_row i
theorem TAP_EVENTS_CM_FAULT_row (i : Nat) : rowIdx (TAP_EVENTS_CM_FAULT i).off = 112 := TAP_EVENTS_row i
theorem TAP_CM_VALID_row (i : Nat) : rowIdx (TAP_CM_VALID i).off = 114 := TAP_CM_row i
theorem TAP_CM_CM_MV_row (i : Nat) : rowIdx (TAP_CM_CM_MV i).off = 114 := TAP_CM_row i
theorem SLC_CTL_ROT_EN_row : rowIdx SLC_CTL_ROT_EN.off = 115 := SLC_CTL_row
theorem SLC_STATUS_SHED_row : rowIdx SLC_STATUS_SHED.off = 116 := SLC_STATUS_row
theorem SLC_STATUS_RETIRED_row : rowIdx SLC_STATUS_RETIRED.off = 116 := SLC_STATUS_row
theorem SLC_STATUS_FACTORY_row : rowIdx SLC_STATUS_FACTORY.off = 116 := SLC_STATUS_row
theorem SLC_EVENTS_CMD_REJ_row : rowIdx SLC_EVENTS_CMD_REJ.off = 117 := SLC_EVENTS_row
theorem SLC_EVENTS_PRECOND_row : rowIdx SLC_EVENTS_PRECOND.off = 117 := SLC_EVENTS_row
theorem SLC_EVENTS_CAL_FAIL_row : rowIdx SLC_EVENTS_CAL_FAIL.off = 117 := SLC_EVENTS_row
theorem SLC_EVENTS_UNCOVERED_row : rowIdx SLC_EVENTS_UNCOVERED.off = 117 := SLC_EVENTS_row
theorem SLC_EVENTS_FAULT_row : rowIdx SLC_EVENTS_FAULT.off = 117 := SLC_EVENTS_row
theorem SLC_EVENTS_RETIRE_row : rowIdx SLC_EVENTS_RETIRE.off = 117 := SLC_EVENTS_row
theorem SLC_SUSP_SUSP_row : rowIdx SLC_SUSP_SUSP.off = 118 := SLC_SUSP_row
theorem SLC_CMDSTAT_BUSY_row : rowIdx SLC_CMDSTAT_BUSY.off = 120 := SLC_CMDSTAT_row
theorem SLC_CMDSTAT_CODE_row : rowIdx SLC_CMDSTAT_CODE.off = 120 := SLC_CMDSTAT_row
theorem SLC_GSTATE_PHASE_row (i : Nat) : rowIdx (SLC_GSTATE_PHASE i).off = 121 := SLC_GSTATE_row i
theorem SLC_GSTATE_FAILS_row (i : Nat) : rowIdx (SLC_GSTATE_FAILS i).off = 121 := SLC_GSTATE_row i
theorem SLC_GSTATE_GUEST_TAP_row (i : Nat) : rowIdx (SLC_GSTATE_GUEST_TAP i).off = 121 := SLC_GSTATE_row i
theorem SLC_GSTATE_VISIT_row (i : Nat) : rowIdx (SLC_GSTATE_VISIT i).off = 121 := SLC_GSTATE_row i
theorem SLC_GRETIRE_VALID_row (i : Nat) : rowIdx (SLC_GRETIRE_VALID i).off = 122 := SLC_GRETIRE_row i
theorem SLC_GRETIRE_FACTORY_row (i : Nat) : rowIdx (SLC_GRETIRE_FACTORY i).off = 122 := SLC_GRETIRE_row i
theorem SLC_GRETIRE_SLICE_row (i : Nat) : rowIdx (SLC_GRETIRE_SLICE i).off = 122 := SLC_GRETIRE_row i
theorem SLC_GLAST_CODE_row (i : Nat) : rowIdx (SLC_GLAST_CODE i).off = 124 := SLC_GLAST_row i
theorem SLC_GLAST_COUNT_row (i : Nat) : rowIdx (SLC_GLAST_COUNT i).off = 124 := SLC_GLAST_row i
theorem SLC_GLAST_SLICE_row (i : Nat) : rowIdx (SLC_GLAST_SLICE i).off = 124 := SLC_GLAST_row i
theorem SLC_CMWIN_CM_EN_row (i : Nat) : rowIdx (SLC_CMWIN_CM_EN i).off = 125 := SLC_CMWIN_row i
theorem PIPE_CTL_SCRUB_EN_row : rowIdx PIPE_CTL_SCRUB_EN.off = 126 := PIPE_CTL_row
theorem PIPE_STATUS_STAGE_HEAD_row : rowIdx PIPE_STATUS_STAGE_HEAD.off = 127 := PIPE_STATUS_row
theorem PIPE_STATUS_STAGE_BAND_row : rowIdx PIPE_STATUS_STAGE_BAND.off = 127 := PIPE_STATUS_row
theorem PIPE_STATUS_STAGE_row : rowIdx PIPE_STATUS_STAGE.off = 127 := PIPE_STATUS_row
theorem PIPE_STATUS_SPARES_row : rowIdx PIPE_STATUS_SPARES.off = 127 := PIPE_STATUS_row
theorem PIPE_EVENTS_CLIP_row : rowIdx PIPE_EVENTS_CLIP.off = 128 := PIPE_EVENTS_row
theorem PIPE_EVENTS_SPARES_OUT_row : rowIdx PIPE_EVENTS_SPARES_OUT.off = 128 := PIPE_EVENTS_row
theorem PIPE_EVENTS_ROW_REMAP_row : rowIdx PIPE_EVENTS_ROW_REMAP.off = 128 := PIPE_EVENTS_row
theorem PIPE_EVENTS_ECC_UE_row : rowIdx PIPE_EVENTS_ECC_UE.off = 128 := PIPE_EVENTS_row
theorem PIPE_EVENTS_ECC_CE_row : rowIdx PIPE_EVENTS_ECC_CE.off = 128 := PIPE_EVENTS_row
theorem PIPE_EVENTS_LANE_UNCOVERED_row : rowIdx PIPE_EVENTS_LANE_UNCOVERED.off = 128 := PIPE_EVENTS_row
theorem PIPE_EVENTS_LANE_FAULT_row : rowIdx PIPE_EVENTS_LANE_FAULT.off = 128 := PIPE_EVENTS_row
theorem PIPE_LANEMAP_SP_FAIL_row : rowIdx PIPE_LANEMAP_SP_FAIL.off = 129 := PIPE_LANEMAP_row
theorem PIPE_LANEMAP_SP1_LANE_row : rowIdx PIPE_LANEMAP_SP1_LANE.off = 129 := PIPE_LANEMAP_row
theorem PIPE_LANEMAP_SP0_LANE_row : rowIdx PIPE_LANEMAP_SP0_LANE.off = 129 := PIPE_LANEMAP_row
theorem PIPE_LANEFAIL_FAIL_row : rowIdx PIPE_LANEFAIL_FAIL.off = 130 := PIPE_LANEFAIL_row
theorem PIPE_ECC_ROW_VALID_row : rowIdx PIPE_ECC_ROW_VALID.off = 133 := PIPE_ECC_ROW_row
theorem PIPE_ECC_ROW_UE_row : rowIdx PIPE_ECC_ROW_UE.off = 133 := PIPE_ECC_ROW_row
theorem PIPE_ECC_ROW_BANK_row : rowIdx PIPE_ECC_ROW_BANK.off = 133 := PIPE_ECC_ROW_row
theorem PIPE_ECC_ROW_ROW_row : rowIdx PIPE_ECC_ROW_ROW.off = 133 := PIPE_ECC_ROW_row
theorem PIPE_SPROW_PENDING_row (i : Nat) : rowIdx (PIPE_SPROW_PENDING i).off = 135 := PIPE_SPROW_row i
theorem PIPE_SPROW_USED_row (i : Nat) : rowIdx (PIPE_SPROW_USED i).off = 135 := PIPE_SPROW_row i
theorem PIPE_GEN_GEN_HI_row (i : Nat) : rowIdx (PIPE_GEN_GEN_HI i).off = 138 := PIPE_GEN_row i
theorem PIPE_GEN_GEN_LO_row (i : Nat) : rowIdx (PIPE_GEN_GEN_LO i).off = 138 := PIPE_GEN_row i
theorem SHD_CTL_BGW_EN_row : rowIdx SHD_CTL_BGW_EN.off = 140 := SHD_CTL_row
theorem SHD_STATUS_DEFER_row : rowIdx SHD_STATUS_DEFER.off = 141 := SHD_STATUS_row
theorem SHD_STATUS_WCOPY_row : rowIdx SHD_STATUS_WCOPY.off = 141 := SHD_STATUS_row
theorem SHD_STATUS_RUN_row : rowIdx SHD_STATUS_RUN.off = 141 := SHD_STATUS_row
theorem SHD_EVENTS_DEFERRED_row : rowIdx SHD_EVENTS_DEFERRED.off = 142 := SHD_EVENTS_row
theorem SHD_EVENTS_TRK_LIMIT_row : rowIdx SHD_EVENTS_TRK_LIMIT.off = 142 := SHD_EVENTS_row
theorem SHD_EVENTS_WFAIL_row : rowIdx SHD_EVENTS_WFAIL.off = 142 := SHD_EVENTS_row
theorem SHD_EVENTS_WCOMMIT_row : rowIdx SHD_EVENTS_WCOMMIT.off = 142 := SHD_EVENTS_row
theorem SHD_EVENTS_RUN_FAIL_row : rowIdx SHD_EVENTS_RUN_FAIL.off = 142 := SHD_EVENTS_row
theorem SHD_EVENTS_RUN_DONE_row : rowIdx SHD_EVENTS_RUN_DONE.off = 142 := SHD_EVENTS_row
theorem SHD_LAST_CODE_row : rowIdx SHD_LAST_CODE.off = 143 := SHD_LAST_row
theorem SHD_LAST_KIND_row : rowIdx SHD_LAST_KIND.off = 143 := SHD_LAST_row
theorem SHD_LAST_HEAD_row : rowIdx SHD_LAST_HEAD.off = 143 := SHD_LAST_row
theorem SHD_LAST_BAND_row : rowIdx SHD_LAST_BAND.off = 143 := SHD_LAST_row
theorem SHD_HTRK_TRK_EN_row (i : Nat) : rowIdx (SHD_HTRK_TRK_EN i).off = 148 := SHD_HTRK_row i
theorem SHD_HREF_GUARD_EN_row (i : Nat) : rowIdx (SHD_HREF_GUARD_EN i).off = 149 := SHD_HREF_row i
theorem SHD_HREF_GUARD_DS_row (i : Nat) : rowIdx (SHD_HREF_GUARD_DS i).off = 149 := SHD_HREF_row i
theorem SHD_HWHT_BANDS_row (i : Nat) : rowIdx (SHD_HWHT_BANDS i).off = 151 := SHD_HWHT_row i
theorem SHD_HWHT_WK_row (i : Nat) : rowIdx (SHD_HWHT_WK i).off = 151 := SHD_HWHT_row i
theorem SHD_HPHS_PH_BAND_row (i : Nat) : rowIdx (SHD_HPHS_PH_BAND i).off = 153 := SHD_HPHS_row i
theorem SHD_HSTAT_DUE_row (i : Nat) : rowIdx (SHD_HSTAT_DUE i).off = 154 := SHD_HSTAT_row i
theorem SHD_HSTAT_TRK_AT_LIM_row (i : Nat) : rowIdx (SHD_HSTAT_TRK_AT_LIM i).off = 154 := SHD_HSTAT_row i
theorem SHD_HSTAT_RUN_row (i : Nat) : rowIdx (SHD_HSTAT_RUN i).off = 154 := SHD_HSTAT_row i
theorem SHD_HSTAT_QUAL_row (i : Nat) : rowIdx (SHD_HSTAT_QUAL i).off = 154 := SHD_HSTAT_row i
theorem ATT_CTL_FUSE_COMPAT_row : rowIdx ATT_CTL_FUSE_COMPAT.off = 156 := ATT_CTL_row
theorem ATT_STATUS_BUSY_row : rowIdx ATT_STATUS_BUSY.off = 157 := ATT_STATUS_row
theorem ATT_STATUS_STEP_row : rowIdx ATT_STATUS_STEP.off = 157 := ATT_STATUS_row
theorem ATT_STATUS_RESULT_row : rowIdx ATT_STATUS_RESULT.off = 157 := ATT_STATUS_row
theorem ATT_STATUS_SOURCE_row : rowIdx ATT_STATUS_SOURCE.off = 157 := ATT_STATUS_row
theorem ATT_EVENTS_JRNL_FULL_row : rowIdx ATT_EVENTS_JRNL_FULL.off = 158 := ATT_EVENTS_row
theorem ATT_EVENTS_FUSE_BAD_row : rowIdx ATT_EVENTS_FUSE_BAD.off = 158 := ATT_EVENTS_row
theorem ATT_EVENTS_FUSE_USED_row : rowIdx ATT_EVENTS_FUSE_USED.off = 158 := ATT_EVENTS_row
theorem ATT_EVENTS_BANK_BAD_row : rowIdx ATT_EVENTS_BANK_BAD.off = 158 := ATT_EVENTS_row
theorem ATT_EVENTS_SAVE_FAIL_row : rowIdx ATT_EVENTS_SAVE_FAIL.off = 158 := ATT_EVENTS_row
theorem ATT_EVENTS_SAVE_DONE_row : rowIdx ATT_EVENTS_SAVE_DONE.off = 158 := ATT_EVENTS_row
theorem ATT_FLASH_VALID_row : rowIdx ATT_FLASH_VALID.off = 159 := ATT_FLASH_row
theorem ATT_FLASH_MODE_row : rowIdx ATT_FLASH_MODE.off = 159 := ATT_FLASH_row
theorem ATT_FLASH_MBIT_row : rowIdx ATT_FLASH_MBIT.off = 159 := ATT_FLASH_row
theorem ATT_JRNL_ENTRIES_row : rowIdx ATT_JRNL_ENTRIES.off = 162 := ATT_JRNL_row
theorem MOT_CTL_PACE_MODE_row : rowIdx MOT_CTL_PACE_MODE.off = 164 := MOT_CTL_row
theorem MOT_PACE_RESUME_row : rowIdx MOT_PACE_RESUME.off = 165 := MOT_PACE_row
theorem MOT_PACE_HOLD_row : rowIdx MOT_PACE_HOLD.off = 165 := MOT_PACE_row
theorem MOT_PACE_FOLLOW_row : rowIdx MOT_PACE_FOLLOW.off = 165 := MOT_PACE_row
theorem MOT_PACERATE_KJ_row : rowIdx MOT_PACERATE_KJ.off = 166 := MOT_PACERATE_row
theorem MOT_PACERATE_KA_row : rowIdx MOT_PACERATE_KA.off = 166 := MOT_PACERATE_row
theorem MOT_HOLDTO_TIMEOUT_row : rowIdx MOT_HOLDTO_TIMEOUT.off = 167 := MOT_HOLDTO_row
theorem MOT_STATUS_PSTATE_row : rowIdx MOT_STATUS_PSTATE.off = 168 := MOT_STATUS_row
theorem MOT_STATUS_LIM_P_row : rowIdx MOT_STATUS_LIM_P.off = 168 := MOT_STATUS_row
theorem MOT_STATUS_LIM_C_row : rowIdx MOT_STATUS_LIM_C.off = 168 := MOT_STATUS_row
theorem MOT_STATUS_LIM_D_row : rowIdx MOT_STATUS_LIM_D.off = 168 := MOT_STATUS_row
theorem MOT_STATUS_K_row : rowIdx MOT_STATUS_K.off = 168 := MOT_STATUS_row
theorem MOT_FILL_RSV_row : rowIdx MOT_FILL_RSV.off = 169 := MOT_FILL_row
theorem MOT_FILL_FILL_row : rowIdx MOT_FILL_FILL.off = 169 := MOT_FILL_row
theorem MOT_EVENTS_END_LATE_row : rowIdx MOT_EVENTS_END_LATE.off = 170 := MOT_EVENTS_row
theorem MOT_EVENTS_CFG_REJ_row : rowIdx MOT_EVENTS_CFG_REJ.off = 170 := MOT_EVENTS_row
theorem MOT_EVENTS_SYNC_LATE_row : rowIdx MOT_EVENTS_SYNC_LATE.off = 170 := MOT_EVENTS_row
theorem MOT_EVENTS_ENC_ERR_row : rowIdx MOT_EVENTS_ENC_ERR.off = 170 := MOT_EVENTS_row
theorem MOT_EVENTS_AXIS_FAULT_row : rowIdx MOT_EVENTS_AXIS_FAULT.off = 170 := MOT_EVENTS_row
theorem MOT_EVENTS_AREA_FULL_row : rowIdx MOT_EVENTS_AREA_FULL.off = 170 := MOT_EVENTS_row
theorem MOT_EVENTS_ADM_WAIT_row : rowIdx MOT_EVENTS_ADM_WAIT.off = 170 := MOT_EVENTS_row
theorem MOT_EVENTS_RESUMED_row : rowIdx MOT_EVENTS_RESUMED.off = 170 := MOT_EVENTS_row
theorem MOT_EVENTS_HOLD_TO_row : rowIdx MOT_EVENTS_HOLD_TO.off = 170 := MOT_EVENTS_row
theorem MOT_EVENTS_HELD_row : rowIdx MOT_EVENTS_HELD.off = 170 := MOT_EVENTS_row
theorem MOT_EVENTS_FOLLOW_row : rowIdx MOT_EVENTS_FOLLOW.off = 170 := MOT_EVENTS_row
theorem MOT_ADM_TO_SEL_row : rowIdx MOT_ADM_TO_SEL.off = 171 := MOT_ADM_row
theorem MOT_ADM_FEED_DS_row : rowIdx MOT_ADM_FEED_DS.off = 171 := MOT_ADM_row
theorem MOT_ADM_REL_W_row : rowIdx MOT_ADM_REL_W.off = 171 := MOT_ADM_row
theorem MOT_ADMSTAT_WAITS_row : rowIdx MOT_ADMSTAT_WAITS.off = 174 := MOT_ADMSTAT_row
theorem MOT_ADMSTAT_ADMITTED_row : rowIdx MOT_ADMSTAT_ADMITTED.off = 174 := MOT_ADMSTAT_row
theorem MOT_PANTRY_REFUSE_row : rowIdx MOT_PANTRY_REFUSE.off = 175 := MOT_PANTRY_row
theorem MOT_PANTRY_KP_row : rowIdx MOT_PANTRY_KP.off = 175 := MOT_PANTRY_row
theorem MOT_DSSTATE_COVERED_row : rowIdx MOT_DSSTATE_COVERED.off = 178 := MOT_DSSTATE_row
theorem MOT_ACTL_EN_row (i : Nat) : rowIdx (MOT_ACTL_EN i).off = 180 := MOT_ACTL_row i
theorem MOT_ACTL_FE_ACT_row (i : Nat) : rowIdx (MOT_ACTL_FE_ACT i).off = 180 := MOT_ACTL_row i
theorem MOT_ACTL_BIND_row (i : Nat) : rowIdx (MOT_ACTL_BIND i).off = 180 := MOT_ACTL_row i
theorem MOT_ACTL_ENC_row (i : Nat) : rowIdx (MOT_ACTL_ENC i).off = 180 := MOT_ACTL_row i
theorem MOT_ACTL_EN_DLY_row (i : Nat) : rowIdx (MOT_ACTL_EN_DLY i).off = 180 := MOT_ACTL_row i
theorem MOT_ASTATUS_STATE_row (i : Nat) : rowIdx (MOT_ASTATUS_STATE i).off = 181 := MOT_ASTATUS_row i
theorem MOT_ASTATUS_REST_row (i : Nat) : rowIdx (MOT_ASTATUS_REST i).off = 181 := MOT_ASTATUS_row i
theorem MOT_ASTATUS_DIR_row (i : Nat) : rowIdx (MOT_ASTATUS_DIR i).off = 181 := MOT_ASTATUS_row i
theorem MOT_ASTATUS_SEG_row (i : Nat) : rowIdx (MOT_ASTATUS_SEG i).off = 181 := MOT_ASTATUS_row i
theorem MOT_ASTATUS_MOVE_row (i : Nat) : rowIdx (MOT_ASTATUS_MOVE i).off = 181 := MOT_ASTATUS_row i
theorem MOT_AEVENTS_CAPPED_row (i : Nat) : rowIdx (MOT_AEVENTS_CAPPED i).off = 182 := MOT_AEVENTS_row i
theorem MOT_AEVENTS_BACKUP_DONE_row (i : Nat) : rowIdx (MOT_AEVENTS_BACKUP_DONE i).off = 182 := MOT_AEVENTS_row i
theorem MOT_AEVENTS_PROF_DONE_row (i : Nat) : rowIdx (MOT_AEVENTS_PROF_DONE i).off = 182 := MOT_AEVENTS_row i
theorem MOT_AEVENTS_DRV_FAULT_row (i : Nat) : rowIdx (MOT_AEVENTS_DRV_FAULT i).off = 182 := MOT_AEVENTS_row i
theorem MOT_AEVENTS_FE_FAULT_row (i : Nat) : rowIdx (MOT_AEVENTS_FE_FAULT i).off = 182 := MOT_AEVENTS_row i
theorem MOT_AVEL_VEL_row (i : Nat) : rowIdx (MOT_AVEL_VEL i).off = 185 := MOT_AVEL_row i
theorem MOT_AIREF_STBY_DLY_row (i : Nat) : rowIdx (MOT_AIREF_STBY_DLY i).off = 188 := MOT_AIREF_row i
theorem MOT_AIREF_STBY_DUTY_row (i : Nat) : rowIdx (MOT_AIREF_STBY_DUTY i).off = 188 := MOT_AIREF_row i
theorem MOT_AIREF_RUN_DUTY_row (i : Nat) : rowIdx (MOT_AIREF_RUN_DUTY i).off = 188 := MOT_AIREF_row i
theorem MOT_ABACK_BACKLASH_row (i : Nat) : rowIdx (MOT_ABACK_BACKLASH i).off = 192 := MOT_ABACK_row i
theorem MOT_ABACK_BACK_row (i : Nat) : rowIdx (MOT_ABACK_BACK i).off = 192 := MOT_ABACK_row i
theorem MOT_ECTL_EN_row (i : Nat) : rowIdx (MOT_ECTL_EN i).off = 195 := MOT_ECTL_row i
theorem MOT_ECTL_IDX_EN_row (i : Nat) : rowIdx (MOT_ECTL_IDX_EN i).off = 195 := MOT_ECTL_row i
theorem MOT_HDOC_GRID_SYNC_row (i : Nat) : rowIdx (MOT_HDOC_GRID_SYNC i).off = 199 := MOT_HDOC_row i
theorem MOT_HDOC_GAP_CAP_row (i : Nat) : rowIdx (MOT_HDOC_GAP_CAP i).off = 199 := MOT_HDOC_row i
theorem MOT_HDOC_DOC_DS_row (i : Nat) : rowIdx (MOT_HDOC_DOC_DS i).off = 199 := MOT_HDOC_row i
theorem MOT_HEDGE_LEAD_row (i : Nat) : rowIdx (MOT_HEDGE_LEAD i).off = 201 := MOT_HEDGE_row i
theorem LMP_CTL_EN_row : rowIdx LMP_CTL_EN.off = 203 := LMP_CTL_row
theorem LMP_CTL_BUS_EN_row : rowIdx LMP_CTL_BUS_EN.off = 203 := LMP_CTL_row
theorem LMP_CTL_BUS_HEAD_row : rowIdx LMP_CTL_BUS_HEAD.off = 203 := LMP_CTL_row
theorem LMP_STATUS_RAIL_ON_row : rowIdx LMP_STATUS_RAIL_ON.off = 204 := LMP_STATUS_row
theorem LMP_STATUS_RAIL_OK_row : rowIdx LMP_STATUS_RAIL_OK.off = 204 := LMP_STATUS_row
theorem LMP_STATUS_SERVO_LIM_row : rowIdx LMP_STATUS_SERVO_LIM.off = 204 := LMP_STATUS_row
theorem LMP_STATUS_TABLE_row : rowIdx LMP_STATUS_TABLE.off = 204 := LMP_STATUS_row
theorem LMP_STATUS_LOADING_row : rowIdx LMP_STATUS_LOADING.off = 204 := LMP_STATUS_row
theorem LMP_STATUS_DROPPED_row : rowIdx LMP_STATUS_DROPPED.off = 204 := LMP_STATUS_row
theorem LMP_EVENTS_DIAG_LATE_row : rowIdx LMP_EVENTS_DIAG_LATE.off = 205 := LMP_EVENTS_row
theorem LMP_EVENTS_BUS_SUPPR_row : rowIdx LMP_EVENTS_BUS_SUPPR.off = 205 := LMP_EVENTS_row
theorem LMP_EVENTS_DRIVE_SAT_row : rowIdx LMP_EVENTS_DRIVE_SAT.off = 205 := LMP_EVENTS_row
theorem LMP_EVENTS_SERVO_LIM_row : rowIdx LMP_EVENTS_SERVO_LIM.off = 205 := LMP_EVENTS_row
theorem LMP_EVENTS_RAIL_FAULT_row : rowIdx LMP_EVENTS_RAIL_FAULT.off = 205 := LMP_EVENTS_row
theorem LMP_EVENTS_NO_SIB_row : rowIdx LMP_EVENTS_NO_SIB.off = 205 := LMP_EVENTS_row
theorem LMP_EVENTS_REDIST_row : rowIdx LMP_EVENTS_REDIST.off = 205 := LMP_EVENTS_row
theorem LMP_EVENTS_DROP_row : rowIdx LMP_EVENTS_DROP.off = 205 := LMP_EVENTS_row
theorem LMP_VSET_VMEAS_row : rowIdx LMP_VSET_VMEAS.off = 208 := LMP_VSET_row
theorem LMP_VSET_VSET_row : rowIdx LMP_VSET_VSET.off = 208 := LMP_VSET_row
theorem LMP_HMIN_SAT_row : rowIdx LMP_HMIN_SAT.off = 209 := LMP_HMIN_row
theorem LMP_HMIN_STR_row : rowIdx LMP_HMIN_STR.off = 209 := LMP_HMIN_row
theorem LMP_HMIN_HMIN_row : rowIdx LMP_HMIN_HMIN.off = 209 := LMP_HMIN_row
theorem LMP_IRAIL_IRAIL_row : rowIdx LMP_IRAIL_IRAIL.off = 211 := LMP_IRAIL_row
theorem LMP_DIAG_DUE_T_row : rowIdx LMP_DIAG_DUE_T.off = 212 := LMP_DIAG_row
theorem LMP_DIAG_DUE_N_row : rowIdx LMP_DIAG_DUE_N.off = 212 := LMP_DIAG_row
theorem LMP_CMDSTAT_BUSY_row : rowIdx LMP_CMDSTAT_BUSY.off = 215 := LMP_CMDSTAT_row
theorem LMP_CMDSTAT_CODE_row : rowIdx LMP_CMDSTAT_CODE.off = 215 := LMP_CMDSTAT_row
theorem LMP_LAST_KIND_row : rowIdx LMP_LAST_KIND.off = 216 := LMP_LAST_row
theorem LMP_LAST_BAND_row : rowIdx LMP_LAST_BAND.off = 216 := LMP_LAST_row
theorem LMP_LAST_SAT_row : rowIdx LMP_LAST_SAT.off = 216 := LMP_LAST_row
theorem LMP_LAST_STR_row : rowIdx LMP_LAST_STR.off = 216 := LMP_LAST_row
theorem LMP_CNT_DIAG_LATE_row : rowIdx LMP_CNT_DIAG_LATE.off = 217 := LMP_CNT_row
theorem LMP_CNT_SUPPR_row : rowIdx LMP_CNT_SUPPR.off = 217 := LMP_CNT_row
theorem LMP_SSTAT_STATE_row (i : Nat) : rowIdx (LMP_SSTAT_STATE i).off = 218 := LMP_SSTAT_row i
theorem LMP_SSTAT_SCOUNT_row (i : Nat) : rowIdx (LMP_SSTAT_SCOUNT i).off = 218 := LMP_SSTAT_row i
theorem LMP_SSTAT_CODE_row (i : Nat) : rowIdx (LMP_SSTAT_CODE i).off = 218 := LMP_SSTAT_row i
theorem LMP_SMEAS_TEMP_row (i : Nat) : rowIdx (LMP_SMEAS_TEMP i).off = 219 := LMP_SMEAS_row i
theorem LMP_SMEAS_VF_row (i : Nat) : rowIdx (LMP_SMEAS_VF i).off = 219 := LMP_SMEAS_row i
theorem LMP_SDRV_WIDTH_row (i : Nat) (j : Nat) : rowIdx (LMP_SDRV_WIDTH i j).off = 224 := LMP_SDRV_row i j
theorem LMP_SDRV_CODE_row (i : Nat) (j : Nat) : rowIdx (LMP_SDRV_CODE i j).off = 224 := LMP_SDRV_row i j
theorem LNK_CTL_EN_row : rowIdx LNK_CTL_EN.off = 225 := LNK_CTL_row
theorem LNK_CTL_MODE_row : rowIdx LNK_CTL_MODE.off = 225 := LNK_CTL_row
theorem LNK_STATUS_STATE_row : rowIdx LNK_STATUS_STATE.off = 226 := LNK_STATUS_row
theorem LNK_STATUS_N_row : rowIdx LNK_STATUS_N.off = 226 := LNK_STATUS_row
theorem LNK_STATUS_CYCLE_row : rowIdx LNK_STATUS_CYCLE.off = 226 := LNK_STATUS_row
theorem LNK_EVENTS_RENUM_row : rowIdx LNK_EVENTS_RENUM.off = 227 := LNK_EVENTS_row
theorem LNK_EVENTS_CHAIN_row : rowIdx LNK_EVENTS_CHAIN.off = 227 := LNK_EVENTS_row
theorem LNK_EVENTS_SIZE_FAULT_row : rowIdx LNK_EVENTS_SIZE_FAULT.off = 227 := LNK_EVENTS_row
theorem LNK_EVENTS_LINK_FAULT_row : rowIdx LNK_EVENTS_LINK_FAULT.off = 227 := LNK_EVENTS_row
theorem HWY_CTL_EN_row : rowIdx HWY_CTL_EN.off = 231 := HWY_CTL_row
theorem HWY_CTL_AXMASK_row : rowIdx HWY_CTL_AXMASK.off = 231 := HWY_CTL_row
theorem HWY_STATUS_MASTER_row : rowIdx HWY_STATUS_MASTER.off = 232 := HWY_STATUS_row
theorem HWY_STATUS_FOLDED_row : rowIdx HWY_STATUS_FOLDED.off = 232 := HWY_STATUS_row
theorem HWY_STATUS_LANE_row : rowIdx HWY_STATUS_LANE.off = 232 := HWY_STATUS_row
theorem HWY_STATUS_ENUM_ERR_row : rowIdx HWY_STATUS_ENUM_ERR.off = 232 := HWY_STATUS_row
theorem HWY_STATUS_N_row : rowIdx HWY_STATUS_N.off = 232 := HWY_STATUS_row
theorem HWY_STATUS_INDEX_row : rowIdx HWY_STATUS_INDEX.off = 232 := HWY_STATUS_row
theorem HWY_EVENTS_CMD_REJ_row : rowIdx HWY_EVENTS_CMD_REJ.off = 233 := HWY_EVENTS_row
theorem HWY_EVENTS_MEMBER_LOST_row : rowIdx HWY_EVENTS_MEMBER_LOST.off = 233 := HWY_EVENTS_row
theorem HWY_EVENTS_CUT_OFF_row : rowIdx HWY_EVENTS_CUT_OFF.off = 233 := HWY_EVENTS_row
theorem HWY_EVENTS_BREAK_row : rowIdx HWY_EVENTS_BREAK.off = 233 := HWY_EVENTS_row
theorem HWY_EVENTS_POS_SYNC_row : rowIdx HWY_EVENTS_POS_SYNC.off = 233 := HWY_EVENTS_row
theorem HWY_EVENTS_TOK_DROP_row : rowIdx HWY_EVENTS_TOK_DROP.off = 233 := HWY_EVENTS_row
theorem HWY_EVENTS_MSG_RX_row : rowIdx HWY_EVENTS_MSG_RX.off = 233 := HWY_EVENTS_row
theorem HWY_EVENTS_ENUM_FAIL_row : rowIdx HWY_EVENTS_ENUM_FAIL.off = 233 := HWY_EVENTS_row
theorem HWY_LINK_U_DLY_row : rowIdx HWY_LINK_U_DLY.off = 235 := HWY_LINK_row
theorem HWY_LINK_D_DLY_row : rowIdx HWY_LINK_D_DLY.off = 235 := HWY_LINK_row
theorem HWY_ERRCNT_CRC_row : rowIdx HWY_ERRCNT_CRC.off = 236 := HWY_ERRCNT_row
theorem HWY_MCTL_BCAST_row : rowIdx HWY_MCTL_BCAST.off = 237 := HWY_MCTL_row
theorem HWY_MCTL_DST_row : rowIdx HWY_MCTL_DST.off = 237 := HWY_MCTL_row
theorem HWY_MSTAT_TX_BUSY_row : rowIdx HWY_MSTAT_TX_BUSY.off = 238 := HWY_MSTAT_row
theorem HWY_MSTAT_RX_FULL_row : rowIdx HWY_MSTAT_RX_FULL.off = 238 := HWY_MSTAT_row
theorem HWY_MSTAT_SRC_row : rowIdx HWY_MSTAT_SRC.off = 238 := HWY_MSTAT_row
theorem AUX_CTL_CALPER_row : rowIdx AUX_CTL_CALPER.off = 241 := AUX_CTL_row
theorem AUX_STATUS_REF_SETTLED_row : rowIdx AUX_STATUS_REF_SETTLED.off = 242 := AUX_STATUS_row
theorem AUX_STATUS_FAULT_row : rowIdx AUX_STATUS_FAULT.off = 242 := AUX_STATUS_row
theorem AUX_STATUS_MIGR_row : rowIdx AUX_STATUS_MIGR.off = 242 := AUX_STATUS_row
theorem AUX_STATUS_CAL_row : rowIdx AUX_STATUS_CAL.off = 242 := AUX_STATUS_row
theorem AUX_STATUS_RUN_row : rowIdx AUX_STATUS_RUN.off = 242 := AUX_STATUS_row
theorem AUX_EVENTS_DROP_row : rowIdx AUX_EVENTS_DROP.off = 243 := AUX_EVENTS_row
theorem AUX_EVENTS_WR_REJ_row : rowIdx AUX_EVENTS_WR_REJ.off = 243 := AUX_EVENTS_row
theorem AUX_EVENTS_CAL_FAIL_row : rowIdx AUX_EVENTS_CAL_FAIL.off = 243 := AUX_EVENTS_row
theorem AUX_EVENTS_SEQ_OVR_row : rowIdx AUX_EVENTS_SEQ_OVR.off = 243 := AUX_EVENTS_row
theorem AUX_EVENTS_INJ_OVF_row : rowIdx AUX_EVENTS_INJ_OVF.off = 243 := AUX_EVENTS_row
theorem AUX_EVENTS_UNCOVERED_row : rowIdx AUX_EVENTS_UNCOVERED.off = 243 := AUX_EVENTS_row
theorem AUX_EVENTS_CONV_FAULT_row : rowIdx AUX_EVENTS_CONV_FAULT.off = 243 := AUX_EVENTS_row
theorem AUX_EVENTS_REF_FAULT_row : rowIdx AUX_EVENTS_REF_FAULT.off = 243 := AUX_EVENTS_row
theorem AUX_EVENTS_OPEN_WIRE_row : rowIdx AUX_EVENTS_OPEN_WIRE.off = 243 := AUX_EVENTS_row
theorem AUX_EVENTS_WC_ENTRY_row : rowIdx AUX_EVENTS_WC_ENTRY.off = 243 := AUX_EVENTS_row
theorem AUX_EVENTS_WC_EXIT_row : rowIdx AUX_EVENTS_WC_EXIT.off = 243 := AUX_EVENTS_row
theorem AUX_CALSTAT_BUSY_row : rowIdx AUX_CALSTAT_BUSY.off = 245 := AUX_CALSTAT_row
theorem AUX_CALSTAT_CONV_row : rowIdx AUX_CALSTAT_CONV.off = 245 := AUX_CALSTAT_row
theorem AUX_CALSTAT_RANGE_row : rowIdx AUX_CALSTAT_RANGE.off = 245 := AUX_CALSTAT_row
theorem AUX_CALSTAT_CODE_row : rowIdx AUX_CALSTAT_CODE.off = 245 := AUX_CALSTAT_row
theorem AUX_CVCTL_EN_row (i : Nat) : rowIdx (AUX_CVCTL_EN i).off = 247 := AUX_CVCTL_row i
theorem AUX_CVCTL_STREAM_row (i : Nat) : rowIdx (AUX_CVCTL_STREAM i).off = 247 := AUX_CVCTL_row i
theorem AUX_CVCTL_REFSEL_row (i : Nat) : rowIdx (AUX_CVCTL_REFSEL i).off = 247 := AUX_CVCTL_row i
theorem AUX_CVCTL_TRIG_row (i : Nat) : rowIdx (AUX_CVCTL_TRIG i).off = 247 := AUX_CVCTL_row i
theorem AUX_CVCTL_AXIS_row (i : Nat) : rowIdx (AUX_CVCTL_AXIS i).off = 247 := AUX_CVCTL_row i
theorem AUX_EXC_OWNER_row (i : Nat) : rowIdx (AUX_EXC_OWNER i).off = 248 := AUX_EXC_row i
theorem AUX_EXC_LVL_row (i : Nat) : rowIdx (AUX_EXC_LVL i).off = 248 := AUX_EXC_row i
theorem AUX_EXC_STATE_row (i : Nat) : rowIdx (AUX_EXC_STATE i).off = 248 := AUX_EXC_row i
theorem AUX_SEQA_GAIN_row (i : Nat) (j : Nat) : rowIdx (AUX_SEQA_GAIN i j).off = 250 := AUX_SEQA_row i j
theorem AUX_RES_HI_VALID_row (i : Nat) (j : Nat) : rowIdx (AUX_RES_HI_VALID i j).off = 254 := AUX_RES_HI_row i j
theorem AUX_IRES_HI_VALID_row (i : Nat) (j : Nat) : rowIdx (AUX_IRES_HI_VALID i j).off = 258 := AUX_IRES_HI_row i j
theorem AUX_WC_CTL_EN_row (i : Nat) : rowIdx (AUX_WC_CTL_EN i).off = 261 := AUX_WC_CTL_row i
theorem AUX_WC_CTL_RE_EN_row (i : Nat) : rowIdx (AUX_WC_CTL_RE_EN i).off = 261 := AUX_WC_CTL_row i
theorem AUX_WC_CTL_CLASS_row (i : Nat) : rowIdx (AUX_WC_CTL_CLASS i).off = 261 := AUX_WC_CTL_row i
theorem AUX_WC_CTL_CONV_row (i : Nat) : rowIdx (AUX_WC_CTL_CONV i).off = 261 := AUX_WC_CTL_row i
theorem AUX_WC_CTL_ENTRY_row (i : Nat) : rowIdx (AUX_WC_CTL_ENTRY i).off = 261 := AUX_WC_CTL_row i
theorem AUX_WC_CTL_QUAL_row (i : Nat) : rowIdx (AUX_WC_CTL_QUAL i).off = 261 := AUX_WC_CTL_row i
theorem AUX_WC_STAT_OUT_row (i : Nat) : rowIdx (AUX_WC_STAT_OUT i).off = 264 := AUX_WC_STAT_row i
theorem AUX_WC_STAT_ABOVE_row (i : Nat) : rowIdx (AUX_WC_STAT_ABOVE i).off = 264 := AUX_WC_STAT_row i
theorem AUX_WC_STAT_CNT_row (i : Nat) : rowIdx (AUX_WC_STAT_CNT i).off = 264 := AUX_WC_STAT_row i
theorem AUX_WC_STAT_EXITS_row (i : Nat) : rowIdx (AUX_WC_STAT_EXITS i).off = 264 := AUX_WC_STAT_row i
theorem AUX_TRIM_OFF_row (i : Nat) (j : Nat) : rowIdx (AUX_TRIM_OFF i j).off = 265 := AUX_TRIM_row i j
theorem AUX_TRIM_GC_row (i : Nat) (j : Nat) : rowIdx (AUX_TRIM_GC i j).off = 265 := AUX_TRIM_row i j
theorem REC_CTL_RPT_EN_row : rowIdx REC_CTL_RPT_EN.off = 266 := REC_CTL_row
theorem REC_CTL_AUTO_row : rowIdx REC_CTL_AUTO.off = 266 := REC_CTL_row
theorem REC_STATUS_COUNTING_row : rowIdx REC_STATUS_COUNTING.off = 267 := REC_STATUS_row
theorem REC_STATUS_PARTIAL_row : rowIdx REC_STATUS_PARTIAL.off = 267 := REC_STATUS_row
theorem REC_STATUS_STATE_row : rowIdx REC_STATUS_STATE.off = 267 := REC_STATUS_row
theorem REC_EVENTS_CMD_REJ_row : rowIdx REC_EVENTS_CMD_REJ.off = 268 := REC_EVENTS_row
theorem REC_EVENTS_RD_REJ_row : rowIdx REC_EVENTS_RD_REJ.off = 268 := REC_EVENTS_row
theorem REC_EVENTS_COPY_DONE_row : rowIdx REC_EVENTS_COPY_DONE.off = 268 := REC_EVENTS_row
theorem REC_EVENTS_REJ_row : rowIdx REC_EVENTS_REJ.off = 268 := REC_EVENTS_row
theorem REC_EVENTS_CLAMPED_row : rowIdx REC_EVENTS_CLAMPED.off = 268 := REC_EVENTS_row
theorem REC_EVENTS_DONE_row : rowIdx REC_EVENTS_DONE.off = 268 := REC_EVENTS_row
theorem REC_INFO_POST_CLAMPED_row : rowIdx REC_INFO_POST_CLAMPED.off = 278 := REC_INFO_row
theorem REC_INFO_TRIGGERED_row : rowIdx REC_INFO_TRIGGERED.off = 278 := REC_INFO_row
theorem REC_INFO_PRE_ACT_row : rowIdx REC_INFO_PRE_ACT.off = 278 := REC_INFO_row
theorem REC_INFO_COUNT_row : rowIdx REC_INFO_COUNT.off = 278 := REC_INFO_row
theorem REC_LOST_LOST_row : rowIdx REC_LOST_LOST.off = 279 := REC_LOST_row
theorem REC_RDIDX_IDX_row : rowIdx REC_RDIDX_IDX.off = 290 := REC_RDIDX_row
theorem CEL_STATUS_TRAINED_row : rowIdx CEL_STATUS_TRAINED.off = 292 := CEL_STATUS_row
theorem CEL_STATUS_SREF_row : rowIdx CEL_STATUS_SREF.off = 292 := CEL_STATUS_row
theorem CEL_STATUS_RATE_row : rowIdx CEL_STATUS_RATE.off = 292 := CEL_STATUS_row
theorem CEL_STATUS_DENS_row : rowIdx CEL_STATUS_DENS.off = 292 := CEL_STATUS_row
theorem CEL_STATUS_CH_FAIL_row : rowIdx CEL_STATUS_CH_FAIL.off = 292 := CEL_STATUS_row
theorem CEL_EVENTS_RATE_LOW_row : rowIdx CEL_EVENTS_RATE_LOW.off = 293 := CEL_EVENTS_row
theorem CEL_EVENTS_UE_row : rowIdx CEL_EVENTS_UE.off = 293 := CEL_EVENTS_row
theorem CEL_EVENTS_CE_row : rowIdx CEL_EVENTS_CE.off = 293 := CEL_EVENTS_row
theorem CEL_ERRADDR_HI_VALID_row : rowIdx CEL_ERRADDR_HI_VALID.off = 297 := CEL_ERRADDR_HI_row
theorem CEL_ERRADDR_HI_UE_row : rowIdx CEL_ERRADDR_HI_UE.off = 297 := CEL_ERRADDR_HI_row
theorem CEL_ERRADDR_HI_ADDR_HI_row : rowIdx CEL_ERRADDR_HI_ADDR_HI.off = 297 := CEL_ERRADDR_HI_row
theorem MSIX_CTRL_MASK_row (i : Nat) : rowIdx (MSIX_CTRL_MASK i).off = 63 := MSIX_CTRL_row i

end Sys2Proof.Machine
end

