-- ==== Sys2Proof/Laws/Ops.lean ====
section
/-! SUPPORT. What each definition of Machine/Ops.lean can change, said once: the set of parts after Sub (Laws/Within.lean gives
the bits), the queue never, and the invariants kept. -/

set_option linter.unusedSimpArgs false

namespace Sys2Proof.Machine

theorem activate_within {m : Nat} {s0 s : State} {off : Nat} (hm : Sub 0x8 m)
    (h : Within m s0 s) : Within m s0 (activate s off) := by
  unfold activate
  repeat' (first
    | with_reducible assumption
    | split
    | with_reducible refine Within.set_active tset_wf (hm.bit (by with_unfolding_all rfl)) ?_)

theorem activateAll_within {m : Nat} {s0 s : State} {l : List Nat} (hm : Sub 0x8 m)
    (h : Within m s0 s) : Within m s0 (activateAll s l) := by
  unfold activateAll
  repeat' (first
    | with_reducible assumption
    | (extract_lets +onlyGivenNames x; first | (refine Within.cut (m := m) (s := s0) x ?_ (fun h => ?_); subst x; rotate_left; clear_value x; rotate_right) | clear_value x | subst x)
    | with_reducible refine foldl_within (fun _ _ _ => ?_) ?_
    | with_reducible refine activate_within (hm.up (by with_unfolding_all rfl)) ?_)

theorem schedule_within {m : Nat} {s0 s : State} {t : Nat} {c : Instr} (hm : Sub 0x1 m)
    (h : Within m s0 s) : Within m s0 (schedule s t c) := by
  unfold schedule
  repeat' (first
    | with_reducible assumption
    | split
    | with_reducible refine Within.set_agenda (hm.bit (by with_unfolding_all rfl)) ?_)

theorem cancel_within {m : Nat} {s0 s : State} {c : Instr} (hm : Sub 0x1 m)
    (h : Within m s0 s) : Within m s0 (cancel s c) := by
  unfold cancel
  repeat' (first
    | with_reducible assumption
    | split
    | with_reducible refine Within.set_agenda (hm.bit (by with_unfolding_all rfl)) ?_)

theorem pmcAdd_within {m : Nat} {s0 s : State} {n : Nat} {k : Nat} (hm : Sub 0x1001 m)
    (h : Within m s0 s) : Within m s0 (pmcAdd n k s) := by
  unfold pmcAdd
  repeat' (first
    | with_reducible assumption
    | (extract_lets +onlyGivenNames x; first | (refine Within.cut (m := m) (s := s0) x ?_ (fun h => ?_); subst x; rotate_left; clear_value x; rotate_right) | skip)
    | with_reducible refine schedule_within (hm.up (by with_unfolding_all rfl)) ?_
    | split
    | with_reducible refine Within.set_pmc (by with_unfolding_all exact fun c => ⟨c.1, c.2.1, nset_bound c.2.2.1 (Nat.mod_lt _ (by decide)), c.2.2.2⟩) (hm.bit (by with_unfolding_all rfl)) ?_)

theorem pmcEvents_within {m : Nat} {s0 s : State} {ev : Nat} {a : Attr} {n : Nat} (hm : Sub 0x1001 m)
    (h : Within m s0 s) : Within m s0 (pmcEvents ev a n s) := by
  unfold pmcEvents
  repeat' (first
    | with_reducible assumption
    | (extract_lets +onlyGivenNames x; first | (refine Within.cut (m := m) (s := s0) x ?_ (fun h => ?_); subst x; rotate_left; clear_value x; rotate_right) | clear_value x | subst x)
    | with_reducible refine forN_within (fun _ _ _ => ?_) ?_
    | with_reducible refine whenS_within (fun _ _ => ?_) ?_
    | with_reducible refine pmcAdd_within (hm.up (by with_unfolding_all rfl)) ?_
    | split)

theorem pmcEvent_within {m : Nat} {s0 s : State} {ev : Nat} (hm : Sub 0x1001 m)
    (h : Within m s0 s) : Within m s0 (pmcEvent ev s) := by
  unfold pmcEvent
  repeat' (first
    | with_reducible assumption
    | with_reducible refine pmcEvents_within (hm.up (by with_unfolding_all rfl)) ?_)

theorem lndLose_within {m : Nat} {s0 s : State} {c : Nat} (hm : Sub 0x88000000000000000000001001 m)
    (h : Within m s0 s) : Within m s0 (lndLose c s) := by
  unfold lndLose
  repeat' (first
    | with_reducible assumption
    | (extract_lets +onlyGivenNames x; (refine Within.cut (m := m) (s := s0) x ?_ (fun h => ?_); subst x; rotate_left; clear_value x; rotate_right))
    | with_reducible refine setRaw_within (by with_reducible with_unfolding_all exact hm.reach (.inl (by simp only [LND_EVENTS_LOST_row, LND_LOST_row]; rfl))) ?_
    | with_reducible refine setFlag_within (by with_reducible with_unfolding_all exact hm.reach (.inl (by simp only [LND_EVENTS_LOST_row, LND_LOST_row]; rfl))) ?_
    | with_reducible refine pmcEvents_within (hm.up (by with_unfolding_all rfl)) ?_)

theorem lndRoom_within {m : Nat} {s0 s r : State} {c : Nat} (hm : Sub 0x88000000000000000000001801 m) (h : Within m s0 s) (e : lndRoom c s = some r) :
    Within m s0 r := by
  unfold lndRoom at e
  split at e
  · cases e; exact h
  · split at e
    · cases e; exact lndLose_within (hm.up rfl) (Within.set_lnd (hm.bit rfl) h)
    · cases e

theorem lndPush_within {m : Nat} {s0 s : State} {src : Nat} (hm : Sub 0x88000000000000000000001801 m)
    (h : Within m s0 s) : Within m s0 (lndPush src s) := by
  unfold lndPush
  split
  · exact h
  · extract_lets +onlyGivenNames rest
    clear_value rest
    extract_lets +onlyGivenNames x
    refine Within.cut (m := m) (s := s0) x.1 ?a (fun h => ?b)
    case a =>
      subst x
      split
      · exact h
      · split
        · rename_i e
          exact pmcEvents_within (hm.up rfl) (lndRoom_within (hm.up rfl) h e)
        · exact lndLose_within (hm.up rfl) h
    case b =>
      clear_value x
      repeat' (first
        | with_reducible assumption
        | (extract_lets +onlyGivenNames y; first | (refine Within.cut (m := m) (s := s0) y ?_ (fun h => ?_); subst y; rotate_left; clear_value y; rotate_right) | clear_value y)
        | split
        | with_reducible refine Within.set_lnd (hm.bit (by with_unfolding_all rfl)) ?_)

theorem lndOpen_within {m : Nat} {s0 s : State} {m_ : Msg} (hm : Sub 0x88000000000000000000001801 m)
    (h : Within m s0 s) : Within m s0 (lndOpen m_ s) := by
  unfold lndOpen
  repeat' (first
    | with_reducible assumption
    | (extract_lets +onlyGivenNames x; first | (refine Within.cut (m := m) (s := s0) x ?_ (fun h => ?_); subst x; rotate_left; clear_value x; rotate_right) | clear_value x | subst x)
    | with_reducible refine lndPush_within (hm.up (by with_unfolding_all rfl)) ?_
    | with_reducible refine pmcEvents_within (hm.up (by with_unfolding_all rfl)) ?_
    | split
    | with_reducible refine Within.set_lnd (hm.bit (by with_unfolding_all rfl)) ?_)

theorem recFaultCause_within {m : Nat} {s0 s : State} (hm : Sub 0x1000000 m)
    (h : Within m s0 s) : Within m s0 (recFaultCause s) := by
  unfold recFaultCause
  repeat' (first
    | with_reducible assumption
    | (extract_lets +onlyGivenNames x; clear_value x)
    | split
    | with_reducible refine Within.set_recd (hm.bit (by with_unfolding_all rfl)) ?_)

theorem raiseMsg_within {m : Nat} {s0 s : State} {m_ : Msg} (hm : Sub 0x88000000000000000001001801 m)
    (h : Within m s0 s) : Within m s0 (raiseMsg m_ s) := by
  unfold raiseMsg
  repeat' (first
    | with_reducible assumption
    | (extract_lets +onlyGivenNames x; first | (refine Within.cut (m := m) (s := s0) x ?_ (fun h => ?_); subst x; rotate_left; clear_value x; rotate_right) | clear_value x)
    | with_reducible refine recFaultCause_within (hm.up (by with_unfolding_all rfl)) ?_
    | with_reducible refine lndOpen_within (hm.up (by with_unfolding_all rfl)) ?_
    | split
    | with_reducible refine Within.set_lnd (hm.bit (by with_unfolding_all rfl)) ?_)

theorem lndTick_within {m : Nat} {s0 s : State} (hm : Sub 0x88000000000000000000001801 m)
    (h : Within m s0 s) : Within m s0 (lndTick s) := by
  unfold lndTick
  repeat' (first
    | with_reducible assumption
    | (extract_lets +onlyGivenNames x; first | (refine Within.cut (m := m) (s := s0) x ?_ (fun h => ?_); subst x; rotate_left; clear_value x; rotate_right) | clear_value x | subst x)
    | with_reducible refine foldl_within (fun _ _ _ => ?_) ?_
    | with_reducible refine lndPush_within (hm.up (by with_unfolding_all rfl)) ?_
    | with_reducible refine lndOpen_within (hm.up (by with_unfolding_all rfl)) ?_
    | split
    | with_reducible refine Within.set_lnd (hm.bit (by with_unfolding_all rfl)) ?_)

theorem raise_within {m : Nat} {s0 s : State} {cls : Nat} {src : Nat} {code : Nat} {items : List Nat} (hm : Sub 0x88000000000000000001001801 m)
    (h : Within m s0 s) : Within m s0 (raise cls src code items s) := by
  unfold raise
  repeat' (first
    | with_reducible assumption
    | with_reducible refine raiseMsg_within (hm.up (by with_unfolding_all rfl)) ?_)

theorem raiseAt_within {m : Nat} {s0 s : State} {t : Nat} {cls : Nat} {src : Nat} {code : Nat} {items : List Nat} (hm : Sub 0x88000000000000000001001801 m)
    (h : Within m s0 s) : Within m s0 (raiseAt t cls src code items s) := by
  unfold raiseAt
  repeat' (first
    | with_reducible assumption
    | with_reducible refine raiseMsg_within (hm.up (by with_unfolding_all rfl)) ?_)

theorem report_within {m : Nat} {s0 s : State} {cls : Nat} {f : Fld} {items : List Nat} (hm : Sub 0x88000000000000000001001801 m) (b1 : Reach m f.off)
    (h : Within m s0 s) : Within m s0 (report cls f items s) := by
  unfold report
  repeat' (first
    | with_reducible assumption
    | (extract_lets +onlyGivenNames x; first | (refine Within.cut (m := m) (s := s0) x ?_ (fun h => ?_); subst x; rotate_left; clear_value x; rotate_right) | clear_value x | subst x)
    | with_reducible refine setFlag_within (by with_reducible assumption) ?_
    | with_reducible refine raise_within (hm.up (by with_unfolding_all rfl)) ?_)

theorem pendIrq_within {m : Nat} {s0 s : State} {k : Nat} (hm : Sub 0x2001 m)
    (h : Within m s0 s) : Within m s0 (pendIrq k s) := by
  unfold pendIrq
  repeat' (first
    | with_reducible assumption
    | (extract_lets +onlyGivenNames x; first | (refine Within.cut (m := m) (s := s0) x ?_ (fun h => ?_); subst x; rotate_left; clear_value x; rotate_right) | clear_value x)
    | with_reducible refine schedule_within (hm.up (by with_unfolding_all rfl)) ?_
    | split
    | with_reducible refine Within.set_host (hm.bit (by with_unfolding_all rfl)) ?_)

theorem hostEvent_within {m : Nat} {s0 s : State} {f : Fld} (hm : Sub 0x2001 m) (b0 : Reach m f.off)
    (h : Within m s0 s) : Within m s0 (hostEvent f s) := by
  unfold hostEvent
  repeat' (first
    | with_reducible assumption
    | (extract_lets +onlyGivenNames x; first | (refine Within.cut (m := m) (s := s0) x ?_ (fun h => ?_); subst x; rotate_left; clear_value x; rotate_right) | clear_value x | subst x)
    | with_reducible refine setFlag_within (by with_reducible assumption) ?_
    | with_reducible refine pendIrq_within (hm.up (by with_unfolding_all rfl)) ?_
    | split)

theorem errInfo_within {m : Nat} {s0 s : State} {kind : Nat} {ring : Nat} {idx : Nat} (hm : Sub 0x800000000000000000000 m)
    (h : Within m s0 s) : Within m s0 (errInfo kind ring idx s) := by
  unfold errInfo
  repeat' (first
    | with_reducible assumption
    | (extract_lets +onlyGivenNames x; first | (refine Within.cut (m := m) (s := s0) x ?_ (fun h => ?_); subst x; rotate_left; clear_value x; rotate_right) | clear_value x | subst x)
    | with_reducible refine fsets_nil ?_
    | with_reducible refine fsets_cons ?_
    | with_reducible refine fset_within (by with_reducible with_unfolding_all exact hm.reach (.inl (by simp only [HOST_ERRINFO_VALID_row, HOST_ERRINFO_KIND_row, HOST_ERRINFO_RING_row, HOST_ERRINFO_IDX_row]; rfl))) ?_
    | split)

theorem onWrite_within {m : Nat} {s0 s : State} {off : Nat} {f : State → State} (hm : Sub 0x1001 m)
    (k : ∀ t, Within m s0 t → Within m s0 (f t)) (h : Within m s0 s) : Within m s0 (onWrite off f s) := by
  unfold onWrite
  repeat' (first
    | with_reducible assumption
    | with_reducible refine pmcEvents_within (hm.up (by with_unfolding_all rfl)) ?_
    | with_reducible refine k _ ?_
    | (extract_lets +onlyGivenNames x; refine Within.cut (m := m) (s := s0) x ?_ (fun h => ?_); subst x; rotate_left; clear_value x; rotate_right)
    | split)

theorem onWriteThen_within {m : Nat} {s0 s : State} {off : Nat} {f : State → State} (hm : Sub 0x1001 m)
    (k : ∀ t, Within m s0 t → Within m s0 (f t)) (h : Within m s0 s) : Within m s0 (onWriteThen off f s) := by
  unfold onWriteThen
  repeat' (first
    | with_reducible assumption
    | with_reducible refine pmcEvents_within (hm.up (by with_unfolding_all rfl)) ?_
    | with_reducible refine k _ ?_
    | (extract_lets +onlyGivenNames x; refine Within.cut (m := m) (s := s0) x ?_ (fun h => ?_); subst x; rotate_left; clear_value x; rotate_right)
    | split)

theorem rcRead_within {m : Nat} {s0 s : State} {off : Nat} (hm : Sub 0x1041 m) (b0 : Reach m off)
    (h : Within m s0 s) : Within m s0 (rcRead off s) := by
  unfold rcRead
  repeat' (first
    | with_reducible assumption
    | (extract_lets +onlyGivenNames x; first | (refine Within.cut (m := m) (s := s0) x ?_ (fun h => ?_); subst x; rotate_left; clear_value x; rotate_right) | clear_value x)
    | with_reducible refine setRaw_within (by with_reducible assumption) ?_
    | with_reducible refine pmcEvents_within (hm.up (by with_unfolding_all rfl)) ?_
    | split
    | with_reducible refine Within.set_rdata (hm.bit (by with_unfolding_all rfl)) ?_)

theorem ringAdvance_within {m : Nat} {s0 s : State} {r : Nat} (hm : Sub 0x10000000000000000000000 m)
    (h : Within m s0 s) : Within m s0 (ringAdvance r s) := by
  unfold ringAdvance
  repeat' (first
    | with_reducible assumption
    | with_reducible refine fset_within (by with_reducible with_unfolding_all exact hm.reach (.inl (by simp only [HOST_RSTAT_DIDX_row]; rfl))) ?_)

theorem memWrite_within {m : Nat} {s0 s : State} {cls : Nat} {addr : Nat} {b : List Byte} (hm : Sub 0x1021 m)
    (h : Within m s0 s) : Within m s0 (memWrite cls addr b s) := by
  unfold memWrite
  repeat' (first
    | with_reducible assumption
    | (extract_lets +onlyGivenNames x; first | (refine Within.cut (m := m) (s := s0) x ?_ (fun h => ?_); subst x; rotate_left; clear_value x; rotate_right) | clear_value x | subst x)
    | with_reducible refine emit_within (hm.bit (by with_unfolding_all rfl)) ?_
    | with_reducible refine pmcEvents_within (hm.up (by with_unfolding_all rfl)) ?_)

theorem readEvent_within {m : Nat} {s0 s : State} {ms : Master} {off : Nat} (hm : Sub 0x1001 m)
    (h : Within m s0 s) : Within m s0 (readEvent ms off s) := by
  unfold readEvent
  repeat' (first
    | with_reducible assumption
    | with_reducible refine pmcEvents_within (hm.up (by with_unfolding_all rfl)) ?_
    | split)

end Sys2Proof.Machine
end

