-- ==== Sys2Proof/Laws/UnitOps.lean ====
section
/-! SUPPORT. What each definition of Machine/UnitOps.lean can change, said once: the set of parts after Sub (Laws/Within.lean gives
the bits), the queue never, and the invariants kept. -/

set_option linter.unusedSimpArgs false

namespace Sys2Proof.Machine

theorem setHead_within {m : Nat} {s0 s : State} {h_ : Nat} {x : HeadSt} (hm : Sub 0x4000 m)
    (h : Within m s0 s) : Within m s0 (setHead h_ x s) := by
  unfold setHead
  repeat' (first
    | with_reducible assumption
    | split
    | with_reducible refine Within.set_heads tset_wf (hm.bit (by with_unfolding_all rfl)) ?_)

theorem setTap_within {m : Nat} {s0 s : State} {t : Nat} {x : TapSt} (hm : Sub 0x8000 m)
    (h : Within m s0 s) : Within m s0 (setTap t x s) := by
  unfold setTap
  repeat' (first
    | with_reducible assumption
    | split
    | with_reducible refine Within.set_taps tset_wf (hm.bit (by with_unfolding_all rfl)) ?_)

theorem setGroup_within {m : Nat} {s0 s : State} {g : Nat} {x : GroupSt} (hm : Sub 0x10000 m)
    (h : Within m s0 s) : Within m s0 (setGroup g x s) := by
  unfold setGroup
  repeat' (first
    | with_reducible assumption
    | split
    | with_reducible refine Within.set_groups tset_wf (hm.bit (by with_unfolding_all rfl)) ?_)

theorem setAxis_within {m : Nat} {s0 s : State} {m_ : Nat} {x : AxisSt} (hm : Sub 0x100000 m)
    (h : Within m s0 s) : Within m s0 (setAxis m_ x s) := by
  unfold setAxis
  repeat' (first
    | with_reducible assumption
    | (extract_lets +onlyGivenNames x; clear_value x)
    | split
    | with_reducible refine Within.set_mot (hm.bit (by with_unfolding_all rfl)) ?_)

theorem setDoc_within {m : Nat} {s0 s : State} {h_ : Nat} {x : DocSt} (hm : Sub 0x100000 m)
    (h : Within m s0 s) : Within m s0 (setDoc h_ x s) := by
  unfold setDoc
  repeat' (first
    | with_reducible assumption
    | (extract_lets +onlyGivenNames x; clear_value x)
    | split
    | with_reducible refine Within.set_mot (hm.bit (by with_unfolding_all rfl)) ?_)

theorem setStr_within {m : Nat} {s0 s : State} {k : Nat} {x : StrSt} (hm : Sub 0x200000 m)
    (h : Within m s0 s) : Within m s0 (setStr k x s) := by
  unfold setStr
  repeat' (first
    | with_reducible assumption
    | (extract_lets +onlyGivenNames x; clear_value x)
    | split
    | with_reducible refine Within.set_lmp (hm.bit (by with_unfolding_all rfl)) ?_)

theorem whiteRestart_within {m : Nat} {s0 s : State} {hb : Nat} (hm : Sub 0x40000000000000000000000000000000000000000080000 m)
    (h : Within m s0 s) : Within m s0 (whiteRestart hb s) := by
  unfold whiteRestart
  repeat' (first
    | with_reducible assumption
    | (extract_lets +onlyGivenNames x; first | (refine Within.cut (m := m) (s := s0) x ?_ (fun h => ?_); subst x; rotate_left; clear_value x; rotate_right) | clear_value x)
    | with_reducible refine fset_within (by with_reducible with_unfolding_all exact hm.reach (.inl (by simp only [SHD_HSTAT_DUE_row]; rfl))) ?_
    | split
    | with_reducible refine Within.set_shd (hm.bit (by with_unfolding_all rfl)) ?_)

theorem whiteRestartHead_within {m : Nat} {s0 s : State} {h_ : Nat} (hm : Sub 0x40000000000000000000000000000000000000000080000 m)
    (h : Within m s0 s) : Within m s0 (whiteRestartHead h_ s) := by
  unfold whiteRestartHead
  repeat' (first
    | with_reducible assumption
    | (extract_lets +onlyGivenNames x; first | (refine Within.cut (m := m) (s := s0) x ?_ (fun h => ?_); subst x; rotate_left; clear_value x; rotate_right) | clear_value x | subst x)
    | with_reducible refine forN_within (fun _ _ _ => ?_) ?_
    | with_reducible refine whiteRestart_within (hm.up (by with_unfolding_all rfl)) ?_)

theorem whiteRestartTap_within {m : Nat} {s0 s : State} {t : Nat} (hm : Sub 0x40000000000000000000000000000000000000000080000 m)
    (h : Within m s0 s) : Within m s0 (whiteRestartTap t s) := by
  unfold whiteRestartTap
  repeat' (first
    | with_reducible assumption
    | (extract_lets +onlyGivenNames x; first | (refine Within.cut (m := m) (s := s0) x ?_ (fun h => ?_); subst x; rotate_left; clear_value x; rotate_right) | clear_value x | subst x)
    | with_reducible refine forN_within (fun _ _ _ => ?_) ?_
    | with_reducible refine whenS_within (fun _ _ => ?_) ?_
    | with_reducible refine whiteRestartHead_within (hm.up (by with_unfolding_all rfl)) ?_)

theorem setRun_within {m : Nat} {s0 s : State} {r : RunSt} (hm : Sub 0x80000 m)
    (h : Within m s0 s) : Within m s0 (setRun r s) := by
  unfold setRun
  repeat' (first
    | with_reducible assumption
    | (extract_lets +onlyGivenNames x; clear_value x)
    | split
    | with_reducible refine Within.set_shd (hm.bit (by with_unfolding_all rfl)) ?_)

theorem abortRun_within {m : Nat} {s0 s : State} {h_ : Nat} {code : Nat} (hm : Sub 0x80001 m)
    (h : Within m s0 s) : Within m s0 (abortRun h_ code s) := by
  unfold abortRun
  repeat' (first
    | with_reducible assumption
    | (extract_lets +onlyGivenNames x; first | (refine Within.cut (m := m) (s := s0) x ?_ (fun h => ?_); subst x; rotate_left; clear_value x; rotate_right) | clear_value x | subst x)
    | with_reducible refine schedule_within (hm.up (by with_unfolding_all rfl)) ?_
    | with_reducible refine setRun_within (hm.up (by with_unfolding_all rfl)) ?_
    | split)

theorem closePacket_within {m : Nat} {s0 s : State} {h_ : Nat} (hm : Sub 0x2000 m)
    (h : Within m s0 s) : Within m s0 (closePacket h_ s) := by
  unfold closePacket
  repeat' (first
    | with_reducible assumption
    | (extract_lets +onlyGivenNames x; clear_value x)
    | split
    | with_reducible refine Within.set_host (hm.bit (by with_unfolding_all rfl)) ?_)

theorem showStage_within {m : Nat} {s0 s : State} {st : Nat} {h_ : Nat} {b : Nat} (hm : Sub 0x8000000000000000000000000000000000000000 m)
    (h : Within m s0 s) : Within m s0 (showStage st h_ b s) := by
  unfold showStage
  repeat' (first
    | with_reducible assumption
    | (extract_lets +onlyGivenNames x; first | (refine Within.cut (m := m) (s := s0) x ?_ (fun h => ?_); subst x; rotate_left; clear_value x; rotate_right) | clear_value x | subst x)
    | with_reducible refine fsets_nil ?_
    | with_reducible refine fsets_cons ?_
    | with_reducible refine fset_within (by with_reducible with_unfolding_all exact hm.reach (.inl (by simp only [PIPE_STATUS_STAGE_row, PIPE_STATUS_STAGE_HEAD_row, PIPE_STATUS_STAGE_BAND_row]; rfl))) ?_)

theorem freeStage_within {m : Nat} {s0 s : State} (hm : Sub 0x8000000000000000000000000000000000020000 m)
    (h : Within m s0 s) : Within m s0 (freeStage s) := by
  unfold freeStage
  repeat' (first
    | with_reducible assumption
    | (extract_lets +onlyGivenNames x; first | (refine Within.cut (m := m) (s := s0) x ?_ (fun h => ?_); subst x; rotate_left; clear_value x; rotate_right) | subst x)
    | with_reducible refine showStage_within (hm.up (by with_unfolding_all rfl)) ?_
    | split
    | with_reducible refine Within.set_pipe (by with_unfolding_all exact fun c => c) (hm.bit (by with_unfolding_all rfl)) ?_)

theorem complete_within {m : Nat} {s0 s : State} {slot : Nat} {result : Nat} {status : Nat} (hm : Sub 0x3001 m)
    (h : Within m s0 s) : Within m s0 (complete slot result status s) := by
  unfold complete
  repeat' (first
    | with_reducible assumption
    | (extract_lets +onlyGivenNames x; first | (refine Within.cut (m := m) (s := s0) x ?_ (fun h => ?_); subst x; rotate_left; clear_value x; rotate_right) | clear_value x)
    | with_reducible refine pmcEvent_within (hm.up (by with_unfolding_all rfl)) ?_
    | split
    | with_reducible refine Within.set_host (hm.bit (by with_unfolding_all rfl)) ?_)

theorem resvStart_within {m : Nat} {s0 s : State} {h_ : Nat} (hm : Sub 0x100000 m)
    (h : Within m s0 s) : Within m s0 (resvStart h_ s) := by
  unfold resvStart
  repeat' (first
    | with_reducible assumption
    | (extract_lets +onlyGivenNames x; clear_value x)
    | split
    | with_reducible refine Within.set_mot (hm.bit (by with_unfolding_all rfl)) ?_)

theorem resvEnd_within {m : Nat} {s0 s : State} {h_ : Nat} (hm : Sub 0x100000 m)
    (h : Within m s0 s) : Within m s0 (resvEnd h_ s) := by
  unfold resvEnd
  repeat' (first
    | with_reducible assumption
    | (extract_lets +onlyGivenNames x; clear_value x)
    | split
    | with_reducible refine Within.set_mot (hm.bit (by with_unfolding_all rfl)) ?_)

theorem noteBand_within {m : Nat} {s0 s : State} {off : Nat} (hm : Sub 0x10 m)
    (h : Within m s0 s) : Within m s0 (noteBand off s) := by
  unfold noteBand
  repeat' (first
    | with_reducible assumption
    | (extract_lets +onlyGivenNames x; first | (refine Within.cut (m := m) (s := s0) x ?_ (fun h => ?_); subst x; rotate_left; clear_value x; rotate_right) | clear_value x)
    | split
    | with_reducible refine Within.set_bandTick (hm.bit (by with_unfolding_all rfl)) ?_
    | with_reducible refine Within.set_bandLog (hm.bit (by with_unfolding_all rfl)) ?_)

theorem activatePending_within {m : Nat} {s0 s : State} {off : Nat} (hm : Sub 0x8 m)
    (h : Within m s0 s) : Within m s0 (activatePending s off) := by
  unfold activatePending
  repeat' (first
    | with_reducible assumption
    | with_reducible refine activate_within (hm.up (by with_unfolding_all rfl)) ?_
    | split
    | with_reducible refine Within.set_active tset_wf (hm.bit (by with_unfolding_all rfl)) ?_)

theorem activateBandSet_within {m : Nat} {s0 s : State} {h_ : Nat} (hm : Sub 0x40000000000000008000000000000000000000000080009 m)
    (h : Within m s0 s) : Within m s0 (activateBandSet h_ s) := by
  unfold activateBandSet
  repeat' (first
    | with_reducible assumption
    | (extract_lets +onlyGivenNames x; first | (refine Within.cut (m := m) (s := s0) x ?_ (fun h => ?_); subst x; rotate_left; clear_value x; rotate_right) | clear_value x | subst x)
    | with_reducible refine setFlag_within (by with_reducible with_unfolding_all exact hm.reach (.inl (by simp only [HEAD_CTL_COMMIT_row, HEAD_BAND_EXPOSURE_row]; rfl))) ?_
    | with_reducible refine whenS_within (fun _ _ => ?_) ?_
    | with_reducible refine foldl_within (fun _ _ _ => ?_) ?_
    | with_reducible refine activatePending_within (hm.up (by with_unfolding_all rfl)) ?_
    | with_reducible refine schedule_within (hm.up (by with_unfolding_all rfl)) ?_
    | with_reducible refine whiteRestartHead_within (hm.up (by with_unfolding_all rfl)) ?_)

theorem activateTap_within {m : Nat} {s0 s : State} {t : Nat} (hm : Sub 0x8008 m)
    (h : Within m s0 s) : Within m s0 (activateTap t s) := by
  unfold activateTap
  repeat' (first
    | with_reducible assumption
    | (extract_lets +onlyGivenNames x; first | (refine Within.cut (m := m) (s := s0) x ?_ (fun h => ?_); subst x; rotate_left; clear_value x; rotate_right) | clear_value x)
    | with_reducible refine activateAll_within (hm.up (by with_unfolding_all rfl)) ?_
    | with_reducible refine setTap_within (hm.up (by with_unfolding_all rfl)) ?_)

theorem releaseGuest_within {m : Nat} {s0 s : State} {g : Nat} (hm : Sub 0x200800000000000000000000000000000000000 m)
    (h : Within m s0 s) : Within m s0 (releaseGuest g s) := by
  unfold releaseGuest
  repeat' (first
    | with_reducible assumption
    | (extract_lets +onlyGivenNames x; first | clear_value x | subst x)
    | with_reducible refine fset_within (by with_reducible with_unfolding_all exact hm.reach (.inl (by simp only [SLC_GSTATE_GUEST_TAP_row, TAP_STATUS_GUEST_row]; rfl))) ?_
    | with_reducible refine setFlag_within (by with_reducible with_unfolding_all exact hm.reach (.inl (by simp only [SLC_GSTATE_GUEST_TAP_row, TAP_STATUS_GUEST_row]; rfl))) ?_
    | split)

theorem endVisit_within {m : Nat} {s0 s : State} {g : Nat} (hm : Sub 0x200000000000000000000000000000000010001 m)
    (h : Within m s0 s) : Within m s0 (endVisit g s) := by
  unfold endVisit
  repeat' (first
    | with_reducible assumption
    | (extract_lets +onlyGivenNames x; first | (refine Within.cut (m := m) (s := s0) x ?_ (fun h => ?_); subst x; rotate_left; clear_value x; rotate_right) | clear_value x | subst x)
    | with_reducible refine fsets_nil ?_
    | with_reducible refine fsets_cons ?_
    | with_reducible refine fset_within (by with_reducible with_unfolding_all exact hm.reach (.inl (by simp only [SLC_GSTATE_VISIT_row, SLC_GSTATE_PHASE_row, SLC_GSTATE_FAILS_row]; rfl))) ?_
    | with_reducible refine whenS_within (fun _ _ => ?_) ?_
    | with_reducible refine setGroup_within (hm.up (by with_unfolding_all rfl)) ?_
    | with_reducible refine schedule_within (hm.up (by with_unfolding_all rfl)) ?_
    | split)

theorem groupTapUnowned_within {m : Nat} {s0 s : State} {g : Nat} {i : Nat} (hm : Sub 0x200800000000000000000000000000000010001 m)
    (h : Within m s0 s) : Within m s0 (groupTapUnowned g i s) := by
  unfold groupTapUnowned
  repeat' (first
    | with_reducible assumption
    | (extract_lets +onlyGivenNames x; first | (refine Within.cut (m := m) (s := s0) x ?_ (fun h => ?_); subst x; rotate_left; clear_value x; rotate_right) | clear_value x | subst x)
    | with_reducible refine fset_within (by with_reducible with_unfolding_all exact hm.reach (.inl (by simp only [SLC_GSTATE_PHASE_row, SLC_GSTATE_GUEST_TAP_row, TAP_STATUS_GUEST_row, SLC_GSTATE_VISIT_row]; rfl))) ?_
    | with_reducible refine setFlag_within (by with_reducible with_unfolding_all exact hm.reach (.inl (by simp only [SLC_GSTATE_PHASE_row, SLC_GSTATE_GUEST_TAP_row, TAP_STATUS_GUEST_row, SLC_GSTATE_VISIT_row]; rfl))) ?_
    | with_reducible refine whenS_within (fun _ _ => ?_) ?_
    | with_reducible refine setGroup_within (hm.up (by with_unfolding_all rfl)) ?_
    | with_reducible refine releaseGuest_within (hm.up (by with_unfolding_all rfl)) ?_
    | with_reducible refine endVisit_within (hm.up (by with_unfolding_all rfl)) ?_
    | split)

theorem headToOffline_within {m : Nat} {s0 s : State} {h_ : Nat} (hm : Sub 0x4000000020080001800000000000000000000000039c009 m)
    (h : Within m s0 s) : Within m s0 (headToOffline h_ s) := by
  unfold headToOffline
  repeat' (first
    | with_reducible assumption
    | (extract_lets +onlyGivenNames x; first | (refine Within.cut (m := m) (s := s0) x ?_ (fun h => ?_); subst x; rotate_left; clear_value x; rotate_right) | clear_value x | subst x)
    | with_reducible refine fsets_nil ?_
    | with_reducible refine fsets_cons ?_
    | with_reducible refine fset_within (by with_reducible with_unfolding_all exact hm.reach (.inl (by simp only [LMP_CTL_BUS_EN_row, LMP_CTL_BUS_HEAD_row, HEAD_CTL_COMMIT_row, TAP_STATUS_CM_OUT_row, TAP_STATUS_PEND_row, TAP_STATUS_OWNED_row, TAP_STATUS_HEAD_row, HEAD_STATUS_STATE_row, HEAD_CTL_ONLINE_row, HEAD_STATUS_CM_OUT_row, HEAD_STATUS_BAND_row]; rfl))) ?_
    | with_reducible refine whenS_within (fun _ _ => ?_) ?_
    | with_reducible refine foldl_within (fun _ _ _ => ?_) ?_
    | with_reducible refine activateBandSet_within (hm.up (by with_unfolding_all rfl)) ?_
    | with_reducible refine groupTapUnowned_within (hm.up (by with_unfolding_all rfl)) ?_
    | with_reducible refine setTap_within (hm.up (by with_unfolding_all rfl)) ?_
    | with_reducible refine activateTap_within (hm.up (by with_unfolding_all rfl)) ?_
    | with_reducible refine setHead_within (hm.up (by with_unfolding_all rfl)) ?_
    | with_reducible refine setDoc_within (hm.up (by with_unfolding_all rfl)) ?_
    | with_reducible refine resvEnd_within (hm.up (by with_unfolding_all rfl)) ?_
    | with_reducible refine cancel_within (hm.up (by with_unfolding_all rfl)) ?_
    | with_reducible refine abortRun_within (hm.up (by with_unfolding_all rfl)) ?_
    | with_reducible refine whiteRestartHead_within (hm.up (by with_unfolding_all rfl)) ?_
    | split
    | with_reducible refine Within.set_lmp (hm.bit (by with_unfolding_all rfl)) ?_)

theorem lampsDark_within {m : Nat} {s0 s : State} (hm : Sub 0x100000000000000000000000000000000000000000000000000000200001 m)
    (h : Within m s0 s) : Within m s0 (lampsDark s) := by
  unfold lampsDark
  repeat' (first
    | with_reducible assumption
    | (extract_lets +onlyGivenNames x; first | (refine Within.cut (m := m) (s := s0) x ?_ (fun h => ?_); subst x; rotate_left; clear_value x; rotate_right) | clear_value x | subst x)
    | with_reducible refine fsets_nil ?_
    | with_reducible refine fsets_cons ?_
    | with_reducible refine fset_within (by with_reducible with_unfolding_all exact hm.reach (.inl (by simp only [LMP_STATUS_RAIL_ON_row, LMP_STATUS_RAIL_OK_row]; rfl))) ?_
    | with_reducible refine foldl_within (fun _ _ _ => ?_) ?_
    | with_reducible refine cancel_within (hm.up (by with_unfolding_all rfl)) ?_
    | split
    | with_reducible refine Within.set_lmp (hm.bit (by with_unfolding_all rfl)) ?_)

theorem axesOff_within {m : Nat} {s0 s : State} (hm : Sub 0x2380000000000000000000000000000000000000000000000100000 m)
    (h : Within m s0 s) : Within m s0 (axesOff s) := by
  unfold axesOff
  repeat' (first
    | with_reducible assumption
    | (extract_lets +onlyGivenNames x; first | (refine Within.cut (m := m) (s := s0) x ?_ (fun h => ?_); subst x; rotate_left; clear_value x; rotate_right) | clear_value x | subst x)
    | with_reducible refine setRaw_within (by with_reducible with_unfolding_all exact hm.reach (.inl (by simp only [MOT_TO_row, MOT_ACTL_EN_row, MOT_ASTATUS_STATE_row, MOT_ASTATUS_REST_row, MOT_ASTATUS_MOVE_row, MOT_AVEL_VEL_row]; rfl))) ?_
    | with_reducible refine fsets_nil ?_
    | with_reducible refine fsets_cons ?_
    | with_reducible refine fset_within (by with_reducible with_unfolding_all exact hm.reach (.inl (by simp only [MOT_TO_row, MOT_ACTL_EN_row, MOT_ASTATUS_STATE_row, MOT_ASTATUS_REST_row, MOT_ASTATUS_MOVE_row, MOT_AVEL_VEL_row]; rfl))) ?_
    | with_reducible refine forN_within (fun _ _ _ => ?_) ?_
    | with_reducible refine setAxis_within (hm.up (by with_unfolding_all rfl)) ?_
    | split
    | with_reducible refine Within.set_mot (hm.bit (by with_unfolding_all rfl)) ?_)

theorem controlledStop_within {m : Nat} {s0 s : State} {m_ : Nat} (hm : Sub 0x200000000000000000000000000000000000000000000000000000 m)
    (h : Within m s0 s) : Within m s0 (controlledStop m_ s) := by
  unfold controlledStop
  repeat' (first
    | with_reducible assumption
    | (extract_lets +onlyGivenNames x; first | (refine Within.cut (m := m) (s := s0) x ?_ (fun h => ?_); subst x; rotate_left; clear_value x; rotate_right) | clear_value x | subst x)
    | with_reducible refine fset_within (by with_reducible with_unfolding_all exact hm.reach (.inl (by simp only [MOT_ASTATUS_MOVE_row]; rfl))) ?_
    | with_reducible refine whenS_within (fun _ _ => ?_) ?_)

theorem stopAllAxes_within {m : Nat} {s0 s : State} (hm : Sub 0x200000000000000000000000000000000000000000000000000000 m)
    (h : Within m s0 s) : Within m s0 (stopAllAxes s) := by
  unfold stopAllAxes
  repeat' (first
    | with_reducible assumption
    | (extract_lets +onlyGivenNames x; first | (refine Within.cut (m := m) (s := s0) x ?_ (fun h => ?_); subst x; rotate_left; clear_value x; rotate_right) | clear_value x | subst x)
    | with_reducible refine forN_within (fun _ _ _ => ?_) ?_
    | with_reducible refine controlledStop_within (hm.up (by with_unfolding_all rfl)) ?_)

theorem axisRests_within {m : Nat} {s0 s : State} {m_ : Nat} (hm : Sub 0x2200000000000000000000000000000000000000000000000100001 m)
    (h : Within m s0 s) : Within m s0 (axisRests m_ s) := by
  unfold axisRests
  repeat' (first
    | with_reducible assumption
    | (extract_lets +onlyGivenNames x; first | (refine Within.cut (m := m) (s := s0) x ?_ (fun h => ?_); subst x; rotate_left; clear_value x; rotate_right) | clear_value x | subst x)
    | with_reducible refine fset_within (by with_reducible with_unfolding_all exact hm.reach (.inl (by simp only [MOT_ASTATUS_REST_row, MOT_ASTATUS_MOVE_row, MOT_AVEL_VEL_row, MOT_ASTATUS_STATE_row, MOT_AIREF_STBY_DLY_row]; rfl))) ?_
    | with_reducible refine fsets_nil ?_
    | with_reducible refine fsets_cons ?_
    | with_reducible refine whenS_within (fun _ _ => ?_) ?_
    | with_reducible refine setAxis_within (hm.up (by with_unfolding_all rfl)) ?_
    | with_reducible refine schedule_within (hm.up (by with_unfolding_all rfl)) ?_
    | split)

theorem stopNow_within {m : Nat} {s0 s : State} {m_ : Nat} (hm : Sub 0x2600000000000000000000000000000000000000000000000100001 m)
    (h : Within m s0 s) : Within m s0 (stopNow m_ s) := by
  unfold stopNow
  repeat' (first
    | with_reducible assumption
    | (extract_lets +onlyGivenNames x; first | (refine Within.cut (m := m) (s := s0) x ?_ (fun h => ?_); subst x; rotate_left; clear_value x; rotate_right) | clear_value x | subst x)
    | with_reducible refine setFlag_within (by with_reducible with_unfolding_all exact hm.reach (.inl (by simp only [MOT_AEVENTS_PROF_DONE_row]; rfl))) ?_
    | with_reducible refine setAxis_within (hm.up (by with_unfolding_all rfl)) ?_
    | with_reducible refine axisRests_within (hm.up (by with_unfolding_all rfl)) ?_
    | split)

theorem abandonVisits_within {m : Nat} {s0 s : State} (hm : Sub 0x300800000000000000000000000000000010000 m)
    (h : Within m s0 s) : Within m s0 (abandonVisits s) := by
  unfold abandonVisits
  repeat' (first
    | with_reducible assumption
    | (extract_lets +onlyGivenNames x; first | (refine Within.cut (m := m) (s := s0) x ?_ (fun h => ?_); subst x; rotate_left; clear_value x; rotate_right) | clear_value x | subst x)
    | with_reducible refine fset_within (by with_reducible with_unfolding_all exact hm.reach (.inl (by simp only [SLC_CMDSTAT_BUSY_row, SLC_GSTATE_PHASE_row]; rfl))) ?_
    | with_reducible refine setFlag_within (by with_reducible with_unfolding_all exact hm.reach (.inl (by simp only [SLC_CMDSTAT_BUSY_row, SLC_GSTATE_PHASE_row]; rfl))) ?_
    | with_reducible refine forN_within (fun _ _ _ => ?_) ?_
    | with_reducible refine whenS_within (fun _ _ => ?_) ?_
    | with_reducible refine releaseGuest_within (hm.up (by with_unfolding_all rfl)) ?_
    | with_reducible refine setGroup_within (hm.up (by with_unfolding_all rfl)) ?_)

end Sys2Proof.Machine
end

