-- ==== Sys2Proof/Laws/LampOps.lean ====
section
/-! SUPPORT. What each definition of Machine/LampOps.lean can change, said once: the set of parts after Sub (Laws/Within.lean gives
the bits), the queue never, and the invariants kept. -/

set_option linter.unusedSimpArgs false

namespace Sys2Proof.Machine

theorem railFollow_within {m : Nat} {s0 s : State} (hm : Sub 0x1100000000000000000000000000000000000000000000000000000200001 m)
    (h : Within m s0 s) : Within m s0 (railFollow s) := by
  unfold railFollow
  repeat' (first
    | with_reducible assumption
    | (extract_lets +onlyGivenNames x; first | (refine Within.cut (m := m) (s := s0) x ?_ (fun h => ?_); subst x; rotate_left; clear_value x; rotate_right) | clear_value x | subst x)
    | with_reducible refine fsets_nil ?_
    | with_reducible refine fsets_cons ?_
    | with_reducible refine fset_within (by with_reducible with_unfolding_all exact hm.reach (.inl (by simp only [LMP_STATUS_RAIL_ON_row, LMP_VSET_VSET_row, LMP_STATUS_RAIL_OK_row]; rfl))) ?_
    | with_reducible refine lampsDark_within (hm.up (by with_unfolding_all rfl)) ?_
    | split
    | with_reducible refine Within.set_lmp (hm.bit (by with_unfolding_all rfl)) ?_)

end Sys2Proof.Machine
end

