-- ==== Sys2Proof/Laws/AuxOps.lean ====
section
/-! SUPPORT. What each definition of Machine/AuxOps.lean can change, said once: the set of parts after Sub (Laws/Within.lean gives
the bits), the queue never, and the invariants kept. -/

set_option linter.unusedSimpArgs false

namespace Sys2Proof.Machine

theorem slot_reach {m : Nat} {r : AuxRes} {k : Nat} (hm : Sub 0x1fe00000000000000000000000000000000000000000000000000000000000000000000000 m) (e : k = 0 ∨ k = 4 ∨ k = 8 ∨ k = 12) :
    Reach m (r.off + k) := by
  unfold AuxRes.off
  obtain rfl | rfl | rfl | rfl := e <;> split
  · exact hm.reach (.of (AUX_IRES_LO_row _ _) rfl)
  · exact hm.reach (.of (AUX_RES_LO_row _ _) rfl)
  · exact hm.reach (.of ((congrArg rowIdx (by unfold AUX_IRES_LO AUX_IRES_HI; omega)).trans (AUX_IRES_HI_row r.owner r.entry)) rfl)
  · exact hm.reach (.of ((congrArg rowIdx (by unfold AUX_RES_LO AUX_RES_HI; omega)).trans (AUX_RES_HI_row r.owner r.entry)) rfl)
  · exact hm.reach (.of ((congrArg rowIdx (by unfold AUX_IRES_LO AUX_ITS_LO; omega)).trans (AUX_ITS_LO_row r.owner r.entry)) rfl)
  · exact hm.reach (.of ((congrArg rowIdx (by unfold AUX_RES_LO AUX_TS_LO; omega)).trans (AUX_TS_LO_row r.owner r.entry)) rfl)
  · exact hm.reach (.of ((congrArg rowIdx (by unfold AUX_IRES_LO AUX_ITS_HI; omega)).trans (AUX_ITS_HI_row r.owner r.entry)) rfl)
  · exact hm.reach (.of ((congrArg rowIdx (by unfold AUX_RES_LO AUX_TS_HI; omega)).trans (AUX_TS_HI_row r.owner r.entry)) rfl)

theorem slot_reach0 {m : Nat} {r : AuxRes} (hm : Sub 0x1fe00000000000000000000000000000000000000000000000000000000000000000000000 m) : Reach m r.off := by
  have e := slot_reach (r := r) (k := 0) hm (.inl rfl)
  rwa [Nat.add_zero] at e

theorem setCv_within {m : Nat} {s0 s : State} {c : Nat} {x : CvSt} (hm : Sub 0x800000 m)
    (h : Within m s0 s) : Within m s0 (setCv c x s) := by
  unfold setCv
  repeat' (first
    | with_reducible assumption
    | (extract_lets +onlyGivenNames x; clear_value x)
    | split
    | with_reducible refine Within.set_aux (hm.bit (by with_unfolding_all rfl)) ?_)

theorem setAuxBit_within {m : Nat} {s0 s : State} {f : Fld} {c : Nat} {b : Bool} (b0 : Reach m f.off)
    (h : Within m s0 s) : Within m s0 (setAuxBit f c b s) := by
  unfold setAuxBit
  repeat' (first
    | with_reducible assumption
    | with_reducible refine fset_within (by with_reducible assumption) ?_)

theorem auxRaise_within {m : Nat} {s0 s : State} {t : Nat} {cls : Nat} {code : Nat} {items : List Nat} {results : Nat} (hm : Sub 0x4800000000000000000000000000000000000000000088000000000000000001001801 m)
    (h : Within m s0 s) : Within m s0 (auxRaise t cls code items results s) := by
  unfold auxRaise
  repeat' (first
    | with_reducible assumption
    | (extract_lets +onlyGivenNames x; first | (refine Within.cut (m := m) (s := s0) x ?_ (fun h => ?_); subst x; rotate_left; clear_value x; rotate_right) | clear_value x | subst x)
    | with_reducible refine setRaw_within (by with_reducible with_unfolding_all exact hm.reach (.inl (by simp only [AUX_DROPS_row, AUX_EVENTS_DROP_row]; rfl))) ?_
    | with_reducible refine setFlag_within (by with_reducible with_unfolding_all exact hm.reach (.inl (by simp only [AUX_DROPS_row, AUX_EVENTS_DROP_row]; rfl))) ?_
    | with_reducible refine raiseAt_within (hm.up (by with_unfolding_all rfl)) ?_
    | split)

theorem auxReport_within {m : Nat} {s0 s : State} {cls : Nat} {f : Fld} {items : List Nat} (hm : Sub 0x4800000000000000000000000000000000000000000088000000000000000001001801 m) (b1 : Reach m f.off)
    (h : Within m s0 s) : Within m s0 (auxReport cls f items s) := by
  unfold auxReport
  repeat' (first
    | with_reducible assumption
    | (extract_lets +onlyGivenNames x; first | (refine Within.cut (m := m) (s := s0) x ?_ (fun h => ?_); subst x; rotate_left; clear_value x; rotate_right) | clear_value x | subst x)
    | with_reducible refine setFlag_within (by with_reducible assumption) ?_
    | with_reducible refine auxRaise_within (hm.up (by with_unfolding_all rfl)) ?_)

theorem closeStream_within {m : Nat} {s0 s : State} {c : Nat} (hm : Sub 0x4800000000000000000000000000000000000000000088000000000000000001801801 m)
    (h : Within m s0 s) : Within m s0 (closeStream c s) := by
  unfold closeStream
  repeat' (first
    | with_reducible assumption
    | (extract_lets +onlyGivenNames x; first | (refine Within.cut (m := m) (s := s0) x ?_ (fun h => ?_); subst x; rotate_left; clear_value x; rotate_right) | clear_value x)
    | with_reducible refine setCv_within (hm.up (by with_unfolding_all rfl)) ?_
    | with_reducible refine cancel_within (hm.up (by with_unfolding_all rfl)) ?_
    | with_reducible refine auxRaise_within (hm.up (by with_unfolding_all rfl)) ?_
    | split)

theorem writeSlot_within {m : Nat} {s0 s : State} {r : AuxRes} (hm : Sub 0x1fe00000000000000000000000000000000000000000000000000000000000000000000000 m)
    (h : Within m s0 s) : Within m s0 (writeSlot r s) := by
  unfold writeSlot
  repeat' (first
    | with_reducible assumption
    | (extract_lets +onlyGivenNames x; subst x)
    | with_reducible refine setRaw_within (by with_reducible first | exact slot_reach0 hm | exact slot_reach hm (by decide)) ?_
    | with_reducible refine setPair_within (by with_reducible first | exact slot_reach0 hm | exact slot_reach hm (by decide)) (by with_reducible first | exact slot_reach0 hm | exact slot_reach hm (by decide)) ?_)

theorem recWcCause_within {m : Nat} {s0 s : State} {k : Nat} (hm : Sub 0x1000000 m)
    (h : Within m s0 s) : Within m s0 (recWcCause k s) := by
  unfold recWcCause
  repeat' (first
    | with_reducible assumption
    | (extract_lets +onlyGivenNames x; clear_value x)
    | split
    | with_reducible refine Within.set_recd (hm.bit (by with_unfolding_all rfl)) ?_)

theorem wcApply_within {m : Nat} {s0 s : State} {r : AuxRes} {k : Nat} (hm : Sub 0x100004800000000000000000000000000000000000000000088000000000000000001001801 m)
    (h : Within m s0 s) : Within m s0 (wcApply r k s) := by
  unfold wcApply
  repeat' (first
    | with_reducible assumption
    | (extract_lets +onlyGivenNames x; first | (refine Within.cut (m := m) (s := s0) x ?_ (fun h => ?_); subst x; rotate_left; clear_value x; rotate_right) | clear_value x | subst x)
    | with_reducible refine fset_within (by with_reducible with_unfolding_all exact hm.reach (.inl (by simp only [AUX_EVENTS_WC_ENTRY_row, AUX_EVENTS_WC_EXIT_row, AUX_WC_CTL_EN_row, AUX_WC_CTL_CONV_row, AUX_WC_CTL_ENTRY_row, AUX_WC_LO_row, AUX_WC_HI_row, AUX_WC_STAT_OUT_row, AUX_WC_STAT_CNT_row, AUX_WC_CTL_QUAL_row, AUX_WC_CTL_CLASS_row, AUX_WC_CTL_RE_EN_row, AUX_WC_STAT_ABOVE_row, AUX_WC_STAT_EXITS_row]; rfl))) ?_
    | with_reducible refine setFlag_within (by with_reducible with_unfolding_all exact hm.reach (.inl (by simp only [AUX_EVENTS_WC_ENTRY_row, AUX_EVENTS_WC_EXIT_row, AUX_WC_CTL_EN_row, AUX_WC_CTL_CONV_row, AUX_WC_CTL_ENTRY_row, AUX_WC_LO_row, AUX_WC_HI_row, AUX_WC_STAT_OUT_row, AUX_WC_STAT_CNT_row, AUX_WC_CTL_QUAL_row, AUX_WC_CTL_CLASS_row, AUX_WC_CTL_RE_EN_row, AUX_WC_STAT_ABOVE_row, AUX_WC_STAT_EXITS_row]; rfl))) ?_
    | with_reducible refine fsets_nil ?_
    | with_reducible refine fsets_cons ?_
    | with_reducible refine auxRaise_within (hm.up (by with_unfolding_all rfl)) ?_
    | with_reducible refine recWcCause_within (hm.up (by with_unfolding_all rfl)) ?_
    | split)

theorem deliverResult_within {m : Nat} {s0 s : State} {r : AuxRes} (hm : Sub 0x11fe04800000000000000000000000000000000000000000088000000000000000001801801 m)
    (h : Within m s0 s) : Within m s0 (deliverResult r s) := by
  unfold deliverResult
  repeat' (first
    | with_reducible assumption
    | (extract_lets +onlyGivenNames x; first | (refine Within.cut (m := m) (s := s0) x ?_ (fun h => ?_); subst x; rotate_left; clear_value x; rotate_right) | clear_value x | subst x)
    | with_reducible refine forN_within (fun _ _ _ => ?_) ?_
    | with_reducible refine writeSlot_within (hm.up (by with_unfolding_all rfl)) ?_
    | with_reducible refine auxReport_within (hm.up (by with_unfolding_all rfl)) (by with_reducible with_unfolding_all exact hm.reach (.inl (by simp only [AUX_EVENTS_OPEN_WIRE_row, AUX_CVCTL_STREAM_row]; rfl))) ?_
    | with_reducible refine setCv_within (hm.up (by with_unfolding_all rfl)) ?_
    | with_reducible refine closeStream_within (hm.up (by with_unfolding_all rfl)) ?_
    | with_reducible refine schedule_within (hm.up (by with_unfolding_all rfl)) ?_
    | with_reducible refine wcApply_within (hm.up (by with_unfolding_all rfl)) ?_
    | split)

theorem excFollow_within {m : Nat} {s0 s : State} {n : Nat} (hm : Sub 0x10000000000000000000000000000000000000000000000000000000000000000000000 m)
    (h : Within m s0 s) : Within m s0 (excFollow n s) := by
  unfold excFollow
  repeat' (first
    | with_reducible assumption
    | (extract_lets +onlyGivenNames x; clear_value x)
    | with_reducible refine fset_within (by with_reducible with_unfolding_all exact hm.reach (.inl (by simp only [AUX_EXC_OWNER_row, AUX_EXC_LVL_row, AUX_EXC_STATE_row]; rfl))) ?_
    | split)

theorem pcEntryStart_within {m : Nat} {s0 s : State} {owner : Nat} {v : Nat} {e : Nat × Nat} (hm : Sub 0x10000000000000000000000000000000000000000000000000000000000000000800000 m)
    (h : Within m s0 s) : Within m s0 (pcEntryStart owner v e s) := by
  unfold pcEntryStart
  repeat' (first
    | with_reducible assumption
    | (extract_lets +onlyGivenNames x; first | (refine Within.cut (m := m) (s := s0) x ?_ (fun h => ?_); subst x; rotate_left; clear_value x; rotate_right) | clear_value x)
    | with_reducible refine fset_within (by with_reducible with_unfolding_all exact hm.reach (.inl (by simp only [AUX_EXC_OWNER_row, AUX_EXC_STATE_row]; rfl))) ?_
    | with_reducible refine setCv_within (hm.up (by with_unfolding_all rfl)) ?_
    | split)

theorem startPass_within {m : Nat} {s0 s : State} {c : Nat} (hm : Sub 0x800000 m)
    (h : Within m s0 s) : Within m s0 (startPass c s) := by
  unfold startPass
  repeat' (first
    | with_reducible assumption
    | (extract_lets +onlyGivenNames x; clear_value x)
    | with_reducible refine setCv_within (hm.up (by with_unfolding_all rfl)) ?_)

theorem passTrigger_within {m : Nat} {s0 s : State} {c : Nat} (hm : Sub 0x800000000000000000000000000000000000000000000000000000000000000800000 m)
    (h : Within m s0 s) : Within m s0 (passTrigger c s) := by
  unfold passTrigger
  repeat' (first
    | with_reducible assumption
    | (extract_lets +onlyGivenNames x; clear_value x)
    | with_reducible refine setFlag_within (by with_reducible with_unfolding_all exact hm.reach (.inl (by simp only [AUX_STATUS_FAULT_row, AUX_STATUS_MIGR_row, AUX_EVENTS_SEQ_OVR_row, AUX_CVCTL_EN_row]; rfl))) ?_
    | with_reducible refine setCv_within (hm.up (by with_unfolding_all rfl)) ?_
    | with_reducible refine startPass_within (hm.up (by with_unfolding_all rfl)) ?_
    | split)

theorem startRange_within {m : Nat} {s0 s : State} {c : Nat} {r : Nat} (hm : Sub 0x800000 m)
    (h : Within m s0 s) : Within m s0 (startRange c r s) := by
  unfold startRange
  repeat' (first
    | with_reducible assumption
    | (extract_lets +onlyGivenNames x; clear_value x)
    | with_reducible refine setCv_within (hm.up (by with_unfolding_all rfl)) ?_)

theorem startCal_within {m : Nat} {s0 s : State} {c : Nat} (hm : Sub 0x2400000000000000000000000000000000000000000000000000000000000000800000 m)
    (h : Within m s0 s) : Within m s0 (startCal c s) := by
  unfold startCal
  repeat' (first
    | with_reducible assumption
    | (extract_lets +onlyGivenNames x; first | (refine Within.cut (m := m) (s := s0) x ?_ (fun h => ?_); subst x; rotate_left; clear_value x; rotate_right) | clear_value x | subst x)
    | with_reducible refine setFlag_within (by with_reducible with_unfolding_all exact hm.reach (.inl (by simp only [AUX_STATUS_CAL_row, AUX_CALSTAT_BUSY_row]; rfl))) ?_
    | with_reducible refine setAuxBit_within (by with_reducible with_unfolding_all exact hm.reach (.inl (by simp only [AUX_STATUS_CAL_row, AUX_CALSTAT_BUSY_row]; rfl))) ?_
    | with_reducible refine startRange_within (hm.up (by with_unfolding_all rfl)) ?_
    | with_reducible refine setCv_within (hm.up (by with_unfolding_all rfl)) ?_)

theorem calReport_within {m : Nat} {s0 s : State} {c : Nat} {code : Nat} {first : Nat} {fails : Nat} (hm : Sub 0x6800000000000000000000000000000000000000000088000000000000000001001801 m)
    (h : Within m s0 s) : Within m s0 (calReport c code first fails s) := by
  unfold calReport
  repeat' (first
    | with_reducible assumption
    | (extract_lets +onlyGivenNames x; first | (refine Within.cut (m := m) (s := s0) x ?_ (fun h => ?_); subst x; rotate_left; clear_value x; rotate_right) | clear_value x | subst x)
    | with_reducible refine fsets_nil ?_
    | with_reducible refine fsets_cons ?_
    | with_reducible refine fset_within (by with_reducible with_unfolding_all exact hm.reach (.inl (by simp only [AUX_CALSTAT_CONV_row, AUX_CALSTAT_RANGE_row, AUX_CALSTAT_CODE_row, AUX_EVENTS_CAL_FAIL_row]; rfl))) ?_
    | with_reducible refine auxReport_within (hm.up (by with_unfolding_all rfl)) (by with_reducible with_unfolding_all exact hm.reach (.inl (by simp only [AUX_CALSTAT_CONV_row, AUX_CALSTAT_RANGE_row, AUX_CALSTAT_CODE_row, AUX_EVENTS_CAL_FAIL_row]; rfl))) ?_
    | split)

theorem endCal_within {m : Nat} {s0 s : State} {c : Nat} {code : Nat} {first : Nat} {fails : Nat} (hm : Sub 0x6c00000000000000000000000000000000000000000088000000000000000001801801 m)
    (h : Within m s0 s) : Within m s0 (endCal c code first fails s) := by
  unfold endCal
  repeat' (first
    | with_reducible assumption
    | (extract_lets +onlyGivenNames x; first | (refine Within.cut (m := m) (s := s0) x ?_ (fun h => ?_); subst x; rotate_left; clear_value x; rotate_right) | clear_value x | subst x)
    | with_reducible refine setFlag_within (by with_reducible with_unfolding_all exact hm.reach (.inl (by simp only [AUX_STATUS_CAL_row, AUX_CALSTAT_BUSY_row]; rfl))) ?_
    | with_reducible refine setAuxBit_within (by with_reducible with_unfolding_all exact hm.reach (.inl (by simp only [AUX_STATUS_CAL_row, AUX_CALSTAT_BUSY_row]; rfl))) ?_
    | with_reducible refine calReport_within (hm.up (by with_unfolding_all rfl)) ?_
    | with_reducible refine setCv_within (hm.up (by with_unfolding_all rfl)) ?_)

theorem auxNext_within {m : Nat} {s0 s : State} {v : Nat} (hm : Sub 0x12400000000000000000000000000000000000000000000000000000000000000800000 m)
    (h : Within m s0 s) : Within m s0 (auxNext v s) := by
  unfold auxNext
  repeat' (first
    | with_reducible assumption
    | (extract_lets +onlyGivenNames x; first | (refine Within.cut (m := m) (s := s0) x ?_ (fun h => ?_); subst x; rotate_left; clear_value x; rotate_right) | clear_value x)
    | with_reducible refine setCv_within (hm.up (by with_unfolding_all rfl)) ?_
    | with_reducible refine startRange_within (hm.up (by with_unfolding_all rfl)) ?_
    | with_reducible refine startCal_within (hm.up (by with_unfolding_all rfl)) ?_
    | with_reducible refine startPass_within (hm.up (by with_unfolding_all rfl)) ?_
    | with_reducible refine pcEntryStart_within (hm.up (by with_unfolding_all rfl)) ?_
    | split)

theorem passAdvance_within {m : Nat} {s0 s : State} {o : Nat} (hm : Sub 0x800000 m)
    (h : Within m s0 s) : Within m s0 (passAdvance o s) := by
  unfold passAdvance
  repeat' (first
    | with_reducible assumption
    | (extract_lets +onlyGivenNames x; first | (refine Within.cut (m := m) (s := s0) x ?_ (fun h => ?_); subst x; rotate_left; clear_value x; rotate_right) | clear_value x)
    | with_reducible refine setCv_within (hm.up (by with_unfolding_all rfl)) ?_
    | with_reducible refine startPass_within (hm.up (by with_unfolding_all rfl)) ?_
    | split)

theorem askCal_within {m : Nat} {s0 s : State} {c : Nat} (hm : Sub 0x16c00000000000000000000000000000000000000000088000000000000000001801801 m)
    (h : Within m s0 s) : Within m s0 (askCal c s) := by
  unfold askCal
  repeat' (first
    | with_reducible assumption
    | (extract_lets +onlyGivenNames x; first | clear_value x | subst x)
    | with_reducible refine calReport_within (hm.up (by with_unfolding_all rfl)) ?_
    | with_reducible refine auxNext_within (hm.up (by with_unfolding_all rfl)) ?_
    | with_reducible refine setCv_within (hm.up (by with_unfolding_all rfl)) ?_
    | split)

theorem stopConverter_within {m : Nat} {s0 s : State} {c : Nat} (hm : Sub 0x4c00000000000000000000000000000000000000000088000000000000000001801801 m)
    (h : Within m s0 s) : Within m s0 (stopConverter c s) := by
  unfold stopConverter
  repeat' (first
    | with_reducible assumption
    | (extract_lets +onlyGivenNames x; first | (refine Within.cut (m := m) (s := s0) x ?_ (fun h => ?_); subst x; rotate_left; clear_value x; rotate_right) | clear_value x)
    | with_reducible refine closeStream_within (hm.up (by with_unfolding_all rfl)) ?_
    | with_reducible refine setCv_within (hm.up (by with_unfolding_all rfl)) ?_
    | with_reducible refine setAuxBit_within (by with_reducible with_unfolding_all exact hm.reach (.inl (by simp only [AUX_STATUS_RUN_row]; rfl))) ?_)

theorem auxSleep_within {m : Nat} {s0 s : State} (hm : Sub 0x16c00000000000000000000000000000000000000000088000000000000000001801801 m)
    (h : Within m s0 s) : Within m s0 (auxSleep s) := by
  unfold auxSleep
  repeat' (first
    | with_reducible assumption
    | (extract_lets +onlyGivenNames x; first | (refine Within.cut (m := m) (s := s0) x ?_ (fun h => ?_); subst x; rotate_left; clear_value x; rotate_right) | clear_value x | subst x)
    | with_reducible refine fset_within (by with_reducible with_unfolding_all exact hm.reach (.inl (by simp only [AUX_EXC_STATE_row]; rfl))) ?_
    | with_reducible refine forN_within (fun _ _ _ => ?_) ?_
    | with_reducible refine stopConverter_within (hm.up (by with_unfolding_all rfl)) ?_
    | with_reducible refine setCv_within (hm.up (by with_unfolding_all rfl)) ?_
    | with_reducible refine endCal_within (hm.up (by with_unfolding_all rfl)) ?_
    | split)

theorem auxStart_within {m : Nat} {s0 s : State} (hm : Sub 0x104418400000000000000000000000000000000000000000000000000000000000000800000 m)
    (h : Within m s0 s) : Within m s0 (auxStart s) := by
  unfold auxStart
  repeat' (first
    | with_reducible assumption
    | (extract_lets +onlyGivenNames x; first | (refine Within.cut (m := m) (s := s0) x ?_ (fun h => ?_); subst x; rotate_left; clear_value x; rotate_right) | clear_value x | subst x)
    | with_reducible refine setRaw_within (by with_reducible with_unfolding_all exact hm.reach (.inl (by simp only [AUX_STATUS_FAULT_row, AUX_STATUS_MIGR_row, AUX_STATUS_CAL_row, AUX_STATUS_RUN_row, AUX_CVCTL_EN_row, AUX_EXC_STATE_row, AUX_WC_STAT_row, AUX_RES_HI_VALID_row, AUX_IRES_HI_VALID_row]; rfl))) ?_
    | with_reducible refine fset_within (by with_reducible with_unfolding_all exact hm.reach (.inl (by simp only [AUX_STATUS_FAULT_row, AUX_STATUS_MIGR_row, AUX_STATUS_CAL_row, AUX_STATUS_RUN_row, AUX_CVCTL_EN_row, AUX_EXC_STATE_row, AUX_WC_STAT_row, AUX_RES_HI_VALID_row, AUX_IRES_HI_VALID_row]; rfl))) ?_
    | with_reducible refine setFlag_within (by with_reducible with_unfolding_all exact hm.reach (.inl (by simp only [AUX_STATUS_FAULT_row, AUX_STATUS_MIGR_row, AUX_STATUS_CAL_row, AUX_STATUS_RUN_row, AUX_CVCTL_EN_row, AUX_EXC_STATE_row, AUX_WC_STAT_row, AUX_RES_HI_VALID_row, AUX_IRES_HI_VALID_row]; rfl))) ?_
    | with_reducible refine fsets_nil ?_
    | with_reducible refine fsets_cons ?_
    | with_reducible refine forN_within (fun _ _ _ => ?_) ?_
    | split
    | with_reducible refine Within.set_aux (hm.bit (by with_unfolding_all rfl)) ?_)

end Sys2Proof.Machine
end

