-- ==== Sys2Proof/Laws/PipeOps.lean ====
section
/-! SUPPORT. What each definition of Machine/PipeOps.lean can change, said once: the set of parts after Sub (Laws/Within.lean gives
the bits), the queue never, and the invariants kept. -/

set_option linter.unusedSimpArgs false

namespace Sys2Proof.Machine

theorem setG_within {m : Nat} {s0 s : State} {e : Nat} {v : Nat} (hm : Sub 0x20000 m)
    (h : Within m s0 s) : Within m s0 (setG e v s) := by
  unfold setG
  repeat' (first
    | with_reducible assumption
    | (extract_lets +onlyGivenNames x; subst x)
    | split
    | with_reducible refine Within.set_pipe (by intro c; simp only [pipeWf, Bool.and_eq_true] at c ⊢; simp only [c, iset, tset_wf, and_self]) (hm.bit (by with_unfolding_all rfl)) ?_)

theorem setD0_within {m : Nat} {s0 s : State} {e : Nat} {v : Int} (hm : Sub 0x20000 m)
    (h : Within m s0 s) : Within m s0 (setD0 e v s) := by
  unfold setD0
  repeat' (first
    | with_reducible assumption
    | (extract_lets +onlyGivenNames x; subst x)
    | split
    | with_reducible refine Within.set_pipe (by intro c; simp only [pipeWf, Bool.and_eq_true] at c ⊢; simp only [c, iset, tset_wf, and_self]) (hm.bit (by with_unfolding_all rfl)) ?_)

theorem setD1_within {m : Nat} {s0 s : State} {i : Nat} {v : Int} (hm : Sub 0x20000 m)
    (h : Within m s0 s) : Within m s0 (setD1 i v s) := by
  unfold setD1
  repeat' (first
    | with_reducible assumption
    | (extract_lets +onlyGivenNames x; subst x)
    | split
    | with_reducible refine Within.set_pipe (by intro c; simp only [pipeWf, Bool.and_eq_true] at c ⊢; simp only [c, iset, tset_wf, and_self]) (hm.bit (by with_unfolding_all rfl)) ?_)

theorem setLut_within {m : Nat} {s0 s : State} {i : Nat} {v : Nat} (hm : Sub 0x20000 m)
    (h : Within m s0 s) : Within m s0 (setLut i v s) := by
  unfold setLut
  repeat' (first
    | with_reducible assumption
    | (extract_lets +onlyGivenNames x; subst x)
    | split
    | with_reducible refine Within.set_pipe (by intro c; simp only [pipeWf, Bool.and_eq_true] at c ⊢; simp only [c, iset, tset_wf, and_self]) (hm.bit (by with_unfolding_all rfl)) ?_)

theorem setTrk_within {m : Nat} {s0 s : State} {t : Nat} {b : Nat} {v : Int} (hm : Sub 0x20000 m)
    (h : Within m s0 s) : Within m s0 (setTrk t b v s) := by
  unfold setTrk
  repeat' (first
    | with_reducible assumption
    | (extract_lets +onlyGivenNames x; subst x)
    | split
    | with_reducible refine Within.set_pipe (by intro c; simp only [pipeWf, Bool.and_eq_true] at c ⊢; simp only [c, iset, tset_wf, and_self]) (hm.bit (by with_unfolding_all rfl)) ?_)

theorem setGen_within {m : Nat} {s0 s : State} {hb : Nat} {v : Nat} (hm : Sub 0x4000000000000000000000000000000000000000000 m)
    (h : Within m s0 s) : Within m s0 (setGen hb v s) := by
  unfold setGen
  repeat' (first
    | with_reducible assumption
    | with_reducible refine fset_within (by with_reducible with_unfolding_all exact hm.reach (.inl (by simp only [PIPE_GEN_GEN_LO_row, PIPE_GEN_GEN_HI_row]; rfl))) ?_
    | split)

theorem writeRow_within {m : Nat} {s0 s : State} {bank : Nat} {row : Nat} {b : List Byte} {i : Nat} (hm : Sub 0x20000 m)
    (h : Within m s0 s) : Within m s0 (writeRow bank row b i s) := by
  unfold writeRow
  repeat' (first
    | with_reducible assumption
    | (extract_lets +onlyGivenNames x; first | clear_value x | subst x)
    | with_reducible refine forN_within (fun _ _ _ => ?_) ?_
    | with_reducible refine setD0_within (hm.up (by with_unfolding_all rfl)) ?_
    | with_reducible refine setG_within (hm.up (by with_unfolding_all rfl)) ?_
    | with_reducible refine setD1_within (hm.up (by with_unfolding_all rfl)) ?_
    | with_reducible refine setLut_within (hm.up (by with_unfolding_all rfl)) ?_
    | split)

theorem writeRw_within {m : Nat} {s0 s : State} {off : Nat} {v : Nat} (b0 : Reach m off)
    (h : Within m s0 s) : Within m s0 (writeRw off v s) := by
  unfold writeRw
  repeat' (first
    | with_reducible assumption
    | (extract_lets +onlyGivenNames x; clear_value x)
    | with_reducible refine setRaw_within (by with_reducible assumption) ?_)

end Sys2Proof.Machine
end

