-- ==== Sys2Proof/Laws/AtticOps.lean ====
section
/-! SUPPORT. What each definition of Machine/AtticOps.lean can change, said once: the set of parts after Sub (Laws/Within.lean gives
the bits), the queue never, and the invariants kept. -/

set_option linter.unusedSimpArgs false

namespace Sys2Proof.Machine

theorem restoreRows_within {m : Nat} {s0 s : State} {p : List Byte} (hm : Sub 0x20000 m)
    (h : Within m s0 s) : Within m s0 (restoreRows p s) := by
  unfold restoreRows
  repeat' (first
    | with_reducible assumption
    | (extract_lets +onlyGivenNames x; first | (refine Within.cut (m := m) (s := s0) x ?_ (fun h => ?_); subst x; rotate_left; clear_value x; rotate_right) | clear_value x | subst x)
    | with_reducible refine forN_within (fun _ _ _ => ?_) ?_
    | with_reducible refine writeRow_within (hm.up (by with_unfolding_all rfl)) ?_)

theorem restoreRegs_within {m : Nat} {s0 s : State} {p : List Byte} (hm : Sub 0x80000008 m)
    (h : Within m s0 s) : Within m s0 (restoreRegs p s) := by
  unfold restoreRegs
  repeat' (first
    | with_reducible assumption
    | (extract_lets +onlyGivenNames x; first | (refine Within.cut (m := m) (s := s0) x ?_ (fun h => ?_); subst x; rotate_left; clear_value x; rotate_right) | clear_value x)
    | with_reducible refine forN_within (fun _ _ _ => ?_) ?_
    | with_reducible refine writeRw_within (by with_reducible exact hm.reach (.all (by with_unfolding_all rfl))) ?_
    | with_reducible refine activate_within (hm.up (by with_unfolding_all rfl)) ?_
    | split)

theorem restoreRetire_within {m : Nat} {s0 s : State} {p : List Byte} (hm : Sub 0x400000000000000000000000000000000000000 m)
    (h : Within m s0 s) : Within m s0 (restoreRetire p s) := by
  unfold restoreRetire
  repeat' (first
    | with_reducible assumption
    | (extract_lets +onlyGivenNames x; first | clear_value x | subst x)
    | with_reducible refine fsets_nil ?_
    | with_reducible refine fsets_cons ?_
    | with_reducible refine fset_within (by with_reducible with_unfolding_all exact hm.reach (.inl (by simp only [SLC_GRETIRE_VALID_row, SLC_GRETIRE_FACTORY_row, SLC_GRETIRE_SLICE_row]; rfl))) ?_
    | with_reducible refine forN_within (fun _ _ _ => ?_) ?_
    | split)

theorem restoreDark_within {m : Nat} {s0 s : State} {p : List Byte} (hm : Sub 0x80000 m)
    (h : Within m s0 s) : Within m s0 (restoreDark p s) := by
  unfold restoreDark
  repeat' (first
    | with_reducible assumption
    | (extract_lets +onlyGivenNames x; clear_value x)
    | with_reducible refine foldl_within (fun _ _ _ => ?_) ?_
    | split
    | with_reducible refine Within.set_shd (hm.bit (by with_unfolding_all rfl)) ?_)

theorem restoreResp_within {m : Nat} {s0 s : State} {p : List Byte} (hm : Sub 0x200000 m)
    (h : Within m s0 s) : Within m s0 (restoreResp p s) := by
  unfold restoreResp
  repeat' (first
    | with_reducible assumption
    | (extract_lets +onlyGivenNames x; clear_value x)
    | with_reducible refine forN_within (fun _ _ _ => ?_) ?_
    | split
    | with_reducible refine Within.set_lmp (hm.bit (by with_unfolding_all rfl)) ?_)

theorem restoreRec_within {m : Nat} {s0 s : State} {r : BankRec} (hm : Sub 0x40004000000000000000000000000000000802a0008 m)
    (h : Within m s0 s) : Within m s0 (restoreRec r s) := by
  unfold restoreRec
  repeat' (first
    | with_reducible assumption
    | (extract_lets +onlyGivenNames x; first | (refine Within.cut (m := m) (s := s0) x ?_ (fun h => ?_); subst x; rotate_left; clear_value x; rotate_right) | clear_value x | subst x)
    | with_reducible refine forN_within (fun _ _ _ => ?_) ?_
    | with_reducible refine restoreRows_within (hm.up (by with_unfolding_all rfl)) ?_
    | with_reducible refine restoreRegs_within (hm.up (by with_unfolding_all rfl)) ?_
    | with_reducible refine setGen_within (hm.up (by with_unfolding_all rfl)) ?_
    | with_reducible refine restoreDark_within (hm.up (by with_unfolding_all rfl)) ?_
    | with_reducible refine restoreResp_within (hm.up (by with_unfolding_all rfl)) ?_
    | with_reducible refine restoreRetire_within (hm.up (by with_unfolding_all rfl)) ?_
    | split)

theorem restoreBank_within {m : Nat} {s0 s : State} {k : Nat} {b : Bank} (hm : Sub 0xb2400040004000000080000000000000000000000802a0009 m)
    (h : Within m s0 s) : Within m s0 (restoreBank k b s) := by
  unfold restoreBank
  repeat' (first
    | with_reducible assumption
    | (extract_lets +onlyGivenNames x; first | (refine Within.cut (m := m) (s := s0) x ?_ (fun h => ?_); subst x; rotate_left; clear_value x; rotate_right) | clear_value x | subst x)
    | with_reducible refine setRaw_within (by with_reducible with_unfolding_all exact hm.reach (.inl (by simp only [ATT_SEQ_LO_row, ATT_SEQ_HI_row, ATT_STATUS_SOURCE_row, ATT_USED_row]; rfl))) ?_
    | with_reducible refine fset_within (by with_reducible with_unfolding_all exact hm.reach (.inl (by simp only [ATT_SEQ_LO_row, ATT_SEQ_HI_row, ATT_STATUS_SOURCE_row, ATT_USED_row]; rfl))) ?_
    | with_reducible refine setPair_within (by with_reducible with_unfolding_all exact hm.reach (.inl (by simp only [ATT_SEQ_LO_row, ATT_SEQ_HI_row, ATT_STATUS_SOURCE_row, ATT_USED_row]; rfl))) (by with_reducible with_unfolding_all exact hm.reach (.inl (by simp only [ATT_SEQ_LO_row, ATT_SEQ_HI_row, ATT_STATUS_SOURCE_row, ATT_USED_row]; rfl))) ?_
    | with_reducible refine forN_within (fun _ _ _ => ?_) ?_
    | with_reducible refine foldl_within (fun _ _ _ => ?_) ?_
    | with_reducible refine restoreRec_within (hm.up (by with_unfolding_all rfl)) ?_
    | with_reducible refine activateBandSet_within (hm.up (by with_unfolding_all rfl)) ?_)

theorem restoreJournal_within {m : Nat} {s0 s : State} (hm : Sub 0x4000000000400000000000000000000000000000000000000 m)
    (h : Within m s0 s) : Within m s0 (restoreJournal s) := by
  unfold restoreJournal
  repeat' (first
    | with_reducible assumption
    | (extract_lets +onlyGivenNames x; first | (refine Within.cut (m := m) (s := s0) x ?_ (fun h => ?_); subst x; rotate_left; clear_value x; rotate_right) | clear_value x)
    | with_reducible refine fset_within (by with_reducible with_unfolding_all exact hm.reach (.inl (by simp only [ATT_JRNL_ENTRIES_row]; rfl))) ?_
    | with_reducible refine restoreRetire_within (hm.up (by with_unfolding_all rfl)) ?_
    | split)

theorem setBank_within {m : Nat} {s0 s : State} {k : Nat} {b : Bank} (hm : Sub 0x400000 m)
    (h : Within m s0 s) : Within m s0 (setBank k b s) := by
  unfold setBank
  repeat' (first
    | with_reducible assumption
    | (extract_lets +onlyGivenNames x; clear_value x)
    | split
    | with_reducible refine Within.set_att (hm.bit (by with_unfolding_all rfl)) ?_)

theorem startSave_within {m : Nat} {s0 s : State} {slot : Option Nat} (hm : Sub 0x200000000000000000000000000000000000000000400000 m)
    (h : Within m s0 s) : Within m s0 (startSave slot s) := by
  unfold startSave
  repeat' (first
    | with_reducible assumption
    | (extract_lets +onlyGivenNames x; first | (refine Within.cut (m := m) (s := s0) x ?_ (fun h => ?_); subst x; rotate_left; clear_value x; rotate_right) | clear_value x | subst x)
    | with_reducible refine fsets_nil ?_
    | with_reducible refine fsets_cons ?_
    | with_reducible refine fset_within (by with_reducible with_unfolding_all exact hm.reach (.inl (by simp only [ATT_STATUS_BUSY_row, ATT_STATUS_STEP_row]; rfl))) ?_
    | split
    | with_reducible refine Within.set_att (hm.bit (by with_unfolding_all rfl)) ?_)

theorem wantSave_within {m : Nat} {s0 s : State} (hm : Sub 0x200000000000000000000000000000000000000000400000 m)
    (h : Within m s0 s) : Within m s0 (wantSave s) := by
  unfold wantSave
  repeat' (first
    | with_reducible assumption
    | (extract_lets +onlyGivenNames x; clear_value x)
    | with_reducible refine startSave_within (hm.up (by with_unfolding_all rfl)) ?_
    | split
    | with_reducible refine Within.set_att (hm.bit (by with_unfolding_all rfl)) ?_)

theorem deferredSave_within {m : Nat} {s0 s : State} (hm : Sub 0x200000000000000000000000000000000000000000400000 m)
    (h : Within m s0 s) : Within m s0 (deferredSave s) := by
  unfold deferredSave
  repeat' (first
    | with_reducible assumption
    | with_reducible refine wantSave_within (hm.up (by with_unfolding_all rfl)) ?_
    | split)

theorem jrnlAppend_within {m : Nat} {s0 s : State} {p : List Byte} (hm : Sub 0x4600000000000000000000000000000000000000000400000 m)
    (h : Within m s0 s) : Within m s0 (jrnlAppend p s) := by
  unfold jrnlAppend
  repeat' (first
    | with_reducible assumption
    | (extract_lets +onlyGivenNames x; first | (refine Within.cut (m := m) (s := s0) x ?_ (fun h => ?_); subst x; rotate_left; clear_value x; rotate_right) | clear_value x | subst x)
    | with_reducible refine fset_within (by with_reducible with_unfolding_all exact hm.reach (.inl (by simp only [ATT_EVENTS_JRNL_FULL_row, ATT_JRNL_ENTRIES_row]; rfl))) ?_
    | with_reducible refine setFlag_within (by with_reducible with_unfolding_all exact hm.reach (.inl (by simp only [ATT_EVENTS_JRNL_FULL_row, ATT_JRNL_ENTRIES_row]; rfl))) ?_
    | with_reducible refine wantSave_within (hm.up (by with_unfolding_all rfl)) ?_
    | split
    | with_reducible refine Within.set_att (hm.bit (by with_unfolding_all rfl)) ?_)

theorem recordRetire_within {m : Nat} {s0 s : State} (hm : Sub 0x4600000000000000000000000000000000000000000400000 m)
    (h : Within m s0 s) : Within m s0 (recordRetire s) := by
  unfold recordRetire
  repeat' (first
    | with_reducible assumption
    | (extract_lets +onlyGivenNames x; clear_value x)
    | with_reducible refine jrnlAppend_within (hm.up (by with_unfolding_all rfl)) ?_
    | split
    | with_reducible refine Within.set_att (hm.bit (by with_unfolding_all rfl)) ?_)

theorem endSave_within {m : Nat} {s0 s : State} {result : Nat} {status : Nat} {value : Nat} (hm : Sub 0x4600000000000000000000000000000000000000000403001 m)
    (h : Within m s0 s) : Within m s0 (endSave result status value s) := by
  unfold endSave
  repeat' (first
    | with_reducible assumption
    | (extract_lets +onlyGivenNames x; first | (refine Within.cut (m := m) (s := s0) x ?_ (fun h => ?_); subst x; rotate_left; clear_value x; rotate_right) | clear_value x | subst x)
    | with_reducible refine setFlag_within (by with_reducible with_unfolding_all exact hm.reach (.inl (by simp only [ATT_STATUS_BUSY_row, ATT_STATUS_STEP_row, ATT_STATUS_RESULT_row, ATT_EVENTS_SAVE_DONE_row, ATT_EVENTS_SAVE_FAIL_row]; rfl))) ?_
    | with_reducible refine fsets_nil ?_
    | with_reducible refine fsets_cons ?_
    | with_reducible refine fset_within (by with_reducible with_unfolding_all exact hm.reach (.inl (by simp only [ATT_STATUS_BUSY_row, ATT_STATUS_STEP_row, ATT_STATUS_RESULT_row, ATT_EVENTS_SAVE_DONE_row, ATT_EVENTS_SAVE_FAIL_row]; rfl))) ?_
    | with_reducible refine foldl_within (fun _ _ _ => ?_) ?_
    | with_reducible refine complete_within (hm.up (by with_unfolding_all rfl)) ?_
    | with_reducible refine jrnlAppend_within (hm.up (by with_unfolding_all rfl)) ?_
    | split
    | with_reducible refine Within.set_att (hm.bit (by with_unfolding_all rfl)) ?_)

end Sys2Proof.Machine
end

