-- ==== Sys2Proof/Laws/ModeOps.lean ====
section
/-! SUPPORT. What each definition of Machine/ModeOps.lean can change, said once: the set of parts after Sub (Laws/Within.lean gives
the bits), the queue never, and the invariants kept. -/

set_option linter.unusedSimpArgs false

namespace Sys2Proof.Machine

theorem setMode_within {m : Nat} {s0 s : State} {m_ : Mode} {cause : Nat} (hm : Sub 0x88000000000000001001001901 m)
    (h : Within m s0 s) : Within m s0 (setMode m_ cause s) := by
  unfold setMode
  repeat' (first
    | with_reducible assumption
    | (extract_lets +onlyGivenNames x; first | (refine Within.cut (m := m) (s := s0) x ?_ (fun h => ?_); subst x; rotate_left; clear_value x; rotate_right) | clear_value x)
    | with_reducible refine report_within (hm.up (by with_unfolding_all rfl)) (by with_reducible with_unfolding_all exact hm.reach (.inl (by simp only [SYS_EVENTS_MODE_CHG_row]; rfl))) ?_
    | split
    | with_reducible refine Within.set_mode (hm.bit (by with_unfolding_all rfl)) ?_)

theorem afterMode_within {m : Nat} {s0 s : State} {old : Mode} (hm : Sub 0x81100000200000000000000000000000000000000000000000000000380001 m)
    (h : Within m s0 s) : Within m s0 (afterMode old s) := by
  unfold afterMode
  repeat' (first
    | with_reducible assumption
    | (extract_lets +onlyGivenNames x; first | (refine Within.cut (m := m) (s := s0) x ?_ (fun h => ?_); subst x; rotate_left; clear_value x; rotate_right) | clear_value x | subst x)
    | with_reducible refine fsets_nil ?_
    | with_reducible refine fsets_cons ?_
    | with_reducible refine fset_within (by with_reducible with_unfolding_all exact hm.reach (.inl (by simp only [LMP_CMDSTAT_BUSY_row, LMP_CMDSTAT_CODE_row]; rfl))) ?_
    | with_reducible refine forN_within (fun _ _ _ => ?_) ?_
    | with_reducible refine whenS_within (fun _ _ => ?_) ?_
    | with_reducible refine foldl_within (fun _ _ _ => ?_) ?_
    | with_reducible refine abortRun_within (hm.up (by with_unfolding_all rfl)) ?_
    | with_reducible refine stopAllAxes_within (hm.up (by with_unfolding_all rfl)) ?_
    | with_reducible refine setAxis_within (hm.up (by with_unfolding_all rfl)) ?_
    | with_reducible refine railFollow_within (hm.up (by with_unfolding_all rfl)) ?_
    | split
    | with_reducible refine Within.set_lmp (hm.bit (by with_unfolding_all rfl)) ?_)

theorem enterMode_within {m : Nat} {s0 s : State} {m_ : Mode} {cause : Nat} (hm : Sub 0x81100000200000000000000000000000000088000000000000001001381901 m)
    (h : Within m s0 s) : Within m s0 (enterMode m_ cause s) := by
  unfold enterMode
  repeat' (first
    | with_reducible assumption
    | (extract_lets +onlyGivenNames x; first | (refine Within.cut (m := m) (s := s0) x ?_ (fun h => ?_); subst x; rotate_left; clear_value x; rotate_right) | clear_value x)
    | with_reducible refine setMode_within (hm.up (by with_unfolding_all rfl)) ?_
    | with_reducible refine afterMode_within (hm.up (by with_unfolding_all rfl)) ?_
    | split
    | with_reducible refine Within.set_mode (hm.bit (by with_unfolding_all rfl)) ?_)

theorem abortCommands_within {m : Nat} {s0 s : State} (hm : Sub 0x8000000000000000000000000000000000223001 m)
    (h : Within m s0 s) : Within m s0 (abortCommands s) := by
  unfold abortCommands
  repeat' (first
    | with_reducible assumption
    | (extract_lets +onlyGivenNames x; first | (refine Within.cut (m := m) (s := s0) x ?_ (fun h => ?_); subst x; rotate_left; clear_value x; rotate_right) | subst x)
    | with_reducible refine foldl_within (fun _ _ _ => ?_) ?_
    | with_reducible refine complete_within (hm.up (by with_unfolding_all rfl)) ?_
    | with_reducible refine freeStage_within (hm.up (by with_unfolding_all rfl)) ?_
    | split
    | with_reducible refine Within.set_host (hm.bit (by with_unfolding_all rfl)) ?_
    | with_reducible refine Within.set_pipe (by with_unfolding_all exact fun c => c) (hm.bit (by with_unfolding_all rfl)) ?_
    | with_reducible refine Within.set_lmp (hm.bit (by with_unfolding_all rfl)) ?_)

theorem abandonSave_within {m : Nat} {s0 s : State} (hm : Sub 0x4600000000000000000000000000000000000000000403001 m)
    (h : Within m s0 s) : Within m s0 (abandonSave s) := by
  unfold abandonSave
  repeat' (first
    | with_reducible assumption
    | with_reducible refine endSave_within (hm.up (by with_unfolding_all rfl)) ?_
    | split)

theorem headsStop_within {m : Nat} {s0 s : State} (hm : Sub 0x4000000020080001800000000000000000000000039e009 m)
    (h : Within m s0 s) : Within m s0 (headsStop s) := by
  unfold headsStop
  repeat' (first
    | with_reducible assumption
    | (extract_lets +onlyGivenNames x; first | (refine Within.cut (m := m) (s := s0) x ?_ (fun h => ?_); subst x; rotate_left; clear_value x; rotate_right) | clear_value x | subst x)
    | with_reducible refine forN_within (fun _ _ _ => ?_) ?_
    | with_reducible refine whenS_within (fun _ _ => ?_) ?_
    | with_reducible refine headToOffline_within (hm.up (by with_unfolding_all rfl)) ?_
    | with_reducible refine closePacket_within (hm.up (by with_unfolding_all rfl)) ?_)

theorem stopUnits_within {m : Nat} {s0 s : State} (hm : Sub 0x1000023800046400000083008000180000000000000000000000007bf009 m)
    (h : Within m s0 s) : Within m s0 (stopUnits s) := by
  unfold stopUnits
  repeat' (first
    | with_reducible assumption
    | (extract_lets +onlyGivenNames x; first | (refine Within.cut (m := m) (s := s0) x ?_ (fun h => ?_); subst x; rotate_left; clear_value x; rotate_right) | clear_value x | subst x)
    | with_reducible refine abandonSave_within (hm.up (by with_unfolding_all rfl)) ?_
    | with_reducible refine abortCommands_within (hm.up (by with_unfolding_all rfl)) ?_
    | with_reducible refine axesOff_within (hm.up (by with_unfolding_all rfl)) ?_
    | with_reducible refine lampsDark_within (hm.up (by with_unfolding_all rfl)) ?_
    | with_reducible refine abandonVisits_within (hm.up (by with_unfolding_all rfl)) ?_
    | with_reducible refine headsStop_within (hm.up (by with_unfolding_all rfl)) ?_)

theorem haltCause_within {m : Nat} {s0 s : State} {code : Nat} {src : Nat} (hm : Sub 0x811000023800046400000083008000180000880000000000000110017bfb09 m)
    (h : Within m s0 s) : Within m s0 (haltCause code src s) := by
  unfold haltCause
  repeat' (first
    | with_reducible assumption
    | (extract_lets +onlyGivenNames x; first | (refine Within.cut (m := m) (s := s0) x ?_ (fun h => ?_); subst x; rotate_left; clear_value x; rotate_right) | clear_value x | subst x)
    | with_reducible refine setFlag_within (by with_reducible with_unfolding_all exact hm.reach (.inl (by simp only [SYS_FAULT_VALID_row, SYS_FAULT_SRC_row, SYS_FAULT_CODE_row, SYS_EVENTS_HALT_row]; rfl))) ?_
    | with_reducible refine fsets_nil ?_
    | with_reducible refine fsets_cons ?_
    | with_reducible refine fset_within (by with_reducible with_unfolding_all exact hm.reach (.inl (by simp only [SYS_FAULT_VALID_row, SYS_FAULT_SRC_row, SYS_FAULT_CODE_row, SYS_EVENTS_HALT_row]; rfl))) ?_
    | with_reducible refine stopUnits_within (hm.up (by with_unfolding_all rfl)) ?_
    | with_reducible refine enterMode_within (hm.up (by with_unfolding_all rfl)) ?_
    | split
    | with_reducible refine Within.set_start (hm.bit (by with_unfolding_all rfl)) ?_)

theorem limpCause_within {m : Nat} {s0 s : State} {f : Fld} (hm : Sub 0x81100000200000000000000000000000000088000000000000001001381901 m) (b0 : Reach m f.off)
    (h : Within m s0 s) : Within m s0 (limpCause f s) := by
  unfold limpCause
  repeat' (first
    | with_reducible assumption
    | (extract_lets +onlyGivenNames x; first | (refine Within.cut (m := m) (s := s0) x ?_ (fun h => ?_); subst x; rotate_left; clear_value x; rotate_right) | clear_value x | subst x)
    | with_reducible refine setFlag_within (by with_reducible first | assumption | with_unfolding_all exact hm.reach (.inl (by simp only [SYS_EVENTS_LIMP_row]; rfl))) ?_
    | with_reducible refine enterMode_within (hm.up (by with_unfolding_all rfl)) ?_
    | split)

theorem enterSleep_within {m : Nat} {s0 s : State} (hm : Sub 0x1000000000016c00000081100002380004640000008300800018000088000000000000001001fbf909 m)
    (h : Within m s0 s) : Within m s0 (enterSleep s) := by
  unfold enterSleep
  repeat' (first
    | with_reducible assumption
    | (extract_lets +onlyGivenNames x; first | (refine Within.cut (m := m) (s := s0) x ?_ (fun h => ?_); subst x; rotate_left; clear_value x; rotate_right) | clear_value x | subst x)
    | with_reducible refine setFlag_within (by with_reducible with_unfolding_all exact hm.reach (.inl (by simp only [CEL_STATUS_SREF_row]; rfl))) ?_
    | with_reducible refine auxSleep_within (hm.up (by with_unfolding_all rfl)) ?_
    | with_reducible refine stopUnits_within (hm.up (by with_unfolding_all rfl)) ?_
    | with_reducible refine pmcEvent_within (hm.up (by with_unfolding_all rfl)) ?_
    | with_reducible refine enterMode_within (hm.up (by with_unfolding_all rfl)) ?_)

end Sys2Proof.Machine
end

