-- ==== Sys2Proof/Laws/AuxBlock.lean ====
section
/-! SUPPORT. What each definition of Machine/AuxBlock.lean can change, said once: the set of parts after Sub (Laws/Within.lean gives
the bits), the queue never, and the invariants kept. -/

set_option linter.unusedSimpArgs false

namespace Sys2Proof.Machine

theorem schedTimer_within {m : Nat} {s0 s : State} {c : Fin 4} (hm : Sub 0x1 m)
    (h : Within m s0 s) : Within m s0 (schedTimer c s) := by
  unfold schedTimer
  repeat' (first
    | with_reducible assumption
    | (extract_lets +onlyGivenNames x; first | clear_value x | subst x)
    | with_reducible refine schedule_within (hm.up (by with_unfolding_all rfl)) ?_
    | with_reducible refine cancel_within (hm.up (by with_unfolding_all rfl)) ?_)

theorem enableConverter_within {m : Nat} {s0 s : State} {c : Fin 4} (hm : Sub 0x16c00000000000000000000000000000000000000000088000000000000000001801801 m)
    (h : Within m s0 s) : Within m s0 (enableConverter c s) := by
  unfold enableConverter
  repeat' (first
    | with_reducible assumption
    | (extract_lets +onlyGivenNames x; first | (refine Within.cut (m := m) (s := s0) x ?_ (fun h => ?_); subst x; rotate_left; clear_value x; rotate_right) | clear_value x | subst x)
    | with_reducible refine foldl_within (fun _ _ _ => ?_) ?_
    | with_reducible refine setCv_within (hm.up (by with_unfolding_all rfl)) ?_
    | with_reducible refine setAuxBit_within (by with_reducible with_unfolding_all exact hm.reach (.inl (by simp only [AUX_STATUS_RUN_row, AUX_CVCTL_AXIS_row, AUX_CVCTL_TRIG_row, AUX_SEQA_GAIN_row]; rfl))) ?_
    | with_reducible refine askCal_within (hm.up (by with_unfolding_all rfl)) ?_
    | with_reducible refine auxNext_within (hm.up (by with_unfolding_all rfl)) ?_
    | with_reducible refine passTrigger_within (hm.up (by with_unfolding_all rfl)) ?_
    | with_reducible refine schedTimer_within (hm.up (by with_unfolding_all rfl)) ?_
    | split)

theorem retrigger_within {m : Nat} {s0 s : State} {c : Fin 4} {was : Nat} (hm : Sub 0x12c00000000000000000000000000000000000000000000000000000000000000801001 m)
    (h : Within m s0 s) : Within m s0 (retrigger c was s) := by
  unfold retrigger
  repeat' (first
    | with_reducible assumption
    | (extract_lets +onlyGivenNames x; first | (refine Within.cut (m := m) (s := s0) x ?_ (fun h => ?_); subst x; rotate_left; clear_value x; rotate_right) | clear_value x | subst x)
    | with_reducible refine auxNext_within (hm.up (by with_unfolding_all rfl)) ?_
    | with_reducible refine passTrigger_within (hm.up (by with_unfolding_all rfl)) ?_
    | with_reducible refine schedTimer_within (hm.up (by with_unfolding_all rfl)) ?_
    | with_reducible refine cancel_within (hm.up (by with_unfolding_all rfl)) ?_
    | split)

theorem execAuxCvctlWrite_within {m : Nat} {s0 s : State} {c : Fin 4} {v : Word} (hm : Sub 0x1ec00000000000000000000000000000000000000000088000000000000000001801801 m)
    (h : Within m s0 s) : WithinO m s0 (execAuxCvctlWrite c v s) := by
  unfold execAuxCvctlWrite
  repeat' (first
    | with_reducible assumption
    | (extract_lets +onlyGivenNames x; first | (refine Within.cut (m := m) (s := s0) x ?_ (fun h => ?_); subst x; rotate_left; clear_value x; rotate_right) | clear_value x | subst x)
    | with_reducible refine WithinO.next ?_
    | with_reducible refine setRaw_within (by with_reducible with_unfolding_all exact hm.reach (.inl (by simp only [AUX_STATUS_REF_SETTLED_row, AUX_CVCTL_row, AUX_CVCTL_EN_row, AUX_CVCTL_REFSEL_row, AUX_CVCTL_STREAM_row]; rfl))) ?_
    | with_reducible refine onWrite_within (hm.up (by with_unfolding_all rfl)) (fun _ _ => ?_) ?_
    | with_reducible refine setAuxBit_within (by with_reducible with_unfolding_all exact hm.reach (.inl (by simp only [AUX_STATUS_REF_SETTLED_row, AUX_CVCTL_row, AUX_CVCTL_EN_row, AUX_CVCTL_REFSEL_row, AUX_CVCTL_STREAM_row]; rfl))) ?_
    | with_reducible refine setCv_within (hm.up (by with_unfolding_all rfl)) ?_
    | with_reducible refine schedule_within (hm.up (by with_unfolding_all rfl)) ?_
    | with_reducible refine endCal_within (hm.up (by with_unfolding_all rfl)) ?_
    | with_reducible refine closeStream_within (hm.up (by with_unfolding_all rfl)) ?_
    | with_reducible refine retrigger_within (hm.up (by with_unfolding_all rfl)) ?_
    | with_reducible refine enableConverter_within (hm.up (by with_unfolding_all rfl)) ?_
    | with_reducible refine stopConverter_within (hm.up (by with_unfolding_all rfl)) ?_
    | with_reducible refine cancel_within (hm.up (by with_unfolding_all rfl)) ?_
    | split)

theorem execAuxSwtrig_within {m : Nat} {s0 s : State} {c : Fin 4} (hm : Sub 0x12c00000000000000000000000000000000000000000000000000000000000000801001 m)
    (h : Within m s0 s) : WithinO m s0 (execAuxSwtrig c s) := by
  unfold execAuxSwtrig
  repeat' (first
    | with_reducible assumption
    | (extract_lets +onlyGivenNames x; first | (refine Within.cut (m := m) (s := s0) x ?_ (fun h => ?_); subst x; rotate_left; clear_value x; rotate_right) | clear_value x | subst x)
    | with_reducible refine WithinO.next ?_
    | with_reducible refine onWrite_within (hm.up (by with_unfolding_all rfl)) (fun _ _ => ?_) ?_
    | with_reducible refine auxNext_within (hm.up (by with_unfolding_all rfl)) ?_
    | with_reducible refine passTrigger_within (hm.up (by with_unfolding_all rfl)) ?_
    | split)

theorem execAuxTimerTrigger_within {m : Nat} {s0 s : State} {c : Fin 4} (hm : Sub 0x12c00000000000000000000000000000000000000000000000000000000000000800001 m)
    (h : Within m s0 s) : WithinO m s0 (execAuxTimerTrigger c s) := by
  unfold execAuxTimerTrigger
  repeat' (first
    | with_reducible assumption
    | (extract_lets +onlyGivenNames x; first | clear_value x | subst x)
    | with_reducible refine WithinO.next ?_
    | with_reducible refine schedTimer_within (hm.up (by with_unfolding_all rfl)) ?_
    | with_reducible refine auxNext_within (hm.up (by with_unfolding_all rfl)) ?_
    | with_reducible refine passTrigger_within (hm.up (by with_unfolding_all rfl)) ?_
    | split)

theorem auxPosTrigger_within {m : Nat} {s0 s : State} {m_ : Nat} {fwd : Bool} (hm : Sub 0x12c00000000000000000000000000000000000000000000000000000000000000800000 m)
    (h : Within m s0 s) : Within m s0 (auxPosTrigger m_ fwd s) := by
  unfold auxPosTrigger
  repeat' (first
    | with_reducible assumption
    | (extract_lets +onlyGivenNames x; first | (refine Within.cut (m := m) (s := s0) x ?_ (fun h => ?_); subst x; rotate_left; clear_value x; rotate_right) | clear_value x | subst x)
    | with_reducible refine forN_within (fun _ _ _ => ?_) ?_
    | with_reducible refine auxNext_within (hm.up (by with_unfolding_all rfl)) ?_
    | with_reducible refine passTrigger_within (hm.up (by with_unfolding_all rfl)) ?_
    | split)

theorem execAuxInjWrite_within {m : Nat} {s0 s : State} {c : Fin 2} {v : Word} (hm : Sub 0x12c00000000000000000000000000000000000000000000000000000000000000801001 m)
    (h : Within m s0 s) : WithinO m s0 (execAuxInjWrite c v s) := by
  unfold execAuxInjWrite
  repeat' (first
    | with_reducible assumption
    | (extract_lets +onlyGivenNames x; first | clear_value x | subst x)
    | with_reducible refine WithinO.next ?_
    | with_reducible refine setFlag_within (by with_reducible with_unfolding_all exact hm.reach (.inl (by simp only [AUX_EVENTS_INJ_OVF_row, AUX_STATUS_MIGR_row, AUX_INJ_row]; rfl))) ?_
    | with_reducible refine onWrite_within (hm.up (by with_unfolding_all rfl)) (fun _ _ => ?_) ?_
    | with_reducible refine auxNext_within (hm.up (by with_unfolding_all rfl)) ?_
    | with_reducible refine setCv_within (hm.up (by with_unfolding_all rfl)) ?_
    | split)

theorem autorange_within {m : Nat} {s0 s : State} {o : Nat} {e : Nat} {r : Nat} {ovr : Bool} {code : Int} {raw_ : Int} (hm : Sub 0x800000 m)
    (h : Within m s0 s) : Within m s0 (autorange o e r ovr code raw_ s) := by
  unfold autorange
  repeat' (first
    | with_reducible assumption
    | (extract_lets +onlyGivenNames x; clear_value x)
    | with_reducible refine setCv_within (hm.up (by with_unfolding_all rfl)) ?_
    | split)

theorem execFcConversionDone_within {m : Nat} {s0 s : State} {c : Fin 2} {raw : Int} (hm : Sub 0x11fe16c00000000000000000000000000000000000000000088000000000000000001801801 m)
    (h : Within m s0 s) : WithinO m s0 (execFcConversionDone c raw s) := by
  unfold execFcConversionDone
  repeat' (first
    | with_reducible assumption
    | (extract_lets +onlyGivenNames x; first | (refine Within.cut (m := m) (s := s0) x ?_ (fun h => ?_); subst x; rotate_left; clear_value x; rotate_right) | clear_value x | subst x)
    | with_reducible refine WithinO.next ?_
    | with_reducible refine setCv_within (hm.up (by with_unfolding_all rfl)) ?_
    | with_reducible refine deliverResult_within (hm.up (by with_unfolding_all rfl)) ?_
    | with_reducible refine auxNext_within (hm.up (by with_unfolding_all rfl)) ?_
    | with_reducible refine autorange_within (hm.up (by with_unfolding_all rfl)) ?_
    | with_reducible refine passAdvance_within (hm.up (by with_unfolding_all rfl)) ?_
    | split)

theorem execPcOutput_within {m : Nat} {s0 s : State} {c : Fin 2} {raw : Int} (hm : Sub 0x11fe16c00000000000000000000000000000000000000000088000000000000000001801801 m)
    (h : Within m s0 s) : WithinO m s0 (execPcOutput c raw s) := by
  unfold execPcOutput
  repeat' (first
    | with_reducible assumption
    | (extract_lets +onlyGivenNames x; first | (refine Within.cut (m := m) (s := s0) x ?_ (fun h => ?_); subst x; rotate_left; clear_value x; rotate_right) | clear_value x | subst x)
    | with_reducible refine WithinO.next ?_
    | with_reducible refine deliverResult_within (hm.up (by with_unfolding_all rfl)) ?_
    | with_reducible refine setCv_within (hm.up (by with_unfolding_all rfl)) ?_
    | with_reducible refine auxNext_within (hm.up (by with_unfolding_all rfl)) ?_
    | with_reducible refine passAdvance_within (hm.up (by with_unfolding_all rfl)) ?_
    | split)

theorem execStreamMsgTimeout_within {m : Nat} {s0 s : State} {c : Fin 4} (hm : Sub 0x4800000000000000000000000000000000000000000088000000000000000001801801 m)
    (h : Within m s0 s) : WithinO m s0 (execStreamMsgTimeout c s) := by
  unfold execStreamMsgTimeout
  repeat' (first
    | with_reducible assumption
    | (extract_lets +onlyGivenNames x; first | (refine Within.cut (m := m) (s := s0) x ?_ (fun h => ?_); subst x; rotate_left; clear_value x; rotate_right) | clear_value x | subst x)
    | with_reducible refine WithinO.next ?_
    | with_reducible refine closeStream_within (hm.up (by with_unfolding_all rfl)) ?_
    | split)

theorem execRefSettled_within {m : Nat} {s0 s : State} {c : Fin 4} (hm : Sub 0x400000000000000000000000000000000000000000000000000000000000000000001 m)
    (h : Within m s0 s) : WithinO m s0 (execRefSettled c s) := by
  unfold execRefSettled
  repeat' (first
    | with_reducible assumption
    | (extract_lets +onlyGivenNames x; first | (refine Within.cut (m := m) (s := s0) x ?_ (fun h => ?_); subst x; rotate_left; clear_value x; rotate_right) | clear_value x | subst x)
    | with_reducible refine WithinO.next ?_
    | with_reducible refine cancel_within (hm.up (by with_unfolding_all rfl)) ?_
    | with_reducible refine setAuxBit_within (by with_reducible with_unfolding_all exact hm.reach (.inl (by simp only [AUX_STATUS_REF_SETTLED_row]; rfl))) ?_
    | split)

theorem execRefFault_within {m : Nat} {s0 s : State} {c : Fin 4} (hm : Sub 0x6c00000000000000000000000000000000000000000088000000000000000001801801 m)
    (h : Within m s0 s) : WithinO m s0 (execRefFault c s) := by
  unfold execRefFault
  repeat' (first
    | with_reducible assumption
    | (extract_lets +onlyGivenNames x; first | (refine Within.cut (m := m) (s := s0) x ?_ (fun h => ?_); subst x; rotate_left; clear_value x; rotate_right) | clear_value x | subst x)
    | with_reducible refine WithinO.next ?_
    | with_reducible refine setAuxBit_within (by with_reducible with_unfolding_all exact hm.reach (.inl (by simp only [AUX_STATUS_REF_SETTLED_row, AUX_EVENTS_REF_FAULT_row]; rfl))) ?_
    | with_reducible refine setCv_within (hm.up (by with_unfolding_all rfl)) ?_
    | with_reducible refine endCal_within (hm.up (by with_unfolding_all rfl)) ?_
    | with_reducible refine auxReport_within (hm.up (by with_unfolding_all rfl)) (by with_reducible with_unfolding_all exact hm.reach (.inl (by simp only [AUX_STATUS_REF_SETTLED_row, AUX_EVENTS_REF_FAULT_row]; rfl))) ?_
    | split)

theorem auxBackground_within {m : Nat} {s0 s : State} (hm : Sub 0x16c00000000000000000000000000000000000000000088000000000000000001801801 m)
    (h : Within m s0 s) : Within m s0 (auxBackground s) := by
  unfold auxBackground
  repeat' (first
    | with_reducible assumption
    | (extract_lets +onlyGivenNames x; first | (refine Within.cut (m := m) (s := s0) x ?_ (fun h => ?_); subst x; rotate_left; clear_value x; rotate_right) | clear_value x)
    | with_reducible refine forN_within (fun _ _ _ => ?_) ?_
    | with_reducible refine askCal_within (hm.up (by with_unfolding_all rfl)) ?_
    | split
    | with_reducible refine Within.set_aux (hm.bit (by with_unfolding_all rfl)) ?_)

theorem execAuxCalPeriod_within {m : Nat} {s0 s : State} (hm : Sub 0x16c00000000000000000000000000000000000000000088000000000000000001801801 m)
    (h : Within m s0 s) : WithinO m s0 (execAuxCalPeriod s) := by
  unfold execAuxCalPeriod
  repeat' (first
    | with_reducible assumption
    | (extract_lets +onlyGivenNames x; first | clear_value x | subst x)
    | with_reducible refine WithinO.next ?_
    | with_reducible refine auxBackground_within (hm.up (by with_unfolding_all rfl)) ?_
    | split
    | with_reducible refine Within.set_aux (hm.bit (by with_unfolding_all rfl)) ?_)

theorem execAuxCalcmd_within {m : Nat} {s0 s : State} {v : Word} (hm : Sub 0x16c00000000000000000000000000000000000000000088000000000000000001801801 m)
    (h : Within m s0 s) : WithinO m s0 (execAuxCalcmd v s) := by
  unfold execAuxCalcmd
  repeat' (first
    | with_reducible assumption
    | (extract_lets +onlyGivenNames x; first | (refine Within.cut (m := m) (s := s0) x ?_ (fun h => ?_); subst x; rotate_left; clear_value x; rotate_right) | clear_value x | subst x)
    | with_reducible refine WithinO.next ?_
    | with_reducible refine onWrite_within (hm.up (by with_unfolding_all rfl)) (fun _ _ => ?_) ?_
    | with_reducible refine askCal_within (hm.up (by with_unfolding_all rfl)) ?_
    | split)

theorem execAuxCalRangeDone_within {m : Nat} {s0 s : State} {c : Fin 4} {off : Int} {gain : Int} (hm : Sub 0x200016c00000000000000000000000000000000000000000088000000000000000001801801 m)
    (h : Within m s0 s) : WithinO m s0 (execAuxCalRangeDone c off gain s) := by
  unfold execAuxCalRangeDone
  repeat' (first
    | with_reducible assumption
    | (extract_lets +onlyGivenNames x; first | (refine Within.cut (m := m) (s := s0) x ?_ (fun h => ?_); subst x; rotate_left; clear_value x; rotate_right) | clear_value x | subst x)
    | with_reducible refine WithinO.next ?_
    | with_reducible refine fsets_nil ?_
    | with_reducible refine fsets_cons ?_
    | with_reducible refine fset_within (by with_reducible with_unfolding_all exact hm.reach (.inl (by simp only [AUX_TRIM_OFF_row, AUX_TRIM_GC_row]; rfl))) ?_
    | with_reducible refine setCv_within (hm.up (by with_unfolding_all rfl)) ?_
    | with_reducible refine auxNext_within (hm.up (by with_unfolding_all rfl)) ?_
    | with_reducible refine endCal_within (hm.up (by with_unfolding_all rfl)) ?_
    | split)

theorem execAuxConvFault_within {m : Nat} {s0 s : State} {c : Fin 4} (hm : Sub 0x6c00000081100000200000000000000000000000000088000000000000021001b81901 m)
    (h : Within m s0 s) : WithinO m s0 (execAuxConvFault c s) := by
  unfold execAuxConvFault
  repeat' (first
    | with_reducible assumption
    | (extract_lets +onlyGivenNames x; first | (refine Within.cut (m := m) (s := s0) x ?_ (fun h => ?_); subst x; rotate_left; clear_value x; rotate_right) | clear_value x | subst x)
    | with_reducible refine WithinO.next ?_
    | with_reducible refine endCal_within (hm.up (by with_unfolding_all rfl)) ?_
    | with_reducible refine setAuxBit_within (by with_reducible with_unfolding_all exact hm.reach (.inl (by simp only [AUX_STATUS_FAULT_row, AUX_EVENTS_CONV_FAULT_row, SYS_LIMP_AUX_row, AUX_EVENTS_UNCOVERED_row]; rfl))) ?_
    | with_reducible refine closeStream_within (hm.up (by with_unfolding_all rfl)) ?_
    | with_reducible refine setCv_within (hm.up (by with_unfolding_all rfl)) ?_
    | with_reducible refine auxReport_within (hm.up (by with_unfolding_all rfl)) (by with_reducible with_unfolding_all exact hm.reach (.inl (by simp only [AUX_STATUS_FAULT_row, AUX_EVENTS_CONV_FAULT_row, SYS_LIMP_AUX_row, AUX_EVENTS_UNCOVERED_row]; rfl))) ?_
    | with_reducible refine limpCause_within (hm.up (by with_unfolding_all rfl)) (by with_reducible with_unfolding_all exact hm.reach (.inl (by simp only [AUX_STATUS_FAULT_row, AUX_EVENTS_CONV_FAULT_row, SYS_LIMP_AUX_row, AUX_EVENTS_UNCOVERED_row]; rfl))) ?_
    | with_reducible refine schedule_within (hm.up (by with_unfolding_all rfl)) ?_
    | split)

theorem execAuxMigrate_within {m : Nat} {s0 s : State} {c : Fin 4} (hm : Sub 0x12400000000000000000000000000000000000000000000000000000000000000800001 m)
    (h : Within m s0 s) : WithinO m s0 (execAuxMigrate c s) := by
  unfold execAuxMigrate
  repeat' (first
    | with_reducible assumption
    | (extract_lets +onlyGivenNames x; first | (refine Within.cut (m := m) (s := s0) x ?_ (fun h => ?_); subst x; rotate_left; clear_value x; rotate_right) | clear_value x | subst x)
    | with_reducible refine WithinO.next ?_
    | with_reducible refine setAuxBit_within (by with_reducible with_unfolding_all exact hm.reach (.inl (by simp only [AUX_STATUS_FAULT_row, AUX_STATUS_MIGR_row, AUX_CVCTL_EN_row, AUX_CVCTL_TRIG_row]; rfl))) ?_
    | with_reducible refine setCv_within (hm.up (by with_unfolding_all rfl)) ?_
    | with_reducible refine cancel_within (hm.up (by with_unfolding_all rfl)) ?_
    | with_reducible refine startPass_within (hm.up (by with_unfolding_all rfl)) ?_
    | with_reducible refine auxNext_within (hm.up (by with_unfolding_all rfl)) ?_
    | split)

theorem execAuxExcWrite_within {m : Nat} {s0 s : State} {n : Fin 4} {v : Word} (hm : Sub 0x10800000000000000000000000000000000000000000000000000000000000000001001 m)
    (h : Within m s0 s) : WithinO m s0 (execAuxExcWrite n v s) := by
  unfold execAuxExcWrite
  repeat' (first
    | with_reducible assumption
    | (extract_lets +onlyGivenNames x; first | (refine Within.cut (m := m) (s := s0) x ?_ (fun h => ?_); subst x; rotate_left; clear_value x; rotate_right) | clear_value x | subst x)
    | with_reducible refine WithinO.next ?_
    | with_reducible refine fset_within (by with_reducible with_unfolding_all exact hm.reach (.inl (by simp only [AUX_EVENTS_WR_REJ_row, AUX_EXC_row, AUX_EXC_OWNER_row, AUX_EXC_LVL_row]; rfl))) ?_
    | with_reducible refine setFlag_within (by with_reducible with_unfolding_all exact hm.reach (.inl (by simp only [AUX_EVENTS_WR_REJ_row, AUX_EXC_row, AUX_EXC_OWNER_row, AUX_EXC_LVL_row]; rfl))) ?_
    | with_reducible refine onWrite_within (hm.up (by with_unfolding_all rfl)) (fun _ _ => ?_) ?_
    | with_reducible refine excFollow_within (hm.up (by with_unfolding_all rfl)) ?_
    | split)

theorem execAuxResLoRead_within {m : Nat} {s0 s : State} {ms : Master} {off : Nat} (hm : Sub 0x8010c1 m)
    (h : Within m s0 s) : WithinO m s0 (execAuxResLoRead ms off s) := by
  unfold execAuxResLoRead
  repeat' (first
    | with_reducible assumption
    | (extract_lets +onlyGivenNames x; first | (refine Within.cut (m := m) (s := s0) x ?_ (fun h => ?_); subst x; rotate_left; clear_value x; rotate_right) | clear_value x | subst x)
    | with_reducible refine WithinO.next ?_
    | with_reducible refine readEvent_within (hm.up (by with_unfolding_all rfl)) ?_
    | split
    | with_reducible refine Within.set_rdata (hm.bit (by with_unfolding_all rfl)) ?_
    | with_reducible refine Within.set_aux (hm.bit (by with_unfolding_all rfl)) ?_
    | with_reducible refine Within.set_shadow0 (hm.bit (by with_unfolding_all rfl)) ?_
    | with_reducible refine Within.set_shadow4 (hm.bit (by with_unfolding_all rfl)) ?_
    | with_reducible refine Within.set_shadowK (hm.bit (by with_unfolding_all rfl)) ?_)

theorem execAuxDropsRead_within {m : Nat} {s0 s : State} (hm : Sub 0x4000000000000000000000000000000000000000000000000000000000000000001041 m)
    (h : Within m s0 s) : WithinO m s0 (execAuxDropsRead s) := by
  unfold execAuxDropsRead
  repeat' (first
    | with_reducible assumption
    | (extract_lets +onlyGivenNames x; first | (refine Within.cut (m := m) (s := s0) x ?_ (fun h => ?_); subst x; rotate_left; clear_value x; rotate_right) | clear_value x | subst x)
    | with_reducible refine WithinO.next ?_
    | with_reducible refine rcRead_within (hm.up (by with_unfolding_all rfl)) (by with_reducible with_unfolding_all exact hm.reach (.inl (by simp only [AUX_DROPS_row]; rfl))) ?_)

theorem execAuxWcStatRead_within {m : Nat} {s0 s : State} {k : Fin 16} (hm : Sub 0x100000000000000000000000000000000000000000000000000000000000000000000001041 m)
    (h : Within m s0 s) : WithinO m s0 (execAuxWcStatRead k s) := by
  unfold execAuxWcStatRead
  repeat' (first
    | with_reducible assumption
    | (extract_lets +onlyGivenNames x; first | (refine Within.cut (m := m) (s := s0) x ?_ (fun h => ?_); subst x; rotate_left; clear_value x; rotate_right) | clear_value x | subst x)
    | with_reducible refine WithinO.next ?_
    | with_reducible refine rcRead_within (hm.up (by with_unfolding_all rfl)) (by with_reducible with_unfolding_all exact hm.reach (.inl (by simp only [AUX_WC_STAT_row]; rfl))) ?_)

end Sys2Proof.Machine
end

