-- ==== Sys2Proof/Laws/Flags.lean ====
section
/-! SUPPORT. What each definition of Machine/Flags.lean can change, said once: the set of parts after Sub (Laws/Within.lean gives
the bits), the queue never, and the invariants kept. -/

set_option linter.unusedSimpArgs false

namespace Sys2Proof.Machine

theorem markLines_within {m : Nat} {s0 s : State} {h_ : Nat} {p : BandLine → Bool} {k : Nat} (hm : Sub 0x4000 m)
    (h : Within m s0 s) : Within m s0 (markLines h_ p k s) := by
  unfold markLines
  repeat' (first
    | with_reducible assumption
    | (extract_lets +onlyGivenNames x; clear_value x)
    | with_reducible refine setHead_within (hm.up (by with_unfolding_all rfl)) ?_)

end Sys2Proof.Machine
end

