-- ==== Sys2Proof/Laws/Docs.lean ====
section
/-! SUPPORT. What each definition of Machine/Docs.lean can change, said once: the set of parts after Sub (Laws/Within.lean gives
the bits), the queue never, and the invariants kept. -/

set_option linter.unusedSimpArgs false

namespace Sys2Proof.Machine

theorem gridAdvance_within {m : Nat} {s0 s : State} {h_ : Nat} (hm : Sub 0x100000 m)
    (h : Within m s0 s) : Within m s0 (gridAdvance h_ s) := by
  unfold gridAdvance
  repeat' (first
    | with_reducible assumption
    | (extract_lets +onlyGivenNames x; clear_value x)
    | with_reducible refine setDoc_within (hm.up (by with_unfolding_all rfl)) ?_
    | split)

theorem gridStart_within {m : Nat} {s0 s : State} {h_ : Nat} (hm : Sub 0x100000 m)
    (h : Within m s0 s) : Within m s0 (gridStart h_ s) := by
  unfold gridStart
  repeat' (first
    | with_reducible assumption
    | (extract_lets +onlyGivenNames x; clear_value x)
    | with_reducible refine setDoc_within (hm.up (by with_unfolding_all rfl)) ?_)

theorem resync_within {m : Nat} {s0 s : State} {h_ : Nat} {c : Nat} (hm : Sub 0x400000000000000000000000000000000000000000000100000 m)
    (h : Within m s0 s) : Within m s0 (resync h_ c s) := by
  unfold resync
  repeat' (first
    | with_reducible assumption
    | (extract_lets +onlyGivenNames x; clear_value x)
    | with_reducible refine setFlag_within (by with_reducible with_unfolding_all exact hm.reach (.inl (by simp only [MOT_EVENTS_SYNC_LATE_row, HEAD_TRIG_TRIG_SRC_row, MOT_HEDGE_LEAD_row, HEAD_PITCH_row]; rfl))) ?_
    | with_reducible refine setDoc_within (hm.up (by with_unfolding_all rfl)) ?_
    | split)

theorem docStart_within {m : Nat} {s0 s : State} {h_ : Nat} {tag : Nat} (hm : Sub 0x40000000000000000000000000000000088000000000000000001101801 m)
    (h : Within m s0 s) : Within m s0 (docStart h_ tag s) := by
  unfold docStart
  repeat' (first
    | with_reducible assumption
    | (extract_lets +onlyGivenNames x; first | (refine Within.cut (m := m) (s := s0) x ?_ (fun h => ?_); subst x; rotate_left; clear_value x; rotate_right) | clear_value x | subst x)
    | with_reducible refine setRaw_within (by with_reducible with_unfolding_all exact hm.reach (.inl (by simp only [MOT_HDOCNUM_row]; rfl))) ?_
    | with_reducible refine setDoc_within (hm.up (by with_unfolding_all rfl)) ?_
    | with_reducible refine raise_within (hm.up (by with_unfolding_all rfl)) ?_
    | with_reducible refine resvStart_within (hm.up (by with_unfolding_all rfl)) ?_
    | split)

theorem skipFinish_within {m : Nat} {s0 s : State} {h_ : Nat} {doc : Nat} (hm : Sub 0x3001 m)
    (h : Within m s0 s) : Within m s0 (skipFinish h_ doc s) := by
  unfold skipFinish
  repeat' (first
    | with_reducible assumption
    | (extract_lets +onlyGivenNames x; first | (refine Within.cut (m := m) (s := s0) x ?_ (fun h => ?_); subst x; rotate_left; clear_value x; rotate_right) | clear_value x)
    | with_reducible refine foldl_within (fun _ _ _ => ?_) ?_
    | with_reducible refine complete_within (hm.up (by with_unfolding_all rfl)) ?_
    | split
    | with_reducible refine Within.set_host (hm.bit (by with_unfolding_all rfl)) ?_)

theorem docFinish_within {m : Nat} {s0 s : State} {h_ : Nat} {tag : Nat} (hm : Sub 0x88000000000000000001101801 m)
    (h : Within m s0 s) : Within m s0 (docFinish h_ tag s) := by
  unfold docFinish
  repeat' (first
    | with_reducible assumption
    | (extract_lets +onlyGivenNames x; first | (refine Within.cut (m := m) (s := s0) x ?_ (fun h => ?_); subst x; rotate_left; clear_value x; rotate_right) | clear_value x | subst x)
    | with_reducible refine setDoc_within (hm.up (by with_unfolding_all rfl)) ?_
    | with_reducible refine resvEnd_within (hm.up (by with_unfolding_all rfl)) ?_
    | with_reducible refine raise_within (hm.up (by with_unfolding_all rfl)) ?_)

theorem docAfterEnd_within {m : Nat} {s0 s : State} {h_ : Nat} (hm : Sub 0x400000000000000000000000000000000000000000000100000 m)
    (h : Within m s0 s) : Within m s0 (docAfterEnd h_ s) := by
  unfold docAfterEnd
  repeat' (first
    | with_reducible assumption
    | (extract_lets +onlyGivenNames x; first | clear_value x | subst x)
    | with_reducible refine resync_within (hm.up (by with_unfolding_all rfl)) ?_
    | with_reducible refine setDoc_within (hm.up (by with_unfolding_all rfl)) ?_
    | split)

theorem markEnd_within {m : Nat} {s0 s : State} {h_ : Nat} {doc : Nat} (hm : Sub 0x7001 m)
    (h : Within m s0 s) : Within m s0 (markEnd h_ doc s) := by
  unfold markEnd
  repeat' (first
    | with_reducible assumption
    | (extract_lets +onlyGivenNames x; first | clear_value x | subst x)
    | with_reducible refine whenS_within (fun _ _ => ?_) ?_
    | with_reducible refine markLines_within (hm.up (by with_unfolding_all rfl)) ?_
    | with_reducible refine skipFinish_within (hm.up (by with_unfolding_all rfl)) ?_
    | with_reducible refine closePacket_within (hm.up (by with_unfolding_all rfl)) ?_
    | split
    | with_reducible refine Within.set_host (hm.bit (by with_unfolding_all rfl)) ?_)

theorem docLine_within {m : Nat} {s0 s : State} {h_ : Nat} {tag : Nat} (hm : Sub 0x400000000000000000000000088000000000000000001107801 m)
    (h : Within m s0 s) : Within m s0 (docLine h_ tag s) := by
  unfold docLine
  repeat' (first
    | with_reducible assumption
    | (extract_lets +onlyGivenNames x; first | (refine Within.cut (m := m) (s := s0) x ?_ (fun h => ?_); subst x; rotate_left; clear_value x; rotate_right) | clear_value x | subst x)
    | with_reducible refine setDoc_within (hm.up (by with_unfolding_all rfl)) ?_
    | with_reducible refine docAfterEnd_within (hm.up (by with_unfolding_all rfl)) ?_
    | with_reducible refine docFinish_within (hm.up (by with_unfolding_all rfl)) ?_
    | with_reducible refine markEnd_within (hm.up (by with_unfolding_all rfl)) ?_
    | split)

theorem docAccept_within {m : Nat} {s0 s : State} {h_ : Nat} {b : Nat} {tag : Nat} (hm : Sub 0x40000000000000000000000000000000088000000000000000001101801 m)
    (h : Within m s0 s) : Within m s0 (docAccept h_ b tag s).1 := by
  unfold docAccept
  repeat' (first
    | with_reducible assumption
    | (extract_lets +onlyGivenNames x; first | (refine Within.cut (m := m) (s := s0) x ?_ (fun h => ?_); subst x; rotate_left; clear_value x; rotate_right) | clear_value x)
    | with_reducible refine docStart_within (hm.up (by with_unfolding_all rfl)) ?_
    | with_reducible refine setDoc_within (hm.up (by with_unfolding_all rfl)) ?_
    | with_reducible refine docFinish_within (hm.up (by with_unfolding_all rfl)) ?_
    | split)

theorem docOverrun_within {m : Nat} {s0 s : State} {h_ : Nat} {b : Nat} {tag : Nat} (hm : Sub 0x88000000000000000001103801 m)
    (h : Within m s0 s) : Within m s0 (docOverrun h_ b tag s) := by
  unfold docOverrun
  repeat' (first
    | with_reducible assumption
    | (extract_lets +onlyGivenNames x; first | (refine Within.cut (m := m) (s := s0) x ?_ (fun h => ?_); subst x; rotate_left; clear_value x; rotate_right) | clear_value x | subst x)
    | with_reducible refine setDoc_within (hm.up (by with_unfolding_all rfl)) ?_
    | with_reducible refine skipFinish_within (hm.up (by with_unfolding_all rfl)) ?_
    | with_reducible refine docFinish_within (hm.up (by with_unfolding_all rfl)) ?_
    | split)

theorem docCovered_within {m : Nat} {s0 s : State} {h_ : Nat} {c : Nat} (hm : Sub 0x400000000000000000000000000000000000000000000100000 m)
    (h : Within m s0 s) : Within m s0 (docCovered h_ c s) := by
  unfold docCovered
  repeat' (first
    | with_reducible assumption
    | (extract_lets +onlyGivenNames x; first | (refine Within.cut (m := m) (s := s0) x ?_ (fun h => ?_); subst x; rotate_left; clear_value x; rotate_right) | clear_value x)
    | with_reducible refine setDoc_within (hm.up (by with_unfolding_all rfl)) ?_
    | with_reducible refine resync_within (hm.up (by with_unfolding_all rfl)) ?_
    | split)

theorem docClearOpen_within {m : Nat} {s0 s : State} {h_ : Nat} {e : Nat} (hm : Sub 0x400000000000000000000000000000000000000000000100000 m)
    (h : Within m s0 s) : Within m s0 (docClearOpen h_ e s) := by
  unfold docClearOpen
  repeat' (first
    | with_reducible assumption
    | (extract_lets +onlyGivenNames x; first | (refine Within.cut (m := m) (s := s0) x ?_ (fun h => ?_); subst x; rotate_left; clear_value x; rotate_right) | clear_value x | subst x)
    | with_reducible refine setFlag_within (by with_reducible with_unfolding_all exact hm.reach (.inl (by simp only [MOT_EVENTS_END_LATE_row, HEAD_TRIG_TRIG_SRC_row]; rfl))) ?_
    | with_reducible refine setDoc_within (hm.up (by with_unfolding_all rfl)) ?_
    | split)

theorem docClear_within {m : Nat} {s0 s : State} {h_ : Nat} {e : Nat} (hm : Sub 0x400000000000000000000000000000000000000000000100000 m)
    (h : Within m s0 s) : Within m s0 (docClear h_ e s) := by
  unfold docClear
  repeat' (first
    | with_reducible assumption
    | (extract_lets +onlyGivenNames x; clear_value x)
    | with_reducible refine setDoc_within (hm.up (by with_unfolding_all rfl)) ?_
    | with_reducible refine docClearOpen_within (hm.up (by with_unfolding_all rfl)) ?_
    | split)

theorem docDisable_within {m : Nat} {s0 s : State} {h_ : Nat} (hm : Sub 0x100000 m)
    (h : Within m s0 s) : Within m s0 (docDisable h_ s) := by
  unfold docDisable
  repeat' (first
    | with_reducible assumption
    | (extract_lets +onlyGivenNames x; clear_value x)
    | with_reducible refine setDoc_within (hm.up (by with_unfolding_all rfl)) ?_)

end Sys2Proof.Machine
end

