-- ==== Sys2Proof/Laws/Strobe.lean ====
section
/-! SUPPORT. What each definition of Machine/Strobe.lean can change, said once: the set of parts after Sub (Laws/Within.lean gives
the bits), the queue never, and the invariants kept. -/

set_option linter.unusedSimpArgs false

namespace Sys2Proof.Machine

theorem showDrives_within {m : Nat} {s0 s : State} {k : Nat} (hm : Sub 0x10400000000000000000000000000040000000000000000000000000000000000 m)
    (h : Within m s0 s) : Within m s0 (showDrives k s) := by
  unfold showDrives
  repeat' (first
    | with_reducible assumption
    | (extract_lets +onlyGivenNames x; first | (refine Within.cut (m := m) (s := s0) x ?_ (fun h => ?_); subst x; rotate_left; clear_value x; rotate_right) | clear_value x | subst x)
    | with_reducible refine fset_within (by with_reducible with_unfolding_all exact hm.reach (.inl (by simp only [LMP_SSTAT_STATE_row, LMP_SDRV_WIDTH_row, LMP_SDRV_CODE_row, HEAD_BAND_EXPOSURE_row]; rfl))) ?_
    | with_reducible refine fsets_nil ?_
    | with_reducible refine fsets_cons ?_
    | with_reducible refine forN_within (fun _ _ _ => ?_) ?_
    | split)

theorem recompute_within {m : Nat} {s0 s : State} (hm : Sub 0x200000000000000000000000000000000088000000000000000005201801 m)
    (h : Within m s0 s) : Within m s0 (recompute s) := by
  unfold recompute
  repeat' (first
    | with_reducible assumption
    | (extract_lets +onlyGivenNames x; first | (refine Within.cut (m := m) (s := s0) x ?_ (fun h => ?_); subst x; rotate_left; clear_value x; rotate_right) | clear_value x | subst x)
    | with_reducible refine setFlag_within (by with_reducible with_unfolding_all exact hm.reach (.inl (by simp only [LMP_EVENTS_DRIVE_SAT_row, LNK_CTL_MODE_row]; rfl))) ?_
    | with_reducible refine whenS_within (fun _ _ => ?_) ?_
    | with_reducible refine foldl_within (fun _ _ _ => ?_) ?_
    | with_reducible refine setStr_within (hm.up (by with_unfolding_all rfl)) ?_
    | with_reducible refine raise_within (hm.up (by with_unfolding_all rfl)) ?_
    | split
    | with_reducible refine Within.set_lnk (hm.bit (by with_unfolding_all rfl)) ?_)

theorem setDeficit_within {m : Nat} {s0 s : State} {hb : Nat} {b : Bool} (hm : Sub 0x200000 m)
    (h : Within m s0 s) : Within m s0 (setDeficit hb b s) := by
  unfold setDeficit
  repeat' (first
    | with_reducible assumption
    | (extract_lets +onlyGivenNames x; clear_value x)
    | split
    | with_reducible refine Within.set_lmp (hm.bit (by with_unfolding_all rfl)) ?_)

theorem deficits_within {m : Nat} {s0 s : State} (hm : Sub 0x200000 m)
    (h : Within m s0 s) : Within m s0 (deficits s) := by
  unfold deficits
  repeat' (first
    | with_reducible assumption
    | (extract_lets +onlyGivenNames x; clear_value x)
    | with_reducible refine foldl_within (fun _ _ _ => ?_) ?_
    | split
    | with_reducible refine Within.set_lmp (hm.bit (by with_unfolding_all rfl)) ?_)

theorem lampLimpFollow_within {m : Nat} {s0 s : State} (hm : Sub 0x20000000000 m)
    (h : Within m s0 s) : Within m s0 (lampLimpFollow s) := by
  unfold lampLimpFollow
  repeat' (first
    | with_reducible assumption
    | with_reducible refine setFlag_within (by with_reducible with_unfolding_all exact hm.reach (.inl (by simp only [SYS_LIMP_LAMP_row]; rfl))) ?_
    | split)

theorem lampsAtB0_within {m : Nat} {s0 s : State} {h_ : Nat} (hm : Sub 0x10400100000000000000000000000040000000000000000000000020000200000 m)
    (h : Within m s0 s) : Within m s0 (lampsAtB0 h_ s) := by
  unfold lampsAtB0
  repeat' (first
    | with_reducible assumption
    | (extract_lets +onlyGivenNames x; first | (refine Within.cut (m := m) (s := s0) x ?_ (fun h => ?_); subst x; rotate_left; clear_value x; rotate_right) | clear_value x | subst x)
    | with_reducible refine fset_within (by with_reducible with_unfolding_all exact hm.reach (.inl (by simp only [LMP_STATUS_DROPPED_row]; rfl))) ?_
    | with_reducible refine foldl_within (fun _ _ _ => ?_) ?_
    | with_reducible refine setStr_within (hm.up (by with_unfolding_all rfl)) ?_
    | with_reducible refine showDrives_within (hm.up (by with_unfolding_all rfl)) ?_
    | with_reducible refine lampLimpFollow_within (hm.up (by with_unfolding_all rfl)) ?_
    | with_reducible refine deficits_within (hm.up (by with_unfolding_all rfl)) ?_
    | split)

theorem setLband_within {m : Nat} {s0 s : State} {b : Nat} (hm : Sub 0x200000 m)
    (h : Within m s0 s) : Within m s0 (setLband b s) := by
  unfold setLband
  repeat' (first
    | with_reducible assumption
    | (extract_lets +onlyGivenNames x; clear_value x)
    | split
    | with_reducible refine Within.set_lmp (hm.bit (by with_unfolding_all rfl)) ?_)

theorem lbandFollow_within {m : Nat} {s0 s : State} (hm : Sub 0x200000 m)
    (h : Within m s0 s) : Within m s0 (lbandFollow s) := by
  unfold lbandFollow
  repeat' (first
    | with_reducible assumption
    | (extract_lets +onlyGivenNames x; clear_value x)
    | with_reducible refine setLband_within (hm.up (by with_unfolding_all rfl)) ?_
    | split)

theorem busHold_within {m : Nat} {s0 s : State} {h_ : Nat} (hm : Sub 0x200001 m)
    (h : Within m s0 s) : Within m s0 (busHold h_ s) := by
  unfold busHold
  repeat' (first
    | with_reducible assumption
    | (extract_lets +onlyGivenNames x; first | clear_value x | subst x)
    | with_reducible refine schedule_within (hm.up (by with_unfolding_all rfl)) ?_
    | split
    | with_reducible refine Within.set_lmp (hm.bit (by with_unfolding_all rfl)) ?_)

theorem busOverrun_within {m : Nat} {s0 s : State} {h_ : Nat} (hm : Sub 0x200000 m)
    (h : Within m s0 s) : Within m s0 (busOverrun h_ s) := by
  unfold busOverrun
  repeat' (first
    | with_reducible assumption
    | with_reducible refine setLband_within (hm.up (by with_unfolding_all rfl)) ?_
    | split)

theorem busStrobe_within {m : Nat} {s0 s : State} {h_ pt : Nat} (hm : Sub 0x200200000000000000000000000000000000000000000000000000000201001 m)
    (h : Within m s0 s) : Within m s0 (busStrobe h_ pt s).1 := by
  unfold busStrobe
  repeat' (first
    | with_reducible assumption
    | (extract_lets +onlyGivenNames x; first | (refine Within.cut (m := m) (s := s0) x ?_ (fun h => ?_); subst x; rotate_left; clear_value x; rotate_right) | clear_value x | subst x)
    | with_reducible refine fset_within (by with_reducible with_unfolding_all exact hm.reach (.inl (by simp only [LMP_CNT_SUPPR_row, LMP_EVENTS_BUS_SUPPR_row]; rfl))) ?_
    | with_reducible refine setFlag_within (by with_reducible with_unfolding_all exact hm.reach (.inl (by simp only [LMP_CNT_SUPPR_row, LMP_EVENTS_BUS_SUPPR_row]; rfl))) ?_
    | with_reducible refine pmcEvent_within (hm.up (by with_unfolding_all rfl)) ?_
    | with_reducible refine schedule_within (hm.up (by with_unfolding_all rfl)) ?_
    | split
    | with_reducible refine Within.set_lmp (hm.bit (by with_unfolding_all rfl)) ?_)

theorem makeDue_within {m : Nat} {s0 s : State} {k : Nat} (hm : Sub 0x200001 m)
    (h : Within m s0 s) : Within m s0 (makeDue k s) := by
  unfold makeDue
  repeat' (first
    | with_reducible assumption
    | (extract_lets +onlyGivenNames x; first | clear_value x | subst x)
    | with_reducible refine schedule_within (hm.up (by with_unfolding_all rfl)) ?_
    | with_reducible refine cancel_within (hm.up (by with_unfolding_all rfl)) ?_
    | with_reducible refine setStr_within (hm.up (by with_unfolding_all rfl)) ?_
    | split)

theorem shortStrobe_within {m : Nat} {s0 s : State} {k : Nat} (hm : Sub 0x400000000000000000000000000000000000000000000000000000000201001 m)
    (h : Within m s0 s) : Within m s0 (shortStrobe k s) := by
  unfold shortStrobe
  repeat' (first
    | with_reducible assumption
    | (extract_lets +onlyGivenNames x; first | (refine Within.cut (m := m) (s := s0) x ?_ (fun h => ?_); subst x; rotate_left; clear_value x; rotate_right) | clear_value x | subst x)
    | with_reducible refine fset_within (by with_reducible with_unfolding_all exact hm.reach (.inl (by simp only [LMP_DIAG_DUE_T_row, LMP_DIAG_DUE_N_row, LMP_SSTAT_SCOUNT_row]; rfl))) ?_
    | with_reducible refine pmcEvent_within (hm.up (by with_unfolding_all rfl)) ?_
    | with_reducible refine setStr_within (hm.up (by with_unfolding_all rfl)) ?_
    | with_reducible refine schedule_within (hm.up (by with_unfolding_all rfl)) ?_
    | with_reducible refine makeDue_within (hm.up (by with_unfolding_all rfl)) ?_
    | split)

theorem openStrobe_within {m : Nat} {s0 s : State} {h_ : Nat} {b : Nat} {exposure : Nat} {p : Nat × Drive} (hm : Sub 0x400000000000000000000000000000000000000000000000000000000201001 m)
    (h : Within m s0 s) : Within m s0 (openStrobe h_ b exposure p s) := by
  unfold openStrobe
  repeat' (first
    | with_reducible assumption
    | (extract_lets +onlyGivenNames x; first | (refine Within.cut (m := m) (s := s0) x ?_ (fun h => ?_); subst x; rotate_left; clear_value x; rotate_right) | clear_value x | subst x)
    | with_reducible refine fset_within (by with_reducible with_unfolding_all exact hm.reach (.inl (by simp only [LMP_SSTAT_CODE_row]; rfl))) ?_
    | with_reducible refine setStr_within (hm.up (by with_unfolding_all rfl)) ?_
    | with_reducible refine schedule_within (hm.up (by with_unfolding_all rfl)) ?_
    | with_reducible refine pmcEvent_within (hm.up (by with_unfolding_all rfl)) ?_
    | with_reducible refine shortStrobe_within (hm.up (by with_unfolding_all rfl)) ?_
    | split)

theorem strobeLine_within {m : Nat} {s0 s : State} {h_ : Nat} {l : BandLine} (hm : Sub 0x600200000000000000000000000000000000000000000000000000000201001 m)
    (h : Within m s0 s) : Within m s0 (strobeLine h_ l s).1 := by
  unfold strobeLine
  repeat' (first
    | with_reducible assumption
    | (extract_lets +onlyGivenNames x; first | (refine Within.cut (m := m) (s := s0) x ?_ (fun h => ?_); subst x; rotate_left; clear_value x; rotate_right) | (refine Within.cut (m := m) (s := s0) x.1 ?_ (fun h => ?_); subst x; rotate_left; clear_value x; rotate_right) | clear_value x | subst x)
    | with_reducible refine foldl_within (fun _ _ _ => ?_) ?_
    | with_reducible refine busStrobe_within (hm.up (by with_unfolding_all rfl)) ?_
    | with_reducible refine openStrobe_within (hm.up (by with_unfolding_all rfl)) ?_)

theorem placeDiag_within {m : Nat} {s0 s : State} {h_ : Nat} {l : BandLine} (hm : Sub 0x400000000000000000000000000000000000000000000000000000000205001 m)
    (h : Within m s0 s) : Within m s0 (placeDiag h_ l s) := by
  unfold placeDiag
  repeat' (first
    | with_reducible assumption
    | (extract_lets +onlyGivenNames x; first | (refine Within.cut (m := m) (s := s0) x ?_ (fun h => ?_); subst x; rotate_left; clear_value x; rotate_right) | clear_value x | subst x)
    | with_reducible refine fset_within (by with_reducible with_unfolding_all exact hm.reach (.inl (by simp only [LMP_SSTAT_CODE_row, HEAD_CTL_READ_MODE_row]; rfl))) ?_
    | with_reducible refine foldl_within (fun _ _ _ => ?_) ?_
    | with_reducible refine setStr_within (hm.up (by with_unfolding_all rfl)) ?_
    | with_reducible refine schedule_within (hm.up (by with_unfolding_all rfl)) ?_
    | with_reducible refine pmcEvent_within (hm.up (by with_unfolding_all rfl)) ?_
    | with_reducible refine markLines_within (hm.up (by with_unfolding_all rfl)) ?_
    | split)

end Sys2Proof.Machine
end

