-- ==== Sys2Proof/Laws/HeadOps.lean ====
section
/-! SUPPORT. What each definition of Machine/HeadOps.lean can change, said once: the set of parts after Sub (Laws/Within.lean gives
the bits), the queue never, and the invariants kept. -/

set_option linter.unusedSimpArgs false

namespace Sys2Proof.Machine

theorem ignoreCause_within {m : Nat} {s0 s : State} {h_ : Nat} (hm : Sub 0x4000000000000000000000000000000000 m)
    (h : Within m s0 s) : Within m s0 (ignoreCause h_ s) := by
  unfold ignoreCause
  repeat' (first
    | with_reducible assumption
    | with_reducible refine fset_within (by with_reducible with_unfolding_all exact hm.reach (.inl (by simp only [HEAD_TRIGSTAT_IGNORED_row]; rfl))) ?_)

theorem commitBandSet_within {m : Nat} {s0 s : State} {h_ : Nat} (hm : Sub 0x40000000000000008000000000000000000000000284009 m)
    (h : Within m s0 s) : Within m s0 (commitBandSet h_ s) := by
  unfold commitBandSet
  repeat' (first
    | with_reducible assumption
    | (extract_lets +onlyGivenNames x; first | (refine Within.cut (m := m) (s := s0) x ?_ (fun h => ?_); subst x; rotate_left; clear_value x; rotate_right) | clear_value x)
    | with_reducible refine whenS_within (fun _ _ => ?_) ?_
    | with_reducible refine activateBandSet_within (hm.up (by with_unfolding_all rfl)) ?_
    | with_reducible refine setHead_within (hm.up (by with_unfolding_all rfl)) ?_
    | split
    | with_reducible refine Within.set_lmp (hm.bit (by with_unfolding_all rfl)) ?_)

theorem lineBegin_within {m : Nat} {s0 s : State} {h_ : Nat} {tag : Nat} {run : Bool} (hm : Sub 0x10400100000000400040000000000048008000088000000000000020001387809 m)
    (h : Within m s0 s) : Within m s0 (lineBegin h_ tag run s) := by
  unfold lineBegin
  repeat' (first
    | with_reducible assumption
    | (extract_lets +onlyGivenNames x; first | (refine Within.cut (m := m) (s := s0) x ?_ (fun h => ?_); subst x; rotate_left; clear_value x; rotate_right) | clear_value x | subst x)
    | with_reducible refine setRaw_within (by with_reducible with_unfolding_all exact hm.reach (.inl (by simp only [HEAD_LINE_row]; rfl))) ?_
    | with_reducible refine lampsAtB0_within (hm.up (by with_unfolding_all rfl)) ?_
    | with_reducible refine commitBandSet_within (hm.up (by with_unfolding_all rfl)) ?_
    | with_reducible refine docLine_within (hm.up (by with_unfolding_all rfl)) ?_
    | with_reducible refine setHead_within (hm.up (by with_unfolding_all rfl)) ?_
    | split)

theorem overrun_within {m : Nat} {s0 s : State} {h_ : Nat} {b : Nat} {tag : Nat} {run : Bool} (hm : Sub 0x4030000088000000000000000001303801 m)
    (h : Within m s0 s) : Within m s0 (overrun h_ b tag run s) := by
  unfold overrun
  repeat' (first
    | with_reducible assumption
    | (extract_lets +onlyGivenNames x; first | (refine Within.cut (m := m) (s := s0) x ?_ (fun h => ?_); subst x; rotate_left; clear_value x; rotate_right) | clear_value x | subst x)
    | with_reducible refine fset_within (by with_reducible with_unfolding_all exact hm.reach (.inl (by simp only [HEAD_EVENTS_TRIG_OVR_row, HEAD_TRIGSTAT_OVERRUN_row, HEAD_LINE_row, HEAD_STATUS_BAND_row]; rfl))) ?_
    | with_reducible refine setFlag_within (by with_reducible with_unfolding_all exact hm.reach (.inl (by simp only [HEAD_EVENTS_TRIG_OVR_row, HEAD_TRIGSTAT_OVERRUN_row, HEAD_LINE_row, HEAD_STATUS_BAND_row]; rfl))) ?_
    | with_reducible refine whenS_within (fun _ _ => ?_) ?_
    | with_reducible refine raise_within (hm.up (by with_unfolding_all rfl)) ?_
    | with_reducible refine pmcEvent_within (hm.up (by with_unfolding_all rfl)) ?_
    | with_reducible refine docOverrun_within (hm.up (by with_unfolding_all rfl)) ?_
    | with_reducible refine busOverrun_within (hm.up (by with_unfolding_all rfl)) ?_)

theorem acceptCause_within {m : Nat} {s0 s : State} {h_ : Fin 16} {b : Nat} {tag : Nat} {run : Bool} (hm : Sub 0x40000000000000000000000000010000088000000000000000001305801 m)
    (h : Within m s0 s) : Within m s0 (acceptCause h_ b tag run s) := by
  unfold acceptCause
  repeat' (first
    | with_reducible assumption
    | (extract_lets +onlyGivenNames x; first | (refine Within.cut (m := m) (s := s0) x ?_ (fun h => ?_); subst x; rotate_left; clear_value x; rotate_right) | (refine Within.cut (m := m) (s := s0) x.1 ?_ (fun h => ?_); subst x; rotate_left; clear_value x; rotate_right) | clear_value x | subst x)
    | with_reducible refine fset_within (by with_reducible with_unfolding_all exact hm.reach (.inl (by simp only [HEAD_STATUS_BAND_row]; rfl))) ?_
    | with_reducible refine docAccept_within (hm.up (by with_unfolding_all rfl)) ?_
    | with_reducible refine setHead_within (hm.up (by with_unfolding_all rfl)) ?_
    | with_reducible refine schedule_within (hm.up (by with_unfolding_all rfl)) ?_
    | with_reducible refine busHold_within (hm.up (by with_unfolding_all rfl)) ?_
    | split)

theorem causeAt_within {m : Nat} {s0 s : State} {h_ : Fin 16} {b : Nat} {tag : Nat} {run : Bool} (hm : Sub 0x1040014000000040004000000000004c038000088000000000000020001387809 m)
    (h : Within m s0 s) : Within m s0 (causeAt h_ b tag run s) := by
  unfold causeAt
  repeat' (first
    | with_reducible assumption
    | (extract_lets +onlyGivenNames x; (refine Within.cut (m := m) (s := s0) x ?_ (fun h => ?_); subst x; rotate_left; clear_value x; rotate_right))
    | with_reducible refine lineBegin_within (hm.up (by with_unfolding_all rfl)) ?_
    | with_reducible refine overrun_within (hm.up (by with_unfolding_all rfl)) ?_
    | with_reducible refine acceptCause_within (hm.up (by with_unfolding_all rfl)) ?_
    | split)

theorem headCause_within {m : Nat} {s0 s : State} {h_ : Fin 16} {b : Nat} {tag : Nat} (hm : Sub 0x1040014000000040004000000000004c038000088000000000000020001387809 m)
    (h : Within m s0 s) : Within m s0 (headCause h_ b tag s) := by
  unfold headCause
  repeat' (first
    | with_reducible assumption
    | with_reducible refine ignoreCause_within (hm.up (by with_unfolding_all rfl)) ?_
    | with_reducible refine causeAt_within (hm.up (by with_unfolding_all rfl)) ?_
    | split)

theorem plainCause_within {m : Nat} {s0 s : State} {h_ : Fin 16} (hm : Sub 0x1040014000000040004000000000004c038000088000000000000020001387809 m)
    (h : Within m s0 s) : Within m s0 (plainCause h_ s) := by
  unfold plainCause
  repeat' (first
    | with_reducible assumption
    | with_reducible refine headCause_within (hm.up (by with_unfolding_all rfl)) ?_)

theorem gridCause_within {m : Nat} {s0 s : State} {h_ : Fin 16} (hm : Sub 0x1040014000000040004000000000004c038000088000000000000020001387809 m)
    (h : Within m s0 s) : Within m s0 (gridCause h_ s) := by
  unfold gridCause
  repeat' (first
    | with_reducible assumption
    | (extract_lets +onlyGivenNames x; first | (refine Within.cut (m := m) (s := s0) x ?_ (fun h => ?_); subst x; rotate_left; clear_value x; rotate_right) | clear_value x | subst x)
    | with_reducible refine pmcEvent_within (hm.up (by with_unfolding_all rfl)) ?_
    | with_reducible refine headCause_within (hm.up (by with_unfolding_all rfl)) ?_
    | with_reducible refine docAfterEnd_within (hm.up (by with_unfolding_all rfl)) ?_
    | with_reducible refine gridAdvance_within (hm.up (by with_unfolding_all rfl)) ?_)

theorem xsyncCause_within {m : Nat} {s0 s : State} (hm : Sub 0x1040014000000040004000000000004c038000088000000000000020001387809 m)
    (h : Within m s0 s) : Within m s0 (xsyncCause s) := by
  unfold xsyncCause
  repeat' (first
    | with_reducible assumption
    | (extract_lets +onlyGivenNames x; first | (refine Within.cut (m := m) (s := s0) x ?_ (fun h => ?_); subst x; rotate_left; clear_value x; rotate_right) | clear_value x | subst x)
    | with_reducible refine foldl_within (fun _ _ _ => ?_) ?_
    | with_reducible refine plainCause_within (hm.up (by with_unfolding_all rfl)) ?_
    | split)

theorem startReadout_within {m : Nat} {s0 s : State} {h_ : Fin 16} {l : Option BandLine} (hm : Sub 0x4001 m)
    (h : Within m s0 s) : Within m s0 (startReadout h_ l s) := by
  unfold startReadout
  repeat' (first
    | with_reducible assumption
    | (extract_lets +onlyGivenNames x; first | (refine Within.cut (m := m) (s := s0) x ?_ (fun h => ?_); subst x; rotate_left; clear_value x; rotate_right) | clear_value x | subst x)
    | with_reducible refine setHead_within (hm.up (by with_unfolding_all rfl)) ?_
    | with_reducible refine schedule_within (hm.up (by with_unfolding_all rfl)) ?_
    | split)

theorem overlapOpens_within {m : Nat} {s0 s : State} {h_ : Nat} (hm : Sub 0x200000000000000000000000000000000000000 m)
    (h : Within m s0 s) : Within m s0 (overlapOpens h_ s) := by
  unfold overlapOpens
  repeat' (first
    | with_reducible assumption
    | (extract_lets +onlyGivenNames x; first | clear_value x | subst x)
    | with_reducible refine fset_within (by with_reducible with_unfolding_all exact hm.reach (.inl (by simp only [SLC_GSTATE_PHASE_row]; rfl))) ?_
    | with_reducible refine forN_within (fun _ _ _ => ?_) ?_
    | with_reducible refine whenS_within (fun _ _ => ?_) ?_)

theorem fireLine_within {m : Nat} {s0 s : State} {h_ : Fin 16} {l : BandLine} (hm : Sub 0x600200000000000000000000200000000000000000000000000000000205001 m)
    (h : Within m s0 s) : Within m s0 (fireLine h_ l s) := by
  unfold fireLine
  repeat' (first
    | with_reducible assumption
    | (extract_lets +onlyGivenNames x; first | (refine Within.cut (m := m) (s := s0) x ?_ (fun h => ?_); subst x; rotate_left; clear_value x; rotate_right) | (refine Within.cut (m := m) (s := s0) x.1 ?_ (fun h => ?_); subst x; rotate_left; clear_value x; rotate_right) | clear_value x | subst x)
    | with_reducible refine strobeLine_within (hm.up (by with_unfolding_all rfl)) ?_
    | with_reducible refine setHead_within (hm.up (by with_unfolding_all rfl)) ?_
    | with_reducible refine startReadout_within (hm.up (by with_unfolding_all rfl)) ?_
    | with_reducible refine overlapOpens_within (hm.up (by with_unfolding_all rfl)) ?_
    | with_reducible refine schedule_within (hm.up (by with_unfolding_all rfl)) ?_
    | split)

theorem intoLanes_within {m : Nat} {s0 s : State} {h_ : Nat} {l : BandLine} (hm : Sub 0x5001 m)
    (h : Within m s0 s) : Within m s0 (intoLanes h_ l s) := by
  unfold intoLanes
  repeat' (first
    | with_reducible assumption
    | (extract_lets +onlyGivenNames x; first | (refine Within.cut (m := m) (s := s0) x ?_ (fun h => ?_); subst x; rotate_left; clear_value x; rotate_right) | clear_value x)
    | with_reducible refine foldl_within (fun _ _ _ => ?_) ?_
    | with_reducible refine setHead_within (hm.up (by with_unfolding_all rfl)) ?_
    | with_reducible refine pmcEvents_within (hm.up (by with_unfolding_all rfl)) ?_)

theorem activatePga_within {m : Nat} {s0 s : State} {h_ : Nat} (hm : Sub 0x800000000000000000000000000000008008 m)
    (h : Within m s0 s) : Within m s0 (activatePga h_ s) := by
  unfold activatePga
  repeat' (first
    | with_reducible assumption
    | (extract_lets +onlyGivenNames x; first | (refine Within.cut (m := m) (s := s0) x ?_ (fun h => ?_); subst x; rotate_left; clear_value x; rotate_right) | clear_value x | subst x)
    | with_reducible refine setFlag_within (by with_reducible with_unfolding_all exact hm.reach (.inl (by simp only [TAP_PGA_row, TAP_STATUS_PEND_row]; rfl))) ?_
    | with_reducible refine foldl_within (fun _ _ _ => ?_) ?_
    | with_reducible refine setTap_within (hm.up (by with_unfolding_all rfl)) ?_
    | with_reducible refine activate_within (hm.up (by with_unfolding_all rfl)) ?_
    | split)

theorem activatePhase_within {m : Nat} {s0 s : State} {h_ : Nat} (hm : Sub 0x40000000000800000000000000000000000000000088008 m)
    (h : Within m s0 s) : Within m s0 (activatePhase h_ s) := by
  unfold activatePhase
  repeat' (first
    | with_reducible assumption
    | (extract_lets +onlyGivenNames x; first | (refine Within.cut (m := m) (s := s0) x ?_ (fun h => ?_); subst x; rotate_left; clear_value x; rotate_right) | clear_value x | subst x)
    | with_reducible refine setFlag_within (by with_reducible with_unfolding_all exact hm.reach (.inl (by simp only [TAP_PHASE_row, TAP_STATUS_PEND_row]; rfl))) ?_
    | with_reducible refine foldl_within (fun _ _ _ => ?_) ?_
    | with_reducible refine whiteRestartTap_within (hm.up (by with_unfolding_all rfl)) ?_
    | with_reducible refine setTap_within (hm.up (by with_unfolding_all rfl)) ?_
    | with_reducible refine activate_within (hm.up (by with_unfolding_all rfl)) ?_
    | split)

theorem stopProgress_within {m : Nat} {s0 s : State} {h_ : Fin 16} (hm : Sub 0x4001 m)
    (h : Within m s0 s) : Within m s0 (stopProgress h_ s) := by
  unfold stopProgress
  repeat' (first
    | with_reducible assumption
    | (extract_lets +onlyGivenNames x; first | (refine Within.cut (m := m) (s := s0) x ?_ (fun h => ?_); subst x; rotate_left; clear_value x; rotate_right) | clear_value x | subst x)
    | with_reducible refine schedule_within (hm.up (by with_unfolding_all rfl)) ?_
    | with_reducible refine setHead_within (hm.up (by with_unfolding_all rfl)) ?_
    | with_reducible refine startReadout_within (hm.up (by with_unfolding_all rfl)) ?_
    | split)

theorem beginStop_within {m : Nat} {s0 s : State} {h_ : Fin 16} (hm : Sub 0x18000000000000000000000000084001 m)
    (h : Within m s0 s) : Within m s0 (beginStop h_ s) := by
  unfold beginStop
  repeat' (first
    | with_reducible assumption
    | (extract_lets +onlyGivenNames x; first | (refine Within.cut (m := m) (s := s0) x ?_ (fun h => ?_); subst x; rotate_left; clear_value x; rotate_right) | clear_value x | subst x)
    | with_reducible refine fsets_nil ?_
    | with_reducible refine fsets_cons ?_
    | with_reducible refine fset_within (by with_reducible with_unfolding_all exact hm.reach (.inl (by simp only [HEAD_STATUS_STATE_row, HEAD_CTL_ONLINE_row]; rfl))) ?_
    | with_reducible refine setHead_within (hm.up (by with_unfolding_all rfl)) ?_
    | with_reducible refine stopProgress_within (hm.up (by with_unfolding_all rfl)) ?_
    | with_reducible refine abortRun_within (hm.up (by with_unfolding_all rfl)) ?_)

theorem startFail_within {m : Nat} {s0 s : State} {h_ : Nat} {code : Nat} (hm : Sub 0x38000000000000000000000000000000 m)
    (h : Within m s0 s) : Within m s0 (startFail h_ code s) := by
  unfold startFail
  repeat' (first
    | with_reducible assumption
    | (extract_lets +onlyGivenNames x; first | (refine Within.cut (m := m) (s := s0) x ?_ (fun h => ?_); subst x; rotate_left; clear_value x; rotate_right) | clear_value x | subst x)
    | with_reducible refine setFlag_within (by with_reducible with_unfolding_all exact hm.reach (.inl (by simp only [HEAD_STATUS_CFG_ERR_row, HEAD_CTL_ONLINE_row, HEAD_EVENTS_START_FAIL_row]; rfl))) ?_
    | with_reducible refine fsets_nil ?_
    | with_reducible refine fsets_cons ?_
    | with_reducible refine fset_within (by with_reducible with_unfolding_all exact hm.reach (.inl (by simp only [HEAD_STATUS_CFG_ERR_row, HEAD_CTL_ONLINE_row, HEAD_EVENTS_START_FAIL_row]; rfl))) ?_)

theorem guestsAtTake_within {m : Nat} {s0 s : State} {h_ : Nat} (hm : Sub 0x200800000000000000000000000000000000000 m)
    (h : Within m s0 s) : Within m s0 (guestsAtTake h_ s) := by
  unfold guestsAtTake
  repeat' (first
    | with_reducible assumption
    | (extract_lets +onlyGivenNames x; first | clear_value x | subst x)
    | with_reducible refine fset_within (by with_reducible with_unfolding_all exact hm.reach (.inl (by simp only [SLC_GSTATE_GUEST_TAP_row, SLC_GSTATE_PHASE_row, TAP_STATUS_GUEST_row]; rfl))) ?_
    | with_reducible refine setFlag_within (by with_reducible with_unfolding_all exact hm.reach (.inl (by simp only [SLC_GSTATE_GUEST_TAP_row, SLC_GSTATE_PHASE_row, TAP_STATUS_GUEST_row]; rfl))) ?_
    | with_reducible refine forN_within (fun _ _ _ => ?_) ?_
    | split)

theorem guestsAtOnline_within {m : Nat} {s0 s : State} {h_ : Nat} (hm : Sub 0x200800000000000000000000000000000000000 m)
    (h : Within m s0 s) : Within m s0 (guestsAtOnline h_ s) := by
  unfold guestsAtOnline
  repeat' (first
    | with_reducible assumption
    | (extract_lets +onlyGivenNames x; first | clear_value x | subst x)
    | with_reducible refine setFlag_within (by with_reducible with_unfolding_all exact hm.reach (.inl (by simp only [SLC_GSTATE_GUEST_TAP_row, TAP_STATUS_GUEST_row]; rfl))) ?_
    | with_reducible refine forN_within (fun _ _ _ => ?_) ?_
    | with_reducible refine whenS_within (fun _ _ => ?_) ?_)

end Sys2Proof.Machine
end

