-- ==== Sys2Proof/Laws/HwyOps.lean ====
section
/-! SUPPORT. What each definition of Machine/HwyOps.lean can change, said once: the set of parts after Sub (Laws/Within.lean gives
the bits), the queue never, and the invariants kept. -/

set_option linter.unusedSimpArgs false

namespace Sys2Proof.Machine

theorem addStep_within {m : Nat} {s0 s : State} {cause : Nat} {axis : Nat} {fwd : Bool} {xsync : Bool} (hm : Sub 0x2000001 m)
    (h : Within m s0 s) : Within m s0 (addStep cause axis fwd xsync s) := by
  unfold addStep
  repeat' (first
    | with_reducible assumption
    | (extract_lets +onlyGivenNames x; first | (refine Within.cut (m := m) (s := s0) x ?_ (fun h => ?_); subst x; rotate_left; clear_value x; rotate_right) | clear_value x)
    | with_reducible refine schedule_within (hm.up (by with_unfolding_all rfl)) ?_
    | split
    | with_reducible refine Within.set_hwy (hm.bit (by with_unfolding_all rfl)) ?_)

theorem forwardCause_within {m : Nat} {s0 s : State} {axis : Nat} {fwd : Bool} {xsync : Bool} (hm : Sub 0x2000000000000000000000000000000000000000000000000000000000002000021 m)
    (h : Within m s0 s) : Within m s0 (forwardCause axis fwd xsync s) := by
  unfold forwardCause
  repeat' (first
    | with_reducible assumption
    | (extract_lets +onlyGivenNames x; first | (refine Within.cut (m := m) (s := s0) x ?_ (fun h => ?_); subst x; rotate_left; clear_value x; rotate_right) | clear_value x | subst x)
    | with_reducible refine setFlag_within (by with_reducible with_unfolding_all exact hm.reach (.inl (by simp only [HWY_EVENTS_TOK_DROP_row]; rfl))) ?_
    | with_reducible refine emit_within (hm.bit (by with_unfolding_all rfl)) ?_
    | with_reducible refine addStep_within (hm.up (by with_unfolding_all rfl)) ?_
    | split
    | with_reducible refine Within.set_hwy (hm.bit (by with_unfolding_all rfl)) ?_)

end Sys2Proof.Machine
end

