-- ==== Sys2Proof/Laws/MotOps.lean ====
section
/-! SUPPORT. What each definition of Machine/MotOps.lean can change, said once: the set of parts after Sub (Laws/Within.lean gives
the bits), the queue never, and the invariants kept. -/

set_option linter.unusedSimpArgs false

namespace Sys2Proof.Machine

theorem crossings_within {m : Nat} {s0 s : State} {m_ : Nat} (hm : Sub 0x1040014000000040004000000000004c038000088000000000000020001387809 m)
    (h : Within m s0 s) : Within m s0 (crossings m_ s) := by
  unfold crossings
  repeat' (first
    | with_reducible assumption
    | (extract_lets +onlyGivenNames x; first | (refine Within.cut (m := m) (s := s0) x ?_ (fun h => ?_); subst x; rotate_left; clear_value x; rotate_right) | clear_value x | subst x)
    | with_reducible refine foldl_within (fun _ _ _ => ?_) ?_
    | with_reducible refine gridCause_within (hm.up (by with_unfolding_all rfl)) ?_
    | split)

theorem noteMove_within {m : Nat} {s0 s : State} {m_ : Nat} (hm : Sub 0x100000 m)
    (h : Within m s0 s) : Within m s0 (noteMove m_ s) := by
  unfold noteMove
  repeat' (first
    | with_reducible assumption
    | (extract_lets +onlyGivenNames x; clear_value x)
    | with_reducible refine setAxis_within (hm.up (by with_unfolding_all rfl)) ?_)

theorem moveUnit_within {m : Nat} {s0 s : State} {m_ : Nat} (hm : Sub 0x200000000000000000000000000000000000000000000000100001 m)
    (h : Within m s0 s) : Within m s0 (moveUnit m_ s) := by
  unfold moveUnit
  repeat' (first
    | with_reducible assumption
    | (extract_lets +onlyGivenNames x; first | (refine Within.cut (m := m) (s := s0) x ?_ (fun h => ?_); subst x; rotate_left; clear_value x; rotate_right) | clear_value x | subst x)
    | with_reducible refine fset_within (by with_reducible with_unfolding_all exact hm.reach (.inl (by simp only [MOT_ASTATUS_MOVE_row, MOT_ASTATUS_DIR_row]; rfl))) ?_
    | with_reducible refine setAxis_within (hm.up (by with_unfolding_all rfl)) ?_
    | with_reducible refine schedule_within (hm.up (by with_unfolding_all rfl)) ?_
    | split)

theorem posMove_within {m : Nat} {s0 s : State} {m_ : Nat} {fwd : Bool} (hm : Sub 0x12c0201040014000020040004000000000004c038000088000000000000020003b87829 m)
    (h : Within m s0 s) : Within m s0 (posMove m_ fwd s) := by
  unfold posMove
  repeat' (first
    | with_reducible assumption
    | (extract_lets +onlyGivenNames x; first | (refine Within.cut (m := m) (s := s0) x ?_ (fun h => ?_); subst x; rotate_left; clear_value x; rotate_right) | clear_value x | subst x)
    | with_reducible refine noteMove_within (hm.up (by with_unfolding_all rfl)) ?_
    | with_reducible refine setAxis_within (hm.up (by with_unfolding_all rfl)) ?_
    | with_reducible refine auxPosTrigger_within (hm.up (by with_unfolding_all rfl)) ?_
    | with_reducible refine moveUnit_within (hm.up (by with_unfolding_all rfl)) ?_
    | with_reducible refine forwardCause_within (hm.up (by with_unfolding_all rfl)) ?_
    | with_reducible refine crossings_within (hm.up (by with_unfolding_all rfl)) ?_
    | split)

theorem showErr_within {m : Nat} {s0 s : State} {m_ : Nat} (hm : Sub 0x80000000000000000000000000000000000000000000000000000000 m)
    (h : Within m s0 s) : Within m s0 (showErr m_ s) := by
  unfold showErr
  repeat' (first
    | with_reducible assumption
    | with_reducible refine setRaw_within (by with_reducible with_unfolding_all exact hm.reach (.inl (by simp only [MOT_AFERR_row]; rfl))) ?_)

theorem segEnd_within {m : Nat} {s0 s : State} {m_ : Nat} (hm : Sub 0x2600000000000000000000000000000000000000000000000100001 m)
    (h : Within m s0 s) : Within m s0 (segEnd m_ s) := by
  unfold segEnd
  repeat' (first
    | with_reducible assumption
    | (extract_lets +onlyGivenNames x; first | (refine Within.cut (m := m) (s := s0) x ?_ (fun h => ?_); subst x; rotate_left; clear_value x; rotate_right) | clear_value x)
    | with_reducible refine fset_within (by with_reducible with_unfolding_all exact hm.reach (.inl (by simp only [MOT_ASTATUS_SEG_row, MOT_ASTATUS_DIR_row, MOT_AEVENTS_PROF_DONE_row]; rfl))) ?_
    | with_reducible refine setFlag_within (by with_reducible with_unfolding_all exact hm.reach (.inl (by simp only [MOT_ASTATUS_SEG_row, MOT_ASTATUS_DIR_row, MOT_AEVENTS_PROF_DONE_row]; rfl))) ?_
    | with_reducible refine setAxis_within (hm.up (by with_unfolding_all rfl)) ?_
    | with_reducible refine axisRests_within (hm.up (by with_unfolding_all rfl)) ?_
    | with_reducible refine controlledStop_within (hm.up (by with_unfolding_all rfl)) ?_
    | split)

theorem sensorSegs_within {m : Nat} {s0 s : State} {k : Nat} {covered : Bool} (hm : Sub 0x2600000000000000000000000000000000000000000000000100001 m)
    (h : Within m s0 s) : Within m s0 (sensorSegs k covered s) := by
  unfold sensorSegs
  repeat' (first
    | with_reducible assumption
    | (extract_lets +onlyGivenNames x; first | (refine Within.cut (m := m) (s := s0) x ?_ (fun h => ?_); subst x; rotate_left; clear_value x; rotate_right) | clear_value x | subst x)
    | with_reducible refine forN_within (fun _ _ _ => ?_) ?_
    | with_reducible refine whenS_within (fun _ _ => ?_) ?_
    | with_reducible refine segEnd_within (hm.up (by with_unfolding_all rfl)) ?_
    | split)

theorem dropProfile_within {m : Nat} {s0 s : State} {m_ : Nat} (hm : Sub 0x400000000000000000000000000000000000000000000000100000 m)
    (h : Within m s0 s) : Within m s0 (dropProfile m_ s) := by
  unfold dropProfile
  repeat' (first
    | with_reducible assumption
    | (extract_lets +onlyGivenNames x; first | clear_value x | subst x)
    | with_reducible refine setFlag_within (by with_reducible with_unfolding_all exact hm.reach (.inl (by simp only [MOT_AEVENTS_PROF_DONE_row]; rfl))) ?_
    | with_reducible refine setAxis_within (hm.up (by with_unfolding_all rfl)) ?_
    | split)

theorem startMove_within {m : Nat} {s0 s : State} {m_ : Nat} {kind : Nat} {dir : Nat} (hm : Sub 0x200000000000000000000000000000000000000000000000100001 m)
    (h : Within m s0 s) : Within m s0 (startMove m_ kind dir s) := by
  unfold startMove
  repeat' (first
    | with_reducible assumption
    | (extract_lets +onlyGivenNames x; first | (refine Within.cut (m := m) (s := s0) x ?_ (fun h => ?_); subst x; rotate_left; clear_value x; rotate_right) | clear_value x | subst x)
    | with_reducible refine fsets_nil ?_
    | with_reducible refine fsets_cons ?_
    | with_reducible refine fset_within (by with_reducible with_unfolding_all exact hm.reach (.inl (by simp only [MOT_ASTATUS_STATE_row, MOT_ASTATUS_REST_row, MOT_ASTATUS_MOVE_row, MOT_ASTATUS_DIR_row, MOT_AIREF_RUN_DUTY_row]; rfl))) ?_
    | with_reducible refine setAxis_within (hm.up (by with_unfolding_all rfl)) ?_
    | with_reducible refine cancel_within (hm.up (by with_unfolding_all rfl)) ?_
    | split)

theorem startBackup_within {m : Nat} {s0 s : State} {m_ : Nat} (hm : Sub 0x200000000000000000000000000000000000000000000000100001 m)
    (h : Within m s0 s) : Within m s0 (startBackup m_ s) := by
  unfold startBackup
  repeat' (first
    | with_reducible assumption
    | (extract_lets +onlyGivenNames x; first | (refine Within.cut (m := m) (s := s0) x ?_ (fun h => ?_); subst x; rotate_left; clear_value x; rotate_right) | clear_value x)
    | with_reducible refine startMove_within (hm.up (by with_unfolding_all rfl)) ?_
    | with_reducible refine setAxis_within (hm.up (by with_unfolding_all rfl)) ?_
    | split)

theorem resumeAxis_within {m : Nat} {s0 s : State} {m_ : Nat} (hm : Sub 0x200000000000000000000000000000000000000000000000100001 m)
    (h : Within m s0 s) : Within m s0 (resumeAxis m_ s) := by
  unfold resumeAxis
  repeat' (first
    | with_reducible assumption
    | (extract_lets +onlyGivenNames x; first | (refine Within.cut (m := m) (s := s0) x ?_ (fun h => ?_); subst x; rotate_left; clear_value x; rotate_right) | clear_value x)
    | with_reducible refine startMove_within (hm.up (by with_unfolding_all rfl)) ?_
    | with_reducible refine setAxis_within (hm.up (by with_unfolding_all rfl)) ?_
    | split)

theorem holdCheck_within {m : Nat} {s0 s : State} (hm : Sub 0x81100000200100000000000000000000000088000000000000001001381901 m)
    (h : Within m s0 s) : Within m s0 (holdCheck s) := by
  unfold holdCheck
  repeat' (first
    | with_reducible assumption
    | (extract_lets +onlyGivenNames x; first | (refine Within.cut (m := m) (s := s0) x ?_ (fun h => ?_); subst x; rotate_left; clear_value x; rotate_right) | clear_value x | subst x)
    | with_reducible refine fset_within (by with_reducible with_unfolding_all exact hm.reach (.inl (by simp only [MOT_STATUS_PSTATE_row, MOT_HOLDTO_TIMEOUT_row, MOT_ASTATUS_REST_row, MOT_ACTL_EN_row]; rfl))) ?_
    | with_reducible refine forN_within (fun _ _ _ => ?_) ?_
    | with_reducible refine enterMode_within (hm.up (by with_unfolding_all rfl)) ?_
    | with_reducible refine startBackup_within (hm.up (by with_unfolding_all rfl)) ?_
    | with_reducible refine schedule_within (hm.up (by with_unfolding_all rfl)) ?_
    | split
    | with_reducible refine Within.set_mot (hm.bit (by with_unfolding_all rfl)) ?_)

theorem holdEnd_within {m : Nat} {s0 s : State} (hm : Sub 0x81100000200000000000000000000000000088000000000000001001381901 m)
    (h : Within m s0 s) : Within m s0 (holdEnd s) := by
  unfold holdEnd
  repeat' (first
    | with_reducible assumption
    | (extract_lets +onlyGivenNames x; first | (refine Within.cut (m := m) (s := s0) x ?_ (fun h => ?_); subst x; rotate_left; clear_value x; rotate_right) | clear_value x | subst x)
    | with_reducible refine forN_within (fun _ _ _ => ?_) ?_
    | with_reducible refine resumeAxis_within (hm.up (by with_unfolding_all rfl)) ?_
    | with_reducible refine enterMode_within (hm.up (by with_unfolding_all rfl)) ?_
    | with_reducible refine cancel_within (hm.up (by with_unfolding_all rfl)) ?_
    | split)

theorem watermarks_within {m : Nat} {s0 s : State} {f : Rat} (hm : Sub 0x400000000000000000000000000000000000000000000100000 m)
    (h : Within m s0 s) : Within m s0 (watermarks f s) := by
  unfold watermarks
  repeat' (first
    | with_reducible assumption
    | (extract_lets +onlyGivenNames x; first | (refine Within.cut (m := m) (s := s0) x ?_ (fun h => ?_); subst x; rotate_left; clear_value x; rotate_right) | clear_value x | subst x)
    | with_reducible refine setFlag_within (by with_reducible with_unfolding_all exact hm.reach (.inl (by simp only [MOT_PACE_FOLLOW_row, MOT_EVENTS_FOLLOW_row, MOT_PACE_HOLD_row, MOT_EVENTS_HELD_row, MOT_PACE_RESUME_row, MOT_EVENTS_RESUMED_row]; rfl))) ?_
    | with_reducible refine whenS_within (fun _ _ => ?_) ?_
    | split
    | with_reducible refine Within.set_mot (hm.bit (by with_unfolding_all rfl)) ?_)

theorem paceState_within {m : Nat} {s0 s : State} {f : Rat} (hm : Sub 0x81100000200100000000000000000000000088000000000000001001381901 m)
    (h : Within m s0 s) : Within m s0 (paceState f s) := by
  unfold paceState
  repeat' (first
    | with_reducible assumption
    | (extract_lets +onlyGivenNames x; first | clear_value x | subst x)
    | with_reducible refine fset_within (by with_reducible with_unfolding_all exact hm.reach (.inl (by simp only [MOT_STATUS_PSTATE_row, MOT_PACE_RESUME_row, MOT_CTL_PACE_MODE_row, MOT_PACE_HOLD_row]; rfl))) ?_
    | with_reducible refine holdEnd_within (hm.up (by with_unfolding_all rfl)) ?_
    | with_reducible refine holdCheck_within (hm.up (by with_unfolding_all rfl)) ?_
    | split)

theorem followPace_within {m : Nat} {s0 s : State} (hm : Sub 0x81100000200100000000000000000000000088000000000000001001381901 m)
    (h : Within m s0 s) : Within m s0 (followPace s) := by
  unfold followPace
  repeat' (first
    | with_reducible assumption
    | (extract_lets +onlyGivenNames x; first | (refine Within.cut (m := m) (s := s0) x ?_ (fun h => ?_); subst x; rotate_left; clear_value x; rotate_right) | clear_value x | subst x)
    | with_reducible refine fsets_nil ?_
    | with_reducible refine fsets_cons ?_
    | with_reducible refine fset_within (by with_reducible with_unfolding_all exact hm.reach (.inl (by simp only [MOT_STATUS_PSTATE_row, MOT_STATUS_K_row, MOT_HOLDTO_TIMEOUT_row]; rfl))) ?_
    | with_reducible refine forN_within (fun _ _ _ => ?_) ?_
    | with_reducible refine enterMode_within (hm.up (by with_unfolding_all rfl)) ?_
    | with_reducible refine startBackup_within (hm.up (by with_unfolding_all rfl)) ?_
    | with_reducible refine schedule_within (hm.up (by with_unfolding_all rfl)) ?_
    | with_reducible refine holdEnd_within (hm.up (by with_unfolding_all rfl)) ?_
    | split
    | with_reducible refine Within.set_mot (hm.bit (by with_unfolding_all rfl)) ?_)

theorem paceStep_within {m : Nat} {s0 s : State} {f : Rat} (hm : Sub 0x400100000000000000000000000000000000000000000000100000 m)
    (h : Within m s0 s) : Within m s0 (paceStep f s) := by
  unfold paceStep
  repeat' (first
    | with_reducible assumption
    | (extract_lets +onlyGivenNames x; first | (refine Within.cut (m := m) (s := s0) x ?_ (fun h => ?_); subst x; rotate_left; clear_value x; rotate_right) | clear_value x | subst x)
    | with_reducible refine setFlag_within (by with_reducible with_unfolding_all exact hm.reach (.inl (by simp only [MOT_STATUS_PSTATE_row, MOT_PACERATE_KA_row, MOT_PACERATE_KJ_row, MOT_STATUS_K_row, MOT_STATUS_LIM_D_row, MOT_STATUS_LIM_C_row, MOT_STATUS_LIM_P_row, MOT_AEVENTS_CAPPED_row]; rfl))) ?_
    | with_reducible refine fsets_nil ?_
    | with_reducible refine fsets_cons ?_
    | with_reducible refine fset_within (by with_reducible with_unfolding_all exact hm.reach (.inl (by simp only [MOT_STATUS_PSTATE_row, MOT_PACERATE_KA_row, MOT_PACERATE_KJ_row, MOT_STATUS_K_row, MOT_STATUS_LIM_D_row, MOT_STATUS_LIM_C_row, MOT_STATUS_LIM_P_row, MOT_AEVENTS_CAPPED_row]; rfl))) ?_
    | with_reducible refine forN_within (fun _ _ _ => ?_) ?_
    | with_reducible refine whenS_within (fun _ _ => ?_) ?_
    | split
    | with_reducible refine Within.set_mot (hm.bit (by with_unfolding_all rfl)) ?_)

theorem admRequest_within {m : Nat} {s0 s : State} (hm : Sub 0x4400000000000000000000000000000000000000000000100001 m)
    (h : Within m s0 s) : Within m s0 (admRequest s) := by
  unfold admRequest
  repeat' (first
    | with_reducible assumption
    | (extract_lets +onlyGivenNames x; first | (refine Within.cut (m := m) (s := s0) x ?_ (fun h => ?_); subst x; rotate_left; clear_value x; rotate_right) | clear_value x | subst x)
    | with_reducible refine fsets_nil ?_
    | with_reducible refine fsets_cons ?_
    | with_reducible refine fset_within (by with_reducible with_unfolding_all exact hm.reach (.inl (by simp only [MOT_ADMSTAT_WAITS_row, MOT_EVENTS_ADM_WAIT_row]; rfl))) ?_
    | with_reducible refine schedule_within (hm.up (by with_unfolding_all rfl)) ?_
    | split
    | with_reducible refine Within.set_mot (hm.bit (by with_unfolding_all rfl)) ?_)

theorem admStopCheck_within {m : Nat} {s0 s : State} (hm : Sub 0x200000000000000000000000000000000000000000000000100000 m)
    (h : Within m s0 s) : Within m s0 (admStopCheck s) := by
  unfold admStopCheck
  repeat' (first
    | with_reducible assumption
    | (extract_lets +onlyGivenNames x; first | clear_value x | subst x)
    | with_reducible refine forN_within (fun _ _ _ => ?_) ?_
    | with_reducible refine whenS_within (fun _ _ => ?_) ?_
    | with_reducible refine controlledStop_within (hm.up (by with_unfolding_all rfl)) ?_
    | split
    | with_reducible refine Within.set_mot (hm.bit (by with_unfolding_all rfl)) ?_)

end Sys2Proof.Machine
end

