-- ==== Sys2Proof/Laws/Access.lean ====
section
/-! SUPPORT. What each definition of Machine/Access.lean can change, said once: the set of parts after Sub (Laws/Within.lean gives
the bits), the queue never, and the invariants kept. -/

set_option linter.unusedSimpArgs false

namespace Sys2Proof.Machine

theorem setShadow_within {m : Nat} {s0 s : State} {ms : Master} {sh : Option Shadow} (hm : Sub 0x80 m)
    (h : Within m s0 s) : Within m s0 (setShadow ms sh s) := by
  unfold setShadow
  repeat' (first
    | with_reducible assumption
    | split
    | with_reducible refine Within.set_shadow0 (hm.bit (by with_unfolding_all rfl)) ?_
    | with_reducible refine Within.set_shadow4 (hm.bit (by with_unfolding_all rfl)) ?_
    | with_reducible refine Within.set_shadowK (hm.bit (by with_unfolding_all rfl)) ?_)

theorem execPairLowRead_within {m : Nat} {s0 s : State} {ms : Master} {off : Nat} (hm : Sub 0x10c1 m)
    (h : Within m s0 s) : WithinO m s0 (execPairLowRead ms off s) := by
  unfold execPairLowRead
  repeat' (first
    | with_reducible assumption
    | (extract_lets +onlyGivenNames x; first | (refine Within.cut (m := m) (s := s0) x ?_ (fun h => ?_); subst x; rotate_left; clear_value x; rotate_right) | clear_value x | subst x)
    | with_reducible refine WithinO.next ?_
    | with_reducible refine readEvent_within (hm.up (by with_unfolding_all rfl)) ?_
    | with_reducible refine setShadow_within (hm.up (by with_unfolding_all rfl)) ?_
    | split
    | with_reducible refine Within.set_rdata (hm.bit (by with_unfolding_all rfl)) ?_)

theorem execPairHighRead_within {m : Nat} {s0 s : State} {ms : Master} {off : Nat} (hm : Sub 0x8010c1 m)
    (h : Within m s0 s) : WithinO m s0 (execPairHighRead ms off s) := by
  unfold execPairHighRead
  repeat' (first
    | with_reducible assumption
    | (extract_lets +onlyGivenNames x; first | (refine Within.cut (m := m) (s := s0) x ?_ (fun h => ?_); subst x; rotate_left; clear_value x; rotate_right) | (refine Within.cut (m := m) (s := s0) x.2 ?_ (fun h => ?_); subst x; rotate_left; clear_value x; rotate_right) | clear_value x | subst x)
    | with_reducible refine WithinO.next ?_
    | with_reducible refine setShadow_within (hm.up (by with_unfolding_all rfl)) ?_
    | with_reducible refine readEvent_within (hm.up (by with_unfolding_all rfl)) ?_
    | split
    | with_reducible refine Within.set_rdata (hm.bit (by with_unfolding_all rfl)) ?_
    | with_reducible refine Within.set_aux (hm.bit (by with_unfolding_all rfl)) ?_)

theorem axisEnable_within {m : Nat} {s0 s : State} {m_ : Fin 8} (hm : Sub 0x200000000000000000000000000000000000000000000000100001 m)
    (h : Within m s0 s) : Within m s0 (axisEnable m_ s) := by
  unfold axisEnable
  repeat' (first
    | with_reducible assumption
    | (extract_lets +onlyGivenNames x; first | (refine Within.cut (m := m) (s := s0) x ?_ (fun h => ?_); subst x; rotate_left; clear_value x; rotate_right) | clear_value x)
    | with_reducible refine fset_within (by with_reducible with_unfolding_all exact hm.reach (.inl (by simp only [MOT_ACTL_EN_DLY_row, MOT_AIREF_RUN_DUTY_row, MOT_ASTATUS_STATE_row, MOT_AIREF_STBY_DLY_row]; rfl))) ?_
    | with_reducible refine setAxis_within (hm.up (by with_unfolding_all rfl)) ?_
    | with_reducible refine schedule_within (hm.up (by with_unfolding_all rfl)) ?_)

theorem axisDisable_within {m : Nat} {s0 s : State} {m_ : Fin 8} (hm : Sub 0x81100002600100000000000000000000000088000000000000001001381901 m)
    (h : Within m s0 s) : Within m s0 (axisDisable m_ s) := by
  unfold axisDisable
  repeat' (first
    | with_reducible assumption
    | (extract_lets +onlyGivenNames x; first | (refine Within.cut (m := m) (s := s0) x ?_ (fun h => ?_); subst x; rotate_left; clear_value x; rotate_right) | clear_value x | subst x)
    | with_reducible refine fsets_nil ?_
    | with_reducible refine fsets_cons ?_
    | with_reducible refine fset_within (by with_reducible with_unfolding_all exact hm.reach (.inl (by simp only [MOT_ASTATUS_STATE_row, MOT_ASTATUS_MOVE_row, MOT_ASTATUS_REST_row]; rfl))) ?_
    | with_reducible refine cancel_within (hm.up (by with_unfolding_all rfl)) ?_
    | with_reducible refine stopNow_within (hm.up (by with_unfolding_all rfl)) ?_
    | with_reducible refine setAxis_within (hm.up (by with_unfolding_all rfl)) ?_
    | with_reducible refine holdCheck_within (hm.up (by with_unfolding_all rfl)) ?_)

theorem writeActl_within {m : Nat} {s0 s : State} {m_ : Fin 8} {v : Nat} (hm : Sub 0x81100002700100000000000000000000000088000000000000001001381901 m)
    (h : Within m s0 s) : Within m s0 (writeActl m_ v s) := by
  unfold writeActl
  repeat' (first
    | with_reducible assumption
    | (extract_lets +onlyGivenNames x; first | (refine Within.cut (m := m) (s := s0) x ?_ (fun h => ?_); subst x; rotate_left; clear_value x; rotate_right) | clear_value x | subst x)
    | with_reducible refine setRaw_within (by with_reducible with_unfolding_all exact hm.reach (.inl (by simp only [MOT_ACTL_EN_row, MOT_ACTL_BIND_row, MOT_ACTL_ENC_row, MOT_ACTL_row]; rfl))) ?_
    | with_reducible refine setFlag_within (by with_reducible with_unfolding_all exact hm.reach (.inl (by simp only [MOT_ACTL_EN_row, MOT_ACTL_BIND_row, MOT_ACTL_ENC_row, MOT_ACTL_row]; rfl))) ?_
    | with_reducible refine fsets_nil ?_
    | with_reducible refine fsets_cons ?_
    | with_reducible refine fset_within (by with_reducible with_unfolding_all exact hm.reach (.inl (by simp only [MOT_ACTL_EN_row, MOT_ACTL_BIND_row, MOT_ACTL_ENC_row, MOT_ACTL_row]; rfl))) ?_
    | with_reducible refine whenS_within (fun _ _ => ?_) ?_
    | with_reducible refine setAxis_within (hm.up (by with_unfolding_all rfl)) ?_
    | with_reducible refine axisEnable_within (hm.up (by with_unfolding_all rfl)) ?_
    | with_reducible refine axisDisable_within (hm.up (by with_unfolding_all rfl)) ?_
    | split)

theorem writeWc_within {m : Nat} {s0 s : State} {k : Nat} {off : Nat} {v : Nat} (hm : Sub 0x100000000000000000000000000000000000000000000000000000000000000000000000000 m) (b1 : Reach m off)
    (h : Within m s0 s) : Within m s0 (writeWc k off v s) := by
  unfold writeWc
  repeat' (first
    | with_reducible assumption
    | (extract_lets +onlyGivenNames x; first | (refine Within.cut (m := m) (s := s0) x ?_ (fun h => ?_); subst x; rotate_left; clear_value x; rotate_right) | clear_value x | subst x)
    | with_reducible refine setRaw_within (by with_reducible first | assumption | with_unfolding_all exact hm.reach (.inl (by simp only [AUX_WC_CTL_EN_row, AUX_WC_STAT_CNT_row, AUX_WC_STAT_OUT_row]; rfl))) ?_
    | with_reducible refine fset_within (by with_reducible first | assumption | with_unfolding_all exact hm.reach (.inl (by simp only [AUX_WC_CTL_EN_row, AUX_WC_STAT_CNT_row, AUX_WC_STAT_OUT_row]; rfl))) ?_
    | split)

theorem writeFollow_within {m : Nat} {s0 s : State} {off : Nat} {old : State} (hm : Sub 0x40001100000004400000000000000020000000000000800000000008000300001 m)
    (h : Within m s0 s) : Within m s0 (writeFollow off old s) := by
  unfold writeFollow
  repeat' (first
    | with_reducible assumption
    | (extract_lets +onlyGivenNames x; first | (refine Within.cut (m := m) (s := s0) x ?_ (fun h => ?_); subst x; rotate_left; clear_value x; rotate_right) | clear_value x | subst x)
    | with_reducible refine fset_within (by with_reducible with_unfolding_all exact hm.reach (.inl (by simp only [LMP_CTL_row, LMP_CTL_BUS_EN_row, MOT_CTL_row, MOT_CTL_PACE_MODE_row, SYS_STARTSTAT_row, SYS_STARTSTAT_VALID_row, SYS_STARTSTAT_FKIND_row, SYS_STARTSTAT_FSTEP_row, SYS_STARTSTAT_CODE_row, HOST_EVENTS_row, HOST_ERRINFO_VALID_row, LNK_CTL_row, LNK_CTL_EN_row, LNK_STATUS_STATE_row, HEAD_EVENTS_row, HEAD_EVENTS_CONN_FAULT_row, HEAD_CONN_VALID_row]; rfl))) ?_
    | with_reducible refine setFlag_within (by with_reducible with_unfolding_all exact hm.reach (.inl (by simp only [LMP_CTL_row, LMP_CTL_BUS_EN_row, MOT_CTL_row, MOT_CTL_PACE_MODE_row, SYS_STARTSTAT_row, SYS_STARTSTAT_VALID_row, SYS_STARTSTAT_FKIND_row, SYS_STARTSTAT_FSTEP_row, SYS_STARTSTAT_CODE_row, HOST_EVENTS_row, HOST_ERRINFO_VALID_row, LNK_CTL_row, LNK_CTL_EN_row, LNK_STATUS_STATE_row, HEAD_EVENTS_row, HEAD_EVENTS_CONN_FAULT_row, HEAD_CONN_VALID_row]; rfl))) ?_
    | with_reducible refine fsets_nil ?_
    | with_reducible refine fsets_cons ?_
    | with_reducible refine whenS_within (fun _ _ => ?_) ?_
    | with_reducible refine railFollow_within (hm.up (by with_unfolding_all rfl)) ?_
    | with_reducible refine lbandFollow_within (hm.up (by with_unfolding_all rfl)) ?_
    | with_reducible refine admRequest_within (hm.up (by with_unfolding_all rfl)) ?_
    | split
    | with_reducible refine Within.set_lmp (hm.bit (by with_unfolding_all rfl)) ?_)

theorem regWriteEffect_within {m : Nat} {s0 s : State} {off : Nat} {v : Nat} (hm : Sub 0x100000000040081100002704500000000000000020000000088000c00000000009001383911 m) (b0 : Reach m off)
    (h : Within m s0 s) : Within m s0 (regWriteEffect off v s) := by
  unfold regWriteEffect
  repeat' (first
    | with_reducible assumption
    | (extract_lets +onlyGivenNames x; first | (refine Within.cut (m := m) (s := s0) x ?_ (fun h => ?_); subst x; rotate_left; clear_value x; rotate_right) | clear_value x | subst x)
    | with_reducible refine setRaw_within (by with_reducible first | assumption | with_unfolding_all exact hm.reach (.inl (by simp only [HOST_EVENTS_WR_REJ_row, MOT_ACTL_row, AUX_WC_CTL_row, AUX_WC_LO_row, AUX_WC_HI_row]; rfl))) ?_
    | with_reducible refine hostEvent_within (hm.up (by with_unfolding_all rfl)) (by with_reducible first | assumption | with_unfolding_all exact hm.reach (.inl (by simp only [HOST_EVENTS_WR_REJ_row, MOT_ACTL_row, AUX_WC_CTL_row, AUX_WC_LO_row, AUX_WC_HI_row]; rfl))) ?_
    | with_reducible refine writeActl_within (hm.up (by with_unfolding_all rfl)) ?_
    | with_reducible refine writeWc_within (hm.up (by with_unfolding_all rfl)) (by with_reducible first | assumption | with_unfolding_all exact hm.reach (.inl (by simp only [HOST_EVENTS_WR_REJ_row, MOT_ACTL_row, AUX_WC_CTL_row, AUX_WC_LO_row, AUX_WC_HI_row]; rfl))) ?_
    | with_reducible refine writeFollow_within (hm.up (by with_unfolding_all rfl)) ?_
    | with_reducible refine noteBand_within (hm.up (by with_unfolding_all rfl)) ?_
    | split)

theorem execRegWrite_within {m : Nat} {s0 s : State} {byHk : Bool} {off : Nat} {v : Word} (hm : Sub 0x100000000040081100002704500000000000000020000000088000c00000000009001383911 m) (b1 : Reach m off)
    (h : Within m s0 s) : WithinO m s0 (execRegWrite byHk off v s) := by
  unfold execRegWrite
  repeat' (first
    | with_reducible assumption
    | (extract_lets +onlyGivenNames x; first | (refine Within.cut (m := m) (s := s0) x ?_ (fun h => ?_); subst x; rotate_left; clear_value x; rotate_right) | clear_value x | subst x)
    | with_reducible refine WithinO.next ?_
    | with_reducible refine onWrite_within (hm.up (by with_unfolding_all rfl)) (fun _ _ => ?_) ?_
    | with_reducible refine regWriteEffect_within (hm.up (by with_unfolding_all rfl)) (by with_reducible assumption) ?_
    | with_reducible refine pmcEvents_within (hm.up (by with_unfolding_all rfl)) ?_
    | split)

theorem execBadAccess_within {m : Nat} {s0 s : State} {read : Bool} {bar : Nat} {off : Nat} (hm : Sub 0xc00000000000000002041 m)
    (h : Within m s0 s) : WithinO m s0 (execBadAccess read bar off s) := by
  unfold execBadAccess
  repeat' (first
    | with_reducible assumption
    | (extract_lets +onlyGivenNames x; first | (refine Within.cut (m := m) (s := s0) x ?_ (fun h => ?_); subst x; rotate_left; clear_value x; rotate_right) | clear_value x | subst x)
    | with_reducible refine WithinO.next ?_
    | with_reducible refine errInfo_within (hm.up (by with_unfolding_all rfl)) ?_
    | with_reducible refine hostEvent_within (hm.up (by with_unfolding_all rfl)) (by with_reducible with_unfolding_all exact hm.reach (.inl (by simp only [HOST_EVENTS_ACC_ERR_row]; rfl))) ?_
    | split
    | with_reducible refine Within.set_rdata (hm.bit (by with_unfolding_all rfl)) ?_)

theorem execRootStoppedAccess_within {m : Nat} {s0 s : State} {bar : Nat} {write : Bool} {off : Nat} {v : Word} (hm : Sub 0x140 m) (b2 : Reach m off)
    (h : Within m s0 s) : WithinO m s0 (execRootStoppedAccess bar write off v s) := by
  unfold execRootStoppedAccess
  repeat' (first
    | with_reducible assumption
    | (extract_lets +onlyGivenNames x; first | clear_value x | subst x)
    | with_reducible refine WithinO.next ?_
    | with_reducible refine setRaw_within (by with_reducible first | assumption | with_unfolding_all exact hm.reach (.inl (by simp only [SYS_CMD_row]; rfl))) ?_
    | split
    | with_reducible refine Within.set_mode (hm.bit (by with_unfolding_all rfl)) ?_
    | with_reducible refine Within.set_rdata (hm.bit (by with_unfolding_all rfl)) ?_)

theorem execCelCeRead_within {m : Nat} {s0 s : State} (hm : Sub 0x4000000000000000000000000000000000000000000000000000000000000000000000000000001041 m)
    (h : Within m s0 s) : WithinO m s0 (execCelCeRead s) := by
  unfold execCelCeRead
  repeat' (first
    | with_reducible assumption
    | (extract_lets +onlyGivenNames x; first | (refine Within.cut (m := m) (s := s0) x ?_ (fun h => ?_); subst x; rotate_left; clear_value x; rotate_right) | clear_value x | subst x)
    | with_reducible refine WithinO.next ?_
    | with_reducible refine rcRead_within (hm.up (by with_unfolding_all rfl)) (by with_reducible with_unfolding_all exact hm.reach (.inl (by simp only [CEL_CE_row]; rfl))) ?_)

theorem execCelUeRead_within {m : Nat} {s0 s : State} (hm : Sub 0x8000000000000000000000000000000000000000000000000000000000000000000000000000001041 m)
    (h : Within m s0 s) : WithinO m s0 (execCelUeRead s) := by
  unfold execCelUeRead
  repeat' (first
    | with_reducible assumption
    | (extract_lets +onlyGivenNames x; first | (refine Within.cut (m := m) (s := s0) x ?_ (fun h => ?_); subst x; rotate_left; clear_value x; rotate_right) | clear_value x | subst x)
    | with_reducible refine WithinO.next ?_
    | with_reducible refine rcRead_within (hm.up (by with_unfolding_all rfl)) (by with_reducible with_unfolding_all exact hm.reach (.inl (by simp only [CEL_UE_row]; rfl))) ?_)

end Sys2Proof.Machine
end

