-- ==== Sys2Proof/Laws/Attic.lean ====
section
/-! SUPPORT. What each definition of Machine/Attic.lean can change, said once: the set of parts after Sub (Laws/Within.lean gives
the bits), the queue never, and the invariants kept. -/

set_option linter.unusedSimpArgs false

namespace Sys2Proof.Machine

theorem execAttSave_within {m : Nat} {s0 s : State} {slot : Nat} (hm : Sub 0x600000000000000000000000000000000000000000403001 m)
    (h : Within m s0 s) : WithinO m s0 (execAttSave slot s) := by
  unfold execAttSave
  repeat' (first
    | with_reducible assumption
    | (extract_lets +onlyGivenNames x; first | (refine Within.cut (m := m) (s := s0) x ?_ (fun h => ?_); subst x; rotate_left; clear_value x; rotate_right) | clear_value x | subst x)
    | with_reducible refine WithinO.next ?_
    | with_reducible refine fsets_nil ?_
    | with_reducible refine fsets_cons ?_
    | with_reducible refine fset_within (by with_reducible with_unfolding_all exact hm.reach (.inl (by simp only [ATT_STATUS_RESULT_row, ATT_EVENTS_SAVE_FAIL_row]; rfl))) ?_
    | with_reducible refine complete_within (hm.up (by with_unfolding_all rfl)) ?_
    | with_reducible refine startSave_within (hm.up (by with_unfolding_all rfl)) ?_
    | split)

theorem saveStep_within {m : Nat} {s0 s : State} {k : Nat} (hm : Sub 0x200000000000000000000000000000000000000000400000 m)
    (h : Within m s0 s) : Within m s0 (saveStep k s) := by
  unfold saveStep
  repeat' (first
    | with_reducible assumption
    | (extract_lets +onlyGivenNames x; first | (refine Within.cut (m := m) (s := s0) x ?_ (fun h => ?_); subst x; rotate_left; clear_value x; rotate_right) | clear_value x)
    | with_reducible refine fset_within (by with_reducible with_unfolding_all exact hm.reach (.inl (by simp only [ATT_STATUS_STEP_row]; rfl))) ?_
    | split
    | with_reducible refine Within.set_att (hm.bit (by with_unfolding_all rfl)) ?_)

theorem saveErase_within {m : Nat} {s0 s : State} (hm : Sub 0x4600000000000000000000000000000000000000000403001 m)
    (h : Within m s0 s) : Within m s0 (saveErase s) := by
  unfold saveErase
  repeat' (first
    | with_reducible assumption
    | (extract_lets +onlyGivenNames x; first | (refine Within.cut (m := m) (s := s0) x ?_ (fun h => ?_); subst x; rotate_left; clear_value x; rotate_right) | clear_value x | subst x)
    | with_reducible refine endSave_within (hm.up (by with_unfolding_all rfl)) ?_
    | with_reducible refine saveStep_within (hm.up (by with_unfolding_all rfl)) ?_
    | with_reducible refine setBank_within (hm.up (by with_unfolding_all rfl)) ?_
    | split)

theorem saveFinish_within {m : Nat} {s0 s : State} {erased : Bool} (hm : Sub 0xf600000000000000000000000000000000000000000403001 m)
    (h : Within m s0 s) : Within m s0 (saveFinish erased s) := by
  unfold saveFinish
  repeat' (first
    | with_reducible assumption
    | (extract_lets +onlyGivenNames x; first | (refine Within.cut (m := m) (s := s0) x ?_ (fun h => ?_); subst x; rotate_left; clear_value x; rotate_right) | clear_value x | subst x)
    | with_reducible refine setRaw_within (by with_reducible with_unfolding_all exact hm.reach (.inl (by simp only [ATT_SEQ_LO_row, ATT_SEQ_HI_row, ATT_STATUS_SOURCE_row, ATT_USED_row, ATT_JRNL_ENTRIES_row]; rfl))) ?_
    | with_reducible refine fset_within (by with_reducible with_unfolding_all exact hm.reach (.inl (by simp only [ATT_SEQ_LO_row, ATT_SEQ_HI_row, ATT_STATUS_SOURCE_row, ATT_USED_row, ATT_JRNL_ENTRIES_row]; rfl))) ?_
    | with_reducible refine setPair_within (by with_reducible with_unfolding_all exact hm.reach (.inl (by simp only [ATT_SEQ_LO_row, ATT_SEQ_HI_row, ATT_STATUS_SOURCE_row, ATT_USED_row, ATT_JRNL_ENTRIES_row]; rfl))) (by with_reducible with_unfolding_all exact hm.reach (.inl (by simp only [ATT_SEQ_LO_row, ATT_SEQ_HI_row, ATT_STATUS_SOURCE_row, ATT_USED_row, ATT_JRNL_ENTRIES_row]; rfl))) ?_
    | with_reducible refine endSave_within (hm.up (by with_unfolding_all rfl)) ?_
    | split
    | with_reducible refine Within.set_att (hm.bit (by with_unfolding_all rfl)) ?_)

theorem execAttSaveStepDone_within {m : Nat} {s0 s : State} {flashOk : Bool} (hm : Sub 0xf600000000000000000000000000000000000000000403001 m)
    (h : Within m s0 s) : WithinO m s0 (execAttSaveStepDone flashOk s) := by
  unfold execAttSaveStepDone
  repeat' (first
    | with_reducible assumption
    | (extract_lets +onlyGivenNames x; first | clear_value x | subst x)
    | with_reducible refine WithinO.next ?_
    | with_reducible refine saveErase_within (hm.up (by with_unfolding_all rfl)) ?_
    | with_reducible refine saveFinish_within (hm.up (by with_unfolding_all rfl)) ?_
    | with_reducible refine endSave_within (hm.up (by with_unfolding_all rfl)) ?_
    | with_reducible refine saveStep_within (hm.up (by with_unfolding_all rfl)) ?_
    | with_reducible refine setBank_within (hm.up (by with_unfolding_all rfl)) ?_
    | split)

theorem execAtticBackgroundCheck_within {m : Nat} {s0 s : State} {pass : Bool} (hm : Sub 0x600000000000000000000088000000000000000001401801 m)
    (h : Within m s0 s) : WithinO m s0 (execAtticBackgroundCheck pass s) := by
  unfold execAtticBackgroundCheck
  repeat' (first
    | with_reducible assumption
    | (extract_lets +onlyGivenNames x; first | clear_value x | subst x)
    | with_reducible refine WithinO.next ?_
    | with_reducible refine wantSave_within (hm.up (by with_unfolding_all rfl)) ?_
    | with_reducible refine report_within (hm.up (by with_unfolding_all rfl)) (by with_reducible with_unfolding_all exact hm.reach (.inl (by simp only [ATT_STATUS_SOURCE_row, ATT_EVENTS_BANK_BAD_row]; rfl))) ?_
    | split)

end Sys2Proof.Machine
end

