-- ==== Sys2Proof/Laws/CalOps.lean ====
section
/-! SUPPORT. What each definition of Machine/CalOps.lean can change, said once: the set of parts after Sub (Laws/Within.lean gives
the bits), the queue never, and the invariants kept. -/

set_option linter.unusedSimpArgs false

namespace Sys2Proof.Machine

theorem trialHeld_within {m : Nat} {s0 s : State} {h_ : Nat} {l : BandLine} {r : RunSt} (hm : Sub 0x40000000000000000000000000000000000000000000 m)
    (h : Within m s0 s) : Within m s0 (trialHeld h_ l r s) := by
  unfold trialHeld
  repeat' (first
    | with_reducible assumption
    | (extract_lets +onlyGivenNames x; first | (refine Within.cut (m := m) (s := s0) x ?_ (fun h => ?_); subst x; rotate_left; clear_value x; rotate_right) | clear_value x | subst x)
    | with_reducible refine setFlag_within (by with_reducible with_unfolding_all exact hm.reach (.inl (by simp only [PWR_STATUS_LEVEL_row, SHD_EVENTS_DEFERRED_row, SHD_HPHS_PH_BAND_row]; rfl))) ?_
    | with_reducible refine whenS_within (fun _ _ => ?_) ?_)

theorem trialApply_within {m : Nat} {s0 s : State} {h_ : Nat} {l : BandLine} (hm : Sub 0x40000000000000000000000000000000000000084008 m)
    (h : Within m s0 s) : Within m s0 (trialApply h_ l s) := by
  unfold trialApply
  repeat' (first
    | with_reducible assumption
    | (extract_lets +onlyGivenNames x; first | (refine Within.cut (m := m) (s := s0) x ?_ (fun h => ?_); subst x; rotate_left; clear_value x; rotate_right) | clear_value x | subst x)
    | with_reducible refine foldl_within (fun _ _ _ => ?_) ?_
    | with_reducible refine trialHeld_within (hm.up (by with_unfolding_all rfl)) ?_
    | with_reducible refine setHead_within (hm.up (by with_unfolding_all rfl)) ?_
    | with_reducible refine setRun_within (hm.up (by with_unfolding_all rfl)) ?_
    | split
    | with_reducible refine Within.set_active tset_wf (hm.bit (by with_unfolding_all rfl)) ?_)

end Sys2Proof.Machine
end

