-- ==== Sys2Proof/Laws/Pixels.lean ====
section
/-! SUPPORT. What each definition of Machine/Pixels.lean can change, said once: the set of parts after Sub (Laws/Within.lean gives
the bits), the queue never, and the invariants kept. -/

set_option linter.unusedSimpArgs false

namespace Sys2Proof.Machine

theorem countOvr_within {m : Nat} {s0 s : State} {h_ : Nat} {l : BandLine} {xs : List Sample} (hm : Sub 0x3000000000000000000000000000000001001 m)
    (h : Within m s0 s) : Within m s0 (countOvr h_ l xs s) := by
  unfold countOvr
  repeat' (first
    | with_reducible assumption
    | (extract_lets +onlyGivenNames x; first | clear_value x | subst x)
    | with_reducible refine setRaw_within (by with_reducible with_unfolding_all exact hm.reach (.inl (by simp only [TAP_OVR_row, TAP_EVENTS_OVR_SEEN_row]; rfl))) ?_
    | with_reducible refine setFlag_within (by with_reducible with_unfolding_all exact hm.reach (.inl (by simp only [TAP_OVR_row, TAP_EVENTS_OVR_SEEN_row]; rfl))) ?_
    | with_reducible refine forN_within (fun _ _ _ => ?_) ?_
    | with_reducible refine whenS_within (fun _ _ => ?_) ?_
    | with_reducible refine pmcEvents_within (hm.up (by with_unfolding_all rfl)) ?_)

theorem countClip_within {m : Nat} {s0 s : State} {h_ : Nat} {ps : List Corrected} (hm : Sub 0x8010000000000000000000000000000000000001001 m)
    (h : Within m s0 s) : Within m s0 (countClip h_ ps s) := by
  unfold countClip
  repeat' (first
    | with_reducible assumption
    | (extract_lets +onlyGivenNames x; first | clear_value x | subst x)
    | with_reducible refine setRaw_within (by with_reducible with_unfolding_all exact hm.reach (.inl (by simp only [PIPE_EVENTS_CLIP_row, PIPE_CLIP_row]; rfl))) ?_
    | with_reducible refine setFlag_within (by with_reducible with_unfolding_all exact hm.reach (.inl (by simp only [PIPE_EVENTS_CLIP_row, PIPE_CLIP_row]; rfl))) ?_
    | with_reducible refine whenS_within (fun _ _ => ?_) ?_
    | with_reducible refine pmcEvents_within (hm.up (by with_unfolding_all rfl)) ?_)

theorem storeError_within {m : Nat} {s0 s : State} {row : Nat} {hb : Nat} {ue : Bool} (hm : Sub 0x390000000000000088000000000000000001001801 m)
    (h : Within m s0 s) : Within m s0 (storeError row hb ue s) := by
  unfold storeError
  repeat' (first
    | with_reducible assumption
    | (extract_lets +onlyGivenNames x; first | (refine Within.cut (m := m) (s := s0) x ?_ (fun h => ?_); subst x; rotate_left; clear_value x; rotate_right) | subst x)
    | with_reducible refine setRaw_within (by with_reducible first | exact Reach.ite hm (.of PIPE_ECC_UE_row (by with_unfolding_all rfl)) (.of PIPE_ECC_CE_row (by with_unfolding_all rfl)) | with_unfolding_all exact hm.reach (.inl (by simp only [PIPE_ECC_UE_row, PIPE_ECC_CE_row, PIPE_ECC_ROW_VALID_row, PIPE_ECC_ROW_UE_row, PIPE_ECC_ROW_BANK_row, PIPE_ECC_ROW_ROW_row, PIPE_EVENTS_ECC_UE_row, PIPE_EVENTS_ECC_CE_row]; rfl))) ?_
    | with_reducible refine setFlag_within (by with_reducible first | exact Reach.ite hm (.of PIPE_ECC_UE_row (by with_unfolding_all rfl)) (.of PIPE_ECC_CE_row (by with_unfolding_all rfl)) | with_unfolding_all exact hm.reach (.inl (by simp only [PIPE_ECC_UE_row, PIPE_ECC_CE_row, PIPE_ECC_ROW_VALID_row, PIPE_ECC_ROW_UE_row, PIPE_ECC_ROW_BANK_row, PIPE_ECC_ROW_ROW_row, PIPE_EVENTS_ECC_UE_row, PIPE_EVENTS_ECC_CE_row]; rfl))) ?_
    | with_reducible refine fsets_nil ?_
    | with_reducible refine fsets_cons ?_
    | with_reducible refine fset_within (by with_reducible first | exact Reach.ite hm (.of PIPE_ECC_UE_row (by with_unfolding_all rfl)) (.of PIPE_ECC_CE_row (by with_unfolding_all rfl)) | with_unfolding_all exact hm.reach (.inl (by simp only [PIPE_ECC_UE_row, PIPE_ECC_CE_row, PIPE_ECC_ROW_VALID_row, PIPE_ECC_ROW_UE_row, PIPE_ECC_ROW_BANK_row, PIPE_ECC_ROW_ROW_row, PIPE_EVENTS_ECC_UE_row, PIPE_EVENTS_ECC_CE_row]; rfl))) ?_
    | with_reducible refine report_within (hm.up (by with_unfolding_all rfl)) (by with_reducible first | exact Reach.ite hm (.of PIPE_ECC_UE_row (by with_unfolding_all rfl)) (.of PIPE_ECC_CE_row (by with_unfolding_all rfl)) | with_unfolding_all exact hm.reach (.inl (by simp only [PIPE_ECC_UE_row, PIPE_ECC_CE_row, PIPE_ECC_ROW_VALID_row, PIPE_ECC_ROW_UE_row, PIPE_ECC_ROW_BANK_row, PIPE_ECC_ROW_ROW_row, PIPE_EVENTS_ECC_UE_row, PIPE_EVENTS_ECC_CE_row]; rfl))) ?_
    | split)

theorem storeErrors_within {m : Nat} {s0 s : State} {h_ : Nat} {l : BandLine} {rows : List Nat} (hm : Sub 0x390000000000000088000000000000000001001801 m)
    (h : Within m s0 s) : Within m s0 (storeErrors h_ l rows s) := by
  unfold storeErrors
  repeat' (first
    | with_reducible assumption
    | (extract_lets +onlyGivenNames x; first | (refine Within.cut (m := m) (s := s0) x ?_ (fun h => ?_); subst x; rotate_left; clear_value x; rotate_right) | clear_value x | subst x)
    | with_reducible refine foldl_within (fun _ _ _ => ?_) ?_
    | with_reducible refine storeError_within (hm.up (by with_unfolding_all rfl)) ?_
    | split)

theorem whiteTrack_within {m : Nat} {s0 s : State} {h_ : Fin 16} {l : BandLine} {ps : List Corrected} (hm : Sub 0x40000000000000000000000000000000000000000080001 m)
    (h : Within m s0 s) : Within m s0 (whiteTrack h_ l ps s) := by
  unfold whiteTrack
  repeat' (first
    | with_reducible assumption
    | (extract_lets +onlyGivenNames x; first | (refine Within.cut (m := m) (s := s0) x ?_ (fun h => ?_); subst x; rotate_left; clear_value x; rotate_right) | clear_value x | subst x)
    | with_reducible refine fset_within (by with_reducible with_unfolding_all exact hm.reach (.inl (by simp only [SHD_CTL_BGW_EN_row, SHD_HSTAT_QUAL_row, SHD_HWHT_BANDS_row, HEAD_READ_PPT_row, SHD_HWHT_WK_row]; rfl))) ?_
    | with_reducible refine whenS_within (fun _ _ => ?_) ?_
    | with_reducible refine foldl_within (fun _ _ _ => ?_) ?_
    | with_reducible refine schedule_within (hm.up (by with_unfolding_all rfl)) ?_
    | split
    | with_reducible refine Within.set_shd (hm.bit (by with_unfolding_all rfl)) ?_)

end Sys2Proof.Machine
end

