-- ==== Sys2Proof/Laws/Pipeline.lean ====
section
/-! SUPPORT. What each definition of Machine/Pipeline.lean can change, said once: the set of parts after Sub (Laws/Within.lean gives
the bits), the queue never, and the invariants kept. -/

set_option linter.unusedSimpArgs false

namespace Sys2Proof.Machine

theorem celEvents_within {m : Nat} {s0 s : State} {ev : Nat} {c : Nat} {n : Nat} (hm : Sub 0x1005 m)
    (h : Within m s0 s) : Within m s0 (celEvents ev c n s) := by
  unfold celEvents
  repeat' (first
    | with_reducible assumption
    | (extract_lets +onlyGivenNames x; (refine Within.cut (m := m) (s := s0) x.2 ?_ (fun h => ?_); subst x; rotate_left; clear_value x; rotate_right))
    | with_reducible refine draw_within (hm.bit (by with_unfolding_all rfl)) ?_
    | with_reducible refine pmcEvents_within (hm.up (by with_unfolding_all rfl)) ?_)

theorem setPacket_within {m : Nat} {s0 s : State} {p : Packet} (hm : Sub 0x2000 m)
    (h : Within m s0 s) : Within m s0 (setPacket p s) := by
  unfold setPacket
  repeat' (first
    | with_reducible assumption
    | (extract_lets +onlyGivenNames x; clear_value x)
    | split
    | with_reducible refine Within.set_host (hm.bit (by with_unfolding_all rfl)) ?_)

theorem storeRecord_within {m : Nat} {s0 s : State} {h_ : Nat} {r : LineRec} (hm : Sub 0x3005 m)
    (h : Within m s0 s) : Within m s0 (storeRecord h_ r s) := by
  unfold storeRecord
  repeat' (first
    | with_reducible assumption
    | (extract_lets +onlyGivenNames x; first | (refine Within.cut (m := m) (s := s0) x ?_ (fun h => ?_); subst x; rotate_left; clear_value x; rotate_right) | clear_value x | subst x)
    | with_reducible refine whenS_within (fun _ _ => ?_) ?_
    | with_reducible refine closePacket_within (hm.up (by with_unfolding_all rfl)) ?_
    | with_reducible refine setPacket_within (hm.up (by with_unfolding_all rfl)) ?_
    | with_reducible refine schedule_within (hm.up (by with_unfolding_all rfl)) ?_
    | with_reducible refine celEvents_within (hm.up (by with_unfolding_all rfl)) ?_
    | with_reducible refine pmcEvent_within (hm.up (by with_unfolding_all rfl)) ?_
    | split)

theorem areaFull_within {m : Nat} {s0 s : State} {h_ : Nat} {line : Nat} (hm : Sub 0x2600500000000000000000000000088000000000000000001101801 m)
    (h : Within m s0 s) : Within m s0 (areaFull h_ line s) := by
  unfold areaFull
  repeat' (first
    | with_reducible assumption
    | (extract_lets +onlyGivenNames x; first | (refine Within.cut (m := m) (s := s0) x ?_ (fun h => ?_); subst x; rotate_left; clear_value x; rotate_right) | clear_value x | subst x)
    | with_reducible refine fset_within (by with_reducible with_unfolding_all exact hm.reach (.inl (by simp only [MOT_EVENTS_AREA_FULL_row, MOT_STATUS_PSTATE_row]; rfl))) ?_
    | with_reducible refine forN_within (fun _ _ _ => ?_) ?_
    | with_reducible refine whenS_within (fun _ _ => ?_) ?_
    | with_reducible refine report_within (hm.up (by with_unfolding_all rfl)) (by with_reducible with_unfolding_all exact hm.reach (.inl (by simp only [MOT_EVENTS_AREA_FULL_row, MOT_STATUS_PSTATE_row]; rfl))) ?_
    | with_reducible refine stopNow_within (hm.up (by with_unfolding_all rfl)) ?_)

theorem keepRecord_within {m : Nat} {s0 s : State} {h_ : Nat} {l : BandLine} {r : LineRec} (hm : Sub 0x2600500000000000000000000000088000000000000000001103805 m)
    (h : Within m s0 s) : Within m s0 (keepRecord h_ l r s) := by
  unfold keepRecord
  repeat' (first
    | with_reducible assumption
    | (extract_lets +onlyGivenNames x; first | (refine Within.cut (m := m) (s := s0) x ?_ (fun h => ?_); subst x; rotate_left; clear_value x; rotate_right) | clear_value x)
    | with_reducible refine skipFinish_within (hm.up (by with_unfolding_all rfl)) ?_
    | with_reducible refine areaFull_within (hm.up (by with_unfolding_all rfl)) ?_
    | with_reducible refine storeRecord_within (hm.up (by with_unfolding_all rfl)) ?_
    | split
    | with_reducible refine Within.set_host (hm.bit (by with_unfolding_all rfl)) ?_)

theorem noteFaults_within {m : Nat} {s0 s : State} {h_ : Nat} {l : BandLine} {reps : List Nat} {dead : List Nat} (hm : Sub 0x30000 m)
    (h : Within m s0 s) : Within m s0 (noteFaults h_ l reps dead s) := by
  unfold noteFaults
  repeat' (first
    | with_reducible assumption
    | (extract_lets +onlyGivenNames x; first | (refine Within.cut (m := m) (s := s0) x ?_ (fun h => ?_); subst x; rotate_left; clear_value x; rotate_right) | subst x)
    | with_reducible refine foldl_within (fun _ _ _ => ?_) ?_
    | with_reducible refine setGroup_within (hm.up (by with_unfolding_all rfl)) ?_
    | split
    | with_reducible refine Within.set_pipe (by with_unfolding_all exact fun c => c) (hm.bit (by with_unfolding_all rfl)) ?_)

theorem dueReports_within {m : Nat} {s0 s : State} (hm : Sub 0x1 m)
    (h : Within m s0 s) : Within m s0 (dueReports s) := by
  unfold dueReports
  repeat' (first
    | with_reducible assumption
    | (extract_lets +onlyGivenNames x; first | (refine Within.cut (m := m) (s := s0) x ?_ (fun h => ?_); subst x; rotate_left; clear_value x; rotate_right) | clear_value x | subst x)
    | with_reducible refine forN_within (fun _ _ _ => ?_) ?_
    | with_reducible refine whenS_within (fun _ _ => ?_) ?_
    | with_reducible refine foldl_within (fun _ _ _ => ?_) ?_
    | with_reducible refine schedule_within (hm.up (by with_unfolding_all rfl)) ?_
    | split)

theorem runDone_within {m : Nat} {s0 s : State} {h_ : Fin 16} (hm : Sub 0x1 m)
    (h : Within m s0 s) : Within m s0 (runDone h_ s) := by
  unfold runDone
  repeat' (first
    | with_reducible assumption
    | (extract_lets +onlyGivenNames x; first | clear_value x | subst x)
    | with_reducible refine whenS_within (fun _ _ => ?_) ?_
    | with_reducible refine schedule_within (hm.up (by with_unfolding_all rfl)) ?_
    | split)

theorem closeIfStopped_within {m : Nat} {s0 s : State} {h_ : Nat} (hm : Sub 0x2000 m)
    (h : Within m s0 s) : Within m s0 (closeIfStopped h_ s) := by
  unfold closeIfStopped
  repeat' (first
    | with_reducible assumption
    | (extract_lets +onlyGivenNames x; first | (refine Within.cut (m := m) (s := s0) x ?_ (fun h => ?_); subst x; rotate_left; clear_value x; rotate_right) | clear_value x | subst x)
    | with_reducible refine whenS_within (fun _ _ => ?_) ?_
    | with_reducible refine closePacket_within (hm.up (by with_unfolding_all rfl)) ?_)

theorem processLine_within {m : Nat} {s0 s : State} {h_ : Fin 16} {l : BandLine} {xs : List Sample} (hm : Sub 0x26005000400083900030100000000880000000000000000011b3805 m)
    (h : Within m s0 s) : Within m s0 (processLine h_ l xs s) := by
  unfold processLine
  repeat' (first
    | with_reducible assumption
    | (extract_lets +onlyGivenNames x; first | (refine Within.cut (m := m) (s := s0) x ?_ (fun h => ?_); subst x; rotate_left; clear_value x; rotate_right) | subst x)
    | with_reducible refine setRaw_within (by with_reducible with_unfolding_all exact hm.reach (.inl (by simp only [HEAD_PERIOD_row]; rfl))) ?_
    | with_reducible refine foldl_within (fun _ _ _ => ?_) ?_
    | with_reducible refine storeErrors_within (hm.up (by with_unfolding_all rfl)) ?_
    | with_reducible refine countClip_within (hm.up (by with_unfolding_all rfl)) ?_
    | with_reducible refine countOvr_within (hm.up (by with_unfolding_all rfl)) ?_
    | with_reducible refine noteFaults_within (hm.up (by with_unfolding_all rfl)) ?_
    | with_reducible refine pmcEvent_within (hm.up (by with_unfolding_all rfl)) ?_
    | with_reducible refine whiteTrack_within (hm.up (by with_unfolding_all rfl)) ?_
    | with_reducible refine setRun_within (hm.up (by with_unfolding_all rfl)) ?_
    | with_reducible refine keepRecord_within (hm.up (by with_unfolding_all rfl)) ?_
    | split
    | dsimp -zeta only)

theorem execBandLineRecordStore_within {m : Nat} {s0 s : State} {h_ : Fin 16} {samples : List Sample} (hm : Sub 0x26005000400083900030100000000880000000000000000011b7805 m)
    (h : Within m s0 s) : WithinO m s0 (execBandLineRecordStore h_ samples s) := by
  unfold execBandLineRecordStore
  repeat' (first
    | with_reducible assumption
    | (extract_lets +onlyGivenNames x; first | (refine Within.cut (m := m) (s := s0) x ?_ (fun h => ?_); subst x; rotate_left; clear_value x; rotate_right) | clear_value x | subst x)
    | with_reducible refine WithinO.next ?_
    | with_reducible refine processLine_within (hm.up (by with_unfolding_all rfl)) ?_
    | with_reducible refine setHead_within (hm.up (by with_unfolding_all rfl)) ?_
    | with_reducible refine stopProgress_within (hm.up (by with_unfolding_all rfl)) ?_
    | with_reducible refine runDone_within (hm.up (by with_unfolding_all rfl)) ?_
    | with_reducible refine dueReports_within (hm.up (by with_unfolding_all rfl)) ?_
    | with_reducible refine closeIfStopped_within (hm.up (by with_unfolding_all rfl)) ?_
    | split)

theorem execPacketTimeout_within {m : Nat} {s0 s : State} {h_ : Fin 16} (hm : Sub 0x2000 m)
    (h : Within m s0 s) : WithinO m s0 (execPacketTimeout h_ s) := by
  unfold execPacketTimeout
  repeat' (first
    | with_reducible assumption
    | (extract_lets +onlyGivenNames x; first | clear_value x | subst x)
    | with_reducible refine WithinO.next ?_
    | with_reducible refine closePacket_within (hm.up (by with_unfolding_all rfl)) ?_
    | split)

theorem hardRow_within {m : Nat} {s0 s : State} {row : Nat} {v : Nat} (hm : Sub 0x800000000000000000000000000000000000020000 m)
    (h : Within m s0 s) : Within m s0 (hardRow row v s) := by
  unfold hardRow
  repeat' (first
    | with_reducible assumption
    | (extract_lets +onlyGivenNames x; first | (refine Within.cut (m := m) (s := s0) x ?_ (fun h => ?_); subst x; rotate_left; clear_value x; rotate_right) | subst x)
    | with_reducible refine fset_within (by with_reducible with_unfolding_all exact hm.reach (.inl (by simp only [PIPE_SPROW_PENDING_row]; rfl))) ?_
    | split
    | with_reducible refine Within.set_pipe (by with_unfolding_all exact fun c => c) (hm.bit (by with_unfolding_all rfl)) ?_)

theorem scrubOne_within {m : Nat} {s0 s : State} {once : Tbl Bool} {f : ScrubFind} (hm : Sub 0xb90000000000000088000000000000000001021801 m)
    (h : Within m s0 s) : Within m s0 (scrubOne once f s) := by
  unfold scrubOne
  repeat' (first
    | with_reducible assumption
    | (extract_lets +onlyGivenNames x; first | (refine Within.cut (m := m) (s := s0) x ?_ (fun h => ?_); subst x; rotate_left; clear_value x; rotate_right) | clear_value x)
    | with_reducible refine storeError_within (hm.up (by with_unfolding_all rfl)) ?_
    | with_reducible refine hardRow_within (hm.up (by with_unfolding_all rfl)) ?_
    | split)

theorem execScrubPass_within {m : Nat} {s0 s : State} {found : List ScrubFind} (hm : Sub 0xb90000000000000088000000000000000001021801 m)
    (h : Within m s0 s) : WithinO m s0 (execScrubPass found s) := by
  unfold execScrubPass
  repeat' (first
    | with_reducible assumption
    | (extract_lets +onlyGivenNames x; first | (refine Within.cut (m := m) (s := s0) x ?_ (fun h => ?_); subst x; rotate_left; clear_value x; rotate_right) | subst x)
    | with_reducible refine WithinO.next ?_
    | with_reducible refine foldl_within (fun _ _ _ => ?_) ?_
    | with_reducible refine scrubOne_within (hm.up (by with_unfolding_all rfl)) ?_
    | split
    | with_reducible refine Within.set_pipe (by with_unfolding_all exact fun c => c) (hm.bit (by with_unfolding_all rfl)) ?_)

theorem execPipeEccCeRead_within {m : Nat} {s0 s : State} (hm : Sub 0x80000000000000000000000000000000000001041 m)
    (h : Within m s0 s) : WithinO m s0 (execPipeEccCeRead s) := by
  unfold execPipeEccCeRead
  repeat' (first
    | with_reducible assumption
    | (extract_lets +onlyGivenNames x; first | (refine Within.cut (m := m) (s := s0) x ?_ (fun h => ?_); subst x; rotate_left; clear_value x; rotate_right) | clear_value x | subst x)
    | with_reducible refine WithinO.next ?_
    | with_reducible refine rcRead_within (hm.up (by with_unfolding_all rfl)) (by with_reducible with_unfolding_all exact hm.reach (.inl (by simp only [PIPE_ECC_CE_row]; rfl))) ?_)

theorem execPipeEccUeRead_within {m : Nat} {s0 s : State} (hm : Sub 0x100000000000000000000000000000000000001041 m)
    (h : Within m s0 s) : WithinO m s0 (execPipeEccUeRead s) := by
  unfold execPipeEccUeRead
  repeat' (first
    | with_reducible assumption
    | (extract_lets +onlyGivenNames x; first | (refine Within.cut (m := m) (s := s0) x ?_ (fun h => ?_); subst x; rotate_left; clear_value x; rotate_right) | clear_value x | subst x)
    | with_reducible refine WithinO.next ?_
    | with_reducible refine rcRead_within (hm.up (by with_unfolding_all rfl)) (by with_reducible with_unfolding_all exact hm.reach (.inl (by simp only [PIPE_ECC_UE_row]; rfl))) ?_)

theorem execPipeClipRead_within {m : Nat} {s0 s : State} {h_ : Fin 16} (hm : Sub 0x8000000000000000000000000000000000000001041 m)
    (h : Within m s0 s) : WithinO m s0 (execPipeClipRead h_ s) := by
  unfold execPipeClipRead
  repeat' (first
    | with_reducible assumption
    | (extract_lets +onlyGivenNames x; first | (refine Within.cut (m := m) (s := s0) x ?_ (fun h => ?_); subst x; rotate_left; clear_value x; rotate_right) | clear_value x | subst x)
    | with_reducible refine WithinO.next ?_
    | with_reducible refine rcRead_within (hm.up (by with_unfolding_all rfl)) (by with_reducible with_unfolding_all exact hm.reach (.inl (by simp only [PIPE_CLIP_row]; rfl))) ?_)

theorem setSpare_within {m : Nat} {s0 s : State} {k : Nat} {lane : Nat} (hm : Sub 0x20000000000000000000000000000000000000000 m)
    (h : Within m s0 s) : Within m s0 (setSpare k lane s) := by
  unfold setSpare
  repeat' (first
    | with_reducible assumption
    | with_reducible refine fset_within (by with_reducible with_unfolding_all exact hm.reach (.inl (by simp only [PIPE_LANEMAP_SP0_LANE_row, PIPE_LANEMAP_SP1_LANE_row]; rfl))) ?_
    | split)

theorem laneDies_within {m : Nat} {s0 s : State} {a : Nat} (hm : Sub 0x24000 m)
    (h : Within m s0 s) : Within m s0 (laneDies a s) := by
  unfold laneDies
  repeat' (first
    | with_reducible assumption
    | (extract_lets +onlyGivenNames x; first | (refine Within.cut (m := m) (s := s0) x ?_ (fun h => ?_); subst x; rotate_left; clear_value x; rotate_right) | subst x)
    | with_reducible refine forN_within (fun _ _ _ => ?_) ?_
    | with_reducible refine setHead_within (hm.up (by with_unfolding_all rfl)) ?_
    | split
    | with_reducible refine Within.set_pipe (by with_unfolding_all exact fun c => c) (hm.bit (by with_unfolding_all rfl)) ?_)

theorem execLaneFault_within {m : Nat} {s0 s : State} {l : Fin 34} (hm : Sub 0x811000002000000000000780000000000000880000000000000210013a5901 m)
    (h : Within m s0 s) : WithinO m s0 (execLaneFault l s) := by
  unfold execLaneFault
  repeat' (first
    | with_reducible assumption
    | (extract_lets +onlyGivenNames x; first | (refine Within.cut (m := m) (s := s0) x ?_ (fun h => ?_); subst x; rotate_left; clear_value x; rotate_right) | subst x)
    | with_reducible refine WithinO.next ?_
    | with_reducible refine fset_within (by with_reducible with_unfolding_all exact hm.reach (.inl (by simp only [PIPE_LANEFAIL_FAIL_row, PIPE_EVENTS_LANE_FAULT_row, PIPE_LANEMAP_SP_FAIL_row, SYS_LIMP_LANE_row, PIPE_EVENTS_LANE_UNCOVERED_row, PIPE_STATUS_SPARES_row]; rfl))) ?_
    | with_reducible refine setFlag_within (by with_reducible with_unfolding_all exact hm.reach (.inl (by simp only [PIPE_LANEFAIL_FAIL_row, PIPE_EVENTS_LANE_FAULT_row, PIPE_LANEMAP_SP_FAIL_row, SYS_LIMP_LANE_row, PIPE_EVENTS_LANE_UNCOVERED_row, PIPE_STATUS_SPARES_row]; rfl))) ?_
    | with_reducible refine setSpare_within (hm.up (by with_unfolding_all rfl)) ?_
    | with_reducible refine laneDies_within (hm.up (by with_unfolding_all rfl)) ?_
    | with_reducible refine limpCause_within (hm.up (by with_unfolding_all rfl)) (by with_reducible with_unfolding_all exact hm.reach (.inl (by simp only [PIPE_LANEFAIL_FAIL_row, PIPE_EVENTS_LANE_FAULT_row, PIPE_LANEMAP_SP_FAIL_row, SYS_LIMP_LANE_row, PIPE_EVENTS_LANE_UNCOVERED_row, PIPE_STATUS_SPARES_row]; rfl))) ?_
    | with_reducible refine report_within (hm.up (by with_unfolding_all rfl)) (by with_reducible with_unfolding_all exact hm.reach (.inl (by simp only [PIPE_LANEFAIL_FAIL_row, PIPE_EVENTS_LANE_FAULT_row, PIPE_LANEMAP_SP_FAIL_row, SYS_LIMP_LANE_row, PIPE_EVENTS_LANE_UNCOVERED_row, PIPE_STATUS_SPARES_row]; rfl))) ?_
    | with_reducible refine schedule_within (hm.up (by with_unfolding_all rfl)) ?_
    | split
    | with_reducible refine Within.set_pipe (by with_unfolding_all exact fun c => c) (hm.bit (by with_unfolding_all rfl)) ?_)

theorem execSpareLaneTakeover_within {m : Nat} {s0 s : State} {l : Fin 34} (hm : Sub 0x24001 m)
    (h : Within m s0 s) : WithinO m s0 (execSpareLaneTakeover l s) := by
  unfold execSpareLaneTakeover
  repeat' (first
    | with_reducible assumption
    | (extract_lets +onlyGivenNames x; first | (refine Within.cut (m := m) (s := s0) x ?_ (fun h => ?_); subst x; rotate_left; clear_value x; rotate_right) | subst x)
    | with_reducible refine WithinO.next ?_
    | with_reducible refine forN_within (fun _ _ _ => ?_) ?_
    | with_reducible refine setHead_within (hm.up (by with_unfolding_all rfl)) ?_
    | with_reducible refine schedule_within (hm.up (by with_unfolding_all rfl)) ?_
    | split
    | with_reducible refine Within.set_pipe (by with_unfolding_all exact fun c => c) (hm.bit (by with_unfolding_all rfl)) ?_)

theorem execLaneFaultReport_within {m : Nat} {s0 s : State} {l : Fin 34} (hm : Sub 0x88000000000000000001021801 m)
    (h : Within m s0 s) : WithinO m s0 (execLaneFaultReport l s) := by
  unfold execLaneFaultReport
  repeat' (first
    | with_reducible assumption
    | (extract_lets +onlyGivenNames x; first | (refine Within.cut (m := m) (s := s0) x ?_ (fun h => ?_); subst x; rotate_left; clear_value x; rotate_right) | subst x)
    | with_reducible refine WithinO.next ?_
    | with_reducible refine forN_within (fun _ _ _ => ?_) ?_
    | with_reducible refine raiseAt_within (hm.up (by with_unfolding_all rfl)) ?_
    | split
    | with_reducible refine Within.set_pipe (by with_unfolding_all exact fun c => c) (hm.bit (by with_unfolding_all rfl)) ?_)

theorem execSpareLaneFault_within {m : Nat} {s0 s : State} {sp : Fin 2} (hm : Sub 0x38000000000000088000000000000000001001801 m)
    (h : Within m s0 s) : WithinO m s0 (execSpareLaneFault sp s) := by
  unfold execSpareLaneFault
  repeat' (first
    | with_reducible assumption
    | (extract_lets +onlyGivenNames x; first | (refine Within.cut (m := m) (s := s0) x ?_ (fun h => ?_); subst x; rotate_left; clear_value x; rotate_right) | clear_value x | subst x)
    | with_reducible refine WithinO.next ?_
    | with_reducible refine fset_within (by with_reducible with_unfolding_all exact hm.reach (.inl (by simp only [PIPE_LANEMAP_SP_FAIL_row, PIPE_STATUS_SPARES_row, PIPE_EVENTS_LANE_FAULT_row]; rfl))) ?_
    | with_reducible refine report_within (hm.up (by with_unfolding_all rfl)) (by with_reducible with_unfolding_all exact hm.reach (.inl (by simp only [PIPE_LANEMAP_SP_FAIL_row, PIPE_STATUS_SPARES_row, PIPE_EVENTS_LANE_FAULT_row]; rfl))) ?_
    | split)

end Sys2Proof.Machine
end

