-- ==== Sys2Proof/Laws/RunOps.lean ====
section
/-! SUPPORT. What each definition of Machine/RunOps.lean can change, said once: the set of parts after Sub (Laws/Within.lean gives
the bits), the queue never, and the invariants kept. -/

set_option linter.unusedSimpArgs false

namespace Sys2Proof.Machine

theorem darkRefs_within {m : Nat} {s0 s : State} {r : RunSt} {b : Nat} (hm : Sub 0xa0000 m)
    (h : Within m s0 s) : Within m s0 (darkRefs r b s) := by
  unfold darkRefs
  repeat' (first
    | with_reducible assumption
    | (extract_lets +onlyGivenNames x; first | (refine Within.cut (m := m) (s := s0) x ?_ (fun h => ?_); subst x; rotate_left; clear_value x; rotate_right) | clear_value x)
    | with_reducible refine foldl_within (fun _ _ _ => ?_) ?_
    | with_reducible refine setTrk_within (hm.up (by with_unfolding_all rfl)) ?_
    | split
    | with_reducible refine Within.set_shd (hm.bit (by with_unfolding_all rfl)) ?_)

theorem endRun_within {m : Nat} {s0 s : State} {h_ : Nat} {code : Nat} {count : Nat} (hm : Sub 0x80001 m)
    (h : Within m s0 s) : Within m s0 (endRun h_ code count s) := by
  unfold endRun
  repeat' (first
    | with_reducible assumption
    | (extract_lets +onlyGivenNames x; first | (refine Within.cut (m := m) (s := s0) x ?_ (fun h => ?_); subst x; rotate_left; clear_value x; rotate_right) | clear_value x | subst x)
    | with_reducible refine schedule_within (hm.up (by with_unfolding_all rfl)) ?_
    | with_reducible refine setRun_within (hm.up (by with_unfolding_all rfl)) ?_
    | split)

theorem nextBlock_within {m : Nat} {s0 s : State} {h_ : Nat} (hm : Sub 0xa0001 m)
    (h : Within m s0 s) : Within m s0 (nextBlock h_ s) := by
  unfold nextBlock
  repeat' (first
    | with_reducible assumption
    | (extract_lets +onlyGivenNames x; subst x)
    | with_reducible refine endRun_within (hm.up (by with_unfolding_all rfl)) ?_
    | split
    | with_reducible refine Within.set_pipe (by with_unfolding_all exact fun c => c) (hm.bit (by with_unfolding_all rfl)) ?_)

end Sys2Proof.Machine
end

