-- ==== Sys2Proof/Laws/Coef.lean ====
section
/-! SUPPORT. What each definition of Machine/Coef.lean can change, said once: the set of parts after Sub (Laws/Within.lean gives
the bits), the queue never, and the invariants kept. -/

set_option linter.unusedSimpArgs false

namespace Sys2Proof.Machine

theorem stageBlock_within {m : Nat} {s0 s : State} {q : Staged} (hm : Sub 0x8000000000000000000000000000000000020000 m)
    (h : Within m s0 s) : Within m s0 (stageBlock q s) := by
  unfold stageBlock
  repeat' (first
    | with_reducible assumption
    | (extract_lets +onlyGivenNames x; first | (refine Within.cut (m := m) (s := s0) x ?_ (fun h => ?_); subst x; rotate_left; clear_value x; rotate_right) | subst x)
    | with_reducible refine showStage_within (hm.up (by with_unfolding_all rfl)) ?_
    | split
    | with_reducible refine Within.set_pipe (by with_unfolding_all exact fun c => c) (hm.bit (by with_unfolding_all rfl)) ?_)

theorem refuseCommit_within {m : Nat} {s0 s : State} {q : Staged} (hm : Sub 0x200080000000000000000000000000000000000a3001 m)
    (h : Within m s0 s) : Within m s0 (refuseCommit q s) := by
  unfold refuseCommit
  repeat' (first
    | with_reducible assumption
    | (extract_lets +onlyGivenNames x; first | (refine Within.cut (m := m) (s := s0) x ?_ (fun h => ?_); subst x; rotate_left; clear_value x; rotate_right) | clear_value x | subst x)
    | with_reducible refine setFlag_within (by with_reducible with_unfolding_all exact hm.reach (.inl (by simp only [SHD_STATUS_WCOPY_row]; rfl))) ?_
    | with_reducible refine freeStage_within (hm.up (by with_unfolding_all rfl)) ?_
    | with_reducible refine complete_within (hm.up (by with_unfolding_all rfl)) ?_
    | with_reducible refine endRun_within (hm.up (by with_unfolding_all rfl)) ?_
    | with_reducible refine setRun_within (hm.up (by with_unfolding_all rfl)) ?_
    | split)

theorem execCommitCopyStart_within {m : Nat} {s0 s : State} (hm : Sub 0x200080000000000000000000000000000000000a3001 m)
    (h : Within m s0 s) : WithinO m s0 (execCommitCopyStart s) := by
  unfold execCommitCopyStart
  repeat' (first
    | with_reducible assumption
    | (extract_lets +onlyGivenNames x; first | (refine Within.cut (m := m) (s := s0) x ?_ (fun h => ?_); subst x; rotate_left; clear_value x; rotate_right) | clear_value x | subst x)
    | with_reducible refine WithinO.next ?_
    | with_reducible refine fset_within (by with_reducible with_unfolding_all exact hm.reach (.inl (by simp only [PIPE_STATUS_STAGE_row]; rfl))) ?_
    | with_reducible refine refuseCommit_within (hm.up (by with_unfolding_all rfl)) ?_
    | with_reducible refine schedule_within (hm.up (by with_unfolding_all rfl)) ?_
    | split)

theorem remapRow_within {m : Nat} {s0 s : State} {row : Nat} (hm : Sub 0x810000000000000088000000000000000001021801 m)
    (h : Within m s0 s) : Within m s0 (remapRow row s) := by
  unfold remapRow
  repeat' (first
    | with_reducible assumption
    | (extract_lets +onlyGivenNames x; first | (refine Within.cut (m := m) (s := s0) x ?_ (fun h => ?_); subst x; rotate_left; clear_value x; rotate_right) | subst x)
    | with_reducible refine fsets_nil ?_
    | with_reducible refine fsets_cons ?_
    | with_reducible refine fset_within (by with_reducible with_unfolding_all exact hm.reach (.inl (by simp only [PIPE_EVENTS_ROW_REMAP_row, PIPE_EVENTS_SPARES_OUT_row, PIPE_SPROW_USED_row, PIPE_SPROW_PENDING_row]; rfl))) ?_
    | with_reducible refine whenS_within (fun _ _ => ?_) ?_
    | with_reducible refine report_within (hm.up (by with_unfolding_all rfl)) (by with_reducible with_unfolding_all exact hm.reach (.inl (by simp only [PIPE_EVENTS_ROW_REMAP_row, PIPE_EVENTS_SPARES_OUT_row, PIPE_SPROW_USED_row, PIPE_SPROW_PENDING_row]; rfl))) ?_
    | split
    | with_reducible refine Within.set_pipe (by with_unfolding_all exact fun c => c) (hm.bit (by with_unfolding_all rfl)) ?_)

theorem writeEntry_within {m : Nat} {s0 s : State} {q : Staged} {p : Nat} {v : Nat} (hm : Sub 0x810000000000000088000000000000000001021801 m)
    (h : Within m s0 s) : Within m s0 (writeEntry q p v s) := by
  unfold writeEntry
  repeat' (first
    | with_reducible assumption
    | (extract_lets +onlyGivenNames x; first | clear_value x | subst x)
    | with_reducible refine setD0_within (hm.up (by with_unfolding_all rfl)) ?_
    | with_reducible refine setG_within (hm.up (by with_unfolding_all rfl)) ?_
    | with_reducible refine remapRow_within (hm.up (by with_unfolding_all rfl)) ?_
    | with_reducible refine setD1_within (hm.up (by with_unfolding_all rfl)) ?_
    | with_reducible refine setLut_within (hm.up (by with_unfolding_all rfl)) ?_
    | split)

theorem writeEntries_within {m : Nat} {s0 s : State} {q : Staged} (hm : Sub 0x810000000000000088000000000000000001021801 m)
    (h : Within m s0 s) : Within m s0 (writeEntries q s) := by
  have k : ∀ (l : List Nat) (p : Nat × State), Within m s0 p.2 →
      Within m s0 (l.foldl (fun (a : Nat × State) v => (a.1 + 1, writeEntry q a.1 v a.2)) p).2 := by
    intro l
    induction l with
    | nil => exact fun _ h => h
    | cons v r ih => exact fun p h => ih _ (writeEntry_within (hm.up rfl) h)
  exact k _ _ h

theorem fixGens_within {m : Nat} {s0 s : State} {h_ : Nat} (hm : Sub 0x4000 m)
    (h : Within m s0 s) : Within m s0 (fixGens h_ s) := by
  unfold fixGens
  repeat' (first
    | with_reducible assumption
    | (extract_lets +onlyGivenNames x; clear_value x)
    | with_reducible refine setHead_within (hm.up (by with_unfolding_all rfl)) ?_)

theorem commitDone_within {m : Nat} {s0 s : State} {q : Staged} (hm : Sub 0x600000000000000000000000000000000000000a3001 m)
    (h : Within m s0 s) : Within m s0 (commitDone q s) := by
  unfold commitDone
  repeat' (first
    | with_reducible assumption
    | (extract_lets +onlyGivenNames x; first | (refine Within.cut (m := m) (s := s0) x ?_ (fun h => ?_); subst x; rotate_left; clear_value x; rotate_right) | clear_value x | subst x)
    | with_reducible refine fsets_nil ?_
    | with_reducible refine fsets_cons ?_
    | with_reducible refine fset_within (by with_reducible with_unfolding_all exact hm.reach (.inl (by simp only [SHD_STATUS_WCOPY_row, SHD_EVENTS_WCOMMIT_row]; rfl))) ?_
    | with_reducible refine whenS_within (fun _ _ => ?_) ?_
    | with_reducible refine complete_within (hm.up (by with_unfolding_all rfl)) ?_
    | with_reducible refine pmcEvent_within (hm.up (by with_unfolding_all rfl)) ?_
    | with_reducible refine darkRefs_within (hm.up (by with_unfolding_all rfl)) ?_
    | with_reducible refine nextBlock_within (hm.up (by with_unfolding_all rfl)) ?_
    | with_reducible refine setRun_within (hm.up (by with_unfolding_all rfl)) ?_
    | split
    | with_reducible refine Within.set_shd (hm.bit (by with_unfolding_all rfl)) ?_)

theorem execCommitCopyEnd_within {m : Nat} {s0 s : State} (hm : Sub 0x400648180000000000000880000000000000000010a7801 m)
    (h : Within m s0 s) : WithinO m s0 (execCommitCopyEnd s) := by
  unfold execCommitCopyEnd
  repeat' (first
    | with_reducible assumption
    | (extract_lets +onlyGivenNames x; first | (refine Within.cut (m := m) (s := s0) x ?_ (fun h => ?_); subst x; rotate_left; clear_value x; rotate_right) | clear_value x | subst x)
    | with_reducible refine WithinO.next ?_
    | with_reducible refine foldl_within (fun _ _ _ => ?_) ?_
    | with_reducible refine writeEntries_within (hm.up (by with_unfolding_all rfl)) ?_
    | with_reducible refine fixGens_within (hm.up (by with_unfolding_all rfl)) ?_
    | with_reducible refine setGen_within (hm.up (by with_unfolding_all rfl)) ?_
    | with_reducible refine whiteRestart_within (hm.up (by with_unfolding_all rfl)) ?_
    | with_reducible refine commitDone_within (hm.up (by with_unfolding_all rfl)) ?_
    | with_reducible refine freeStage_within (hm.up (by with_unfolding_all rfl)) ?_
    | split)

theorem execCoefLoad_within {m : Nat} {s0 s : State} {slot : Nat} (hm : Sub 0x20000 m)
    (h : Within m s0 s) : WithinO m s0 (execCoefLoad slot s) := by
  unfold execCoefLoad
  repeat' (first
    | with_reducible assumption
    | (extract_lets +onlyGivenNames x; subst x)
    | with_reducible refine WithinO.next ?_
    | split
    | with_reducible refine Within.set_pipe (by with_unfolding_all exact fun c => c) (hm.bit (by with_unfolding_all rfl)) ?_)

theorem stageOwn_within {m : Nat} {s0 s : State} {kind : Nat} {h_ : Nat} {b : Nat} {entries : List Nat} {background : Bool} (hm : Sub 0x8000000000000000000000000000000000020000 m)
    (h : Within m s0 s) : Within m s0 (stageOwn kind h_ b entries background s) := by
  unfold stageOwn
  repeat' (first
    | with_reducible assumption
    | with_reducible refine stageBlock_within (hm.up (by with_unfolding_all rfl)) ?_)

theorem execStagingGrant_within {m : Nat} {s0 s : State} (hm : Sub 0x400200080000000000000000000000000000000000a1001 m)
    (h : Within m s0 s) : WithinO m s0 (execStagingGrant s) := by
  unfold execStagingGrant
  repeat' (first
    | with_reducible assumption
    | (extract_lets +onlyGivenNames x; first | (refine Within.cut (m := m) (s := s0) x ?_ (fun h => ?_); subst x; rotate_left; clear_value x; rotate_right) | subst x)
    | with_reducible refine WithinO.next ?_
    | with_reducible refine fset_within (by with_reducible with_unfolding_all exact hm.reach (.inl (by simp only [SHD_STATUS_WCOPY_row, SHD_HSTAT_DUE_row]; rfl))) ?_
    | with_reducible refine setFlag_within (by with_reducible with_unfolding_all exact hm.reach (.inl (by simp only [SHD_STATUS_WCOPY_row, SHD_HSTAT_DUE_row]; rfl))) ?_
    | with_reducible refine pmcEvents_within (hm.up (by with_unfolding_all rfl)) ?_
    | with_reducible refine showStage_within (hm.up (by with_unfolding_all rfl)) ?_
    | with_reducible refine stageOwn_within (hm.up (by with_unfolding_all rfl)) ?_
    | split
    | with_reducible refine Within.set_pipe (by with_unfolding_all exact fun c => c) (hm.bit (by with_unfolding_all rfl)) ?_
    | with_reducible refine Within.set_shd (hm.bit (by with_unfolding_all rfl)) ?_)

theorem celUncorrectable_within {m : Nat} {s0 s : State} {addr : Nat} (hm : Sub 0x3a000000000000000000081100000200000000000000000000000000088000000000000021001381905 m)
    (h : Within m s0 s) : Within m s0 (celUncorrectable addr s) := by
  unfold celUncorrectable
  repeat' (first
    | with_reducible assumption
    | (extract_lets +onlyGivenNames x; first | (refine Within.cut (m := m) (s := s0) x ?_ (fun h => ?_); subst x; rotate_left; clear_value x; rotate_right) | clear_value x | subst x)
    | with_reducible refine setRaw_within (by with_reducible with_unfolding_all exact hm.reach (.inl (by simp only [CEL_UE_row, CEL_ERRADDR_LO_row, CEL_ERRADDR_HI_VALID_row, CEL_ERRADDR_HI_UE_row, CEL_ERRADDR_HI_ADDR_HI_row, CEL_EVENTS_UE_row, SYS_LIMP_CEL_row]; rfl))) ?_
    | with_reducible refine fsets_nil ?_
    | with_reducible refine fsets_cons ?_
    | with_reducible refine fset_within (by with_reducible with_unfolding_all exact hm.reach (.inl (by simp only [CEL_UE_row, CEL_ERRADDR_LO_row, CEL_ERRADDR_HI_VALID_row, CEL_ERRADDR_HI_UE_row, CEL_ERRADDR_HI_ADDR_HI_row, CEL_EVENTS_UE_row, SYS_LIMP_CEL_row]; rfl))) ?_
    | with_reducible refine limpCause_within (hm.up (by with_unfolding_all rfl)) (by with_reducible with_unfolding_all exact hm.reach (.inl (by simp only [CEL_UE_row, CEL_ERRADDR_LO_row, CEL_ERRADDR_HI_VALID_row, CEL_ERRADDR_HI_UE_row, CEL_ERRADDR_HI_ADDR_HI_row, CEL_EVENTS_UE_row, SYS_LIMP_CEL_row]; rfl))) ?_
    | with_reducible refine celEvents_within (hm.up (by with_unfolding_all rfl)) ?_)

theorem execCoefFetchDone_within {m : Nat} {s0 s : State} {bytes : List Byte} {celUe : Bool} (hm : Sub 0x3a0000000000000000000811000002000000000000080000000000000880000000000000210013a3905 m)
    (h : Within m s0 s) : WithinO m s0 (execCoefFetchDone bytes celUe s) := by
  unfold execCoefFetchDone
  repeat' (first
    | with_reducible assumption
    | (extract_lets +onlyGivenNames x; first | (refine Within.cut (m := m) (s := s0) x ?_ (fun h => ?_); subst x; rotate_left; clear_value x; rotate_right) | (refine Within.cut (m := m) (s := s0) x.2 ?_ (fun h => ?_); subst x; rotate_left; clear_value x; rotate_right) | subst x)
    | with_reducible refine WithinO.next ?_
    | with_reducible refine draw_within (hm.bit (by with_unfolding_all rfl)) ?_
    | with_reducible refine celEvents_within (hm.up (by with_unfolding_all rfl)) ?_
    | with_reducible refine celUncorrectable_within (hm.up (by with_unfolding_all rfl)) ?_
    | with_reducible refine complete_within (hm.up (by with_unfolding_all rfl)) ?_
    | with_reducible refine freeStage_within (hm.up (by with_unfolding_all rfl)) ?_
    | with_reducible refine stageBlock_within (hm.up (by with_unfolding_all rfl)) ?_
    | split
    | with_reducible refine Within.set_pipe (by with_unfolding_all exact fun c => c) (hm.bit (by with_unfolding_all rfl)) ?_)

theorem execCoefCommit_within {m : Nat} {s0 s : State} {slot : Nat} (hm : Sub 0x8000000000000000000000000000000000023001 m)
    (h : Within m s0 s) : WithinO m s0 (execCoefCommit slot s) := by
  unfold execCoefCommit
  repeat' (first
    | with_reducible assumption
    | (extract_lets +onlyGivenNames x; subst x)
    | with_reducible refine WithinO.next ?_
    | with_reducible refine complete_within (hm.up (by with_unfolding_all rfl)) ?_
    | with_reducible refine freeStage_within (hm.up (by with_unfolding_all rfl)) ?_
    | split
    | with_reducible refine Within.set_pipe (by with_unfolding_all exact fun c => c) (hm.bit (by with_unfolding_all rfl)) ?_)

theorem execCoefRead_within {m : Nat} {s0 s : State} {slot : Nat} (hm : Sub 0x3021 m)
    (h : Within m s0 s) : WithinO m s0 (execCoefRead slot s) := by
  unfold execCoefRead
  repeat' (first
    | with_reducible assumption
    | (extract_lets +onlyGivenNames x; first | clear_value x | subst x)
    | with_reducible refine WithinO.next ?_
    | with_reducible refine complete_within (hm.up (by with_unfolding_all rfl)) ?_
    | with_reducible refine memWrite_within (hm.up (by with_unfolding_all rfl)) ?_
    | split)

end Sys2Proof.Machine
end

