-- ==== Sys2Proof/Laws/State.lean ====
section
/-! SUPPORT. What a read gives after a write: bit fields of a word, registers, fields of registers, and the units' tables. -/

namespace Sys2Proof.Machine

/-! Bit fields. -/

theorem bitsOf_testBit (v hi lo i : Nat) : (bitsOf v hi lo).testBit i = (decide (i < hi + 1 - lo) && v.testBit (lo + i)) := by
  unfold bitsOf
  rw [Nat.testBit_mod_two_pow, Nat.testBit_div_two_pow, Nat.add_comm i lo]

theorem withBits_parts (v hi lo x : Nat) :
    withBits v hi lo x = 2 ^ lo * (2 ^ (hi + 1 - lo) * (v / 2 ^ lo / 2 ^ (hi + 1 - lo)) + x % 2 ^ (hi + 1 - lo)) + v % 2 ^ lo := by
  unfold withBits bitsOf
  generalize hw : hi + 1 - lo = w
  have a := Nat.div_add_mod v (2 ^ lo)
  have b := Nat.div_add_mod (v / 2 ^ lo) (2 ^ w)
  generalize v / 2 ^ lo = q at a b ⊢
  generalize q / 2 ^ w = p at b ⊢
  generalize q % 2 ^ w = y at b ⊢
  generalize x % 2 ^ w = z
  generalize v % 2 ^ lo = r at a ⊢
  subst b
  rw [Nat.mul_add] at a ⊢
  rw [Nat.mul_comm y, Nat.mul_comm z]
  omega

theorem withBits_testBit (v hi lo x i : Nat) :
    (withBits v hi lo x).testBit i = if lo ≤ i ∧ i < hi + 1 then x.testBit (i - lo) else v.testBit i := by
  rw [withBits_parts, Nat.testBit_two_pow_mul_add _ (Nat.mod_lt _ (Nat.two_pow_pos lo))]
  by_cases h : i < lo
  · rw [if_pos h, if_neg (by omega), Nat.testBit_mod_two_pow]
    simp [h]
  · rw [if_neg h, Nat.testBit_two_pow_mul_add _ (Nat.mod_lt _ (Nat.two_pow_pos _))]
    by_cases k : i < hi + 1
    · rw [if_pos (by omega), if_pos (by omega), Nat.testBit_mod_two_pow]
      simp only [show i - lo < hi + 1 - lo by omega, decide_true, Bool.true_and]
    · rw [if_neg (by omega), Nat.testBit_div_two_pow, Nat.testBit_div_two_pow]
      by_cases c : lo ≤ hi + 1
      · rw [if_neg (by omega)]
        congr 1
        omega
      · rw [if_neg (by omega)]
        congr 1
        omega

/-- A field reads what was written to it, as far as it fits. -/
theorem bitsOf_withBits (v hi lo x : Nat) : bitsOf (withBits v hi lo x) hi lo = x % 2 ^ (hi + 1 - lo) := by
  apply Nat.eq_of_testBit_eq
  intro i
  rw [bitsOf_testBit, withBits_testBit, Nat.testBit_mod_two_pow]
  by_cases h : i < hi + 1 - lo
  · rw [if_pos (by omega), Nat.add_sub_cancel_left]
  · simp [h]

/-- A field that shares no bit with the one written is unchanged. -/
theorem bitsOf_withBits_apart (v hi lo x : Nat) {hi2 lo2 : Nat} (h : hi < lo2 ∨ hi2 < lo) :
    bitsOf (withBits v hi lo x) hi2 lo2 = bitsOf v hi2 lo2 := by
  apply Nat.eq_of_testBit_eq
  intro i
  rw [bitsOf_testBit, bitsOf_testBit, withBits_testBit]
  by_cases k : i < hi2 + 1 - lo2
  · rw [if_neg (by omega)]
  · simp [k]

theorem withBits_lt {v hi lo x n : Nat} (hv : v < 2 ^ n) (h : hi < n) : withBits v hi lo x < 2 ^ n := by
  apply Nat.lt_pow_two_of_testBit
  intro i k
  rw [withBits_testBit, if_neg (by omega)]
  exact Nat.testBit_lt_two_pow (Nat.lt_of_lt_of_le hv (Nat.pow_le_pow_right (by omega) k))

theorem bitsOf_lt (v hi lo : Nat) : bitsOf v hi lo < 2 ^ (hi + 1 - lo) := Nat.mod_lt _ (Nat.two_pow_pos _)

/-! Registers. -/

theorem Inv.regs {s : State} (i : Inv s) : tblWf regReset s.regs = true := by
  have := i.tables
  simp only [tablesWf, Bool.and_eq_true] at this
  simp only [this]

theorem Inv.heads {s : State} (i : Inv s) : tblWf (fun _ => ({} : HeadSt)) s.heads = true := by
  have := i.tables
  simp only [tablesWf, Bool.and_eq_true] at this
  simp only [this]

theorem Inv.taps {s : State} (i : Inv s) : tblWf (fun _ => ({} : TapSt)) s.taps = true := by
  have := i.tables
  simp only [tablesWf, Bool.and_eq_true] at this
  simp only [this]

theorem Inv.groups {s : State} (i : Inv s) : tblWf (fun _ => ({} : GroupSt)) s.groups = true := by
  have := i.tables
  simp only [tablesWf, Bool.and_eq_true] at this
  simp only [this]

theorem Inv.activeRegs {s : State} (i : Inv s) : tblWf regReset s.active = true := by
  have := i.tables
  simp only [tablesWf, Bool.and_eq_true] at this
  simp only [this]

theorem raw_lt (s : State) (off : Nat) : raw s off < 2 ^ 32 := (tget regReset s.regs off).isLt

@[simp] theorem reg_setRaw {s : State} (off v : Nat) : reg (setRaw s off v) off = BitVec.ofNat 32 v := tget_tset

theorem reg_setRaw_other {s : State} {off o : Nat} (v : Nat) (h : off ≠ o) : reg (setRaw s off v) o = reg s o :=
  tget_tset_other (Ne.symm h)

@[simp] theorem raw_setRaw {s : State} (off v : Nat) : raw (setRaw s off v) off = v % 2 ^ 32 := by
  show (reg (setRaw s off v) off).toNat = _
  rw [reg_setRaw, BitVec.toNat_ofNat]

theorem raw_setRaw_other {s : State} {off o : Nat} (v : Nat) (h : off ≠ o) : raw (setRaw s off v) o = raw s o :=
  congrArg BitVec.toNat (reg_setRaw_other v h)

/-- A field reads what was written to it. -/
theorem fget_fset {s : State} {f : Fld} (x : Nat) (h : f.hi < 32 := by decide) :
    fget (fset s f x) f = x % 2 ^ (f.hi + 1 - f.lo) := by
  unfold fget fset
  rw [raw_setRaw, Nat.mod_eq_of_lt (withBits_lt (raw_lt s f.off) h), bitsOf_withBits]

/-- A field in another register, or without a common bit, is unchanged. -/
theorem fget_fset_other {s : State} {f g : Fld} (x : Nat) (h : f.off ≠ g.off ∨ f.hi < 32 ∧ (f.hi < g.lo ∨ g.hi < f.lo)) :
    fget (fset s f x) g = fget s g := by
  unfold fget fset
  by_cases e : f.off = g.off
  · rw [e, raw_setRaw]
    rcases h with h | h
    · exact absurd e h
    · rw [Nat.mod_eq_of_lt (withBits_lt (raw_lt s g.off) h.1), bitsOf_withBits_apart _ _ _ _ h.2]
  · rw [raw_setRaw_other _ e]

theorem flag_setFlag {s : State} {f : Fld} (b : Bool) (h : f.hi < 32 ∧ f.lo ≤ f.hi := by decide) :
    flag (setFlag s f b) f = b := by
  unfold flag setFlag
  rw [fget_fset _ h.1]
  have : 2 ^ 1 ≤ 2 ^ (f.hi + 1 - f.lo) := Nat.pow_le_pow_right (by omega) (by omega)
  cases b
  · simp [b2n]
  · simp only [b2n, if_true]
    rw [Nat.mod_eq_of_lt (by omega)]
    rfl

theorem Inv.setRaw {s : State} (i : Inv s) (off v : Nat) : Inv (setRaw s off v) :=
  (setRaw_within (m := 2 ^ 31) (.inr (by decide)) (Within.refl _ s)).inv i

theorem Inv.fset {s : State} (i : Inv s) (f : Fld) (x : Nat) : Inv (fset s f x) := i.setRaw _ _

theorem Inv.setFlag {s : State} (i : Inv s) (f : Fld) (b : Bool) : Inv (setFlag s f b) := i.setRaw _ _

/-! What lies outside the set of parts that an operation may change is as before. -/

/-- No register of the row of off is in m. -/
def clearOf (m off : Nat) : Bool := !m.testBit (32 + rowIdx off) && !m.testBit 31

theorem Within.reg {m : Nat} {s t : State} (h : Within m s t) {off : Nat} (c : clearOf m off = true) : reg t off = reg s off := by
  refine h.parts (.reg (regRow off)) ?_ off rfl
  simp only [clearOf, Bool.and_eq_true] at c
  simp only [Part.outside, Bool.and_eq_true]
  exact c

theorem Within.raw {m : Nat} {s t : State} (h : Within m s t) {off : Nat} (c : clearOf m off = true) : raw t off = raw s off :=
  congrArg BitVec.toNat (h.reg c)

theorem Within.fget {m : Nat} {s t : State} (h : Within m s t) {f : Fld} (c : clearOf m f.off = true) : fget t f = fget s f := by
  unfold Machine.fget
  rw [h.raw c]

theorem Within.flag {m : Nat} {s t : State} (h : Within m s t) {f : Fld} (c : clearOf m f.off = true) : flag t f = flag s f := by
  unfold Machine.flag
  rw [h.fget c]

/-! One lemma per field per update. -/

@[simp] theorem setRaw_pending (s : State) (off v : Nat) : (setRaw s off v).pending = s.pending := rfl
@[simp] theorem setRaw_agenda (s : State) (off v : Nat) : (setRaw s off v).agenda = s.agenda := rfl
@[simp] theorem setRaw_time (s : State) (off v : Nat) : (setRaw s off v).time = s.time := rfl
@[simp] theorem setRaw_fresh (s : State) (off v : Nat) : (setRaw s off v).fresh = s.fresh := rfl
@[simp] theorem setRaw_active (s : State) (off v : Nat) : (setRaw s off v).active = s.active := rfl
@[simp] theorem setRaw_bandTick (s : State) (off v : Nat) : (setRaw s off v).bandTick = s.bandTick := rfl
@[simp] theorem setRaw_bandLog (s : State) (off v : Nat) : (setRaw s off v).bandLog = s.bandLog := rfl
@[simp] theorem setRaw_emits (s : State) (off v : Nat) : (setRaw s off v).emits = s.emits := rfl
@[simp] theorem setRaw_rdata (s : State) (off v : Nat) : (setRaw s off v).rdata = s.rdata := rfl
@[simp] theorem setRaw_shadow0 (s : State) (off v : Nat) : (setRaw s off v).shadow0 = s.shadow0 := rfl
@[simp] theorem setRaw_shadow4 (s : State) (off v : Nat) : (setRaw s off v).shadow4 = s.shadow4 := rfl
@[simp] theorem setRaw_shadowK (s : State) (off v : Nat) : (setRaw s off v).shadowK = s.shadowK := rfl
@[simp] theorem setRaw_mode (s : State) (off v : Nat) : (setRaw s off v).mode = s.mode := rfl
@[simp] theorem setRaw_start (s : State) (off v : Nat) : (setRaw s off v).start = s.start := rfl
@[simp] theorem setRaw_fw (s : State) (off v : Nat) : (setRaw s off v).fw = s.fw := rfl
@[simp] theorem setRaw_lnd (s : State) (off v : Nat) : (setRaw s off v).lnd = s.lnd := rfl
@[simp] theorem setRaw_pmc (s : State) (off v : Nat) : (setRaw s off v).pmc = s.pmc := rfl
@[simp] theorem setRaw_host (s : State) (off v : Nat) : (setRaw s off v).host = s.host := rfl
@[simp] theorem setRaw_heads (s : State) (off v : Nat) : (setRaw s off v).heads = s.heads := rfl
@[simp] theorem setRaw_taps (s : State) (off v : Nat) : (setRaw s off v).taps = s.taps := rfl
@[simp] theorem setRaw_groups (s : State) (off v : Nat) : (setRaw s off v).groups = s.groups := rfl
@[simp] theorem setRaw_pipe (s : State) (off v : Nat) : (setRaw s off v).pipe = s.pipe := rfl
@[simp] theorem setRaw_pwr (s : State) (off v : Nat) : (setRaw s off v).pwr = s.pwr := rfl
@[simp] theorem setRaw_shd (s : State) (off v : Nat) : (setRaw s off v).shd = s.shd := rfl
@[simp] theorem setRaw_mot (s : State) (off v : Nat) : (setRaw s off v).mot = s.mot := rfl
@[simp] theorem setRaw_lmp (s : State) (off v : Nat) : (setRaw s off v).lmp = s.lmp := rfl
@[simp] theorem setRaw_att (s : State) (off v : Nat) : (setRaw s off v).att = s.att := rfl
@[simp] theorem setRaw_aux (s : State) (off v : Nat) : (setRaw s off v).aux = s.aux := rfl
@[simp] theorem setRaw_recd (s : State) (off v : Nat) : (setRaw s off v).recd = s.recd := rfl
@[simp] theorem setRaw_hwy (s : State) (off v : Nat) : (setRaw s off v).hwy = s.hwy := rfl
@[simp] theorem setRaw_lnk (s : State) (off v : Nat) : (setRaw s off v).lnk = s.lnk := rfl

@[simp] theorem fset_pending (s : State) (f : Fld) (x : Nat) : (fset s f x).pending = s.pending := rfl
@[simp] theorem fset_agenda (s : State) (f : Fld) (x : Nat) : (fset s f x).agenda = s.agenda := rfl
@[simp] theorem fset_time (s : State) (f : Fld) (x : Nat) : (fset s f x).time = s.time := rfl
@[simp] theorem fset_fresh (s : State) (f : Fld) (x : Nat) : (fset s f x).fresh = s.fresh := rfl
@[simp] theorem fset_active (s : State) (f : Fld) (x : Nat) : (fset s f x).active = s.active := rfl
@[simp] theorem fset_bandTick (s : State) (f : Fld) (x : Nat) : (fset s f x).bandTick = s.bandTick := rfl
@[simp] theorem fset_bandLog (s : State) (f : Fld) (x : Nat) : (fset s f x).bandLog = s.bandLog := rfl
@[simp] theorem fset_emits (s : State) (f : Fld) (x : Nat) : (fset s f x).emits = s.emits := rfl
@[simp] theorem fset_rdata (s : State) (f : Fld) (x : Nat) : (fset s f x).rdata = s.rdata := rfl
@[simp] theorem fset_shadow0 (s : State) (f : Fld) (x : Nat) : (fset s f x).shadow0 = s.shadow0 := rfl
@[simp] theorem fset_shadow4 (s : State) (f : Fld) (x : Nat) : (fset s f x).shadow4 = s.shadow4 := rfl
@[simp] theorem fset_shadowK (s : State) (f : Fld) (x : Nat) : (fset s f x).shadowK = s.shadowK := rfl
@[simp] theorem fset_mode (s : State) (f : Fld) (x : Nat) : (fset s f x).mode = s.mode := rfl
@[simp] theorem fset_start (s : State) (f : Fld) (x : Nat) : (fset s f x).start = s.start := rfl
@[simp] theorem fset_fw (s : State) (f : Fld) (x : Nat) : (fset s f x).fw = s.fw := rfl
@[simp] theorem fset_lnd (s : State) (f : Fld) (x : Nat) : (fset s f x).lnd = s.lnd := rfl
@[simp] theorem fset_pmc (s : State) (f : Fld) (x : Nat) : (fset s f x).pmc = s.pmc := rfl
@[simp] theorem fset_host (s : State) (f : Fld) (x : Nat) : (fset s f x).host = s.host := rfl
@[simp] theorem fset_heads (s : State) (f : Fld) (x : Nat) : (fset s f x).heads = s.heads := rfl
@[simp] theorem fset_taps (s : State) (f : Fld) (x : Nat) : (fset s f x).taps = s.taps := rfl
@[simp] theorem fset_groups (s : State) (f : Fld) (x : Nat) : (fset s f x).groups = s.groups := rfl
@[simp] theorem fset_pipe (s : State) (f : Fld) (x : Nat) : (fset s f x).pipe = s.pipe := rfl
@[simp] theorem fset_pwr (s : State) (f : Fld) (x : Nat) : (fset s f x).pwr = s.pwr := rfl
@[simp] theorem fset_shd (s : State) (f : Fld) (x : Nat) : (fset s f x).shd = s.shd := rfl
@[simp] theorem fset_mot (s : State) (f : Fld) (x : Nat) : (fset s f x).mot = s.mot := rfl
@[simp] theorem fset_lmp (s : State) (f : Fld) (x : Nat) : (fset s f x).lmp = s.lmp := rfl
@[simp] theorem fset_att (s : State) (f : Fld) (x : Nat) : (fset s f x).att = s.att := rfl
@[simp] theorem fset_aux (s : State) (f : Fld) (x : Nat) : (fset s f x).aux = s.aux := rfl
@[simp] theorem fset_recd (s : State) (f : Fld) (x : Nat) : (fset s f x).recd = s.recd := rfl
@[simp] theorem fset_hwy (s : State) (f : Fld) (x : Nat) : (fset s f x).hwy = s.hwy := rfl
@[simp] theorem fset_lnk (s : State) (f : Fld) (x : Nat) : (fset s f x).lnk = s.lnk := rfl

@[simp] theorem setFlag_pending (s : State) (f : Fld) (b : Bool) : (setFlag s f b).pending = s.pending := rfl
@[simp] theorem setFlag_agenda (s : State) (f : Fld) (b : Bool) : (setFlag s f b).agenda = s.agenda := rfl
@[simp] theorem setFlag_time (s : State) (f : Fld) (b : Bool) : (setFlag s f b).time = s.time := rfl
@[simp] theorem setFlag_fresh (s : State) (f : Fld) (b : Bool) : (setFlag s f b).fresh = s.fresh := rfl
@[simp] theorem setFlag_active (s : State) (f : Fld) (b : Bool) : (setFlag s f b).active = s.active := rfl
@[simp] theorem setFlag_bandTick (s : State) (f : Fld) (b : Bool) : (setFlag s f b).bandTick = s.bandTick := rfl
@[simp] theorem setFlag_bandLog (s : State) (f : Fld) (b : Bool) : (setFlag s f b).bandLog = s.bandLog := rfl
@[simp] theorem setFlag_emits (s : State) (f : Fld) (b : Bool) : (setFlag s f b).emits = s.emits := rfl
@[simp] theorem setFlag_rdata (s : State) (f : Fld) (b : Bool) : (setFlag s f b).rdata = s.rdata := rfl
@[simp] theorem setFlag_shadow0 (s : State) (f : Fld) (b : Bool) : (setFlag s f b).shadow0 = s.shadow0 := rfl
@[simp] theorem setFlag_shadow4 (s : State) (f : Fld) (b : Bool) : (setFlag s f b).shadow4 = s.shadow4 := rfl
@[simp] theorem setFlag_shadowK (s : State) (f : Fld) (b : Bool) : (setFlag s f b).shadowK = s.shadowK := rfl
@[simp] theorem setFlag_mode (s : State) (f : Fld) (b : Bool) : (setFlag s f b).mode = s.mode := rfl
@[simp] theorem setFlag_start (s : State) (f : Fld) (b : Bool) : (setFlag s f b).start = s.start := rfl
@[simp] theorem setFlag_fw (s : State) (f : Fld) (b : Bool) : (setFlag s f b).fw = s.fw := rfl
@[simp] theorem setFlag_lnd (s : State) (f : Fld) (b : Bool) : (setFlag s f b).lnd = s.lnd := rfl
@[simp] theorem setFlag_pmc (s : State) (f : Fld) (b : Bool) : (setFlag s f b).pmc = s.pmc := rfl
@[simp] theorem setFlag_host (s : State) (f : Fld) (b : Bool) : (setFlag s f b).host = s.host := rfl
@[simp] theorem setFlag_heads (s : State) (f : Fld) (b : Bool) : (setFlag s f b).heads = s.heads := rfl
@[simp] theorem setFlag_taps (s : State) (f : Fld) (b : Bool) : (setFlag s f b).taps = s.taps := rfl
@[simp] theorem setFlag_groups (s : State) (f : Fld) (b : Bool) : (setFlag s f b).groups = s.groups := rfl
@[simp] theorem setFlag_pipe (s : State) (f : Fld) (b : Bool) : (setFlag s f b).pipe = s.pipe := rfl
@[simp] theorem setFlag_pwr (s : State) (f : Fld) (b : Bool) : (setFlag s f b).pwr = s.pwr := rfl
@[simp] theorem setFlag_shd (s : State) (f : Fld) (b : Bool) : (setFlag s f b).shd = s.shd := rfl
@[simp] theorem setFlag_mot (s : State) (f : Fld) (b : Bool) : (setFlag s f b).mot = s.mot := rfl
@[simp] theorem setFlag_lmp (s : State) (f : Fld) (b : Bool) : (setFlag s f b).lmp = s.lmp := rfl
@[simp] theorem setFlag_att (s : State) (f : Fld) (b : Bool) : (setFlag s f b).att = s.att := rfl
@[simp] theorem setFlag_aux (s : State) (f : Fld) (b : Bool) : (setFlag s f b).aux = s.aux := rfl
@[simp] theorem setFlag_recd (s : State) (f : Fld) (b : Bool) : (setFlag s f b).recd = s.recd := rfl
@[simp] theorem setFlag_hwy (s : State) (f : Fld) (b : Bool) : (setFlag s f b).hwy = s.hwy := rfl
@[simp] theorem setFlag_lnk (s : State) (f : Fld) (b : Bool) : (setFlag s f b).lnk = s.lnk := rfl

@[simp] theorem activate_pending (s : State) (off : Nat) : (activate s off).pending = s.pending := rfl
@[simp] theorem activate_agenda (s : State) (off : Nat) : (activate s off).agenda = s.agenda := rfl
@[simp] theorem activate_time (s : State) (off : Nat) : (activate s off).time = s.time := rfl
@[simp] theorem activate_fresh (s : State) (off : Nat) : (activate s off).fresh = s.fresh := rfl
@[simp] theorem activate_regs (s : State) (off : Nat) : (activate s off).regs = s.regs := rfl
@[simp] theorem activate_bandTick (s : State) (off : Nat) : (activate s off).bandTick = s.bandTick := rfl
@[simp] theorem activate_bandLog (s : State) (off : Nat) : (activate s off).bandLog = s.bandLog := rfl
@[simp] theorem activate_emits (s : State) (off : Nat) : (activate s off).emits = s.emits := rfl
@[simp] theorem activate_rdata (s : State) (off : Nat) : (activate s off).rdata = s.rdata := rfl
@[simp] theorem activate_shadow0 (s : State) (off : Nat) : (activate s off).shadow0 = s.shadow0 := rfl
@[simp] theorem activate_shadow4 (s : State) (off : Nat) : (activate s off).shadow4 = s.shadow4 := rfl
@[simp] theorem activate_shadowK (s : State) (off : Nat) : (activate s off).shadowK = s.shadowK := rfl
@[simp] theorem activate_mode (s : State) (off : Nat) : (activate s off).mode = s.mode := rfl
@[simp] theorem activate_start (s : State) (off : Nat) : (activate s off).start = s.start := rfl
@[simp] theorem activate_fw (s : State) (off : Nat) : (activate s off).fw = s.fw := rfl
@[simp] theorem activate_lnd (s : State) (off : Nat) : (activate s off).lnd = s.lnd := rfl
@[simp] theorem activate_pmc (s : State) (off : Nat) : (activate s off).pmc = s.pmc := rfl
@[simp] theorem activate_host (s : State) (off : Nat) : (activate s off).host = s.host := rfl
@[simp] theorem activate_heads (s : State) (off : Nat) : (activate s off).heads = s.heads := rfl
@[simp] theorem activate_taps (s : State) (off : Nat) : (activate s off).taps = s.taps := rfl
@[simp] theorem activate_groups (s : State) (off : Nat) : (activate s off).groups = s.groups := rfl
@[simp] theorem activate_pipe (s : State) (off : Nat) : (activate s off).pipe = s.pipe := rfl
@[simp] theorem activate_pwr (s : State) (off : Nat) : (activate s off).pwr = s.pwr := rfl
@[simp] theorem activate_shd (s : State) (off : Nat) : (activate s off).shd = s.shd := rfl
@[simp] theorem activate_mot (s : State) (off : Nat) : (activate s off).mot = s.mot := rfl
@[simp] theorem activate_lmp (s : State) (off : Nat) : (activate s off).lmp = s.lmp := rfl
@[simp] theorem activate_att (s : State) (off : Nat) : (activate s off).att = s.att := rfl
@[simp] theorem activate_aux (s : State) (off : Nat) : (activate s off).aux = s.aux := rfl
@[simp] theorem activate_recd (s : State) (off : Nat) : (activate s off).recd = s.recd := rfl
@[simp] theorem activate_hwy (s : State) (off : Nat) : (activate s off).hwy = s.hwy := rfl
@[simp] theorem activate_lnk (s : State) (off : Nat) : (activate s off).lnk = s.lnk := rfl

@[simp] theorem schedule_pending (s : State) (n : Nat) (c : Instr) : (schedule s n c).pending = s.pending := rfl
@[simp] theorem schedule_time (s : State) (n : Nat) (c : Instr) : (schedule s n c).time = s.time := rfl
@[simp] theorem schedule_fresh (s : State) (n : Nat) (c : Instr) : (schedule s n c).fresh = s.fresh := rfl
@[simp] theorem schedule_regs (s : State) (n : Nat) (c : Instr) : (schedule s n c).regs = s.regs := rfl
@[simp] theorem schedule_active (s : State) (n : Nat) (c : Instr) : (schedule s n c).active = s.active := rfl
@[simp] theorem schedule_bandTick (s : State) (n : Nat) (c : Instr) : (schedule s n c).bandTick = s.bandTick := rfl
@[simp] theorem schedule_bandLog (s : State) (n : Nat) (c : Instr) : (schedule s n c).bandLog = s.bandLog := rfl
@[simp] theorem schedule_emits (s : State) (n : Nat) (c : Instr) : (schedule s n c).emits = s.emits := rfl
@[simp] theorem schedule_rdata (s : State) (n : Nat) (c : Instr) : (schedule s n c).rdata = s.rdata := rfl
@[simp] theorem schedule_shadow0 (s : State) (n : Nat) (c : Instr) : (schedule s n c).shadow0 = s.shadow0 := rfl
@[simp] theorem schedule_shadow4 (s : State) (n : Nat) (c : Instr) : (schedule s n c).shadow4 = s.shadow4 := rfl
@[simp] theorem schedule_shadowK (s : State) (n : Nat) (c : Instr) : (schedule s n c).shadowK = s.shadowK := rfl
@[simp] theorem schedule_mode (s : State) (n : Nat) (c : Instr) : (schedule s n c).mode = s.mode := rfl
@[simp] theorem schedule_start (s : State) (n : Nat) (c : Instr) : (schedule s n c).start = s.start := rfl
@[simp] theorem schedule_fw (s : State) (n : Nat) (c : Instr) : (schedule s n c).fw = s.fw := rfl
@[simp] theorem schedule_lnd (s : State) (n : Nat) (c : Instr) : (schedule s n c).lnd = s.lnd := rfl
@[simp] theorem schedule_pmc (s : State) (n : Nat) (c : Instr) : (schedule s n c).pmc = s.pmc := rfl
@[simp] theorem schedule_host (s : State) (n : Nat) (c : Instr) : (schedule s n c).host = s.host := rfl
@[simp] theorem schedule_heads (s : State) (n : Nat) (c : Instr) : (schedule s n c).heads = s.heads := rfl
@[simp] theorem schedule_taps (s : State) (n : Nat) (c : Instr) : (schedule s n c).taps = s.taps := rfl
@[simp] theorem schedule_groups (s : State) (n : Nat) (c : Instr) : (schedule s n c).groups = s.groups := rfl
@[simp] theorem schedule_pipe (s : State) (n : Nat) (c : Instr) : (schedule s n c).pipe = s.pipe := rfl
@[simp] theorem schedule_pwr (s : State) (n : Nat) (c : Instr) : (schedule s n c).pwr = s.pwr := rfl
@[simp] theorem schedule_shd (s : State) (n : Nat) (c : Instr) : (schedule s n c).shd = s.shd := rfl
@[simp] theorem schedule_mot (s : State) (n : Nat) (c : Instr) : (schedule s n c).mot = s.mot := rfl
@[simp] theorem schedule_lmp (s : State) (n : Nat) (c : Instr) : (schedule s n c).lmp = s.lmp := rfl
@[simp] theorem schedule_att (s : State) (n : Nat) (c : Instr) : (schedule s n c).att = s.att := rfl
@[simp] theorem schedule_aux (s : State) (n : Nat) (c : Instr) : (schedule s n c).aux = s.aux := rfl
@[simp] theorem schedule_recd (s : State) (n : Nat) (c : Instr) : (schedule s n c).recd = s.recd := rfl
@[simp] theorem schedule_hwy (s : State) (n : Nat) (c : Instr) : (schedule s n c).hwy = s.hwy := rfl
@[simp] theorem schedule_lnk (s : State) (n : Nat) (c : Instr) : (schedule s n c).lnk = s.lnk := rfl

@[simp] theorem cancel_pending (s : State) (c : Instr) : (cancel s c).pending = s.pending := rfl
@[simp] theorem cancel_time (s : State) (c : Instr) : (cancel s c).time = s.time := rfl
@[simp] theorem cancel_fresh (s : State) (c : Instr) : (cancel s c).fresh = s.fresh := rfl
@[simp] theorem cancel_regs (s : State) (c : Instr) : (cancel s c).regs = s.regs := rfl
@[simp] theorem cancel_active (s : State) (c : Instr) : (cancel s c).active = s.active := rfl
@[simp] theorem cancel_bandTick (s : State) (c : Instr) : (cancel s c).bandTick = s.bandTick := rfl
@[simp] theorem cancel_bandLog (s : State) (c : Instr) : (cancel s c).bandLog = s.bandLog := rfl
@[simp] theorem cancel_emits (s : State) (c : Instr) : (cancel s c).emits = s.emits := rfl
@[simp] theorem cancel_rdata (s : State) (c : Instr) : (cancel s c).rdata = s.rdata := rfl
@[simp] theorem cancel_shadow0 (s : State) (c : Instr) : (cancel s c).shadow0 = s.shadow0 := rfl
@[simp] theorem cancel_shadow4 (s : State) (c : Instr) : (cancel s c).shadow4 = s.shadow4 := rfl
@[simp] theorem cancel_shadowK (s : State) (c : Instr) : (cancel s c).shadowK = s.shadowK := rfl
@[simp] theorem cancel_mode (s : State) (c : Instr) : (cancel s c).mode = s.mode := rfl
@[simp] theorem cancel_start (s : State) (c : Instr) : (cancel s c).start = s.start := rfl
@[simp] theorem cancel_fw (s : State) (c : Instr) : (cancel s c).fw = s.fw := rfl
@[simp] theorem cancel_lnd (s : State) (c : Instr) : (cancel s c).lnd = s.lnd := rfl
@[simp] theorem cancel_pmc (s : State) (c : Instr) : (cancel s c).pmc = s.pmc := rfl
@[simp] theorem cancel_host (s : State) (c : Instr) : (cancel s c).host = s.host := rfl
@[simp] theorem cancel_heads (s : State) (c : Instr) : (cancel s c).heads = s.heads := rfl
@[simp] theorem cancel_taps (s : State) (c : Instr) : (cancel s c).taps = s.taps := rfl
@[simp] theorem cancel_groups (s : State) (c : Instr) : (cancel s c).groups = s.groups := rfl
@[simp] theorem cancel_pipe (s : State) (c : Instr) : (cancel s c).pipe = s.pipe := rfl
@[simp] theorem cancel_pwr (s : State) (c : Instr) : (cancel s c).pwr = s.pwr := rfl
@[simp] theorem cancel_shd (s : State) (c : Instr) : (cancel s c).shd = s.shd := rfl
@[simp] theorem cancel_mot (s : State) (c : Instr) : (cancel s c).mot = s.mot := rfl
@[simp] theorem cancel_lmp (s : State) (c : Instr) : (cancel s c).lmp = s.lmp := rfl
@[simp] theorem cancel_att (s : State) (c : Instr) : (cancel s c).att = s.att := rfl
@[simp] theorem cancel_aux (s : State) (c : Instr) : (cancel s c).aux = s.aux := rfl
@[simp] theorem cancel_recd (s : State) (c : Instr) : (cancel s c).recd = s.recd := rfl
@[simp] theorem cancel_hwy (s : State) (c : Instr) : (cancel s c).hwy = s.hwy := rfl
@[simp] theorem cancel_lnk (s : State) (c : Instr) : (cancel s c).lnk = s.lnk := rfl

@[simp] theorem emit_pending (s : State) (e : Emit) : (emit s e).pending = s.pending := rfl
@[simp] theorem emit_agenda (s : State) (e : Emit) : (emit s e).agenda = s.agenda := rfl
@[simp] theorem emit_time (s : State) (e : Emit) : (emit s e).time = s.time := rfl
@[simp] theorem emit_fresh (s : State) (e : Emit) : (emit s e).fresh = s.fresh := rfl
@[simp] theorem emit_regs (s : State) (e : Emit) : (emit s e).regs = s.regs := rfl
@[simp] theorem emit_active (s : State) (e : Emit) : (emit s e).active = s.active := rfl
@[simp] theorem emit_bandTick (s : State) (e : Emit) : (emit s e).bandTick = s.bandTick := rfl
@[simp] theorem emit_bandLog (s : State) (e : Emit) : (emit s e).bandLog = s.bandLog := rfl
@[simp] theorem emit_rdata (s : State) (e : Emit) : (emit s e).rdata = s.rdata := rfl
@[simp] theorem emit_shadow0 (s : State) (e : Emit) : (emit s e).shadow0 = s.shadow0 := rfl
@[simp] theorem emit_shadow4 (s : State) (e : Emit) : (emit s e).shadow4 = s.shadow4 := rfl
@[simp] theorem emit_shadowK (s : State) (e : Emit) : (emit s e).shadowK = s.shadowK := rfl
@[simp] theorem emit_mode (s : State) (e : Emit) : (emit s e).mode = s.mode := rfl
@[simp] theorem emit_start (s : State) (e : Emit) : (emit s e).start = s.start := rfl
@[simp] theorem emit_fw (s : State) (e : Emit) : (emit s e).fw = s.fw := rfl
@[simp] theorem emit_lnd (s : State) (e : Emit) : (emit s e).lnd = s.lnd := rfl
@[simp] theorem emit_pmc (s : State) (e : Emit) : (emit s e).pmc = s.pmc := rfl
@[simp] theorem emit_host (s : State) (e : Emit) : (emit s e).host = s.host := rfl
@[simp] theorem emit_heads (s : State) (e : Emit) : (emit s e).heads = s.heads := rfl
@[simp] theorem emit_taps (s : State) (e : Emit) : (emit s e).taps = s.taps := rfl
@[simp] theorem emit_groups (s : State) (e : Emit) : (emit s e).groups = s.groups := rfl
@[simp] theorem emit_pipe (s : State) (e : Emit) : (emit s e).pipe = s.pipe := rfl
@[simp] theorem emit_pwr (s : State) (e : Emit) : (emit s e).pwr = s.pwr := rfl
@[simp] theorem emit_shd (s : State) (e : Emit) : (emit s e).shd = s.shd := rfl
@[simp] theorem emit_mot (s : State) (e : Emit) : (emit s e).mot = s.mot := rfl
@[simp] theorem emit_lmp (s : State) (e : Emit) : (emit s e).lmp = s.lmp := rfl
@[simp] theorem emit_att (s : State) (e : Emit) : (emit s e).att = s.att := rfl
@[simp] theorem emit_aux (s : State) (e : Emit) : (emit s e).aux = s.aux := rfl
@[simp] theorem emit_recd (s : State) (e : Emit) : (emit s e).recd = s.recd := rfl
@[simp] theorem emit_hwy (s : State) (e : Emit) : (emit s e).hwy = s.hwy := rfl
@[simp] theorem emit_lnk (s : State) (e : Emit) : (emit s e).lnk = s.lnk := rfl

@[simp] theorem setHead_pending (s : State) (h : Nat) (x : HeadSt) : (setHead h x s).pending = s.pending := rfl
@[simp] theorem setHead_agenda (s : State) (h : Nat) (x : HeadSt) : (setHead h x s).agenda = s.agenda := rfl
@[simp] theorem setHead_time (s : State) (h : Nat) (x : HeadSt) : (setHead h x s).time = s.time := rfl
@[simp] theorem setHead_fresh (s : State) (h : Nat) (x : HeadSt) : (setHead h x s).fresh = s.fresh := rfl
@[simp] theorem setHead_regs (s : State) (h : Nat) (x : HeadSt) : (setHead h x s).regs = s.regs := rfl
@[simp] theorem setHead_active (s : State) (h : Nat) (x : HeadSt) : (setHead h x s).active = s.active := rfl
@[simp] theorem setHead_bandTick (s : State) (h : Nat) (x : HeadSt) : (setHead h x s).bandTick = s.bandTick := rfl
@[simp] theorem setHead_bandLog (s : State) (h : Nat) (x : HeadSt) : (setHead h x s).bandLog = s.bandLog := rfl
@[simp] theorem setHead_emits (s : State) (h : Nat) (x : HeadSt) : (setHead h x s).emits = s.emits := rfl
@[simp] theorem setHead_rdata (s : State) (h : Nat) (x : HeadSt) : (setHead h x s).rdata = s.rdata := rfl
@[simp] theorem setHead_shadow0 (s : State) (h : Nat) (x : HeadSt) : (setHead h x s).shadow0 = s.shadow0 := rfl
@[simp] theorem setHead_shadow4 (s : State) (h : Nat) (x : HeadSt) : (setHead h x s).shadow4 = s.shadow4 := rfl
@[simp] theorem setHead_shadowK (s : State) (h : Nat) (x : HeadSt) : (setHead h x s).shadowK = s.shadowK := rfl
@[simp] theorem setHead_mode (s : State) (h : Nat) (x : HeadSt) : (setHead h x s).mode = s.mode := rfl
@[simp] theorem setHead_start (s : State) (h : Nat) (x : HeadSt) : (setHead h x s).start = s.start := rfl
@[simp] theorem setHead_fw (s : State) (h : Nat) (x : HeadSt) : (setHead h x s).fw = s.fw := rfl
@[simp] theorem setHead_lnd (s : State) (h : Nat) (x : HeadSt) : (setHead h x s).lnd = s.lnd := rfl
@[simp] theorem setHead_pmc (s : State) (h : Nat) (x : HeadSt) : (setHead h x s).pmc = s.pmc := rfl
@[simp] theorem setHead_host (s : State) (h : Nat) (x : HeadSt) : (setHead h x s).host = s.host := rfl
@[simp] theorem setHead_taps (s : State) (h : Nat) (x : HeadSt) : (setHead h x s).taps = s.taps := rfl
@[simp] theorem setHead_groups (s : State) (h : Nat) (x : HeadSt) : (setHead h x s).groups = s.groups := rfl
@[simp] theorem setHead_pipe (s : State) (h : Nat) (x : HeadSt) : (setHead h x s).pipe = s.pipe := rfl
@[simp] theorem setHead_pwr (s : State) (h : Nat) (x : HeadSt) : (setHead h x s).pwr = s.pwr := rfl
@[simp] theorem setHead_shd (s : State) (h : Nat) (x : HeadSt) : (setHead h x s).shd = s.shd := rfl
@[simp] theorem setHead_mot (s : State) (h : Nat) (x : HeadSt) : (setHead h x s).mot = s.mot := rfl
@[simp] theorem setHead_lmp (s : State) (h : Nat) (x : HeadSt) : (setHead h x s).lmp = s.lmp := rfl
@[simp] theorem setHead_att (s : State) (h : Nat) (x : HeadSt) : (setHead h x s).att = s.att := rfl
@[simp] theorem setHead_aux (s : State) (h : Nat) (x : HeadSt) : (setHead h x s).aux = s.aux := rfl
@[simp] theorem setHead_recd (s : State) (h : Nat) (x : HeadSt) : (setHead h x s).recd = s.recd := rfl
@[simp] theorem setHead_hwy (s : State) (h : Nat) (x : HeadSt) : (setHead h x s).hwy = s.hwy := rfl
@[simp] theorem setHead_lnk (s : State) (h : Nat) (x : HeadSt) : (setHead h x s).lnk = s.lnk := rfl

@[simp] theorem setTap_pending (s : State) (k : Nat) (x : TapSt) : (setTap k x s).pending = s.pending := rfl
@[simp] theorem setTap_agenda (s : State) (k : Nat) (x : TapSt) : (setTap k x s).agenda = s.agenda := rfl
@[simp] theorem setTap_time (s : State) (k : Nat) (x : TapSt) : (setTap k x s).time = s.time := rfl
@[simp] theorem setTap_fresh (s : State) (k : Nat) (x : TapSt) : (setTap k x s).fresh = s.fresh := rfl
@[simp] theorem setTap_regs (s : State) (k : Nat) (x : TapSt) : (setTap k x s).regs = s.regs := rfl
@[simp] theorem setTap_active (s : State) (k : Nat) (x : TapSt) : (setTap k x s).active = s.active := rfl
@[simp] theorem setTap_bandTick (s : State) (k : Nat) (x : TapSt) : (setTap k x s).bandTick = s.bandTick := rfl
@[simp] theorem setTap_bandLog (s : State) (k : Nat) (x : TapSt) : (setTap k x s).bandLog = s.bandLog := rfl
@[simp] theorem setTap_emits (s : State) (k : Nat) (x : TapSt) : (setTap k x s).emits = s.emits := rfl
@[simp] theorem setTap_rdata (s : State) (k : Nat) (x : TapSt) : (setTap k x s).rdata = s.rdata := rfl
@[simp] theorem setTap_shadow0 (s : State) (k : Nat) (x : TapSt) : (setTap k x s).shadow0 = s.shadow0 := rfl
@[simp] theorem setTap_shadow4 (s : State) (k : Nat) (x : TapSt) : (setTap k x s).shadow4 = s.shadow4 := rfl
@[simp] theorem setTap_shadowK (s : State) (k : Nat) (x : TapSt) : (setTap k x s).shadowK = s.shadowK := rfl
@[simp] theorem setTap_mode (s : State) (k : Nat) (x : TapSt) : (setTap k x s).mode = s.mode := rfl
@[simp] theorem setTap_start (s : State) (k : Nat) (x : TapSt) : (setTap k x s).start = s.start := rfl
@[simp] theorem setTap_fw (s : State) (k : Nat) (x : TapSt) : (setTap k x s).fw = s.fw := rfl
@[simp] theorem setTap_lnd (s : State) (k : Nat) (x : TapSt) : (setTap k x s).lnd = s.lnd := rfl
@[simp] theorem setTap_pmc (s : State) (k : Nat) (x : TapSt) : (setTap k x s).pmc = s.pmc := rfl
@[simp] theorem setTap_host (s : State) (k : Nat) (x : TapSt) : (setTap k x s).host = s.host := rfl
@[simp] theorem setTap_heads (s : State) (k : Nat) (x : TapSt) : (setTap k x s).heads = s.heads := rfl
@[simp] theorem setTap_groups (s : State) (k : Nat) (x : TapSt) : (setTap k x s).groups = s.groups := rfl
@[simp] theorem setTap_pipe (s : State) (k : Nat) (x : TapSt) : (setTap k x s).pipe = s.pipe := rfl
@[simp] theorem setTap_pwr (s : State) (k : Nat) (x : TapSt) : (setTap k x s).pwr = s.pwr := rfl
@[simp] theorem setTap_shd (s : State) (k : Nat) (x : TapSt) : (setTap k x s).shd = s.shd := rfl
@[simp] theorem setTap_mot (s : State) (k : Nat) (x : TapSt) : (setTap k x s).mot = s.mot := rfl
@[simp] theorem setTap_lmp (s : State) (k : Nat) (x : TapSt) : (setTap k x s).lmp = s.lmp := rfl
@[simp] theorem setTap_att (s : State) (k : Nat) (x : TapSt) : (setTap k x s).att = s.att := rfl
@[simp] theorem setTap_aux (s : State) (k : Nat) (x : TapSt) : (setTap k x s).aux = s.aux := rfl
@[simp] theorem setTap_recd (s : State) (k : Nat) (x : TapSt) : (setTap k x s).recd = s.recd := rfl
@[simp] theorem setTap_hwy (s : State) (k : Nat) (x : TapSt) : (setTap k x s).hwy = s.hwy := rfl
@[simp] theorem setTap_lnk (s : State) (k : Nat) (x : TapSt) : (setTap k x s).lnk = s.lnk := rfl

@[simp] theorem setGroup_pending (s : State) (g : Nat) (x : GroupSt) : (setGroup g x s).pending = s.pending := rfl
@[simp] theorem setGroup_agenda (s : State) (g : Nat) (x : GroupSt) : (setGroup g x s).agenda = s.agenda := rfl
@[simp] theorem setGroup_time (s : State) (g : Nat) (x : GroupSt) : (setGroup g x s).time = s.time := rfl
@[simp] theorem setGroup_fresh (s : State) (g : Nat) (x : GroupSt) : (setGroup g x s).fresh = s.fresh := rfl
@[simp] theorem setGroup_regs (s : State) (g : Nat) (x : GroupSt) : (setGroup g x s).regs = s.regs := rfl
@[simp] theorem setGroup_active (s : State) (g : Nat) (x : GroupSt) : (setGroup g x s).active = s.active := rfl
@[simp] theorem setGroup_bandTick (s : State) (g : Nat) (x : GroupSt) : (setGroup g x s).bandTick = s.bandTick := rfl
@[simp] theorem setGroup_bandLog (s : State) (g : Nat) (x : GroupSt) : (setGroup g x s).bandLog = s.bandLog := rfl
@[simp] theorem setGroup_emits (s : State) (g : Nat) (x : GroupSt) : (setGroup g x s).emits = s.emits := rfl
@[simp] theorem setGroup_rdata (s : State) (g : Nat) (x : GroupSt) : (setGroup g x s).rdata = s.rdata := rfl
@[simp] theorem setGroup_shadow0 (s : State) (g : Nat) (x : GroupSt) : (setGroup g x s).shadow0 = s.shadow0 := rfl
@[simp] theorem setGroup_shadow4 (s : State) (g : Nat) (x : GroupSt) : (setGroup g x s).shadow4 = s.shadow4 := rfl
@[simp] theorem setGroup_shadowK (s : State) (g : Nat) (x : GroupSt) : (setGroup g x s).shadowK = s.shadowK := rfl
@[simp] theorem setGroup_mode (s : State) (g : Nat) (x : GroupSt) : (setGroup g x s).mode = s.mode := rfl
@[simp] theorem setGroup_start (s : State) (g : Nat) (x : GroupSt) : (setGroup g x s).start = s.start := rfl
@[simp] theorem setGroup_fw (s : State) (g : Nat) (x : GroupSt) : (setGroup g x s).fw = s.fw := rfl
@[simp] theorem setGroup_lnd (s : State) (g : Nat) (x : GroupSt) : (setGroup g x s).lnd = s.lnd := rfl
@[simp] theorem setGroup_pmc (s : State) (g : Nat) (x : GroupSt) : (setGroup g x s).pmc = s.pmc := rfl
@[simp] theorem setGroup_host (s : State) (g : Nat) (x : GroupSt) : (setGroup g x s).host = s.host := rfl
@[simp] theorem setGroup_heads (s : State) (g : Nat) (x : GroupSt) : (setGroup g x s).heads = s.heads := rfl
@[simp] theorem setGroup_taps (s : State) (g : Nat) (x : GroupSt) : (setGroup g x s).taps = s.taps := rfl
@[simp] theorem setGroup_pipe (s : State) (g : Nat) (x : GroupSt) : (setGroup g x s).pipe = s.pipe := rfl
@[simp] theorem setGroup_pwr (s : State) (g : Nat) (x : GroupSt) : (setGroup g x s).pwr = s.pwr := rfl
@[simp] theorem setGroup_shd (s : State) (g : Nat) (x : GroupSt) : (setGroup g x s).shd = s.shd := rfl
@[simp] theorem setGroup_mot (s : State) (g : Nat) (x : GroupSt) : (setGroup g x s).mot = s.mot := rfl
@[simp] theorem setGroup_lmp (s : State) (g : Nat) (x : GroupSt) : (setGroup g x s).lmp = s.lmp := rfl
@[simp] theorem setGroup_att (s : State) (g : Nat) (x : GroupSt) : (setGroup g x s).att = s.att := rfl
@[simp] theorem setGroup_aux (s : State) (g : Nat) (x : GroupSt) : (setGroup g x s).aux = s.aux := rfl
@[simp] theorem setGroup_recd (s : State) (g : Nat) (x : GroupSt) : (setGroup g x s).recd = s.recd := rfl
@[simp] theorem setGroup_hwy (s : State) (g : Nat) (x : GroupSt) : (setGroup g x s).hwy = s.hwy := rfl
@[simp] theorem setGroup_lnk (s : State) (g : Nat) (x : GroupSt) : (setGroup g x s).lnk = s.lnk := rfl

@[simp] theorem setAxis_pending (s : State) (m : Nat) (x : AxisSt) : (setAxis m x s).pending = s.pending := rfl
@[simp] theorem setAxis_agenda (s : State) (m : Nat) (x : AxisSt) : (setAxis m x s).agenda = s.agenda := rfl
@[simp] theorem setAxis_time (s : State) (m : Nat) (x : AxisSt) : (setAxis m x s).time = s.time := rfl
@[simp] theorem setAxis_fresh (s : State) (m : Nat) (x : AxisSt) : (setAxis m x s).fresh = s.fresh := rfl
@[simp] theorem setAxis_regs (s : State) (m : Nat) (x : AxisSt) : (setAxis m x s).regs = s.regs := rfl
@[simp] theorem setAxis_active (s : State) (m : Nat) (x : AxisSt) : (setAxis m x s).active = s.active := rfl
@[simp] theorem setAxis_bandTick (s : State) (m : Nat) (x : AxisSt) : (setAxis m x s).bandTick = s.bandTick := rfl
@[simp] theorem setAxis_bandLog (s : State) (m : Nat) (x : AxisSt) : (setAxis m x s).bandLog = s.bandLog := rfl
@[simp] theorem setAxis_emits (s : State) (m : Nat) (x : AxisSt) : (setAxis m x s).emits = s.emits := rfl
@[simp] theorem setAxis_rdata (s : State) (m : Nat) (x : AxisSt) : (setAxis m x s).rdata = s.rdata := rfl
@[simp] theorem setAxis_shadow0 (s : State) (m : Nat) (x : AxisSt) : (setAxis m x s).shadow0 = s.shadow0 := rfl
@[simp] theorem setAxis_shadow4 (s : State) (m : Nat) (x : AxisSt) : (setAxis m x s).shadow4 = s.shadow4 := rfl
@[simp] theorem setAxis_shadowK (s : State) (m : Nat) (x : AxisSt) : (setAxis m x s).shadowK = s.shadowK := rfl
@[simp] theorem setAxis_mode (s : State) (m : Nat) (x : AxisSt) : (setAxis m x s).mode = s.mode := rfl
@[simp] theorem setAxis_start (s : State) (m : Nat) (x : AxisSt) : (setAxis m x s).start = s.start := rfl
@[simp] theorem setAxis_fw (s : State) (m : Nat) (x : AxisSt) : (setAxis m x s).fw = s.fw := rfl
@[simp] theorem setAxis_lnd (s : State) (m : Nat) (x : AxisSt) : (setAxis m x s).lnd = s.lnd := rfl
@[simp] theorem setAxis_pmc (s : State) (m : Nat) (x : AxisSt) : (setAxis m x s).pmc = s.pmc := rfl
@[simp] theorem setAxis_host (s : State) (m : Nat) (x : AxisSt) : (setAxis m x s).host = s.host := rfl
@[simp] theorem setAxis_heads (s : State) (m : Nat) (x : AxisSt) : (setAxis m x s).heads = s.heads := rfl
@[simp] theorem setAxis_taps (s : State) (m : Nat) (x : AxisSt) : (setAxis m x s).taps = s.taps := rfl
@[simp] theorem setAxis_groups (s : State) (m : Nat) (x : AxisSt) : (setAxis m x s).groups = s.groups := rfl
@[simp] theorem setAxis_pipe (s : State) (m : Nat) (x : AxisSt) : (setAxis m x s).pipe = s.pipe := rfl
@[simp] theorem setAxis_pwr (s : State) (m : Nat) (x : AxisSt) : (setAxis m x s).pwr = s.pwr := rfl
@[simp] theorem setAxis_shd (s : State) (m : Nat) (x : AxisSt) : (setAxis m x s).shd = s.shd := rfl
@[simp] theorem setAxis_lmp (s : State) (m : Nat) (x : AxisSt) : (setAxis m x s).lmp = s.lmp := rfl
@[simp] theorem setAxis_att (s : State) (m : Nat) (x : AxisSt) : (setAxis m x s).att = s.att := rfl
@[simp] theorem setAxis_aux (s : State) (m : Nat) (x : AxisSt) : (setAxis m x s).aux = s.aux := rfl
@[simp] theorem setAxis_recd (s : State) (m : Nat) (x : AxisSt) : (setAxis m x s).recd = s.recd := rfl
@[simp] theorem setAxis_hwy (s : State) (m : Nat) (x : AxisSt) : (setAxis m x s).hwy = s.hwy := rfl
@[simp] theorem setAxis_lnk (s : State) (m : Nat) (x : AxisSt) : (setAxis m x s).lnk = s.lnk := rfl

@[simp] theorem setDoc_pending (s : State) (h : Nat) (x : DocSt) : (setDoc h x s).pending = s.pending := rfl
@[simp] theorem setDoc_agenda (s : State) (h : Nat) (x : DocSt) : (setDoc h x s).agenda = s.agenda := rfl
@[simp] theorem setDoc_time (s : State) (h : Nat) (x : DocSt) : (setDoc h x s).time = s.time := rfl
@[simp] theorem setDoc_fresh (s : State) (h : Nat) (x : DocSt) : (setDoc h x s).fresh = s.fresh := rfl
@[simp] theorem setDoc_regs (s : State) (h : Nat) (x : DocSt) : (setDoc h x s).regs = s.regs := rfl
@[simp] theorem setDoc_active (s : State) (h : Nat) (x : DocSt) : (setDoc h x s).active = s.active := rfl
@[simp] theorem setDoc_bandTick (s : State) (h : Nat) (x : DocSt) : (setDoc h x s).bandTick = s.bandTick := rfl
@[simp] theorem setDoc_bandLog (s : State) (h : Nat) (x : DocSt) : (setDoc h x s).bandLog = s.bandLog := rfl
@[simp] theorem setDoc_emits (s : State) (h : Nat) (x : DocSt) : (setDoc h x s).emits = s.emits := rfl
@[simp] theorem setDoc_rdata (s : State) (h : Nat) (x : DocSt) : (setDoc h x s).rdata = s.rdata := rfl
@[simp] theorem setDoc_shadow0 (s : State) (h : Nat) (x : DocSt) : (setDoc h x s).shadow0 = s.shadow0 := rfl
@[simp] theorem setDoc_shadow4 (s : State) (h : Nat) (x : DocSt) : (setDoc h x s).shadow4 = s.shadow4 := rfl
@[simp] theorem setDoc_shadowK (s : State) (h : Nat) (x : DocSt) : (setDoc h x s).shadowK = s.shadowK := rfl
@[simp] theorem setDoc_mode (s : State) (h : Nat) (x : DocSt) : (setDoc h x s).mode = s.mode := rfl
@[simp] theorem setDoc_start (s : State) (h : Nat) (x : DocSt) : (setDoc h x s).start = s.start := rfl
@[simp] theorem setDoc_fw (s : State) (h : Nat) (x : DocSt) : (setDoc h x s).fw = s.fw := rfl
@[simp] theorem setDoc_lnd (s : State) (h : Nat) (x : DocSt) : (setDoc h x s).lnd = s.lnd := rfl
@[simp] theorem setDoc_pmc (s : State) (h : Nat) (x : DocSt) : (setDoc h x s).pmc = s.pmc := rfl
@[simp] theorem setDoc_host (s : State) (h : Nat) (x : DocSt) : (setDoc h x s).host = s.host := rfl
@[simp] theorem setDoc_heads (s : State) (h : Nat) (x : DocSt) : (setDoc h x s).heads = s.heads := rfl
@[simp] theorem setDoc_taps (s : State) (h : Nat) (x : DocSt) : (setDoc h x s).taps = s.taps := rfl
@[simp] theorem setDoc_groups (s : State) (h : Nat) (x : DocSt) : (setDoc h x s).groups = s.groups := rfl
@[simp] theorem setDoc_pipe (s : State) (h : Nat) (x : DocSt) : (setDoc h x s).pipe = s.pipe := rfl
@[simp] theorem setDoc_pwr (s : State) (h : Nat) (x : DocSt) : (setDoc h x s).pwr = s.pwr := rfl
@[simp] theorem setDoc_shd (s : State) (h : Nat) (x : DocSt) : (setDoc h x s).shd = s.shd := rfl
@[simp] theorem setDoc_lmp (s : State) (h : Nat) (x : DocSt) : (setDoc h x s).lmp = s.lmp := rfl
@[simp] theorem setDoc_att (s : State) (h : Nat) (x : DocSt) : (setDoc h x s).att = s.att := rfl
@[simp] theorem setDoc_aux (s : State) (h : Nat) (x : DocSt) : (setDoc h x s).aux = s.aux := rfl
@[simp] theorem setDoc_recd (s : State) (h : Nat) (x : DocSt) : (setDoc h x s).recd = s.recd := rfl
@[simp] theorem setDoc_hwy (s : State) (h : Nat) (x : DocSt) : (setDoc h x s).hwy = s.hwy := rfl
@[simp] theorem setDoc_lnk (s : State) (h : Nat) (x : DocSt) : (setDoc h x s).lnk = s.lnk := rfl

@[simp] theorem setStr_pending (s : State) (k : Nat) (x : StrSt) : (setStr k x s).pending = s.pending := rfl
@[simp] theorem setStr_agenda (s : State) (k : Nat) (x : StrSt) : (setStr k x s).agenda = s.agenda := rfl
@[simp] theorem setStr_time (s : State) (k : Nat) (x : StrSt) : (setStr k x s).time = s.time := rfl
@[simp] theorem setStr_fresh (s : State) (k : Nat) (x : StrSt) : (setStr k x s).fresh = s.fresh := rfl
@[simp] theorem setStr_regs (s : State) (k : Nat) (x : StrSt) : (setStr k x s).regs = s.regs := rfl
@[simp] theorem setStr_active (s : State) (k : Nat) (x : StrSt) : (setStr k x s).active = s.active := rfl
@[simp] theorem setStr_bandTick (s : State) (k : Nat) (x : StrSt) : (setStr k x s).bandTick = s.bandTick := rfl
@[simp] theorem setStr_bandLog (s : State) (k : Nat) (x : StrSt) : (setStr k x s).bandLog = s.bandLog := rfl
@[simp] theorem setStr_emits (s : State) (k : Nat) (x : StrSt) : (setStr k x s).emits = s.emits := rfl
@[simp] theorem setStr_rdata (s : State) (k : Nat) (x : StrSt) : (setStr k x s).rdata = s.rdata := rfl
@[simp] theorem setStr_shadow0 (s : State) (k : Nat) (x : StrSt) : (setStr k x s).shadow0 = s.shadow0 := rfl
@[simp] theorem setStr_shadow4 (s : State) (k : Nat) (x : StrSt) : (setStr k x s).shadow4 = s.shadow4 := rfl
@[simp] theorem setStr_shadowK (s : State) (k : Nat) (x : StrSt) : (setStr k x s).shadowK = s.shadowK := rfl
@[simp] theorem setStr_mode (s : State) (k : Nat) (x : StrSt) : (setStr k x s).mode = s.mode := rfl
@[simp] theorem setStr_start (s : State) (k : Nat) (x : StrSt) : (setStr k x s).start = s.start := rfl
@[simp] theorem setStr_fw (s : State) (k : Nat) (x : StrSt) : (setStr k x s).fw = s.fw := rfl
@[simp] theorem setStr_lnd (s : State) (k : Nat) (x : StrSt) : (setStr k x s).lnd = s.lnd := rfl
@[simp] theorem setStr_pmc (s : State) (k : Nat) (x : StrSt) : (setStr k x s).pmc = s.pmc := rfl
@[simp] theorem setStr_host (s : State) (k : Nat) (x : StrSt) : (setStr k x s).host = s.host := rfl
@[simp] theorem setStr_heads (s : State) (k : Nat) (x : StrSt) : (setStr k x s).heads = s.heads := rfl
@[simp] theorem setStr_taps (s : State) (k : Nat) (x : StrSt) : (setStr k x s).taps = s.taps := rfl
@[simp] theorem setStr_groups (s : State) (k : Nat) (x : StrSt) : (setStr k x s).groups = s.groups := rfl
@[simp] theorem setStr_pipe (s : State) (k : Nat) (x : StrSt) : (setStr k x s).pipe = s.pipe := rfl
@[simp] theorem setStr_pwr (s : State) (k : Nat) (x : StrSt) : (setStr k x s).pwr = s.pwr := rfl
@[simp] theorem setStr_shd (s : State) (k : Nat) (x : StrSt) : (setStr k x s).shd = s.shd := rfl
@[simp] theorem setStr_mot (s : State) (k : Nat) (x : StrSt) : (setStr k x s).mot = s.mot := rfl
@[simp] theorem setStr_att (s : State) (k : Nat) (x : StrSt) : (setStr k x s).att = s.att := rfl
@[simp] theorem setStr_aux (s : State) (k : Nat) (x : StrSt) : (setStr k x s).aux = s.aux := rfl
@[simp] theorem setStr_recd (s : State) (k : Nat) (x : StrSt) : (setStr k x s).recd = s.recd := rfl
@[simp] theorem setStr_hwy (s : State) (k : Nat) (x : StrSt) : (setStr k x s).hwy = s.hwy := rfl
@[simp] theorem setStr_lnk (s : State) (k : Nat) (x : StrSt) : (setStr k x s).lnk = s.lnk := rfl

@[simp] theorem setCv_pending (s : State) (c : Nat) (x : CvSt) : (setCv c x s).pending = s.pending := rfl
@[simp] theorem setCv_agenda (s : State) (c : Nat) (x : CvSt) : (setCv c x s).agenda = s.agenda := rfl
@[simp] theorem setCv_time (s : State) (c : Nat) (x : CvSt) : (setCv c x s).time = s.time := rfl
@[simp] theorem setCv_fresh (s : State) (c : Nat) (x : CvSt) : (setCv c x s).fresh = s.fresh := rfl
@[simp] theorem setCv_regs (s : State) (c : Nat) (x : CvSt) : (setCv c x s).regs = s.regs := rfl
@[simp] theorem setCv_active (s : State) (c : Nat) (x : CvSt) : (setCv c x s).active = s.active := rfl
@[simp] theorem setCv_bandTick (s : State) (c : Nat) (x : CvSt) : (setCv c x s).bandTick = s.bandTick := rfl
@[simp] theorem setCv_bandLog (s : State) (c : Nat) (x : CvSt) : (setCv c x s).bandLog = s.bandLog := rfl
@[simp] theorem setCv_emits (s : State) (c : Nat) (x : CvSt) : (setCv c x s).emits = s.emits := rfl
@[simp] theorem setCv_rdata (s : State) (c : Nat) (x : CvSt) : (setCv c x s).rdata = s.rdata := rfl
@[simp] theorem setCv_shadow0 (s : State) (c : Nat) (x : CvSt) : (setCv c x s).shadow0 = s.shadow0 := rfl
@[simp] theorem setCv_shadow4 (s : State) (c : Nat) (x : CvSt) : (setCv c x s).shadow4 = s.shadow4 := rfl
@[simp] theorem setCv_shadowK (s : State) (c : Nat) (x : CvSt) : (setCv c x s).shadowK = s.shadowK := rfl
@[simp] theorem setCv_mode (s : State) (c : Nat) (x : CvSt) : (setCv c x s).mode = s.mode := rfl
@[simp] theorem setCv_start (s : State) (c : Nat) (x : CvSt) : (setCv c x s).start = s.start := rfl
@[simp] theorem setCv_fw (s : State) (c : Nat) (x : CvSt) : (setCv c x s).fw = s.fw := rfl
@[simp] theorem setCv_lnd (s : State) (c : Nat) (x : CvSt) : (setCv c x s).lnd = s.lnd := rfl
@[simp] theorem setCv_pmc (s : State) (c : Nat) (x : CvSt) : (setCv c x s).pmc = s.pmc := rfl
@[simp] theorem setCv_host (s : State) (c : Nat) (x : CvSt) : (setCv c x s).host = s.host := rfl
@[simp] theorem setCv_heads (s : State) (c : Nat) (x : CvSt) : (setCv c x s).heads = s.heads := rfl
@[simp] theorem setCv_taps (s : State) (c : Nat) (x : CvSt) : (setCv c x s).taps = s.taps := rfl
@[simp] theorem setCv_groups (s : State) (c : Nat) (x : CvSt) : (setCv c x s).groups = s.groups := rfl
@[simp] theorem setCv_pipe (s : State) (c : Nat) (x : CvSt) : (setCv c x s).pipe = s.pipe := rfl
@[simp] theorem setCv_pwr (s : State) (c : Nat) (x : CvSt) : (setCv c x s).pwr = s.pwr := rfl
@[simp] theorem setCv_shd (s : State) (c : Nat) (x : CvSt) : (setCv c x s).shd = s.shd := rfl
@[simp] theorem setCv_mot (s : State) (c : Nat) (x : CvSt) : (setCv c x s).mot = s.mot := rfl
@[simp] theorem setCv_lmp (s : State) (c : Nat) (x : CvSt) : (setCv c x s).lmp = s.lmp := rfl
@[simp] theorem setCv_att (s : State) (c : Nat) (x : CvSt) : (setCv c x s).att = s.att := rfl
@[simp] theorem setCv_recd (s : State) (c : Nat) (x : CvSt) : (setCv c x s).recd = s.recd := rfl
@[simp] theorem setCv_hwy (s : State) (c : Nat) (x : CvSt) : (setCv c x s).hwy = s.hwy := rfl
@[simp] theorem setCv_lnk (s : State) (c : Nat) (x : CvSt) : (setCv c x s).lnk = s.lnk := rfl

/-! What a read of a register gives after an update that leaves the registers alone, and of a unit after a write of another. -/

@[simp] theorem act_setRaw (s : State) (off v : Nat) (o : Nat) : act (setRaw s off v) o = act s o := rfl
@[simp] theorem act_fset (s : State) (f : Fld) (x : Nat) (o : Nat) : act (fset s f x) o = act s o := rfl
@[simp] theorem act_setFlag (s : State) (f : Fld) (b : Bool) (o : Nat) : act (setFlag s f b) o = act s o := rfl
@[simp] theorem reg_activate (s : State) (off : Nat) (o : Nat) : reg (activate s off) o = reg s o := rfl
@[simp] theorem raw_activate (s : State) (off : Nat) (o : Nat) : raw (activate s off) o = raw s o := rfl
@[simp] theorem fget_activate (s : State) (off : Nat) (q : Fld) : fget (activate s off) q = fget s q := rfl
@[simp] theorem flag_activate (s : State) (off : Nat) (q : Fld) : flag (activate s off) q = flag s q := rfl
@[simp] theorem reg_schedule (s : State) (n : Nat) (c : Instr) (o : Nat) : reg (schedule s n c) o = reg s o := rfl
@[simp] theorem raw_schedule (s : State) (n : Nat) (c : Instr) (o : Nat) : raw (schedule s n c) o = raw s o := rfl
@[simp] theorem fget_schedule (s : State) (n : Nat) (c : Instr) (q : Fld) : fget (schedule s n c) q = fget s q := rfl
@[simp] theorem flag_schedule (s : State) (n : Nat) (c : Instr) (q : Fld) : flag (schedule s n c) q = flag s q := rfl
@[simp] theorem act_schedule (s : State) (n : Nat) (c : Instr) (o : Nat) : act (schedule s n c) o = act s o := rfl
@[simp] theorem reg_cancel (s : State) (c : Instr) (o : Nat) : reg (cancel s c) o = reg s o := rfl
@[simp] theorem raw_cancel (s : State) (c : Instr) (o : Nat) : raw (cancel s c) o = raw s o := rfl
@[simp] theorem fget_cancel (s : State) (c : Instr) (q : Fld) : fget (cancel s c) q = fget s q := rfl
@[simp] theorem flag_cancel (s : State) (c : Instr) (q : Fld) : flag (cancel s c) q = flag s q := rfl
@[simp] theorem act_cancel (s : State) (c : Instr) (o : Nat) : act (cancel s c) o = act s o := rfl
@[simp] theorem reg_emit (s : State) (e : Emit) (o : Nat) : reg (emit s e) o = reg s o := rfl
@[simp] theorem raw_emit (s : State) (e : Emit) (o : Nat) : raw (emit s e) o = raw s o := rfl
@[simp] theorem fget_emit (s : State) (e : Emit) (q : Fld) : fget (emit s e) q = fget s q := rfl
@[simp] theorem flag_emit (s : State) (e : Emit) (q : Fld) : flag (emit s e) q = flag s q := rfl
@[simp] theorem act_emit (s : State) (e : Emit) (o : Nat) : act (emit s e) o = act s o := rfl
@[simp] theorem reg_setHead (s : State) (h : Nat) (x : HeadSt) (o : Nat) : reg (setHead h x s) o = reg s o := rfl
@[simp] theorem raw_setHead (s : State) (h : Nat) (x : HeadSt) (o : Nat) : raw (setHead h x s) o = raw s o := rfl
@[simp] theorem fget_setHead (s : State) (h : Nat) (x : HeadSt) (q : Fld) : fget (setHead h x s) q = fget s q := rfl
@[simp] theorem flag_setHead (s : State) (h : Nat) (x : HeadSt) (q : Fld) : flag (setHead h x s) q = flag s q := rfl
@[simp] theorem act_setHead (s : State) (h : Nat) (x : HeadSt) (o : Nat) : act (setHead h x s) o = act s o := rfl
@[simp] theorem reg_setTap (s : State) (k : Nat) (x : TapSt) (o : Nat) : reg (setTap k x s) o = reg s o := rfl
@[simp] theorem raw_setTap (s : State) (k : Nat) (x : TapSt) (o : Nat) : raw (setTap k x s) o = raw s o := rfl
@[simp] theorem fget_setTap (s : State) (k : Nat) (x : TapSt) (q : Fld) : fget (setTap k x s) q = fget s q := rfl
@[simp] theorem flag_setTap (s : State) (k : Nat) (x : TapSt) (q : Fld) : flag (setTap k x s) q = flag s q := rfl
@[simp] theorem act_setTap (s : State) (k : Nat) (x : TapSt) (o : Nat) : act (setTap k x s) o = act s o := rfl
@[simp] theorem reg_setGroup (s : State) (g : Nat) (x : GroupSt) (o : Nat) : reg (setGroup g x s) o = reg s o := rfl
@[simp] theorem raw_setGroup (s : State) (g : Nat) (x : GroupSt) (o : Nat) : raw (setGroup g x s) o = raw s o := rfl
@[simp] theorem fget_setGroup (s : State) (g : Nat) (x : GroupSt) (q : Fld) : fget (setGroup g x s) q = fget s q := rfl
@[simp] theorem flag_setGroup (s : State) (g : Nat) (x : GroupSt) (q : Fld) : flag (setGroup g x s) q = flag s q := rfl
@[simp] theorem act_setGroup (s : State) (g : Nat) (x : GroupSt) (o : Nat) : act (setGroup g x s) o = act s o := rfl
@[simp] theorem reg_setAxis (s : State) (m : Nat) (x : AxisSt) (o : Nat) : reg (setAxis m x s) o = reg s o := rfl
@[simp] theorem raw_setAxis (s : State) (m : Nat) (x : AxisSt) (o : Nat) : raw (setAxis m x s) o = raw s o := rfl
@[simp] theorem fget_setAxis (s : State) (m : Nat) (x : AxisSt) (q : Fld) : fget (setAxis m x s) q = fget s q := rfl
@[simp] theorem flag_setAxis (s : State) (m : Nat) (x : AxisSt) (q : Fld) : flag (setAxis m x s) q = flag s q := rfl
@[simp] theorem act_setAxis (s : State) (m : Nat) (x : AxisSt) (o : Nat) : act (setAxis m x s) o = act s o := rfl
@[simp] theorem reg_setDoc (s : State) (h : Nat) (x : DocSt) (o : Nat) : reg (setDoc h x s) o = reg s o := rfl
@[simp] theorem raw_setDoc (s : State) (h : Nat) (x : DocSt) (o : Nat) : raw (setDoc h x s) o = raw s o := rfl
@[simp] theorem fget_setDoc (s : State) (h : Nat) (x : DocSt) (q : Fld) : fget (setDoc h x s) q = fget s q := rfl
@[simp] theorem flag_setDoc (s : State) (h : Nat) (x : DocSt) (q : Fld) : flag (setDoc h x s) q = flag s q := rfl
@[simp] theorem act_setDoc (s : State) (h : Nat) (x : DocSt) (o : Nat) : act (setDoc h x s) o = act s o := rfl
@[simp] theorem reg_setStr (s : State) (k : Nat) (x : StrSt) (o : Nat) : reg (setStr k x s) o = reg s o := rfl
@[simp] theorem raw_setStr (s : State) (k : Nat) (x : StrSt) (o : Nat) : raw (setStr k x s) o = raw s o := rfl
@[simp] theorem fget_setStr (s : State) (k : Nat) (x : StrSt) (q : Fld) : fget (setStr k x s) q = fget s q := rfl
@[simp] theorem flag_setStr (s : State) (k : Nat) (x : StrSt) (q : Fld) : flag (setStr k x s) q = flag s q := rfl
@[simp] theorem act_setStr (s : State) (k : Nat) (x : StrSt) (o : Nat) : act (setStr k x s) o = act s o := rfl
@[simp] theorem reg_setCv (s : State) (c : Nat) (x : CvSt) (o : Nat) : reg (setCv c x s) o = reg s o := rfl
@[simp] theorem raw_setCv (s : State) (c : Nat) (x : CvSt) (o : Nat) : raw (setCv c x s) o = raw s o := rfl
@[simp] theorem fget_setCv (s : State) (c : Nat) (x : CvSt) (q : Fld) : fget (setCv c x s) q = fget s q := rfl
@[simp] theorem flag_setCv (s : State) (c : Nat) (x : CvSt) (q : Fld) : flag (setCv c x s) q = flag s q := rfl
@[simp] theorem act_setCv (s : State) (c : Nat) (x : CvSt) (o : Nat) : act (setCv c x s) o = act s o := rfl

@[simp] theorem getHead_setHead (s : State) (k : Nat) (x : HeadSt) : getHead (setHead k x s) k = x := tget_tset
theorem getHead_setHead_other (s : State) (x : HeadSt) {k j : Nat} (h : j ≠ k) : getHead (setHead k x s) j = getHead s j := tget_tset_other h
@[simp] theorem getHead_setRaw (s : State) (off v : Nat) (j : Nat) : getHead (setRaw s off v) j = getHead s j := rfl
@[simp] theorem getHead_fset (s : State) (f : Fld) (x : Nat) (j : Nat) : getHead (fset s f x) j = getHead s j := rfl
@[simp] theorem getHead_setFlag (s : State) (f : Fld) (b : Bool) (j : Nat) : getHead (setFlag s f b) j = getHead s j := rfl
@[simp] theorem getHead_activate (s : State) (off : Nat) (j : Nat) : getHead (activate s off) j = getHead s j := rfl
@[simp] theorem getHead_schedule (s : State) (n : Nat) (c : Instr) (j : Nat) : getHead (schedule s n c) j = getHead s j := rfl
@[simp] theorem getHead_cancel (s : State) (c : Instr) (j : Nat) : getHead (cancel s c) j = getHead s j := rfl
@[simp] theorem getHead_emit (s : State) (e : Emit) (j : Nat) : getHead (emit s e) j = getHead s j := rfl
@[simp] theorem getHead_setTap (s : State) (k : Nat) (x : TapSt) (j : Nat) : getHead (setTap k x s) j = getHead s j := rfl
@[simp] theorem getHead_setGroup (s : State) (g : Nat) (x : GroupSt) (j : Nat) : getHead (setGroup g x s) j = getHead s j := rfl
@[simp] theorem getHead_setAxis (s : State) (m : Nat) (x : AxisSt) (j : Nat) : getHead (setAxis m x s) j = getHead s j := rfl
@[simp] theorem getHead_setDoc (s : State) (h : Nat) (x : DocSt) (j : Nat) : getHead (setDoc h x s) j = getHead s j := rfl
@[simp] theorem getHead_setStr (s : State) (k : Nat) (x : StrSt) (j : Nat) : getHead (setStr k x s) j = getHead s j := rfl
@[simp] theorem getHead_setCv (s : State) (c : Nat) (x : CvSt) (j : Nat) : getHead (setCv c x s) j = getHead s j := rfl
@[simp] theorem getTap_setTap (s : State) (k : Nat) (x : TapSt) : getTap (setTap k x s) k = x := tget_tset
theorem getTap_setTap_other (s : State) (x : TapSt) {k j : Nat} (h : j ≠ k) : getTap (setTap k x s) j = getTap s j := tget_tset_other h
@[simp] theorem getTap_setRaw (s : State) (off v : Nat) (j : Nat) : getTap (setRaw s off v) j = getTap s j := rfl
@[simp] theorem getTap_fset (s : State) (f : Fld) (x : Nat) (j : Nat) : getTap (fset s f x) j = getTap s j := rfl
@[simp] theorem getTap_setFlag (s : State) (f : Fld) (b : Bool) (j : Nat) : getTap (setFlag s f b) j = getTap s j := rfl
@[simp] theorem getTap_activate (s : State) (off : Nat) (j : Nat) : getTap (activate s off) j = getTap s j := rfl
@[simp] theorem getTap_schedule (s : State) (n : Nat) (c : Instr) (j : Nat) : getTap (schedule s n c) j = getTap s j := rfl
@[simp] theorem getTap_cancel (s : State) (c : Instr) (j : Nat) : getTap (cancel s c) j = getTap s j := rfl
@[simp] theorem getTap_emit (s : State) (e : Emit) (j : Nat) : getTap (emit s e) j = getTap s j := rfl
@[simp] theorem getTap_setHead (s : State) (h : Nat) (x : HeadSt) (j : Nat) : getTap (setHead h x s) j = getTap s j := rfl
@[simp] theorem getTap_setGroup (s : State) (g : Nat) (x : GroupSt) (j : Nat) : getTap (setGroup g x s) j = getTap s j := rfl
@[simp] theorem getTap_setAxis (s : State) (m : Nat) (x : AxisSt) (j : Nat) : getTap (setAxis m x s) j = getTap s j := rfl
@[simp] theorem getTap_setDoc (s : State) (h : Nat) (x : DocSt) (j : Nat) : getTap (setDoc h x s) j = getTap s j := rfl
@[simp] theorem getTap_setStr (s : State) (k : Nat) (x : StrSt) (j : Nat) : getTap (setStr k x s) j = getTap s j := rfl
@[simp] theorem getTap_setCv (s : State) (c : Nat) (x : CvSt) (j : Nat) : getTap (setCv c x s) j = getTap s j := rfl
@[simp] theorem getGroup_setGroup (s : State) (k : Nat) (x : GroupSt) : getGroup (setGroup k x s) k = x := tget_tset
theorem getGroup_setGroup_other (s : State) (x : GroupSt) {k j : Nat} (h : j ≠ k) : getGroup (setGroup k x s) j = getGroup s j := tget_tset_other h
@[simp] theorem getGroup_setRaw (s : State) (off v : Nat) (j : Nat) : getGroup (setRaw s off v) j = getGroup s j := rfl
@[simp] theorem getGroup_fset (s : State) (f : Fld) (x : Nat) (j : Nat) : getGroup (fset s f x) j = getGroup s j := rfl
@[simp] theorem getGroup_setFlag (s : State) (f : Fld) (b : Bool) (j : Nat) : getGroup (setFlag s f b) j = getGroup s j := rfl
@[simp] theorem getGroup_activate (s : State) (off : Nat) (j : Nat) : getGroup (activate s off) j = getGroup s j := rfl
@[simp] theorem getGroup_schedule (s : State) (n : Nat) (c : Instr) (j : Nat) : getGroup (schedule s n c) j = getGroup s j := rfl
@[simp] theorem getGroup_cancel (s : State) (c : Instr) (j : Nat) : getGroup (cancel s c) j = getGroup s j := rfl
@[simp] theorem getGroup_emit (s : State) (e : Emit) (j : Nat) : getGroup (emit s e) j = getGroup s j := rfl
@[simp] theorem getGroup_setHead (s : State) (h : Nat) (x : HeadSt) (j : Nat) : getGroup (setHead h x s) j = getGroup s j := rfl
@[simp] theorem getGroup_setTap (s : State) (k : Nat) (x : TapSt) (j : Nat) : getGroup (setTap k x s) j = getGroup s j := rfl
@[simp] theorem getGroup_setAxis (s : State) (m : Nat) (x : AxisSt) (j : Nat) : getGroup (setAxis m x s) j = getGroup s j := rfl
@[simp] theorem getGroup_setDoc (s : State) (h : Nat) (x : DocSt) (j : Nat) : getGroup (setDoc h x s) j = getGroup s j := rfl
@[simp] theorem getGroup_setStr (s : State) (k : Nat) (x : StrSt) (j : Nat) : getGroup (setStr k x s) j = getGroup s j := rfl
@[simp] theorem getGroup_setCv (s : State) (c : Nat) (x : CvSt) (j : Nat) : getGroup (setCv c x s) j = getGroup s j := rfl
@[simp] theorem getAxis_setAxis (s : State) (k : Nat) (x : AxisSt) : getAxis (setAxis k x s) k = x := tget_tset
theorem getAxis_setAxis_other (s : State) (x : AxisSt) {k j : Nat} (h : j ≠ k) : getAxis (setAxis k x s) j = getAxis s j := tget_tset_other h
@[simp] theorem getAxis_setRaw (s : State) (off v : Nat) (j : Nat) : getAxis (setRaw s off v) j = getAxis s j := rfl
@[simp] theorem getAxis_fset (s : State) (f : Fld) (x : Nat) (j : Nat) : getAxis (fset s f x) j = getAxis s j := rfl
@[simp] theorem getAxis_setFlag (s : State) (f : Fld) (b : Bool) (j : Nat) : getAxis (setFlag s f b) j = getAxis s j := rfl
@[simp] theorem getAxis_activate (s : State) (off : Nat) (j : Nat) : getAxis (activate s off) j = getAxis s j := rfl
@[simp] theorem getAxis_schedule (s : State) (n : Nat) (c : Instr) (j : Nat) : getAxis (schedule s n c) j = getAxis s j := rfl
@[simp] theorem getAxis_cancel (s : State) (c : Instr) (j : Nat) : getAxis (cancel s c) j = getAxis s j := rfl
@[simp] theorem getAxis_emit (s : State) (e : Emit) (j : Nat) : getAxis (emit s e) j = getAxis s j := rfl
@[simp] theorem getAxis_setHead (s : State) (h : Nat) (x : HeadSt) (j : Nat) : getAxis (setHead h x s) j = getAxis s j := rfl
@[simp] theorem getAxis_setTap (s : State) (k : Nat) (x : TapSt) (j : Nat) : getAxis (setTap k x s) j = getAxis s j := rfl
@[simp] theorem getAxis_setGroup (s : State) (g : Nat) (x : GroupSt) (j : Nat) : getAxis (setGroup g x s) j = getAxis s j := rfl
@[simp] theorem getAxis_setDoc (s : State) (h : Nat) (x : DocSt) (j : Nat) : getAxis (setDoc h x s) j = getAxis s j := rfl
@[simp] theorem getAxis_setStr (s : State) (k : Nat) (x : StrSt) (j : Nat) : getAxis (setStr k x s) j = getAxis s j := rfl
@[simp] theorem getAxis_setCv (s : State) (c : Nat) (x : CvSt) (j : Nat) : getAxis (setCv c x s) j = getAxis s j := rfl
@[simp] theorem getDoc_setDoc (s : State) (k : Nat) (x : DocSt) : getDoc (setDoc k x s) k = x := tget_tset
theorem getDoc_setDoc_other (s : State) (x : DocSt) {k j : Nat} (h : j ≠ k) : getDoc (setDoc k x s) j = getDoc s j := tget_tset_other h
@[simp] theorem getDoc_setRaw (s : State) (off v : Nat) (j : Nat) : getDoc (setRaw s off v) j = getDoc s j := rfl
@[simp] theorem getDoc_fset (s : State) (f : Fld) (x : Nat) (j : Nat) : getDoc (fset s f x) j = getDoc s j := rfl
@[simp] theorem getDoc_setFlag (s : State) (f : Fld) (b : Bool) (j : Nat) : getDoc (setFlag s f b) j = getDoc s j := rfl
@[simp] theorem getDoc_activate (s : State) (off : Nat) (j : Nat) : getDoc (activate s off) j = getDoc s j := rfl
@[simp] theorem getDoc_schedule (s : State) (n : Nat) (c : Instr) (j : Nat) : getDoc (schedule s n c) j = getDoc s j := rfl
@[simp] theorem getDoc_cancel (s : State) (c : Instr) (j : Nat) : getDoc (cancel s c) j = getDoc s j := rfl
@[simp] theorem getDoc_emit (s : State) (e : Emit) (j : Nat) : getDoc (emit s e) j = getDoc s j := rfl
@[simp] theorem getDoc_setHead (s : State) (h : Nat) (x : HeadSt) (j : Nat) : getDoc (setHead h x s) j = getDoc s j := rfl
@[simp] theorem getDoc_setTap (s : State) (k : Nat) (x : TapSt) (j : Nat) : getDoc (setTap k x s) j = getDoc s j := rfl
@[simp] theorem getDoc_setGroup (s : State) (g : Nat) (x : GroupSt) (j : Nat) : getDoc (setGroup g x s) j = getDoc s j := rfl
@[simp] theorem getDoc_setAxis (s : State) (m : Nat) (x : AxisSt) (j : Nat) : getDoc (setAxis m x s) j = getDoc s j := rfl
@[simp] theorem getDoc_setStr (s : State) (k : Nat) (x : StrSt) (j : Nat) : getDoc (setStr k x s) j = getDoc s j := rfl
@[simp] theorem getDoc_setCv (s : State) (c : Nat) (x : CvSt) (j : Nat) : getDoc (setCv c x s) j = getDoc s j := rfl
@[simp] theorem getStr_setStr (s : State) (k : Nat) (x : StrSt) : getStr (setStr k x s) k = x := tget_tset
theorem getStr_setStr_other (s : State) (x : StrSt) {k j : Nat} (h : j ≠ k) : getStr (setStr k x s) j = getStr s j := tget_tset_other h
@[simp] theorem getStr_setRaw (s : State) (off v : Nat) (j : Nat) : getStr (setRaw s off v) j = getStr s j := rfl
@[simp] theorem getStr_fset (s : State) (f : Fld) (x : Nat) (j : Nat) : getStr (fset s f x) j = getStr s j := rfl
@[simp] theorem getStr_setFlag (s : State) (f : Fld) (b : Bool) (j : Nat) : getStr (setFlag s f b) j = getStr s j := rfl
@[simp] theorem getStr_activate (s : State) (off : Nat) (j : Nat) : getStr (activate s off) j = getStr s j := rfl
@[simp] theorem getStr_schedule (s : State) (n : Nat) (c : Instr) (j : Nat) : getStr (schedule s n c) j = getStr s j := rfl
@[simp] theorem getStr_cancel (s : State) (c : Instr) (j : Nat) : getStr (cancel s c) j = getStr s j := rfl
@[simp] theorem getStr_emit (s : State) (e : Emit) (j : Nat) : getStr (emit s e) j = getStr s j := rfl
@[simp] theorem getStr_setHead (s : State) (h : Nat) (x : HeadSt) (j : Nat) : getStr (setHead h x s) j = getStr s j := rfl
@[simp] theorem getStr_setTap (s : State) (k : Nat) (x : TapSt) (j : Nat) : getStr (setTap k x s) j = getStr s j := rfl
@[simp] theorem getStr_setGroup (s : State) (g : Nat) (x : GroupSt) (j : Nat) : getStr (setGroup g x s) j = getStr s j := rfl
@[simp] theorem getStr_setAxis (s : State) (m : Nat) (x : AxisSt) (j : Nat) : getStr (setAxis m x s) j = getStr s j := rfl
@[simp] theorem getStr_setDoc (s : State) (h : Nat) (x : DocSt) (j : Nat) : getStr (setDoc h x s) j = getStr s j := rfl
@[simp] theorem getStr_setCv (s : State) (c : Nat) (x : CvSt) (j : Nat) : getStr (setCv c x s) j = getStr s j := rfl
@[simp] theorem getCv_setCv (s : State) (k : Nat) (x : CvSt) : getCv (setCv k x s) k = x := tget_tset
theorem getCv_setCv_other (s : State) (x : CvSt) {k j : Nat} (h : j ≠ k) : getCv (setCv k x s) j = getCv s j := tget_tset_other h
@[simp] theorem getCv_setRaw (s : State) (off v : Nat) (j : Nat) : getCv (setRaw s off v) j = getCv s j := rfl
@[simp] theorem getCv_fset (s : State) (f : Fld) (x : Nat) (j : Nat) : getCv (fset s f x) j = getCv s j := rfl
@[simp] theorem getCv_setFlag (s : State) (f : Fld) (b : Bool) (j : Nat) : getCv (setFlag s f b) j = getCv s j := rfl
@[simp] theorem getCv_activate (s : State) (off : Nat) (j : Nat) : getCv (activate s off) j = getCv s j := rfl
@[simp] theorem getCv_schedule (s : State) (n : Nat) (c : Instr) (j : Nat) : getCv (schedule s n c) j = getCv s j := rfl
@[simp] theorem getCv_cancel (s : State) (c : Instr) (j : Nat) : getCv (cancel s c) j = getCv s j := rfl
@[simp] theorem getCv_emit (s : State) (e : Emit) (j : Nat) : getCv (emit s e) j = getCv s j := rfl
@[simp] theorem getCv_setHead (s : State) (h : Nat) (x : HeadSt) (j : Nat) : getCv (setHead h x s) j = getCv s j := rfl
@[simp] theorem getCv_setTap (s : State) (k : Nat) (x : TapSt) (j : Nat) : getCv (setTap k x s) j = getCv s j := rfl
@[simp] theorem getCv_setGroup (s : State) (g : Nat) (x : GroupSt) (j : Nat) : getCv (setGroup g x s) j = getCv s j := rfl
@[simp] theorem getCv_setAxis (s : State) (m : Nat) (x : AxisSt) (j : Nat) : getCv (setAxis m x s) j = getCv s j := rfl
@[simp] theorem getCv_setDoc (s : State) (h : Nat) (x : DocSt) (j : Nat) : getCv (setDoc h x s) j = getCv s j := rfl
@[simp] theorem getCv_setStr (s : State) (k : Nat) (x : StrSt) (j : Nat) : getCv (setStr k x s) j = getCv s j := rfl

end Sys2Proof.Machine
end

