-- ==== Sys2Proof/Laws/Effects.lean ====
section
/-! SUPPORT. What the operations that a command begins or ends with leave: an event that the counters see, a write that the mode
admits, a message. -/

namespace Sys2Proof.Machine

theorem foldl_keeps {α : Type} {P : State → Prop} {f : State → α → State} (h : ∀ u a, P u → P (f u a)) {l : List α} {s : State}
    (p : P s) : P (l.foldl f s) := by
  induction l generalizing s with
  | nil => exact p
  | cons a r ih => exact ih (h s a p)

/-- s with other counters and another agenda: what an event that the counters see leaves. -/
def Counted (s u : State) : Prop := ∃ p g, u = { s with pmc := p, agenda := g }

theorem Counted.refl (s : State) : Counted s s := ⟨s.pmc, s.agenda, rfl⟩

theorem Counted.trans {s t u : State} (h : Counted s t) (k : Counted t u) : Counted s u := by
  obtain ⟨p, g, rfl⟩ := h
  obtain ⟨q, e, rfl⟩ := k
  exact ⟨q, e, rfl⟩

theorem pmcAdd_counted (n k : Nat) (s : State) : Counted s (pmcAdd n k s) := by
  unfold pmcAdd
  dsimp only
  split
  · exact ⟨_, s.agenda, rfl⟩
  · split <;> exact ⟨_, _, rfl⟩

theorem pmcEvents_counted (ev : Nat) (a : Attr) (n : Nat) (s : State) : Counted s (pmcEvents ev a n s) := by
  unfold pmcEvents
  split
  · exact .refl s
  · refine foldl_keeps (P := Counted s) (fun u k h => ?_) (.refl s)
    dsimp only [whenS]
    split
    · exact h.trans (pmcAdd_counted n k u)
    · exact h

theorem readEvent_counted (ms : Master) (off : Nat) (s : State) : Counted s (readEvent ms off s) := by
  cases ms <;> exact pmcEvents_counted _ _ _ _

/-- A host write that the mode admits acts on the state with the write counted. -/
theorem onWrite_eq {s : State} {off : Nat} (f : State → State) (h : hostMay s off = true) :
    ∃ p g, onWrite off f s = f { s with pmc := p, agenda := g } ∧ (Inv s → Inv { s with pmc := p, agenda := g }) := by
  obtain ⟨p, g, e⟩ := pmcEvents_counted 0x11 { priv := some 0, mst := some 0, bar0 := some off } 1 s
  refine ⟨p, g, ?_, ?_⟩
  · unfold onWrite
    rw [e]
    exact if_pos h
  · rw [← e]
    exact (pmcEvents_within (Sub.refl _) (Within.refl _ s)).inv

theorem onWriteThen_eq {s : State} {off : Nat} (f : State → State) (h : hostMay s off = true) :
    ∃ p g, onWriteThen off f s = { f s with pmc := p, agenda := g } := by
  obtain ⟨p, g, e⟩ := pmcEvents_counted 0x11 { priv := some 0, mst := some 0, bar0 := some off } 1 (f s)
  refine ⟨p, g, ?_⟩
  unfold onWriteThen
  rw [if_pos h, e]

/-- An operation whose parts are no registers leaves every register. -/
theorem clearOf_small {m off : Nat} (h : m < 2 ^ 31) : clearOf m off = true := by
  have a : ∀ k, 31 ≤ k → m.testBit k = false := fun k hk =>
    Nat.testBit_lt_two_pow (Nat.lt_of_lt_of_le h (Nat.pow_le_pow_right (by decide) hk))
  simp only [clearOf, a (32 + rowIdx off) (by omega), a 31 (by omega), Bool.not_false, Bool.and_self]

theorem Inv.of {m : Nat} {s t : State} (h : Within m s t) (i : Inv s) : Inv t := h.inv i

/-- HOST_EVENTS keeps the bit that an event sets. -/
theorem flag_hostEvent {s : State} {f : Fld} (h : f.hi < 32 ∧ f.lo ≤ f.hi := by decide) :
    flag (hostEvent f s) f = true := by
  unfold hostEvent
  split
  · assumption
  · rw [(pendIrq_within (Sub.refl _) (Within.refl _ _)).flag (clearOf_small (by decide)), flag_setFlag _ h]

/-- The bit that an event sets stays set, whatever its message does to the Landing. -/
theorem flag_report {s : State} {f : Fld} (cls : Nat) (items : List Nat)
    (c : clearOf 0x88000000000000000001001801 f.off = true) (h : f.hi < 32 ∧ f.lo ≤ f.hi := by decide) :
    flag (report cls f items s) f = true := by
  unfold report
  rw [(raise_within (Sub.refl _) (Within.refl _ _)).flag c, flag_setFlag _ h]

end Sys2Proof.Machine
end

