-- ==== Sys2Proof/Laws/Heads.lean ====
section
/-! SUPPORT. What each definition of Machine/Heads.lean can change, said once: the set of parts after Sub (Laws/Within.lean gives
the bits), the queue never, and the invariants kept. -/

set_option linter.unusedSimpArgs false

namespace Sys2Proof.Machine

theorem geomOff_reach {m h : Nat} {r : GeomReg} (hm : Sub 0x400000000000007e8000000000000000000000000081011 m) : Reach m (geomOff h r) := by
  cases r
  · exact hm.reach (.of (HEAD_TAPS_row h) rfl)
  · exact hm.reach (.of (HEAD_READ_row h) rfl)
  · exact hm.reach (.of (HEAD_CLK_row h) rfl)
  · exact hm.reach (.of (HEAD_SP_row h) rfl)
  · exact hm.reach (.of (HEAD_CTL_row h) rfl)
  · exact hm.reach (.of (HEAD_TRIG_row h) rfl)

theorem execHeadOnline_within {m : Nat} {s0 s : State} {h_ : Fin 16} (hm : Sub 0x200800038000000000000000000000000005001 m)
    (h : Within m s0 s) : WithinO m s0 (execHeadOnline h_ s) := by
  unfold execHeadOnline
  repeat' (first
    | with_reducible assumption
    | (extract_lets +onlyGivenNames x; first | (refine Within.cut (m := m) (s := s0) x ?_ (fun h => ?_); subst x; rotate_left; clear_value x; rotate_right) | clear_value x | subst x)
    | with_reducible refine WithinO.next ?_
    | with_reducible refine fset_within (by with_reducible with_unfolding_all exact hm.reach (.inl (by simp only [HEAD_CTL_row, HEAD_STATUS_CFG_ERR_row, HEAD_STATUS_STATE_row, HEAD_CTL_ONLINE_row, HEAD_STATUS_BAND_row, TAP_STATUS_OWNED_row, TAP_STATUS_HEAD_row]; rfl))) ?_
    | with_reducible refine fsets_nil ?_
    | with_reducible refine fsets_cons ?_
    | with_reducible refine foldl_within (fun _ _ _ => ?_) ?_
    | with_reducible refine onWrite_within (hm.up (by with_unfolding_all rfl)) (fun _ _ => ?_) ?_
    | with_reducible refine startFail_within (hm.up (by with_unfolding_all rfl)) ?_
    | with_reducible refine setHead_within (hm.up (by with_unfolding_all rfl)) ?_
    | with_reducible refine schedule_within (hm.up (by with_unfolding_all rfl)) ?_
    | with_reducible refine guestsAtTake_within (hm.up (by with_unfolding_all rfl)) ?_
    | split)

theorem execHeadSettleDone_within {m : Nat} {s0 s : State} {h_ : Fin 16} (hm : Sub 0x4001 m)
    (h : Within m s0 s) : WithinO m s0 (execHeadSettleDone h_ s) := by
  unfold execHeadSettleDone
  repeat' (first
    | with_reducible assumption
    | (extract_lets +onlyGivenNames x; first | (refine Within.cut (m := m) (s := s0) x ?_ (fun h => ?_); subst x; rotate_left; clear_value x; rotate_right) | clear_value x | subst x)
    | with_reducible refine WithinO.next ?_
    | with_reducible refine schedule_within (hm.up (by with_unfolding_all rfl)) ?_
    | with_reducible refine setHead_within (hm.up (by with_unfolding_all rfl)) ?_
    | split)

theorem execHeadWarmupDone_within {m : Nat} {s0 s : State} {h_ : Fin 16} (hm : Sub 0x40000000000000000000200800010000000000000000000000000104001 m)
    (h : Within m s0 s) : WithinO m s0 (execHeadWarmupDone h_ s) := by
  unfold execHeadWarmupDone
  repeat' (first
    | with_reducible assumption
    | (extract_lets +onlyGivenNames x; first | (refine Within.cut (m := m) (s := s0) x ?_ (fun h => ?_); subst x; rotate_left; clear_value x; rotate_right) | clear_value x | subst x)
    | with_reducible refine WithinO.next ?_
    | with_reducible refine setRaw_within (by with_reducible with_unfolding_all exact hm.reach (.inl (by simp only [HEAD_STATUS_STATE_row, HEAD_TIMER_PERIOD_row, MOT_HDOCNUM_row, HEAD_TRIG_TRIG_SRC_row]; rfl))) ?_
    | with_reducible refine fset_within (by with_reducible with_unfolding_all exact hm.reach (.inl (by simp only [HEAD_STATUS_STATE_row, HEAD_TIMER_PERIOD_row, MOT_HDOCNUM_row, HEAD_TRIG_TRIG_SRC_row]; rfl))) ?_
    | with_reducible refine whenS_within (fun _ _ => ?_) ?_
    | with_reducible refine setHead_within (hm.up (by with_unfolding_all rfl)) ?_
    | with_reducible refine guestsAtOnline_within (hm.up (by with_unfolding_all rfl)) ?_
    | with_reducible refine gridStart_within (hm.up (by with_unfolding_all rfl)) ?_
    | with_reducible refine schedule_within (hm.up (by with_unfolding_all rfl)) ?_
    | split)

theorem execHeadOffline_within {m : Nat} {s0 s : State} {h_ : Fin 16} (hm : Sub 0x4000000020080001800000000000000000000000039d009 m)
    (h : Within m s0 s) : WithinO m s0 (execHeadOffline h_ s) := by
  unfold execHeadOffline
  repeat' (first
    | with_reducible assumption
    | (extract_lets +onlyGivenNames x; first | (refine Within.cut (m := m) (s := s0) x ?_ (fun h => ?_); subst x; rotate_left; clear_value x; rotate_right) | clear_value x | subst x)
    | with_reducible refine WithinO.next ?_
    | with_reducible refine onWrite_within (hm.up (by with_unfolding_all rfl)) (fun _ _ => ?_) ?_
    | with_reducible refine headToOffline_within (hm.up (by with_unfolding_all rfl)) ?_
    | with_reducible refine beginStop_within (hm.up (by with_unfolding_all rfl)) ?_
    | split)

theorem execHeadStopDone_within {m : Nat} {s0 s : State} {h_ : Fin 16} (hm : Sub 0x4000000020080001800000000000000000000000039f009 m)
    (h : Within m s0 s) : WithinO m s0 (execHeadStopDone h_ s) := by
  unfold execHeadStopDone
  repeat' (first
    | with_reducible assumption
    | (extract_lets +onlyGivenNames x; first | (refine Within.cut (m := m) (s := s0) x ?_ (fun h => ?_); subst x; rotate_left; clear_value x; rotate_right) | clear_value x | subst x)
    | with_reducible refine WithinO.next ?_
    | with_reducible refine headToOffline_within (hm.up (by with_unfolding_all rfl)) ?_
    | with_reducible refine closePacket_within (hm.up (by with_unfolding_all rfl)) ?_
    | with_reducible refine skipFinish_within (hm.up (by with_unfolding_all rfl)) ?_
    | split)

theorem execHeadCommit_within {m : Nat} {s0 s : State} {h_ : Fin 16} (hm : Sub 0x40000000000000008000000000000000000000000085009 m)
    (h : Within m s0 s) : WithinO m s0 (execHeadCommit h_ s) := by
  unfold execHeadCommit
  repeat' (first
    | with_reducible assumption
    | (extract_lets +onlyGivenNames x; first | (refine Within.cut (m := m) (s := s0) x ?_ (fun h => ?_); subst x; rotate_left; clear_value x; rotate_right) | clear_value x | subst x)
    | with_reducible refine WithinO.next ?_
    | with_reducible refine setFlag_within (by with_reducible with_unfolding_all exact hm.reach (.inl (by simp only [HEAD_CTL_row, HEAD_CTL_COMMIT_row]; rfl))) ?_
    | with_reducible refine onWrite_within (hm.up (by with_unfolding_all rfl)) (fun _ _ => ?_) ?_
    | with_reducible refine activateBandSet_within (hm.up (by with_unfolding_all rfl)) ?_
    | with_reducible refine setHead_within (hm.up (by with_unfolding_all rfl)) ?_
    | split)

theorem execHeadSwtrig_within {m : Nat} {s0 s : State} {h_ : Fin 16} (hm : Sub 0x1040014000000040004000000000004c038000088000000000000020001387809 m)
    (h : Within m s0 s) : WithinO m s0 (execHeadSwtrig h_ s) := by
  unfold execHeadSwtrig
  repeat' (first
    | with_reducible assumption
    | (extract_lets +onlyGivenNames x; first | (refine Within.cut (m := m) (s := s0) x ?_ (fun h => ?_); subst x; rotate_left; clear_value x; rotate_right) | clear_value x | subst x)
    | with_reducible refine WithinO.next ?_
    | with_reducible refine onWrite_within (hm.up (by with_unfolding_all rfl)) (fun _ _ => ?_) ?_
    | with_reducible refine plainCause_within (hm.up (by with_unfolding_all rfl)) ?_
    | split)

theorem execHeadTimerTrigger_within {m : Nat} {s0 s : State} {h_ : Fin 16} (hm : Sub 0x1040014000000040004000000000004c038000088000000000000020001387809 m)
    (h : Within m s0 s) : WithinO m s0 (execHeadTimerTrigger h_ s) := by
  unfold execHeadTimerTrigger
  repeat' (first
    | with_reducible assumption
    | (extract_lets +onlyGivenNames x; first | (refine Within.cut (m := m) (s := s0) x ?_ (fun h => ?_); subst x; rotate_left; clear_value x; rotate_right) | clear_value x | subst x)
    | with_reducible refine WithinO.next ?_
    | with_reducible refine plainCause_within (hm.up (by with_unfolding_all rfl)) ?_
    | with_reducible refine schedule_within (hm.up (by with_unfolding_all rfl)) ?_
    | with_reducible refine setHead_within (hm.up (by with_unfolding_all rfl)) ?_
    | split)

theorem execHeadGeometryWrite_within {m : Nat} {s0 s : State} {h_ : Fin 16} {reg : GeomReg} {v : Word} (hm : Sub 0x400000000000007e8000000000000000000000000081011 m)
    (h : Within m s0 s) : WithinO m s0 (execHeadGeometryWrite h_ reg v s) := by
  unfold execHeadGeometryWrite
  repeat' (first
    | with_reducible assumption
    | (extract_lets +onlyGivenNames x; first | (refine Within.cut (m := m) (s := s0) x ?_ (fun h => ?_); subst x; rotate_left; clear_value x; rotate_right) | subst x)
    | with_reducible refine WithinO.next ?_
    | with_reducible refine setRaw_within (by with_reducible first | exact geomOff_reach hm | with_unfolding_all exact hm.reach (.inl (by simp only [HEAD_EVENTS_WR_REJ_row]; rfl))) ?_
    | with_reducible refine setFlag_within (by with_reducible first | exact geomOff_reach hm | with_unfolding_all exact hm.reach (.inl (by simp only [HEAD_EVENTS_WR_REJ_row]; rfl))) ?_
    | with_reducible refine whenS_within (fun _ _ => ?_) ?_
    | with_reducible refine onWrite_within (hm.up (by with_unfolding_all rfl)) (fun _ _ => ?_) ?_
    | with_reducible refine noteBand_within (hm.up (by with_unfolding_all rfl)) ?_
    | with_reducible refine whiteRestartHead_within (hm.up (by with_unfolding_all rfl)) ?_
    | split)

theorem execTriggerFire_within {m : Nat} {s0 s : State} {h_ : Fin 16} (hm : Sub 0x600200000000000000000000200000000000000000000000000000000205001 m)
    (h : Within m s0 s) : WithinO m s0 (execTriggerFire h_ s) := by
  unfold execTriggerFire
  repeat' (first
    | with_reducible assumption
    | (extract_lets +onlyGivenNames x; first | (refine Within.cut (m := m) (s := s0) x ?_ (fun h => ?_); subst x; rotate_left; clear_value x; rotate_right) | clear_value x | subst x)
    | with_reducible refine WithinO.next ?_
    | with_reducible refine fireLine_within (hm.up (by with_unfolding_all rfl)) ?_
    | split)

theorem execExposureEnd_within {m : Nat} {s0 s : State} {h_ : Fin 16} (hm : Sub 0x400000000000000000000000000000000000000000000000000000000205001 m)
    (h : Within m s0 s) : WithinO m s0 (execExposureEnd h_ s) := by
  unfold execExposureEnd
  repeat' (first
    | with_reducible assumption
    | (extract_lets +onlyGivenNames x; first | (refine Within.cut (m := m) (s := s0) x ?_ (fun h => ?_); subst x; rotate_left; clear_value x; rotate_right) | clear_value x | subst x)
    | with_reducible refine WithinO.next ?_
    | with_reducible refine setHead_within (hm.up (by with_unfolding_all rfl)) ?_
    | with_reducible refine startReadout_within (hm.up (by with_unfolding_all rfl)) ?_
    | with_reducible refine placeDiag_within (hm.up (by with_unfolding_all rfl)) ?_
    | split)

theorem execTapPhaseActivate_within {m : Nat} {s0 s : State} {h_ : Fin 16} (hm : Sub 0x4004000000080000000000000000000000000000008c008 m)
    (h : Within m s0 s) : WithinO m s0 (execTapPhaseActivate h_ s) := by
  unfold execTapPhaseActivate
  repeat' (first
    | with_reducible assumption
    | (extract_lets +onlyGivenNames x; first | (refine Within.cut (m := m) (s := s0) x ?_ (fun h => ?_); subst x; rotate_left; clear_value x; rotate_right) | clear_value x | subst x)
    | with_reducible refine WithinO.next ?_
    | with_reducible refine activatePhase_within (hm.up (by with_unfolding_all rfl)) ?_
    | with_reducible refine setHead_within (hm.up (by with_unfolding_all rfl)) ?_
    | with_reducible refine trialApply_within (hm.up (by with_unfolding_all rfl)) ?_
    | split)

theorem execReadoutEnd_within {m : Nat} {s0 s : State} {h_ : Fin 16} (hm : Sub 0x80000000000000000000000000000000d009 m)
    (h : Within m s0 s) : WithinO m s0 (execReadoutEnd h_ s) := by
  unfold execReadoutEnd
  repeat' (first
    | with_reducible assumption
    | (extract_lets +onlyGivenNames x; first | (refine Within.cut (m := m) (s := s0) x ?_ (fun h => ?_); subst x; rotate_left; clear_value x; rotate_right) | clear_value x | subst x)
    | with_reducible refine WithinO.next ?_
    | with_reducible refine activatePga_within (hm.up (by with_unfolding_all rfl)) ?_
    | with_reducible refine setHead_within (hm.up (by with_unfolding_all rfl)) ?_
    | with_reducible refine stopProgress_within (hm.up (by with_unfolding_all rfl)) ?_
    | with_reducible refine intoLanes_within (hm.up (by with_unfolding_all rfl)) ?_
    | split)

theorem visitsAtClose_within {m : Nat} {s0 s : State} {h_ : Nat} {opens : Nat} (hm : Sub 0x10001 m)
    (h : Within m s0 s) : Within m s0 (visitsAtClose h_ opens s) := by
  unfold visitsAtClose
  repeat' (first
    | with_reducible assumption
    | (extract_lets +onlyGivenNames x; clear_value x)
    | with_reducible refine foldl_within (fun _ _ _ => ?_) ?_
    | with_reducible refine schedule_within (hm.up (by with_unfolding_all rfl)) ?_
    | with_reducible refine setGroup_within (hm.up (by with_unfolding_all rfl)) ?_
    | split)

theorem execBusyWindowClose_within {m : Nat} {s0 s : State} {h_ : Fin 16} (hm : Sub 0x18000000000000000000000000094001 m)
    (h : Within m s0 s) : WithinO m s0 (execBusyWindowClose h_ s) := by
  unfold execBusyWindowClose
  repeat' (first
    | with_reducible assumption
    | (extract_lets +onlyGivenNames x; first | (refine Within.cut (m := m) (s := s0) x ?_ (fun h => ?_); subst x; rotate_left; clear_value x; rotate_right) | clear_value x | subst x)
    | with_reducible refine WithinO.next ?_
    | with_reducible refine setHead_within (hm.up (by with_unfolding_all rfl)) ?_
    | with_reducible refine visitsAtClose_within (hm.up (by with_unfolding_all rfl)) ?_
    | with_reducible refine beginStop_within (hm.up (by with_unfolding_all rfl)) ?_
    | with_reducible refine stopProgress_within (hm.up (by with_unfolding_all rfl)) ?_
    | split)

theorem execHeadConnFault_within {m : Nat} {s0 s : State} {t : Fin 256} (hm : Sub 0x4000000020182003800008800000000000000000139d809 m)
    (h : Within m s0 s) : WithinO m s0 (execHeadConnFault t s) := by
  unfold execHeadConnFault
  repeat' (first
    | with_reducible assumption
    | (extract_lets +onlyGivenNames x; first | (refine Within.cut (m := m) (s := s0) x ?_ (fun h => ?_); subst x; rotate_left; clear_value x; rotate_right) | clear_value x | subst x)
    | with_reducible refine WithinO.next ?_
    | with_reducible refine setFlag_within (by with_reducible with_unfolding_all exact hm.reach (.inl (by simp only [SLC_CMWIN_CM_EN_row, TAP_STATUS_CM_OUT_row, TAP_EVENTS_CM_FAULT_row, HEAD_STATUS_CM_OUT_row, HEAD_EVENTS_CONN_FAULT_row, HEAD_CONN_VALID_row, HEAD_CONN_TAP_row, HEAD_CTL_CONN_ACT_row]; rfl))) ?_
    | with_reducible refine fsets_nil ?_
    | with_reducible refine fsets_cons ?_
    | with_reducible refine fset_within (by with_reducible with_unfolding_all exact hm.reach (.inl (by simp only [SLC_CMWIN_CM_EN_row, TAP_STATUS_CM_OUT_row, TAP_EVENTS_CM_FAULT_row, HEAD_STATUS_CM_OUT_row, HEAD_EVENTS_CONN_FAULT_row, HEAD_CONN_VALID_row, HEAD_CONN_TAP_row, HEAD_CTL_CONN_ACT_row]; rfl))) ?_
    | with_reducible refine whenS_within (fun _ _ => ?_) ?_
    | with_reducible refine setTap_within (hm.up (by with_unfolding_all rfl)) ?_
    | with_reducible refine startFail_within (hm.up (by with_unfolding_all rfl)) ?_
    | with_reducible refine headToOffline_within (hm.up (by with_unfolding_all rfl)) ?_
    | with_reducible refine raise_within (hm.up (by with_unfolding_all rfl)) ?_
    | with_reducible refine setHead_within (hm.up (by with_unfolding_all rfl)) ?_
    | with_reducible refine beginStop_within (hm.up (by with_unfolding_all rfl)) ?_
    | split)

theorem execHeadTrigstatRead_within {m : Nat} {s0 s : State} {h_ : Fin 16} (hm : Sub 0x4000000000000000000000000000001041 m)
    (h : Within m s0 s) : WithinO m s0 (execHeadTrigstatRead h_ s) := by
  unfold execHeadTrigstatRead
  repeat' (first
    | with_reducible assumption
    | (extract_lets +onlyGivenNames x; first | (refine Within.cut (m := m) (s := s0) x ?_ (fun h => ?_); subst x; rotate_left; clear_value x; rotate_right) | clear_value x | subst x)
    | with_reducible refine WithinO.next ?_
    | with_reducible refine rcRead_within (hm.up (by with_unfolding_all rfl)) (by with_reducible with_unfolding_all exact hm.reach (.inl (by simp only [HEAD_TRIGSTAT_row]; rfl))) ?_)

end Sys2Proof.Machine
end

