-- ==== Sys2Proof/Laws/Host.lean ====
section
/-! SUPPORT. What each definition of Machine/Host.lean can change, said once: the set of parts after Sub (Laws/Within.lean gives
the bits), the queue never, and the invariants kept. -/

set_option linter.unusedSimpArgs false

namespace Sys2Proof.Machine

theorem doorbellAccept_within {m : Nat} {s0 s : State} {r : Nat} {v : Nat} (hm : Sub 0x80000000000000000001001 m)
    (h : Within m s0 s) : Within m s0 (doorbellAccept r v s) := by
  unfold doorbellAccept
  repeat' (first
    | with_reducible assumption
    | (extract_lets +onlyGivenNames x; first | (refine Within.cut (m := m) (s := s0) x ?_ (fun h => ?_); subst x; rotate_left; clear_value x; rotate_right) | clear_value x | subst x)
    | with_reducible refine fset_within (by with_reducible with_unfolding_all exact hm.reach (.inl (by simp only [HOST_RHIDX_HIDX_row]; rfl))) ?_
    | with_reducible refine pmcEvents_within (hm.up (by with_unfolding_all rfl)) ?_)

theorem doorbellError_within {m : Nat} {s0 s : State} {r : Nat} {v : Nat} (hm : Sub 0x88000c00000000000001003801 m)
    (h : Within m s0 s) : Within m s0 (doorbellError r v s) := by
  unfold doorbellError
  repeat' (first
    | with_reducible assumption
    | (extract_lets +onlyGivenNames x; first | (refine Within.cut (m := m) (s := s0) x ?_ (fun h => ?_); subst x; rotate_left; clear_value x; rotate_right) | clear_value x | subst x)
    | with_reducible refine errInfo_within (hm.up (by with_unfolding_all rfl)) ?_
    | with_reducible refine hostEvent_within (hm.up (by with_unfolding_all rfl)) (by with_reducible with_unfolding_all exact hm.reach (.inl (by simp only [HOST_EVENTS_DB_ERR_row]; rfl))) ?_
    | with_reducible refine raise_within (hm.up (by with_unfolding_all rfl)) ?_
    | with_reducible refine pmcEvents_within (hm.up (by with_unfolding_all rfl)) ?_)

theorem doorbell_within {m : Nat} {s0 s : State} {r : Nat} {v : Word} (hm : Sub 0x88080c00000000000001003801 m)
    (h : Within m s0 s) : Within m s0 (doorbell r v s) := by
  unfold doorbell
  repeat' (first
    | with_reducible assumption
    | (extract_lets +onlyGivenNames x; clear_value x)
    | with_reducible refine doorbellAccept_within (hm.up (by with_unfolding_all rfl)) ?_
    | with_reducible refine doorbellError_within (hm.up (by with_unfolding_all rfl)) ?_
    | split)

theorem memRead_within {m : Nat} {s0 s : State} {r : Nat} (hm : Sub 0x1001 m)
    (h : Within m s0 s) : Within m s0 (memRead r s) := by
  unfold memRead
  repeat' (first
    | with_reducible assumption
    | with_reducible refine pmcEvents_within (hm.up (by with_unfolding_all rfl)) ?_)

theorem beginCommand_within {m : Nat} {s0 s : State} {c : CmdEntry} (hm : Sub 0x1001 m)
    (h : Within m s0 s) : Within m s0 (beginCommand c s) := by
  unfold beginCommand
  repeat' (first
    | with_reducible assumption
    | with_reducible refine schedule_within (hm.up (by with_unfolding_all rfl)) ?_
    | with_reducible refine memRead_within (hm.up (by with_unfolding_all rfl)) ?_
    | split)

theorem startCommand_within {m : Nat} {s0 s : State} {c : CmdEntry} (hm : Sub 0x3001 m)
    (h : Within m s0 s) : Within m s0 (startCommand c s) := by
  unfold startCommand
  repeat' (first
    | with_reducible assumption
    | (extract_lets +onlyGivenNames x; first | (refine Within.cut (m := m) (s := s0) x ?_ (fun h => ?_); subst x; rotate_left; clear_value x; rotate_right) | clear_value x)
    | with_reducible refine beginCommand_within (hm.up (by with_unfolding_all rfl)) ?_
    | with_reducible refine complete_within (hm.up (by with_unfolding_all rfl)) ?_
    | split
    | with_reducible refine Within.set_host (hm.bit (by with_unfolding_all rfl)) ?_)

theorem execCmdFetchDone_within {m : Nat} {s0 s : State} {d : List Byte} (hm : Sub 0x10000000000000000003001 m)
    (h : Within m s0 s) : WithinO m s0 (execCmdFetchDone d s) := by
  unfold execCmdFetchDone
  repeat' (first
    | with_reducible assumption
    | (extract_lets +onlyGivenNames x; first | clear_value x | subst x)
    | with_reducible refine WithinO.next ?_
    | with_reducible refine startCommand_within (hm.up (by with_unfolding_all rfl)) ?_
    | with_reducible refine pmcEvent_within (hm.up (by with_unfolding_all rfl)) ?_
    | with_reducible refine ringAdvance_within (hm.up (by with_unfolding_all rfl)) ?_
    | with_reducible refine memRead_within (hm.up (by with_unfolding_all rfl)) ?_
    | split)

theorem execNop_within {m : Nat} {s0 s : State} {slot : Nat} (hm : Sub 0x3001 m)
    (h : Within m s0 s) : WithinO m s0 (execNop slot s) := by
  unfold execNop
  repeat' (first
    | with_reducible assumption
    | (extract_lets +onlyGivenNames x; first | (refine Within.cut (m := m) (s := s0) x ?_ (fun h => ?_); subst x; rotate_left; clear_value x; rotate_right) | clear_value x | subst x)
    | with_reducible refine WithinO.next ?_
    | with_reducible refine complete_within (hm.up (by with_unfolding_all rfl)) ?_
    | split)

theorem execCmdDataReadError_within {m : Nat} {s0 s : State} {slot : Nat} (hm : Sub 0x8000000000000000000c00000000000000023001 m)
    (h : Within m s0 s) : WithinO m s0 (execCmdDataReadError slot s) := by
  unfold execCmdDataReadError
  repeat' (first
    | with_reducible assumption
    | (extract_lets +onlyGivenNames x; first | (refine Within.cut (m := m) (s := s0) x ?_ (fun h => ?_); subst x; rotate_left; clear_value x; rotate_right) | clear_value x | subst x)
    | with_reducible refine WithinO.next ?_
    | with_reducible refine freeStage_within (hm.up (by with_unfolding_all rfl)) ?_
    | with_reducible refine errInfo_within (hm.up (by with_unfolding_all rfl)) ?_
    | with_reducible refine hostEvent_within (hm.up (by with_unfolding_all rfl)) (by with_reducible with_unfolding_all exact hm.reach (.inl (by simp only [PIPE_STATUS_STAGE_row, HOST_EVENTS_DMA_RD_ERR_row]; rfl))) ?_
    | with_reducible refine complete_within (hm.up (by with_unfolding_all rfl)) ?_
    | split)

theorem ringStop_within {m : Nat} {s0 s : State} {r : Nat} (hm : Sub 0x18000000000000000000001 m)
    (h : Within m s0 s) : Within m s0 (ringStop r s) := by
  unfold ringStop
  repeat' (first
    | with_reducible assumption
    | (extract_lets +onlyGivenNames x; first | (refine Within.cut (m := m) (s := s0) x ?_ (fun h => ?_); subst x; rotate_left; clear_value x; rotate_right) | clear_value x)
    | with_reducible refine setFlag_within (by with_reducible with_unfolding_all exact hm.reach (.inl (by simp only [HOST_RCTL_EN_row, HOST_RSTAT_IDLE_row]; rfl))) ?_
    | with_reducible refine schedule_within (hm.up (by with_unfolding_all rfl)) ?_
    | split)

theorem ringStart_within {m : Nat} {s0 s : State} {r : Nat} (hm : Sub 0x98000000000000000000000 m)
    (h : Within m s0 s) : Within m s0 (ringStart r s) := by
  unfold ringStart
  repeat' (first
    | with_reducible assumption
    | (extract_lets +onlyGivenNames x; first | (refine Within.cut (m := m) (s := s0) x ?_ (fun h => ?_); subst x; rotate_left; clear_value x; rotate_right) | clear_value x | subst x)
    | with_reducible refine fsets_nil ?_
    | with_reducible refine fsets_cons ?_
    | with_reducible refine fset_within (by with_reducible with_unfolding_all exact hm.reach (.inl (by simp only [HOST_RCTL_EN_row, HOST_RSTAT_ERR_row, HOST_RSTAT_DIDX_row, HOST_RHIDX_HIDX_row]; rfl))) ?_)

theorem rctlWrite_within {m : Nat} {s0 s : State} {r : Nat} {v : Nat} (hm : Sub 0x98400000000000000002001 m)
    (h : Within m s0 s) : Within m s0 (rctlWrite r v s) := by
  unfold rctlWrite
  repeat' (first
    | with_reducible assumption
    | (extract_lets +onlyGivenNames x; first | (refine Within.cut (m := m) (s := s0) x ?_ (fun h => ?_); subst x; rotate_left; clear_value x; rotate_right) | clear_value x)
    | with_reducible refine fset_within (by with_reducible with_unfolding_all exact hm.reach (.inl (by simp only [HOST_EVENTS_WR_REJ_row, HOST_RCTL_LOG2N_row]; rfl))) ?_
    | with_reducible refine hostEvent_within (hm.up (by with_unfolding_all rfl)) (by with_reducible with_unfolding_all exact hm.reach (.inl (by simp only [HOST_EVENTS_WR_REJ_row, HOST_RCTL_LOG2N_row]; rfl))) ?_
    | with_reducible refine ringStart_within (hm.up (by with_unfolding_all rfl)) ?_
    | with_reducible refine ringStop_within (hm.up (by with_unfolding_all rfl)) ?_
    | split)

theorem execHostRctlWrite_within {m : Nat} {s0 s : State} {r : Fin 19} {v : Word} (hm : Sub 0x98400000000000000003001 m)
    (h : Within m s0 s) : WithinO m s0 (execHostRctlWrite r v s) := by
  unfold execHostRctlWrite
  repeat' (first
    | with_reducible assumption
    | (extract_lets +onlyGivenNames x; first | (refine Within.cut (m := m) (s := s0) x ?_ (fun h => ?_); subst x; rotate_left; clear_value x; rotate_right) | clear_value x | subst x)
    | with_reducible refine WithinO.next ?_
    | with_reducible refine onWrite_within (hm.up (by with_unfolding_all rfl)) (fun _ _ => ?_) ?_
    | with_reducible refine rctlWrite_within (hm.up (by with_unfolding_all rfl)) ?_)

theorem execRingIdle_within {m : Nat} {s0 s : State} {r : Fin 19} (hm : Sub 0x10000000000000000000000 m)
    (h : Within m s0 s) : WithinO m s0 (execRingIdle r s) := by
  unfold execRingIdle
  repeat' (first
    | with_reducible assumption
    | (extract_lets +onlyGivenNames x; first | (refine Within.cut (m := m) (s := s0) x ?_ (fun h => ?_); subst x; rotate_left; clear_value x; rotate_right) | clear_value x | subst x)
    | with_reducible refine WithinO.next ?_
    | with_reducible refine setFlag_within (by with_reducible with_unfolding_all exact hm.reach (.inl (by simp only [HOST_RSTAT_IDLE_row]; rfl))) ?_
    | split)

theorem execRingFetchError_within {m : Nat} {s0 s : State} {r : Fin 19} (hm : Sub 0x88018c00000000000001003801 m)
    (h : Within m s0 s) : WithinO m s0 (execRingFetchError r s) := by
  unfold execRingFetchError
  repeat' (first
    | with_reducible assumption
    | (extract_lets +onlyGivenNames x; first | (refine Within.cut (m := m) (s := s0) x ?_ (fun h => ?_); subst x; rotate_left; clear_value x; rotate_right) | clear_value x | subst x)
    | with_reducible refine WithinO.next ?_
    | with_reducible refine setFlag_within (by with_reducible with_unfolding_all exact hm.reach (.inl (by simp only [HOST_EVENTS_FETCH_ERR_row, HOST_RCTL_EN_row, HOST_RSTAT_ERR_row]; rfl))) ?_
    | with_reducible refine memRead_within (hm.up (by with_unfolding_all rfl)) ?_
    | with_reducible refine raise_within (hm.up (by with_unfolding_all rfl)) ?_
    | with_reducible refine errInfo_within (hm.up (by with_unfolding_all rfl)) ?_
    | with_reducible refine hostEvent_within (hm.up (by with_unfolding_all rfl)) (by with_reducible with_unfolding_all exact hm.reach (.inl (by simp only [HOST_EVENTS_FETCH_ERR_row, HOST_RCTL_EN_row, HOST_RSTAT_ERR_row]; rfl))) ?_
    | split)

theorem execDbCmdPi_within {m : Nat} {s0 s : State} {v : Word} (hm : Sub 0x88080c00000000000001003801 m)
    (h : Within m s0 s) : WithinO m s0 (execDbCmdPi v s) := by
  unfold execDbCmdPi
  repeat' (first
    | with_reducible assumption
    | (extract_lets +onlyGivenNames x; first | (refine Within.cut (m := m) (s := s0) x ?_ (fun h => ?_); subst x; rotate_left; clear_value x; rotate_right) | clear_value x | subst x)
    | with_reducible refine WithinO.next ?_
    | with_reducible refine doorbell_within (hm.up (by with_unfolding_all rfl)) ?_)

theorem execDbCplCi_within {m : Nat} {s0 s : State} {v : Word} (hm : Sub 0x88080c00000000000001003801 m)
    (h : Within m s0 s) : WithinO m s0 (execDbCplCi v s) := by
  unfold execDbCplCi
  repeat' (first
    | with_reducible assumption
    | (extract_lets +onlyGivenNames x; first | (refine Within.cut (m := m) (s := s0) x ?_ (fun h => ?_); subst x; rotate_left; clear_value x; rotate_right) | clear_value x | subst x)
    | with_reducible refine WithinO.next ?_
    | with_reducible refine doorbell_within (hm.up (by with_unfolding_all rfl)) ?_)

theorem execDbEvtCi_within {m : Nat} {s0 s : State} {v : Word} (hm : Sub 0x88080c00000000000001003801 m)
    (h : Within m s0 s) : WithinO m s0 (execDbEvtCi v s) := by
  unfold execDbEvtCi
  repeat' (first
    | with_reducible assumption
    | (extract_lets +onlyGivenNames x; first | (refine Within.cut (m := m) (s := s0) x ?_ (fun h => ?_); subst x; rotate_left; clear_value x; rotate_right) | clear_value x | subst x)
    | with_reducible refine WithinO.next ?_
    | with_reducible refine doorbell_within (hm.up (by with_unfolding_all rfl)) ?_)

theorem execDbImgPi_within {m : Nat} {s0 s : State} {h_ : Fin 16} {v : Word} (hm : Sub 0x88080c00000000000001003801 m)
    (h : Within m s0 s) : WithinO m s0 (execDbImgPi h_ v s) := by
  unfold execDbImgPi
  repeat' (first
    | with_reducible assumption
    | (extract_lets +onlyGivenNames x; first | (refine Within.cut (m := m) (s := s0) x ?_ (fun h => ?_); subst x; rotate_left; clear_value x; rotate_right) | clear_value x | subst x)
    | with_reducible refine WithinO.next ?_
    | with_reducible refine doorbell_within (hm.up (by with_unfolding_all rfl)) ?_)

theorem discardDoc_within {m : Nat} {s0 s : State} {h_ : Nat} {doc : Nat} (hm : Sub 0x2000 m)
    (h : Within m s0 s) : Within m s0 (discardDoc h_ doc s).1 := by
  unfold discardDoc
  repeat' (first
    | with_reducible assumption
    | (extract_lets +onlyGivenNames x; clear_value x)
    | split
    | with_reducible refine Within.set_host (hm.bit (by with_unfolding_all rfl)) ?_)

theorem execSkipDoc_within {m : Nat} {s0 s : State} {slot : Nat} (hm : Sub 0x3001 m)
    (h : Within m s0 s) : WithinO m s0 (execSkipDoc slot s) := by
  unfold execSkipDoc
  repeat' (first
    | with_reducible assumption
    | (extract_lets +onlyGivenNames x; first | (refine Within.cut (m := m) (s := s0) x ?_ (fun h => ?_); subst x; rotate_left; clear_value x; rotate_right) | (refine Within.cut (m := m) (s := s0) x.1 ?_ (fun h => ?_); subst x; rotate_left; clear_value x; rotate_right) | clear_value x | subst x)
    | with_reducible refine WithinO.next ?_
    | with_reducible refine complete_within (hm.up (by with_unfolding_all rfl)) ?_
    | with_reducible refine discardDoc_within (hm.up (by with_unfolding_all rfl)) ?_
    | with_reducible refine skipFinish_within (hm.up (by with_unfolding_all rfl)) ?_
    | split
    | with_reducible refine Within.set_host (hm.bit (by with_unfolding_all rfl)) ?_)

theorem execSkipDocDone_within {m : Nat} {s0 s : State} {slot : Nat} (hm : Sub 0x3001 m)
    (h : Within m s0 s) : WithinO m s0 (execSkipDocDone slot s) := by
  unfold execSkipDocDone
  repeat' (first
    | with_reducible assumption
    | (extract_lets +onlyGivenNames x; first | (refine Within.cut (m := m) (s := s0) x ?_ (fun h => ?_); subst x; rotate_left; clear_value x; rotate_right) | clear_value x | subst x)
    | with_reducible refine WithinO.next ?_
    | with_reducible refine skipFinish_within (hm.up (by with_unfolding_all rfl)) ?_
    | split)

theorem cplStall_within {m : Nat} {s0 s : State} (hm : Sub 0x400000000000000002001 m)
    (h : Within m s0 s) : Within m s0 (cplStall s) := by
  unfold cplStall
  repeat' (first
    | with_reducible assumption
    | (extract_lets +onlyGivenNames x; first | clear_value x | subst x)
    | with_reducible refine hostEvent_within (hm.up (by with_unfolding_all rfl)) (by with_reducible with_unfolding_all exact hm.reach (.inl (by simp only [HOST_EVENTS_CPL_STALL_row]; rfl))) ?_
    | split
    | with_reducible refine Within.set_host (hm.bit (by with_unfolding_all rfl)) ?_)

theorem writeCompletion_within {m : Nat} {s0 s : State} {c : Cpl} (hm : Sub 0x10400000000000000003021 m)
    (h : Within m s0 s) : Within m s0 (writeCompletion c s) := by
  unfold writeCompletion
  repeat' (first
    | with_reducible assumption
    | (extract_lets +onlyGivenNames x; first | (refine Within.cut (m := m) (s := s0) x ?_ (fun h => ?_); subst x; rotate_left; clear_value x; rotate_right) | clear_value x | subst x)
    | with_reducible refine ringAdvance_within (hm.up (by with_unfolding_all rfl)) ?_
    | with_reducible refine pmcEvent_within (hm.up (by with_unfolding_all rfl)) ?_
    | with_reducible refine memWrite_within (hm.up (by with_unfolding_all rfl)) ?_
    | with_reducible refine pendIrq_within (hm.up (by with_unfolding_all rfl)) ?_
    | with_reducible refine hostEvent_within (hm.up (by with_unfolding_all rfl)) (by with_reducible with_unfolding_all exact hm.reach (.inl (by simp only [HOST_EVENTS_CPL_STALL_row]; rfl))) ?_
    | split
    | with_reducible refine Within.set_host (hm.bit (by with_unfolding_all rfl)) ?_)

theorem execCompletionWrite_within {m : Nat} {s0 s : State} (hm : Sub 0x10400000000000000003021 m)
    (h : Within m s0 s) : WithinO m s0 (execCompletionWrite s) := by
  unfold execCompletionWrite
  repeat' (first
    | with_reducible assumption
    | (extract_lets +onlyGivenNames x; first | (refine Within.cut (m := m) (s := s0) x ?_ (fun h => ?_); subst x; rotate_left; clear_value x; rotate_right) | clear_value x | subst x)
    | with_reducible refine WithinO.next ?_
    | with_reducible refine writeCompletion_within (hm.up (by with_unfolding_all rfl)) ?_
    | with_reducible refine cplStall_within (hm.up (by with_unfolding_all rfl)) ?_
    | split)

theorem bufComplete_within {m : Nat} {s0 s : State} {h_ : Nat} {slot : Nat} {result : Nat} {status : Nat} {bytes : Nat} {irq : Bool} (hm : Sub 0x2000 m)
    (h : Within m s0 s) : Within m s0 (bufComplete h_ slot result status bytes irq s) := by
  unfold bufComplete
  repeat' (first
    | with_reducible assumption
    | (extract_lets +onlyGivenNames x; clear_value x)
    | split
    | with_reducible refine Within.set_host (hm.bit (by with_unfolding_all rfl)) ?_)

theorem packetEcc_within {m : Nat} {s0 s : State} {p : Packet} {e : CelEcc} (hm : Sub 0x3e000000000000000000081100000200000000000000000000000000088000000000000021001381905 m)
    (h : Within m s0 s) : Within m s0 (packetEcc p e s) := by
  unfold packetEcc
  repeat' (first
    | with_reducible assumption
    | (extract_lets +onlyGivenNames x; first | (refine Within.cut (m := m) (s := s0) x ?_ (fun h => ?_); subst x; rotate_left; clear_value x; rotate_right) | (refine Within.cut (m := m) (s := s0) x.2 ?_ (fun h => ?_); subst x; rotate_left; clear_value x; rotate_right) | clear_value x | subst x)
    | with_reducible refine setRaw_within (by with_reducible with_unfolding_all exact hm.reach (.inl (by simp only [CEL_CE_row, CEL_EVENTS_CE_row, CEL_ERRADDR_LO_row, CEL_ERRADDR_HI_VALID_row, CEL_ERRADDR_HI_UE_row, CEL_ERRADDR_HI_ADDR_HI_row, CEL_EVENTS_UE_row]; rfl))) ?_
    | with_reducible refine setFlag_within (by with_reducible with_unfolding_all exact hm.reach (.inl (by simp only [CEL_CE_row, CEL_EVENTS_CE_row, CEL_ERRADDR_LO_row, CEL_ERRADDR_HI_VALID_row, CEL_ERRADDR_HI_UE_row, CEL_ERRADDR_HI_ADDR_HI_row, CEL_EVENTS_UE_row]; rfl))) ?_
    | with_reducible refine fsets_nil ?_
    | with_reducible refine fsets_cons ?_
    | with_reducible refine fset_within (by with_reducible with_unfolding_all exact hm.reach (.inl (by simp only [CEL_CE_row, CEL_EVENTS_CE_row, CEL_ERRADDR_LO_row, CEL_ERRADDR_HI_VALID_row, CEL_ERRADDR_HI_UE_row, CEL_ERRADDR_HI_ADDR_HI_row, CEL_EVENTS_UE_row]; rfl))) ?_
    | with_reducible refine draw_within (hm.bit (by with_unfolding_all rfl)) ?_
    | with_reducible refine celEvents_within (hm.up (by with_unfolding_all rfl)) ?_
    | with_reducible refine celUncorrectable_within (hm.up (by with_unfolding_all rfl)) ?_
    | with_reducible refine raise_within (hm.up (by with_unfolding_all rfl)) ?_
    | split)

theorem writePacket_within {m : Nat} {s0 s : State} {h_ : Nat} {slot : Nat} {buf : BufDesc} {ecc : CelEcc} {p : Packet} (hm : Sub 0x3e000000000000000000081100000200000000000000000000000000088000000000000021001383925 m)
    (h : Within m s0 s) : Within m s0 (writePacket h_ slot buf ecc p s) := by
  unfold writePacket
  repeat' (first
    | with_reducible assumption
    | (extract_lets +onlyGivenNames x; first | (refine Within.cut (m := m) (s := s0) x ?_ (fun h => ?_); subst x; rotate_left; clear_value x; rotate_right) | clear_value x | subst x)
    | with_reducible refine packetEcc_within (hm.up (by with_unfolding_all rfl)) ?_
    | with_reducible refine celEvents_within (hm.up (by with_unfolding_all rfl)) ?_
    | with_reducible refine memWrite_within (hm.up (by with_unfolding_all rfl)) ?_
    | with_reducible refine bufComplete_within (hm.up (by with_unfolding_all rfl)) ?_
    | split
    | with_reducible refine Within.set_host (hm.bit (by with_unfolding_all rfl)) ?_)

theorem execPacketDeliver_within {m : Nat} {s0 s : State} {h_ : Fin 16} {buf : BufDesc} {ecc : CelEcc} (hm : Sub 0x3e000000000000000000081100000200000000000000000000000000088010000000000021001383925 m)
    (h : Within m s0 s) : WithinO m s0 (execPacketDeliver h_ buf ecc s) := by
  unfold execPacketDeliver
  repeat' (first
    | with_reducible assumption
    | (extract_lets +onlyGivenNames x; first | (refine Within.cut (m := m) (s := s0) x ?_ (fun h => ?_); subst x; rotate_left; clear_value x; rotate_right) | clear_value x | subst x)
    | with_reducible refine WithinO.next ?_
    | with_reducible refine ringAdvance_within (hm.up (by with_unfolding_all rfl)) ?_
    | with_reducible refine memRead_within (hm.up (by with_unfolding_all rfl)) ?_
    | with_reducible refine bufComplete_within (hm.up (by with_unfolding_all rfl)) ?_
    | with_reducible refine writePacket_within (hm.up (by with_unfolding_all rfl)) ?_
    | split)

theorem vectorSend_within {m : Nat} {s0 s : State} {v : Nat} (hm : Sub 0x1000000000000000000000020 m)
    (h : Within m s0 s) : Within m s0 (vectorSend v s) := by
  unfold vectorSend
  repeat' (first
    | with_reducible assumption
    | (extract_lets +onlyGivenNames x; subst x)
    | with_reducible refine setRaw_within (by with_reducible with_unfolding_all exact hm.reach (.inl (by simp only [MSIX_PBA_row, MSIX_CTRL_MASK_row, MSIX_ADDR_HI_row, MSIX_ADDR_LO_row, MSIX_DATA_row]; rfl))) ?_
    | with_reducible refine emit_within (hm.bit (by with_unfolding_all rfl)) ?_
    | split)

theorem sourceSignal_within {m : Nat} {s0 s : State} {k : Nat} (hm : Sub 0x2000 m)
    (h : Within m s0 s) : Within m s0 (sourceSignal k s) := by
  unfold sourceSignal
  repeat' (first
    | with_reducible assumption
    | (extract_lets +onlyGivenNames x; clear_value x)
    | split
    | with_reducible refine Within.set_host (hm.bit (by with_unfolding_all rfl)) ?_)

theorem execMsixSignal_within {m : Nat} {s0 s : State} {src : Fin 22} (hm : Sub 0x1000000000000000000002020 m)
    (h : Within m s0 s) : WithinO m s0 (execMsixSignal src s) := by
  unfold execMsixSignal
  repeat' (first
    | with_reducible assumption
    | (extract_lets +onlyGivenNames x; first | clear_value x | subst x)
    | with_reducible refine WithinO.next ?_
    | with_reducible refine foldl_within (fun _ _ _ => ?_) ?_
    | with_reducible refine vectorSend_within (hm.up (by with_unfolding_all rfl)) ?_
    | with_reducible refine sourceSignal_within (hm.up (by with_unfolding_all rfl)) ?_
    | split)

theorem execMsixUnmask_within {m : Nat} {s0 s : State} {vec : Fin 64} (hm : Sub 0x1800000000000000000001021 m)
    (h : Within m s0 s) : WithinO m s0 (execMsixUnmask vec s) := by
  unfold execMsixUnmask
  repeat' (first
    | with_reducible assumption
    | (extract_lets +onlyGivenNames x; first | (refine Within.cut (m := m) (s := s0) x ?_ (fun h => ?_); subst x; rotate_left; clear_value x; rotate_right) | subst x)
    | with_reducible refine WithinO.next ?_
    | with_reducible refine setRaw_within (by with_reducible with_unfolding_all exact hm.reach (.inl (by simp only [MSIX_PBA_row, MSIX_CTRL_row, MSIX_CTRL_MASK_row]; rfl))) ?_
    | with_reducible refine setFlag_within (by with_reducible with_unfolding_all exact hm.reach (.inl (by simp only [MSIX_PBA_row, MSIX_CTRL_row, MSIX_CTRL_MASK_row]; rfl))) ?_
    | with_reducible refine onWrite_within (hm.up (by with_unfolding_all rfl)) (fun _ _ => ?_) ?_
    | with_reducible refine vectorSend_within (hm.up (by with_unfolding_all rfl)) ?_
    | split)

theorem pbaSend_within {m : Nat} {s0 s : State} (hm : Sub 0x1000000000000000000000020 m)
    (h : Within m s0 s) : Within m s0 (pbaSend s) := by
  unfold pbaSend
  repeat' (first
    | with_reducible assumption
    | (extract_lets +onlyGivenNames x; subst x)
    | with_reducible refine setRaw_within (by with_reducible with_unfolding_all exact hm.reach (.inl (by simp only [MSIX_PBA_row]; rfl))) ?_
    | with_reducible refine foldl_within (fun _ _ _ => ?_) ?_
    | with_reducible refine vectorSend_within (hm.up (by with_unfolding_all rfl)) ?_
    | split)

end Sys2Proof.Machine
end

