-- ==== Sys2Proof/Laws/StartOps.lean ====
section
/-! SUPPORT. What each definition of Machine/StartOps.lean can change, said once: the set of parts after Sub (Laws/Within.lean gives
the bits), the queue never, and the invariants kept. -/

set_option linter.unusedSimpArgs false

namespace Sys2Proof.Machine

theorem reachReady_within {m : Nat} {s0 s : State} (hm : Sub 0x8110000020000040000000000000000000008800000000000000d001781b01 m)
    (h : Within m s0 s) : Within m s0 (reachReady s) := by
  unfold reachReady
  repeat' (first
    | with_reducible assumption
    | (extract_lets +onlyGivenNames x; first | (refine Within.cut (m := m) (s := s0) x ?_ (fun h => ?_); subst x; rotate_left; clear_value x; rotate_right) | clear_value x | subst x)
    | with_reducible refine fsets_nil ?_
    | with_reducible refine fsets_cons ?_
    | with_reducible refine fset_within (by with_reducible with_unfolding_all exact hm.reach (.inl (by simp only [SYS_STARTS_FAILS_row, SYS_STARTSTAT_STEP_row, ATT_EVENTS_BANK_BAD_row]; rfl))) ?_
    | with_reducible refine foldl_within (fun _ _ _ => ?_) ?_
    | with_reducible refine enterMode_within (hm.up (by with_unfolding_all rfl)) ?_
    | with_reducible refine report_within (hm.up (by with_unfolding_all rfl)) (by with_reducible with_unfolding_all exact hm.reach (.inl (by simp only [SYS_STARTS_FAILS_row, SYS_STARTSTAT_STEP_row, ATT_EVENTS_BANK_BAD_row]; rfl))) ?_
    | split
    | with_reducible refine Within.set_start (hm.bit (by with_unfolding_all rfl)) ?_
    | with_reducible refine Within.set_att (hm.bit (by with_unfolding_all rfl)) ?_)

theorem limpFollow_within {m : Nat} {s0 s : State} (hm : Sub 0x81100000200000000000000000000000000088000000000000001001381901 m)
    (h : Within m s0 s) : Within m s0 (limpFollow s) := by
  unfold limpFollow
  repeat' (first
    | with_reducible assumption
    | (extract_lets +onlyGivenNames x; first | clear_value x | subst x)
    | with_reducible refine setFlag_within (by with_reducible with_unfolding_all exact hm.reach (.inl (by simp only [SYS_LIMP_row, SYS_EVENTS_LIMP_row]; rfl))) ?_
    | with_reducible refine enterMode_within (hm.up (by with_unfolding_all rfl)) ?_
    | split)

end Sys2Proof.Machine
end

