-- ==== Sys2Proof/Laws/Hwy.lean ====
section
/-! SUPPORT. What each definition of Machine/Hwy.lean can change, said once: the set of parts after Sub (Laws/Within.lean gives
the bits), the queue never, and the invariants kept. -/

set_option linter.unusedSimpArgs false

namespace Sys2Proof.Machine

theorem noteLost_within {m : Nat} {s0 s : State} {h_ : Nat} (hm : Sub 0x2000000 m)
    (h : Within m s0 s) : Within m s0 (noteLost h_ s) := by
  unfold noteLost
  repeat' (first
    | with_reducible assumption
    | (extract_lets +onlyGivenNames x; clear_value x)
    | split
    | with_reducible refine Within.set_hwy (hm.bit (by with_unfolding_all rfl)) ?_)

theorem passedPoint_within {m : Nat} {s0 s : State} {h_ : Fin 16} (hm : Sub 0x1040010000000040004000000000004c038000088000000000000020003387809 m)
    (h : Within m s0 s) : Within m s0 (passedPoint h_ s) := by
  unfold passedPoint
  repeat' (first
    | with_reducible assumption
    | (extract_lets +onlyGivenNames x; first | (refine Within.cut (m := m) (s := s0) x ?_ (fun h => ?_); subst x; rotate_left; clear_value x; rotate_right) | clear_value x | subst x)
    | with_reducible refine docAfterEnd_within (hm.up (by with_unfolding_all rfl)) ?_
    | with_reducible refine gridAdvance_within (hm.up (by with_unfolding_all rfl)) ?_
    | with_reducible refine ignoreCause_within (hm.up (by with_unfolding_all rfl)) ?_
    | with_reducible refine lineBegin_within (hm.up (by with_unfolding_all rfl)) ?_
    | with_reducible refine noteLost_within (hm.up (by with_unfolding_all rfl)) ?_
    | with_reducible refine overrun_within (hm.up (by with_unfolding_all rfl)) ?_
    | split)

theorem loadReplica_within {m : Nat} {s0 s : State} {a : Nat} {v : Nat} (hm : Sub 0x1040010000000040004000000000004c038000088000000000000020003387809 m)
    (h : Within m s0 s) : Within m s0 (loadReplica a v s) := by
  unfold loadReplica
  repeat' (first
    | with_reducible assumption
    | (extract_lets +onlyGivenNames x; first | (refine Within.cut (m := m) (s := s0) x ?_ (fun h => ?_); subst x; rotate_left; clear_value x; rotate_right) | clear_value x | subst x)
    | with_reducible refine foldl_within (fun _ _ _ => ?_) ?_
    | with_reducible refine passedPoint_within (hm.up (by with_unfolding_all rfl)) ?_
    | split
    | with_reducible refine Within.set_hwy (hm.bit (by with_unfolding_all rfl)) ?_)

theorem compareReplica_within {m : Nat} {s0 s : State} {mtime : Nat} {mpos : Nat → Nat} (hm : Sub 0x201040010000000040004000000000004c038000088000000000000020003387809 m)
    (h : Within m s0 s) : Within m s0 (compareReplica mtime mpos s) := by
  unfold compareReplica
  repeat' (first
    | with_reducible assumption
    | (extract_lets +onlyGivenNames x; first | clear_value x | subst x)
    | with_reducible refine setFlag_within (by with_reducible with_unfolding_all exact hm.reach (.inl (by simp only [HWY_CTL_AXMASK_row, HWY_EVENTS_POS_SYNC_row]; rfl))) ?_
    | with_reducible refine foldl_within (fun _ _ _ => ?_) ?_
    | with_reducible refine loadReplica_within (hm.up (by with_unfolding_all rfl)) ?_
    | split
    | with_reducible refine Within.set_hwy (hm.bit (by with_unfolding_all rfl)) ?_)

theorem applyStep_within {m : Nat} {s0 s : State} {q : TokStep} (hm : Sub 0x1040014000000040004000000000004c038000088000000000000020003387809 m)
    (h : Within m s0 s) : Within m s0 (applyStep q s) := by
  unfold applyStep
  repeat' (first
    | with_reducible assumption
    | (extract_lets +onlyGivenNames x; first | (refine Within.cut (m := m) (s := s0) x ?_ (fun h => ?_); subst x; rotate_left; clear_value x; rotate_right) | clear_value x | subst x)
    | with_reducible refine whenS_within (fun _ _ => ?_) ?_
    | with_reducible refine xsyncCause_within (hm.up (by with_unfolding_all rfl)) ?_
    | with_reducible refine noteMove_within (hm.up (by with_unfolding_all rfl)) ?_
    | with_reducible refine crossings_within (hm.up (by with_unfolding_all rfl)) ?_
    | split
    | with_reducible refine Within.set_hwy (hm.bit (by with_unfolding_all rfl)) ?_)

theorem execReplicaStep_within {m : Nat} {s0 s : State} (hm : Sub 0x1040014000000040004000000000004c038000088000000000000020003387809 m)
    (h : Within m s0 s) : WithinO m s0 (execReplicaStep s) := by
  unfold execReplicaStep
  repeat' (first
    | with_reducible assumption
    | (extract_lets +onlyGivenNames x; first | clear_value x | subst x)
    | with_reducible refine WithinO.next ?_
    | with_reducible refine foldl_within (fun _ _ _ => ?_) ?_
    | with_reducible refine applyStep_within (hm.up (by with_unfolding_all rfl)) ?_
    | split
    | with_reducible refine Within.set_hwy (hm.bit (by with_unfolding_all rfl)) ?_)

theorem execTokenRx_within {m : Nat} {s0 s : State} {a : BitVec 8} {b : BitVec 8} (hm : Sub 0x2000021 m)
    (h : Within m s0 s) : WithinO m s0 (execTokenRx a b s) := by
  unfold execTokenRx
  repeat' (first
    | with_reducible assumption
    | (extract_lets +onlyGivenNames x; first | (refine Within.cut (m := m) (s := s0) x ?_ (fun h => ?_); subst x; rotate_left; clear_value x; rotate_right) | clear_value x | subst x)
    | with_reducible refine WithinO.next ?_
    | with_reducible refine emit_within (hm.bit (by with_unfolding_all rfl)) ?_
    | with_reducible refine addStep_within (hm.up (by with_unfolding_all rfl)) ?_
    | split)

theorem slotTake_within {m : Nat} {s0 s : State} {c : Nat × Nat × List Byte} (hm : Sub 0x142000000000000000000000000000000000000000088000000000000000003001801 m)
    (h : Within m s0 s) : Within m s0 (slotTake c s).1 := by
  unfold slotTake
  repeat' (first
    | with_reducible assumption
    | (extract_lets +onlyGivenNames x; first | (refine Within.cut (m := m) (s := s0) x ?_ (fun h => ?_); subst x; rotate_left; clear_value x; rotate_right) | subst x)
    | with_reducible refine setRaw_within (by with_reducible with_unfolding_all exact hm.reach (.inl (by simp only [HWY_STATUS_INDEX_row, HWY_MSTAT_RX_FULL_row, HWY_MSTAT_SRC_row, HWY_EVENTS_MSG_RX_row, HWY_MRX_row]; rfl))) ?_
    | with_reducible refine fsets_nil ?_
    | with_reducible refine fsets_cons ?_
    | with_reducible refine fset_within (by with_reducible with_unfolding_all exact hm.reach (.inl (by simp only [HWY_STATUS_INDEX_row, HWY_MSTAT_RX_FULL_row, HWY_MSTAT_SRC_row, HWY_EVENTS_MSG_RX_row, HWY_MRX_row]; rfl))) ?_
    | with_reducible refine forN_within (fun _ _ _ => ?_) ?_
    | with_reducible refine pmcEvents_within (hm.up (by with_unfolding_all rfl)) ?_
    | with_reducible refine report_within (hm.up (by with_unfolding_all rfl)) (by with_reducible with_unfolding_all exact hm.reach (.inl (by simp only [HWY_STATUS_INDEX_row, HWY_MSTAT_RX_FULL_row, HWY_MSTAT_SRC_row, HWY_EVENTS_MSG_RX_row, HWY_MRX_row]; rfl))) ?_
    | split
    | dsimp -zeta only
    | with_reducible refine Within.set_hwy (hm.bit (by with_unfolding_all rfl)) ?_)

theorem partDone_within {m : Nat} {s0 s : State} (hm : Sub 0x40000000000000000000000000000000000000000000000000000000000002000000 m)
    (h : Within m s0 s) : Within m s0 (partDone s) := by
  unfold partDone
  repeat' (first
    | with_reducible assumption
    | (extract_lets +onlyGivenNames x; first | (refine Within.cut (m := m) (s := s0) x ?_ (fun h => ?_); subst x; rotate_left; clear_value x; rotate_right) | clear_value x | subst x)
    | with_reducible refine setFlag_within (by with_reducible with_unfolding_all exact hm.reach (.inl (by simp only [HWY_MSTAT_TX_BUSY_row]; rfl))) ?_
    | with_reducible refine whenS_within (fun _ _ => ?_) ?_
    | split
    | with_reducible refine Within.set_hwy (hm.bit (by with_unfolding_all rfl)) ?_)

theorem slotPlace_within {m : Nat} {s0 s : State} {c : Nat × Nat × List Byte} (hm : Sub 0x40000000000000000000000000000000000000000000000000000000000002000000 m)
    (h : Within m s0 s) : Within m s0 (slotPlace c s).1 := by
  unfold slotPlace
  repeat' (first
    | with_reducible assumption
    | (extract_lets +onlyGivenNames x; first | (refine Within.cut (m := m) (s := s0) x ?_ (fun h => ?_); subst x; rotate_left; clear_value x; rotate_right) | clear_value x)
    | with_reducible refine partDone_within (hm.up (by with_unfolding_all rfl)) ?_
    | split
    | with_reducible refine Within.set_hwy (hm.bit (by with_unfolding_all rfl)) ?_)

theorem execSuperframeSend_within {m : Nat} {s0 s : State} (hm : Sub 0x4201040010000000040004000000000004c038000088000000000000020003387829 m)
    (h : Within m s0 s) : WithinO m s0 (execSuperframeSend s) := by
  unfold execSuperframeSend
  repeat' (first
    | with_reducible assumption
    | (extract_lets +onlyGivenNames x; first | (refine Within.cut (m := m) (s := s0) x ?_ (fun h => ?_); subst x; rotate_left; clear_value x; rotate_right) | (refine Within.cut (m := m) (s := s0) x.1 ?_ (fun h => ?_); subst x; rotate_left; clear_value x; rotate_right) | clear_value x | subst x)
    | with_reducible refine WithinO.next ?_
    | with_reducible refine emit_within (hm.bit (by with_unfolding_all rfl)) ?_
    | with_reducible refine slotPlace_within (hm.up (by with_unfolding_all rfl)) ?_
    | with_reducible refine compareReplica_within (hm.up (by with_unfolding_all rfl)) ?_
    | split
    | with_reducible refine Within.set_hwy (hm.bit (by with_unfolding_all rfl)) ?_)

theorem memberLost_within {m : Nat} {s0 s : State} (hm : Sub 0x2000081100000200000000000000000000000000088000000000000021001381901 m)
    (h : Within m s0 s) : Within m s0 (memberLost s) := by
  unfold memberLost
  repeat' (first
    | with_reducible assumption
    | (extract_lets +onlyGivenNames x; first | (refine Within.cut (m := m) (s := s0) x ?_ (fun h => ?_); subst x; rotate_left; clear_value x; rotate_right) | clear_value x | subst x)
    | with_reducible refine limpCause_within (hm.up (by with_unfolding_all rfl)) (by with_reducible with_unfolding_all exact hm.reach (.inl (by simp only [SYS_LIMP_HWY_row, HWY_EVENTS_MEMBER_LOST_row]; rfl))) ?_
    | with_reducible refine report_within (hm.up (by with_unfolding_all rfl)) (by with_reducible with_unfolding_all exact hm.reach (.inl (by simp only [SYS_LIMP_HWY_row, HWY_EVENTS_MEMBER_LOST_row]; rfl))) ?_)

theorem readyFollow_within {m : Nat} {s0 s : State} (hm : Sub 0x200008110000020000040000000000000000000008800000000000002d003781b01 m)
    (h : Within m s0 s) : Within m s0 (readyFollow s) := by
  unfold readyFollow
  repeat' (first
    | with_reducible assumption
    | (extract_lets +onlyGivenNames x; first | (refine Within.cut (m := m) (s := s0) x ?_ (fun h => ?_); subst x; rotate_left; clear_value x; rotate_right) | clear_value x)
    | with_reducible refine reachReady_within (hm.up (by with_unfolding_all rfl)) ?_
    | with_reducible refine memberLost_within (hm.up (by with_unfolding_all rfl)) ?_
    | split
    | with_reducible refine Within.set_hwy (hm.bit (by with_unfolding_all rfl)) ?_)

theorem foldSeen_within {m : Nat} {s0 s : State} {f : Nat} (hm : Sub 0x1000000000000000000000000000000000000000000000000000000000002000001 m)
    (h : Within m s0 s) : Within m s0 (foldSeen f s) := by
  unfold foldSeen
  repeat' (first
    | with_reducible assumption
    | (extract_lets +onlyGivenNames x; first | (refine Within.cut (m := m) (s := s0) x ?_ (fun h => ?_); subst x; rotate_left; clear_value x; rotate_right) | clear_value x | subst x)
    | with_reducible refine setFlag_within (by with_reducible with_unfolding_all exact hm.reach (.inl (by simp only [HWY_STATUS_FOLDED_row]; rfl))) ?_
    | with_reducible refine schedule_within (hm.up (by with_unfolding_all rfl)) ?_
    | split
    | with_reducible refine Within.set_hwy (hm.bit (by with_unfolding_all rfl)) ?_)

theorem masterRx_within {m : Nat} {s0 s : State} {port : Nat} {b : List Byte} (hm : Sub 0x14300008110000020000040000000000000000000008800000000000002d003781b01 m)
    (h : Within m s0 s) : Within m s0 (masterRx port b s) := by
  unfold masterRx
  repeat' (first
    | with_reducible assumption
    | (extract_lets +onlyGivenNames x; first | (refine Within.cut (m := m) (s := s0) x ?_ (fun h => ?_); subst x; rotate_left; clear_value x; rotate_right) | (refine Within.cut (m := m) (s := s0) x.1 ?_ (fun h => ?_); subst x; rotate_left; clear_value x; rotate_right) | clear_value x | subst x)
    | with_reducible refine foldSeen_within (hm.up (by with_unfolding_all rfl)) ?_
    | with_reducible refine readyFollow_within (hm.up (by with_unfolding_all rfl)) ?_
    | with_reducible refine slotTake_within (hm.up (by with_unfolding_all rfl)) ?_
    | split
    | with_reducible refine Within.set_hwy (hm.bit (by with_unfolding_all rfl)) ?_)

theorem loadTime_within {m : Nat} {s0 s : State} {t : Nat} (hm : Sub 0x203 m)
    (h : Within m s0 s) : Within m s0 (loadTime t s) := by
  unfold loadTime
  repeat' (first
    | with_reducible assumption
    | (extract_lets +onlyGivenNames x; first | (refine Within.cut (m := m) (s := s0) x ?_ (fun h => ?_); subst x; rotate_left; clear_value x; rotate_right) | clear_value x)
    | split
    | with_reducible refine Within.set_time (Nat.mod_lt _ (by decide)) (hm.bit (by with_unfolding_all rfl)) ?_
    | with_reducible refine Within.set_agenda (hm.bit (by with_unfolding_all rfl)) ?_
    | with_reducible refine Within.set_start (hm.bit (by with_unfolding_all rfl)) ?_)

theorem alignFollow_within {m : Nat} {s0 s : State} {mine : Nat} (hm : Sub 0x88000000000188000001001805 m)
    (h : Within m s0 s) : Within m s0 (alignFollow mine s) := by
  unfold alignFollow
  repeat' (first
    | with_reducible assumption
    | (extract_lets +onlyGivenNames x; first | (refine Within.cut (m := m) (s := s0) x ?_ (fun h => ?_); subst x; rotate_left; clear_value x; rotate_right) | (refine Within.cut (m := m) (s := s0) x.2 ?_ (fun h => ?_); subst x; rotate_left; clear_value x; rotate_right) | clear_value x | subst x)
    | with_reducible refine setFlag_within (by with_reducible with_unfolding_all exact hm.reach (.inl (by simp only [CLK_TIME_ERR_ERR_row, CLK_STEER_STEER_row, CLK_STATUS_TIME_ALIGNED_row]; rfl))) ?_
    | with_reducible refine fsets_nil ?_
    | with_reducible refine fsets_cons ?_
    | with_reducible refine fset_within (by with_reducible with_unfolding_all exact hm.reach (.inl (by simp only [CLK_TIME_ERR_ERR_row, CLK_STEER_STEER_row, CLK_STATUS_TIME_ALIGNED_row]; rfl))) ?_
    | with_reducible refine draw_within (hm.bit (by with_unfolding_all rfl)) ?_
    | with_reducible refine raise_within (hm.up (by with_unfolding_all rfl)) ?_
    | split)

theorem laneFollow_within {m : Nat} {s0 s : State} (hm : Sub 0x1000000000000000000000000000000000000000000000000000008000000000000 m)
    (h : Within m s0 s) : Within m s0 (laneFollow s) := by
  unfold laneFollow
  repeat' (first
    | with_reducible assumption
    | (extract_lets +onlyGivenNames x; first | clear_value x | subst x)
    | with_reducible refine fsets_nil ?_
    | with_reducible refine fsets_cons ?_
    | with_reducible refine fset_within (by with_reducible with_unfolding_all exact hm.reach (.inl (by simp only [HWY_STATUS_MASTER_row, HWY_STATUS_N_row, HWY_STATUS_INDEX_row, HWY_STATUS_LANE_row, CLK_STATUS_HOPS_row]; rfl))) ?_
    | split)

theorem followRx_within {m : Nat} {s0 s : State} {b : List Byte} (hm : Sub 0x201048110000020040044000000000004c03800008800000000018802d003787b0f m)
    (h : Within m s0 s) : Within m s0 (followRx b s) := by
  unfold followRx
  repeat' (first
    | with_reducible assumption
    | (extract_lets +onlyGivenNames x; first | (refine Within.cut (m := m) (s := s0) x ?_ (fun h => ?_); subst x; rotate_left; clear_value x; rotate_right) | clear_value x | subst x)
    | with_reducible refine loadTime_within (hm.up (by with_unfolding_all rfl)) ?_
    | with_reducible refine alignFollow_within (hm.up (by with_unfolding_all rfl)) ?_
    | with_reducible refine readyFollow_within (hm.up (by with_unfolding_all rfl)) ?_
    | with_reducible refine compareReplica_within (hm.up (by with_unfolding_all rfl)) ?_
    | split
    | with_reducible refine Within.set_hwy (hm.bit (by with_unfolding_all rfl)) ?_)

theorem repeatRx_within {m : Nat} {s0 s : State} {port : Nat} {b : List Byte} (hm : Sub 0x142000000000000000000000000000000000000000088000000000000000003001821 m)
    (h : Within m s0 s) : Within m s0 (repeatRx port b s) := by
  unfold repeatRx
  repeat' (first
    | with_reducible assumption
    | (extract_lets +onlyGivenNames x; first | (refine Within.cut (m := m) (s := s0) x ?_ (fun h => ?_); subst x; rotate_left; clear_value x; rotate_right) | (refine Within.cut (m := m) (s := s0) x.1 ?_ (fun h => ?_); subst x; rotate_left; clear_value x; rotate_right) | clear_value x)
    | with_reducible refine emit_within (hm.bit (by with_unfolding_all rfl)) ?_
    | with_reducible refine slotTake_within (hm.up (by with_unfolding_all rfl)) ?_
    | with_reducible refine slotPlace_within (hm.up (by with_unfolding_all rfl)) ?_
    | split)

theorem ringLook_within {m : Nat} {s0 s : State} {hop : Nat} {folded : Bool} (hm : Sub 0x2000000 m)
    (h : Within m s0 s) : Within m s0 (ringLook hop folded s) := by
  unfold ringLook
  repeat' (first
    | with_reducible assumption
    | (extract_lets +onlyGivenNames x; clear_value x)
    | split
    | with_reducible refine Within.set_hwy (hm.bit (by with_unfolding_all rfl)) ?_)

theorem execSuperframeRx_within {m : Nat} {s0 s : State} {port : Fin 2} {bytes : List Byte} (hm : Sub 0x15301048110000020040044000000000004c03800008800000000018802d003787b2f m)
    (h : Within m s0 s) : WithinO m s0 (execSuperframeRx port bytes s) := by
  unfold execSuperframeRx
  repeat' (first
    | with_reducible assumption
    | (extract_lets +onlyGivenNames x; first | (refine Within.cut (m := m) (s := s0) x ?_ (fun h => ?_); subst x; rotate_left; clear_value x; rotate_right) | clear_value x | subst x)
    | with_reducible refine WithinO.next ?_
    | with_reducible refine fset_within (by with_reducible with_unfolding_all exact hm.reach (.inl (by simp only [HWY_ERRCNT_CRC_row, HWY_STATUS_MASTER_row, HWY_STATUS_LANE_row]; rfl))) ?_
    | with_reducible refine whenS_within (fun _ _ => ?_) ?_
    | with_reducible refine masterRx_within (hm.up (by with_unfolding_all rfl)) ?_
    | with_reducible refine ringLook_within (hm.up (by with_unfolding_all rfl)) ?_
    | with_reducible refine foldSeen_within (hm.up (by with_unfolding_all rfl)) ?_
    | with_reducible refine laneFollow_within (hm.up (by with_unfolding_all rfl)) ?_
    | with_reducible refine followRx_within (hm.up (by with_unfolding_all rfl)) ?_
    | with_reducible refine repeatRx_within (hm.up (by with_unfolding_all rfl)) ?_
    | split
    | with_reducible refine Within.set_hwy (hm.bit (by with_unfolding_all rfl)) ?_)

theorem execHwyMsgSend_within {m : Nat} {s0 s : State} {v : Word} (hm : Sub 0x60000000000000000000000000000000000000000000000000000000000002001001 m)
    (h : Within m s0 s) : WithinO m s0 (execHwyMsgSend v s) := by
  unfold execHwyMsgSend
  repeat' (first
    | with_reducible assumption
    | (extract_lets +onlyGivenNames x; first | (refine Within.cut (m := m) (s := s0) x ?_ (fun h => ?_); subst x; rotate_left; clear_value x; rotate_right) | clear_value x | subst x)
    | with_reducible refine WithinO.next ?_
    | with_reducible refine setFlag_within (by with_reducible with_unfolding_all exact hm.reach (.inl (by simp only [HWY_MCTL_row, HWY_MCTL_BCAST_row, HWY_MCTL_DST_row, HWY_MSTAT_TX_BUSY_row]; rfl))) ?_
    | with_reducible refine fsets_nil ?_
    | with_reducible refine fsets_cons ?_
    | with_reducible refine fset_within (by with_reducible with_unfolding_all exact hm.reach (.inl (by simp only [HWY_MCTL_row, HWY_MCTL_BCAST_row, HWY_MCTL_DST_row, HWY_MSTAT_TX_BUSY_row]; rfl))) ?_
    | with_reducible refine onWrite_within (hm.up (by with_unfolding_all rfl)) (fun _ _ => ?_) ?_
    | split
    | with_reducible refine Within.set_hwy (hm.bit (by with_unfolding_all rfl)) ?_)

theorem enumSend_within {m : Nat} {s0 s : State} (hm : Sub 0x20 m)
    (h : Within m s0 s) : Within m s0 (enumSend s) := by
  unfold enumSend
  repeat' (first
    | with_reducible assumption
    | (extract_lets +onlyGivenNames x; clear_value x)
    | with_reducible refine emit_within (hm.bit (by with_unfolding_all rfl)) ?_
    | split)

theorem execHwySymbolLock_within {m : Nat} {s0 s : State} {port : Fin 2} (hm : Sub 0x2000020 m)
    (h : Within m s0 s) : WithinO m s0 (execHwySymbolLock port s) := by
  unfold execHwySymbolLock
  repeat' (first
    | with_reducible assumption
    | (extract_lets +onlyGivenNames x; first | clear_value x | subst x)
    | with_reducible refine WithinO.next ?_
    | with_reducible refine enumSend_within (hm.up (by with_unfolding_all rfl)) ?_
    | split
    | with_reducible refine Within.set_hwy (hm.bit (by with_unfolding_all rfl)) ?_)

theorem ringJoin_within {m : Nat} {s0 s : State} {index : Nat} {n : Nat} {udly : Nat} {ddly : Nat} (hm : Sub 0x9000000000000000000000000000000000000000000000000000008020002000000 m)
    (h : Within m s0 s) : Within m s0 (ringJoin index n udly ddly s) := by
  unfold ringJoin
  repeat' (first
    | with_reducible assumption
    | (extract_lets +onlyGivenNames x; first | (refine Within.cut (m := m) (s := s0) x ?_ (fun h => ?_); subst x; rotate_left; clear_value x; rotate_right) | clear_value x | subst x)
    | with_reducible refine fsets_nil ?_
    | with_reducible refine fsets_cons ?_
    | with_reducible refine fset_within (by with_reducible with_unfolding_all exact hm.reach (.inl (by simp only [HWY_STATUS_MASTER_row, HWY_STATUS_N_row, HWY_STATUS_INDEX_row, HWY_STATUS_ENUM_ERR_row, HWY_STATUS_FOLDED_row, HWY_STATUS_LANE_row, HWY_LINK_U_DLY_row, HWY_LINK_D_DLY_row, CLK_STATUS_HOPS_row, CLK_STATUS_TIME_ALIGNED_row, SYS_LIMP_HWY_row]; rfl))) ?_
    | split
    | with_reducible refine Within.set_hwy (hm.bit (by with_unfolding_all rfl)) ?_)

theorem ringFail_within {m : Nat} {s0 s : State} {err : Nat} (hm : Sub 0x3000000000000000000000000000000000000000000000000000008000002000000 m)
    (h : Within m s0 s) : Within m s0 (ringFail err s) := by
  unfold ringFail
  repeat' (first
    | with_reducible assumption
    | (extract_lets +onlyGivenNames x; first | (refine Within.cut (m := m) (s := s0) x ?_ (fun h => ?_); subst x; rotate_left; clear_value x; rotate_right) | clear_value x | subst x)
    | with_reducible refine setFlag_within (by with_reducible with_unfolding_all exact hm.reach (.inl (by simp only [HWY_STATUS_ENUM_ERR_row, CLK_STATUS_HOPS_row, CLK_STATUS_TIME_ALIGNED_row, HWY_EVENTS_ENUM_FAIL_row]; rfl))) ?_
    | with_reducible refine fsets_nil ?_
    | with_reducible refine fsets_cons ?_
    | with_reducible refine fset_within (by with_reducible with_unfolding_all exact hm.reach (.inl (by simp only [HWY_STATUS_ENUM_ERR_row, CLK_STATUS_HOPS_row, CLK_STATUS_TIME_ALIGNED_row, HWY_EVENTS_ENUM_FAIL_row]; rfl))) ?_
    | split
    | with_reducible refine Within.set_hwy (hm.bit (by with_unfolding_all rfl)) ?_)

theorem execEnumerationDone_within {m : Nat} {s0 s : State} {index : Nat} {n : Nat} {err : Nat} {udly : Nat} {ddly : Nat} (hm : Sub 0xb000000000000000000000000000000000000000000000000000008020002000000 m)
    (h : Within m s0 s) : WithinO m s0 (execEnumerationDone index n err udly ddly s) := by
  unfold execEnumerationDone
  repeat' (first
    | with_reducible assumption
    | (extract_lets +onlyGivenNames x; first | clear_value x | subst x)
    | with_reducible refine WithinO.next ?_
    | with_reducible refine ringJoin_within (hm.up (by with_unfolding_all rfl)) ?_
    | with_reducible refine ringFail_within (hm.up (by with_unfolding_all rfl)) ?_
    | split
    | with_reducible refine Within.set_hwy (hm.bit (by with_unfolding_all rfl)) ?_)

theorem execHwyBreak_within {m : Nat} {s0 s : State} {port : Fin 2} (hm : Sub 0x3000081100000200000000000000000000000000088000000000008021003381901 m)
    (h : Within m s0 s) : WithinO m s0 (execHwyBreak port s) := by
  unfold execHwyBreak
  repeat' (first
    | with_reducible assumption
    | (extract_lets +onlyGivenNames x; first | (refine Within.cut (m := m) (s := s0) x ?_ (fun h => ?_); subst x; rotate_left; clear_value x; rotate_right) | clear_value x | subst x)
    | with_reducible refine WithinO.next ?_
    | with_reducible refine setFlag_within (by with_reducible with_unfolding_all exact hm.reach (.inl (by simp only [HWY_STATUS_FOLDED_row, HWY_EVENTS_BREAK_row]; rfl))) ?_
    | with_reducible refine ringFail_within (hm.up (by with_unfolding_all rfl)) ?_
    | with_reducible refine memberLost_within (hm.up (by with_unfolding_all rfl)) ?_
    | with_reducible refine schedule_within (hm.up (by with_unfolding_all rfl)) ?_
    | split
    | with_reducible refine Within.set_hwy (hm.bit (by with_unfolding_all rfl)) ?_)

theorem execFoldComplete_within {m : Nat} {s0 s : State} (hm : Sub 0x1000000000000000000000000000000000000000088000000000008000003001801 m)
    (h : Within m s0 s) : WithinO m s0 (execFoldComplete s) := by
  unfold execFoldComplete
  repeat' (first
    | with_reducible assumption
    | (extract_lets +onlyGivenNames x; first | (refine Within.cut (m := m) (s := s0) x ?_ (fun h => ?_); subst x; rotate_left; clear_value x; rotate_right) | clear_value x | subst x)
    | with_reducible refine WithinO.next ?_
    | with_reducible refine foldl_within (fun _ _ _ => ?_) ?_
    | with_reducible refine laneFollow_within (hm.up (by with_unfolding_all rfl)) ?_
    | with_reducible refine raise_within (hm.up (by with_unfolding_all rfl)) ?_
    | split
    | with_reducible refine Within.set_hwy (hm.bit (by with_unfolding_all rfl)) ?_)

theorem execHwyCutOff_within {m : Nat} {s0 s : State} (hm : Sub 0x20000811000023800046400000083008000180000880000000000000110017bfb09 m)
    (h : Within m s0 s) : WithinO m s0 (execHwyCutOff s) := by
  unfold execHwyCutOff
  repeat' (first
    | with_reducible assumption
    | (extract_lets +onlyGivenNames x; first | (refine Within.cut (m := m) (s := s0) x ?_ (fun h => ?_); subst x; rotate_left; clear_value x; rotate_right) | clear_value x | subst x)
    | with_reducible refine WithinO.next ?_
    | with_reducible refine setFlag_within (by with_reducible with_unfolding_all exact hm.reach (.inl (by simp only [HWY_EVENTS_CUT_OFF_row]; rfl))) ?_
    | with_reducible refine haltCause_within (hm.up (by with_unfolding_all rfl)) ?_
    | split)

theorem execHwyRejoin_within {m : Nat} {s0 s : State} (hm : Sub 0x2000000000000000000000000000000000000000000000000000000000002001021 m)
    (h : Within m s0 s) : WithinO m s0 (execHwyRejoin s) := by
  unfold execHwyRejoin
  repeat' (first
    | with_reducible assumption
    | (extract_lets +onlyGivenNames x; first | clear_value x | subst x)
    | with_reducible refine WithinO.next ?_
    | with_reducible refine setFlag_within (by with_reducible with_unfolding_all exact hm.reach (.inl (by simp only [HWY_CMD_row, HWY_EVENTS_CMD_REJ_row, HWY_CTL_EN_row, HWY_STATUS_MASTER_row]; rfl))) ?_
    | with_reducible refine onWrite_within (hm.up (by with_unfolding_all rfl)) (fun _ _ => ?_) ?_
    | with_reducible refine enumSend_within (hm.up (by with_unfolding_all rfl)) ?_
    | split
    | with_reducible refine Within.set_hwy (hm.bit (by with_unfolding_all rfl)) ?_)

theorem ringLeave_within {m : Nat} {s0 s : State} (hm : Sub 0x41000000000000000000000000000000000000000000000000000008000002000000 m)
    (h : Within m s0 s) : Within m s0 (ringLeave s) := by
  unfold ringLeave
  repeat' (first
    | with_reducible assumption
    | (extract_lets +onlyGivenNames x; first | (refine Within.cut (m := m) (s := s0) x ?_ (fun h => ?_); subst x; rotate_left; clear_value x; rotate_right) | clear_value x | subst x)
    | with_reducible refine fsets_nil ?_
    | with_reducible refine fsets_cons ?_
    | with_reducible refine fset_within (by with_reducible with_unfolding_all exact hm.reach (.inl (by simp only [HWY_STATUS_FOLDED_row, HWY_STATUS_LANE_row, HWY_STATUS_ENUM_ERR_row, HWY_STATUS_N_row, HWY_STATUS_INDEX_row, CLK_STATUS_HOPS_row, CLK_STATUS_TIME_ALIGNED_row, HWY_MSTAT_TX_BUSY_row]; rfl))) ?_
    | split
    | with_reducible refine Within.set_hwy (hm.bit (by with_unfolding_all rfl)) ?_)

theorem execHwyCtlWrite_within {m : Nat} {s0 s : State} {v : Word} (hm : Sub 0x43800000000000000000000000000000000000000000000000000008000002001001 m)
    (h : Within m s0 s) : WithinO m s0 (execHwyCtlWrite v s) := by
  unfold execHwyCtlWrite
  repeat' (first
    | with_reducible assumption
    | (extract_lets +onlyGivenNames x; first | (refine Within.cut (m := m) (s := s0) x ?_ (fun h => ?_); subst x; rotate_left; clear_value x; rotate_right) | clear_value x | subst x)
    | with_reducible refine WithinO.next ?_
    | with_reducible refine fset_within (by with_reducible with_unfolding_all exact hm.reach (.inl (by simp only [HWY_CTL_row, HWY_CTL_AXMASK_row, HWY_CTL_EN_row, HWY_EVENTS_CMD_REJ_row]; rfl))) ?_
    | with_reducible refine setFlag_within (by with_reducible with_unfolding_all exact hm.reach (.inl (by simp only [HWY_CTL_row, HWY_CTL_AXMASK_row, HWY_CTL_EN_row, HWY_EVENTS_CMD_REJ_row]; rfl))) ?_
    | with_reducible refine onWrite_within (hm.up (by with_unfolding_all rfl)) (fun _ _ => ?_) ?_
    | with_reducible refine ringLeave_within (hm.up (by with_unfolding_all rfl)) ?_
    | split)

theorem execHwyErrcntRead_within {m : Nat} {s0 s : State} (hm : Sub 0x10000000000000000000000000000000000000000000000000000000000000001041 m)
    (h : Within m s0 s) : WithinO m s0 (execHwyErrcntRead s) := by
  unfold execHwyErrcntRead
  repeat' (first
    | with_reducible assumption
    | (extract_lets +onlyGivenNames x; first | (refine Within.cut (m := m) (s := s0) x ?_ (fun h => ?_); subst x; rotate_left; clear_value x; rotate_right) | clear_value x | subst x)
    | with_reducible refine WithinO.next ?_
    | with_reducible refine rcRead_within (hm.up (by with_unfolding_all rfl)) (by with_reducible with_unfolding_all exact hm.reach (.inl (by simp only [HWY_ERRCNT_row]; rfl))) ?_)

end Sys2Proof.Machine
end

