-- ==== Sys2Proof/Laws/ImageCal.lean ====
section
/-! SUPPORT. What each definition of Machine/ImageCal.lean can change, said once: the set of parts after Sub (Laws/Within.lean gives
the bits), the queue never, and the invariants kept. -/

set_option linter.unusedSimpArgs false

namespace Sys2Proof.Machine

theorem calResult_within {m : Nat} {s0 s : State} {r : RunSt} {code : Nat} {count : Nat} (hm : Sub 0x1c0000000000000000088000000000000000001003801 m)
    (h : Within m s0 s) : Within m s0 (calResult r code count s) := by
  unfold calResult
  repeat' (first
    | with_reducible assumption
    | (extract_lets +onlyGivenNames x; first | (refine Within.cut (m := m) (s := s0) x ?_ (fun h => ?_); subst x; rotate_left; clear_value x; rotate_right) | clear_value x | subst x)
    | with_reducible refine setRaw_within (by with_reducible with_unfolding_all exact hm.reach (.inl (by simp only [SHD_LAST_CODE_row, SHD_LAST_KIND_row, SHD_LAST_HEAD_row, SHD_LAST_BAND_row, SHD_LASTCNT_row, SHD_EVENTS_RUN_DONE_row, SHD_EVENTS_RUN_FAIL_row]; rfl))) ?_
    | with_reducible refine setFlag_within (by with_reducible with_unfolding_all exact hm.reach (.inl (by simp only [SHD_LAST_CODE_row, SHD_LAST_KIND_row, SHD_LAST_HEAD_row, SHD_LAST_BAND_row, SHD_LASTCNT_row, SHD_EVENTS_RUN_DONE_row, SHD_EVENTS_RUN_FAIL_row]; rfl))) ?_
    | with_reducible refine fsets_nil ?_
    | with_reducible refine fsets_cons ?_
    | with_reducible refine fset_within (by with_reducible with_unfolding_all exact hm.reach (.inl (by simp only [SHD_LAST_CODE_row, SHD_LAST_KIND_row, SHD_LAST_HEAD_row, SHD_LAST_BAND_row, SHD_LASTCNT_row, SHD_EVENTS_RUN_DONE_row, SHD_EVENTS_RUN_FAIL_row]; rfl))) ?_
    | with_reducible refine raise_within (hm.up (by with_unfolding_all rfl)) ?_
    | with_reducible refine complete_within (hm.up (by with_unfolding_all rfl)) ?_
    | split)

theorem showRun_within {m : Nat} {s0 s : State} {h_ : Nat} {b : Bool} (hm : Sub 0x40020000000000000000000000000000000000000000000 m)
    (h : Within m s0 s) : Within m s0 (showRun h_ b s) := by
  unfold showRun
  repeat' (first
    | with_reducible assumption
    | (extract_lets +onlyGivenNames x; first | clear_value x | subst x)
    | with_reducible refine fset_within (by with_reducible with_unfolding_all exact hm.reach (.inl (by simp only [SHD_STATUS_RUN_row, SHD_HSTAT_RUN_row]; rfl))) ?_
    | with_reducible refine setFlag_within (by with_reducible with_unfolding_all exact hm.reach (.inl (by simp only [SHD_STATUS_RUN_row, SHD_HSTAT_RUN_row]; rfl))) ?_)

theorem execCalRun_within {m : Nat} {s0 s : State} {slot : Nat} (hm : Sub 0x401e0000000000010000088000000000000000001083801 m)
    (h : Within m s0 s) : WithinO m s0 (execCalRun slot s) := by
  unfold execCalRun
  repeat' (first
    | with_reducible assumption
    | (extract_lets +onlyGivenNames x; first | (refine Within.cut (m := m) (s := s0) x ?_ (fun h => ?_); subst x; rotate_left; clear_value x; rotate_right) | clear_value x | subst x)
    | with_reducible refine WithinO.next ?_
    | with_reducible refine fset_within (by with_reducible with_unfolding_all exact hm.reach (.inl (by simp only [HEAD_STATUS_BAND_row]; rfl))) ?_
    | with_reducible refine calResult_within (hm.up (by with_unfolding_all rfl)) ?_
    | with_reducible refine showRun_within (hm.up (by with_unfolding_all rfl)) ?_
    | with_reducible refine schedule_within (hm.up (by with_unfolding_all rfl)) ?_
    | split
    | with_reducible refine Within.set_shd (hm.bit (by with_unfolding_all rfl)) ?_)

theorem runCause_within {m : Nat} {s0 s : State} {h_ : Fin 16} {b : Nat} {tag : Nat} {pt : Nat} (hm : Sub 0x1040014000000040004000000000004c038000088000000000000020001387809 m)
    (h : Within m s0 s) : Within m s0 (runCause h_ b tag pt s).1 := by
  unfold runCause
  repeat' (first
    | with_reducible assumption
    | (extract_lets +onlyGivenNames x; first | (refine Within.cut (m := m) (s := s0) x ?_ (fun h => ?_); subst x; rotate_left; clear_value x; rotate_right) | clear_value x)
    | with_reducible refine causeAt_within (hm.up (by with_unfolding_all rfl)) ?_
    | with_reducible refine setHead_within (hm.up (by with_unfolding_all rfl)) ?_)

theorem execCalRunTrigger_within {m : Nat} {s0 s : State} {h_ : Fin 16} (hm : Sub 0x1040014000000040004000000000004c038000088000000000000020001387809 m)
    (h : Within m s0 s) : WithinO m s0 (execCalRunTrigger h_ s) := by
  unfold execCalRunTrigger
  repeat' (first
    | with_reducible assumption
    | (extract_lets +onlyGivenNames x; first | (refine Within.cut (m := m) (s := s0) x ?_ (fun h => ?_); subst x; rotate_left; clear_value x; rotate_right) | (refine Within.cut (m := m) (s := s0) x.1 ?_ (fun h => ?_); subst x; rotate_left; clear_value x; rotate_right) | clear_value x | subst x)
    | with_reducible refine WithinO.next ?_
    | with_reducible refine whenS_within (fun _ _ => ?_) ?_
    | with_reducible refine abortRun_within (hm.up (by with_unfolding_all rfl)) ?_
    | with_reducible refine runCause_within (hm.up (by with_unfolding_all rfl)) ?_
    | with_reducible refine setRun_within (hm.up (by with_unfolding_all rfl)) ?_
    | with_reducible refine schedule_within (hm.up (by with_unfolding_all rfl)) ?_
    | with_reducible refine runDone_within (hm.up (by with_unfolding_all rfl)) ?_
    | split)

theorem startCommits_within {m : Nat} {s0 s : State} {r : RunSt} {code : Nat} {count : Nat} {todo : List (Nat × Nat × List Nat)} (hm : Sub 0xa0001 m)
    (h : Within m s0 s) : Within m s0 (startCommits r code count todo s) := by
  unfold startCommits
  repeat' (first
    | with_reducible assumption
    | (extract_lets +onlyGivenNames x; first | (refine Within.cut (m := m) (s := s0) x ?_ (fun h => ?_); subst x; rotate_left; clear_value x; rotate_right) | clear_value x | subst x)
    | with_reducible refine nextBlock_within (hm.up (by with_unfolding_all rfl)) ?_
    | with_reducible refine setRun_within (hm.up (by with_unfolding_all rfl)) ?_)

theorem deriveDark_within {m : Nat} {s0 s : State} {r : RunSt} (hm : Sub 0xa0001 m)
    (h : Within m s0 s) : Within m s0 (deriveDark r s) := by
  unfold deriveDark
  repeat' (first
    | with_reducible assumption
    | (extract_lets +onlyGivenNames x; clear_value x)
    | with_reducible refine endRun_within (hm.up (by with_unfolding_all rfl)) ?_
    | with_reducible refine startCommits_within (hm.up (by with_unfolding_all rfl)) ?_
    | split)

theorem deriveWhite_within {m : Nat} {s0 s : State} {r : RunSt} (hm : Sub 0xa0001 m)
    (h : Within m s0 s) : Within m s0 (deriveWhite r s) := by
  unfold deriveWhite
  repeat' (first
    | with_reducible assumption
    | (extract_lets +onlyGivenNames x; clear_value x)
    | with_reducible refine startCommits_within (hm.up (by with_unfolding_all rfl)) ?_)

theorem restorePhases_within {m : Nat} {s0 s : State} {r : RunSt} (hm : Sub 0x8 m)
    (h : Within m s0 s) : Within m s0 (restorePhases r s) := by
  unfold restorePhases
  repeat' (first
    | with_reducible assumption
    | (extract_lets +onlyGivenNames x; clear_value x)
    | with_reducible refine foldl_within (fun _ _ _ => ?_) ?_
    | split
    | with_reducible refine Within.set_active tset_wf (hm.bit (by with_unfolding_all rfl)) ?_)

theorem writePhase_within {m : Nat} {s0 s : State} {r : RunSt} {t : Nat} {i : Nat} (hm : Sub 0x40000000000900000000000000000000000000000088000 m)
    (h : Within m s0 s) : Within m s0 (writePhase r t i s) := by
  unfold writePhase
  repeat' (first
    | with_reducible assumption
    | (extract_lets +onlyGivenNames x; first | (refine Within.cut (m := m) (s := s0) x ?_ (fun h => ?_); subst x; rotate_left; clear_value x; rotate_right) | clear_value x | subst x)
    | with_reducible refine setRaw_within (by with_reducible with_unfolding_all exact hm.reach (.inl (by simp only [TAP_PHASE_row, HEAD_CLK_DIV_row, TAP_STATUS_PEND_row]; rfl))) ?_
    | with_reducible refine setFlag_within (by with_reducible with_unfolding_all exact hm.reach (.inl (by simp only [TAP_PHASE_row, HEAD_CLK_DIV_row, TAP_STATUS_PEND_row]; rfl))) ?_
    | with_reducible refine whiteRestartTap_within (hm.up (by with_unfolding_all rfl)) ?_
    | with_reducible refine setTap_within (hm.up (by with_unfolding_all rfl)) ?_)

theorem derivePhase_within {m : Nat} {s0 s : State} {r : RunSt} (hm : Sub 0x40000000000900000000000000000000000000000088009 m)
    (h : Within m s0 s) : Within m s0 (derivePhase r s) := by
  unfold derivePhase
  repeat' (first
    | with_reducible assumption
    | (extract_lets +onlyGivenNames x; first | (refine Within.cut (m := m) (s := s0) x ?_ (fun h => ?_); subst x; rotate_left; clear_value x; rotate_right) | clear_value x | subst x)
    | with_reducible refine foldl_within (fun _ _ _ => ?_) ?_
    | with_reducible refine writePhase_within (hm.up (by with_unfolding_all rfl)) ?_
    | with_reducible refine restorePhases_within (hm.up (by with_unfolding_all rfl)) ?_
    | with_reducible refine endRun_within (hm.up (by with_unfolding_all rfl)) ?_
    | split)

theorem deriveLamp_within {m : Nat} {s0 s : State} {r : RunSt} (hm : Sub 0x280001 m)
    (h : Within m s0 s) : Within m s0 (deriveLamp r s) := by
  unfold deriveLamp
  repeat' (first
    | with_reducible assumption
    | (extract_lets +onlyGivenNames x; first | (refine Within.cut (m := m) (s := s0) x ?_ (fun h => ?_); subst x; rotate_left; clear_value x; rotate_right) | clear_value x | subst x)
    | with_reducible refine whenS_within (fun _ _ => ?_) ?_
    | with_reducible refine foldl_within (fun _ _ _ => ?_) ?_
    | with_reducible refine schedule_within (hm.up (by with_unfolding_all rfl)) ?_
    | with_reducible refine endRun_within (hm.up (by with_unfolding_all rfl)) ?_
    | split
    | with_reducible refine Within.set_lmp (hm.bit (by with_unfolding_all rfl)) ?_)

theorem execCalRunMeasureEnd_within {m : Nat} {s0 s : State} {h_ : Fin 16} (hm : Sub 0x400000000009000000000000000000000000000002a8009 m)
    (h : Within m s0 s) : WithinO m s0 (execCalRunMeasureEnd h_ s) := by
  unfold execCalRunMeasureEnd
  repeat' (first
    | with_reducible assumption
    | (extract_lets +onlyGivenNames x; first | clear_value x | subst x)
    | with_reducible refine WithinO.next ?_
    | with_reducible refine deriveDark_within (hm.up (by with_unfolding_all rfl)) ?_
    | with_reducible refine deriveWhite_within (hm.up (by with_unfolding_all rfl)) ?_
    | with_reducible refine derivePhase_within (hm.up (by with_unfolding_all rfl)) ?_
    | with_reducible refine deriveLamp_within (hm.up (by with_unfolding_all rfl)) ?_
    | split)

theorem wakeGroups_within {m : Nat} {s0 s : State} (hm : Sub 0x1 m)
    (h : Within m s0 s) : Within m s0 (wakeGroups s) := by
  unfold wakeGroups
  repeat' (first
    | with_reducible assumption
    | (extract_lets +onlyGivenNames x; first | (refine Within.cut (m := m) (s := s0) x ?_ (fun h => ?_); subst x; rotate_left; clear_value x; rotate_right) | clear_value x | subst x)
    | with_reducible refine whenS_within (fun _ _ => ?_) ?_
    | with_reducible refine foldl_within (fun _ _ _ => ?_) ?_
    | with_reducible refine schedule_within (hm.up (by with_unfolding_all rfl)) ?_
    | split)

theorem execCalRunComplete_within {m : Nat} {s0 s : State} {h_ : Fin 16} (hm : Sub 0x401e0000000000010000088000000000000000001087809 m)
    (h : Within m s0 s) : WithinO m s0 (execCalRunComplete h_ s) := by
  unfold execCalRunComplete
  repeat' (first
    | with_reducible assumption
    | (extract_lets +onlyGivenNames x; first | (refine Within.cut (m := m) (s := s0) x ?_ (fun h => ?_); subst x; rotate_left; clear_value x; rotate_right) | clear_value x | subst x)
    | with_reducible refine WithinO.next ?_
    | with_reducible refine fset_within (by with_reducible with_unfolding_all exact hm.reach (.inl (by simp only [HEAD_STATUS_BAND_row]; rfl))) ?_
    | with_reducible refine whenS_within (fun _ _ => ?_) ?_
    | with_reducible refine restorePhases_within (hm.up (by with_unfolding_all rfl)) ?_
    | with_reducible refine setHead_within (hm.up (by with_unfolding_all rfl)) ?_
    | with_reducible refine cancel_within (hm.up (by with_unfolding_all rfl)) ?_
    | with_reducible refine wakeGroups_within (hm.up (by with_unfolding_all rfl)) ?_
    | with_reducible refine pmcEvent_within (hm.up (by with_unfolding_all rfl)) ?_
    | with_reducible refine calResult_within (hm.up (by with_unfolding_all rfl)) ?_
    | with_reducible refine showRun_within (hm.up (by with_unfolding_all rfl)) ?_
    | split
    | with_reducible refine Within.set_shd (hm.bit (by with_unfolding_all rfl)) ?_)

theorem execGapSearchTimeout_within {m : Nat} {s0 s : State} {h_ : Fin 16} (hm : Sub 0x80001 m)
    (h : Within m s0 s) : WithinO m s0 (execGapSearchTimeout h_ s) := by
  unfold execGapSearchTimeout
  repeat' (first
    | with_reducible assumption
    | (extract_lets +onlyGivenNames x; first | (refine Within.cut (m := m) (s := s0) x ?_ (fun h => ?_); subst x; rotate_left; clear_value x; rotate_right) | clear_value x | subst x)
    | with_reducible refine WithinO.next ?_
    | with_reducible refine abortRun_within (hm.up (by with_unfolding_all rfl)) ?_
    | split)

theorem deferFollow_within {m : Nat} {s0 s : State} (hm : Sub 0x60000000000000000000000000000000000000080001 m)
    (h : Within m s0 s) : Within m s0 (deferFollow s) := by
  unfold deferFollow
  repeat' (first
    | with_reducible assumption
    | (extract_lets +onlyGivenNames x; first | (refine Within.cut (m := m) (s := s0) x ?_ (fun h => ?_); subst x; rotate_left; clear_value x; rotate_right) | clear_value x | subst x)
    | with_reducible refine setFlag_within (by with_reducible with_unfolding_all exact hm.reach (.inl (by simp only [SHD_STATUS_DEFER_row, SHD_EVENTS_DEFERRED_row]; rfl))) ?_
    | with_reducible refine whenS_within (fun _ _ => ?_) ?_
    | with_reducible refine foldl_within (fun _ _ _ => ?_) ?_
    | with_reducible refine schedule_within (hm.up (by with_unfolding_all rfl)) ?_
    | with_reducible refine cancel_within (hm.up (by with_unfolding_all rfl)) ?_
    | split
    | with_reducible refine Within.set_shd (hm.bit (by with_unfolding_all rfl)) ?_)

theorem setTrack_within {m : Nat} {s0 s : State} {h_ : Nat} {t : Nat} {b : Nat} {v : Int} (hm : Sub 0x400400000000000000000880000000000000000010a1801 m)
    (h : Within m s0 s) : Within m s0 (setTrack h_ t b v s) := by
  unfold setTrack
  repeat' (first
    | with_reducible assumption
    | (extract_lets +onlyGivenNames x; first | (refine Within.cut (m := m) (s := s0) x ?_ (fun h => ?_); subst x; rotate_left; clear_value x; rotate_right) | clear_value x | subst x)
    | with_reducible refine setFlag_within (by with_reducible with_unfolding_all exact hm.reach (.inl (by simp only [SHD_EVENTS_TRK_LIMIT_row, SHD_HSTAT_TRK_AT_LIM_row]; rfl))) ?_
    | with_reducible refine whenS_within (fun _ _ => ?_) ?_
    | with_reducible refine pmcEvent_within (hm.up (by with_unfolding_all rfl)) ?_
    | with_reducible refine setTrk_within (hm.up (by with_unfolding_all rfl)) ?_
    | with_reducible refine raise_within (hm.up (by with_unfolding_all rfl)) ?_
    | split
    | with_reducible refine Within.set_shd (hm.bit (by with_unfolding_all rfl)) ?_)

theorem execDarkTrackUpdate_within {m : Nat} {s0 s : State} {t : Fin 256} {b : Fin 8} {samples : List Sample} (hm : Sub 0x400400000000000000000880000000000000000010a1801 m)
    (h : Within m s0 s) : WithinO m s0 (execDarkTrackUpdate t b samples s) := by
  unfold execDarkTrackUpdate
  repeat' (first
    | with_reducible assumption
    | (extract_lets +onlyGivenNames x; first | clear_value x | subst x)
    | with_reducible refine WithinO.next ?_
    | with_reducible refine setTrack_within (hm.up (by with_unfolding_all rfl)) ?_
    | split)

theorem serveDue_within {m : Nat} {s0 s : State} (hm : Sub 0x20000 m)
    (h : Within m s0 s) : Within m s0 (serveDue s) := by
  unfold serveDue
  repeat' (first
    | with_reducible assumption
    | (extract_lets +onlyGivenNames x; subst x)
    | split
    | with_reducible refine Within.set_pipe (by with_unfolding_all exact fun c => c) (hm.bit (by with_unfolding_all rfl)) ?_)

theorem execWhiteTrackDue_within {m : Nat} {s0 s : State} {h_ : Fin 16} {b : Fin 8} (hm : Sub 0x401c00000000000000000880000000000000000010a1801 m)
    (h : Within m s0 s) : WithinO m s0 (execWhiteTrackDue h_ b s) := by
  unfold execWhiteTrackDue
  repeat' (first
    | with_reducible assumption
    | (extract_lets +onlyGivenNames x; first | (refine Within.cut (m := m) (s := s0) x ?_ (fun h => ?_); subst x; rotate_left; clear_value x; rotate_right) | clear_value x | subst x)
    | with_reducible refine WithinO.next ?_
    | with_reducible refine setRaw_within (by with_reducible with_unfolding_all exact hm.reach (.inl (by simp only [SHD_EVENTS_WFAIL_row, SHD_LAST_CODE_row, SHD_LAST_KIND_row, SHD_LAST_HEAD_row, SHD_LAST_BAND_row, SHD_LASTCNT_row, SHD_EVENTS_DEFERRED_row, SHD_HSTAT_DUE_row]; rfl))) ?_
    | with_reducible refine fset_within (by with_reducible with_unfolding_all exact hm.reach (.inl (by simp only [SHD_EVENTS_WFAIL_row, SHD_LAST_CODE_row, SHD_LAST_KIND_row, SHD_LAST_HEAD_row, SHD_LAST_BAND_row, SHD_LASTCNT_row, SHD_EVENTS_DEFERRED_row, SHD_HSTAT_DUE_row]; rfl))) ?_
    | with_reducible refine setFlag_within (by with_reducible with_unfolding_all exact hm.reach (.inl (by simp only [SHD_EVENTS_WFAIL_row, SHD_LAST_CODE_row, SHD_LAST_KIND_row, SHD_LAST_HEAD_row, SHD_LAST_BAND_row, SHD_LASTCNT_row, SHD_EVENTS_DEFERRED_row, SHD_HSTAT_DUE_row]; rfl))) ?_
    | with_reducible refine fsets_nil ?_
    | with_reducible refine fsets_cons ?_
    | with_reducible refine whenS_within (fun _ _ => ?_) ?_
    | with_reducible refine whiteRestart_within (hm.up (by with_unfolding_all rfl)) ?_
    | with_reducible refine raise_within (hm.up (by with_unfolding_all rfl)) ?_
    | with_reducible refine serveDue_within (hm.up (by with_unfolding_all rfl)) ?_
    | split
    | with_reducible refine Within.set_shd (hm.bit (by with_unfolding_all rfl)) ?_)

end Sys2Proof.Machine
end

