-- ==== Sys2Proof/Laws/Lamp.lean ====
section
/-! SUPPORT. What each definition of Machine/Lamp.lean can change, said once: the set of parts after Sub (Laws/Within.lean gives
the bits), the queue never, and the invariants kept. -/

set_option linter.unusedSimpArgs false

namespace Sys2Proof.Machine

theorem sbinOff_reach {m : Nat} {k : Fin 16} {r : Fin 4} (hm : Sub 0xf000000000000000000000000000000000000000000000000000000000001001 m) : Reach m (sbinOff k r) := by
  unfold sbinOff
  obtain ⟨r, hr⟩ := r
  obtain rfl | rfl | rfl | rfl : r = 0 ∨ r = 1 ∨ r = 2 ∨ r = 3 := by omega
  · exact hm.reach (.of (LMP_SBIN0_row k) rfl)
  · exact hm.reach (.of ((congrArg rowIdx (by unfold LMP_SBIN0 LMP_SBIN1; simp only []; omega)).trans (LMP_SBIN1_row k)) rfl)
  · exact hm.reach (.of ((congrArg rowIdx (by unfold LMP_SBIN0 LMP_SBIN2; simp only []; omega)).trans (LMP_SBIN2_row k)) rfl)
  · exact hm.reach (.of ((congrArg rowIdx (by unfold LMP_SBIN0 LMP_SBIN3; simp only []; omega)).trans (LMP_SBIN3_row k)) rfl)

theorem loadCheck_within {m : Nat} {s0 s : State} (hm : Sub 0x1 m)
    (h : Within m s0 s) : Within m s0 (loadCheck s) := by
  unfold loadCheck
  repeat' (first
    | with_reducible assumption
    | with_reducible refine schedule_within (hm.up (by with_unfolding_all rfl)) ?_
    | split)

theorem darkOthers_within {m : Nat} {s0 s : State} (hm : Sub 0x10400000000000000000000000000040000000000000000000000000000200000 m)
    (h : Within m s0 s) : Within m s0 (darkOthers s) := by
  unfold darkOthers
  repeat' (first
    | with_reducible assumption
    | (extract_lets +onlyGivenNames x; first | (refine Within.cut (m := m) (s := s0) x ?_ (fun h => ?_); subst x; rotate_left; clear_value x; rotate_right) | clear_value x | subst x)
    | with_reducible refine forN_within (fun _ _ _ => ?_) ?_
    | with_reducible refine foldl_within (fun _ _ _ => ?_) ?_
    | with_reducible refine setStr_within (hm.up (by with_unfolding_all rfl)) ?_
    | with_reducible refine showDrives_within (hm.up (by with_unfolding_all rfl)) ?_
    | split)

theorem execLampLoad_within {m : Nat} {s0 s : State} {slot : Nat} {bytes : List Byte} (hm : Sub 0x10401300000000000000000000000040000000088000000000000000005203801 m)
    (h : Within m s0 s) : WithinO m s0 (execLampLoad slot bytes s) := by
  unfold execLampLoad
  repeat' (first
    | with_reducible assumption
    | (extract_lets +onlyGivenNames x; first | (refine Within.cut (m := m) (s := s0) x ?_ (fun h => ?_); subst x; rotate_left; clear_value x; rotate_right) | clear_value x | subst x)
    | with_reducible refine WithinO.next ?_
    | with_reducible refine fsets_nil ?_
    | with_reducible refine fsets_cons ?_
    | with_reducible refine fset_within (by with_reducible with_unfolding_all exact hm.reach (.inl (by simp only [LNK_STATUS_STATE_row, LMP_STATUS_TABLE_row, LMP_STATUS_LOADING_row]; rfl))) ?_
    | with_reducible refine complete_within (hm.up (by with_unfolding_all rfl)) ?_
    | with_reducible refine loadCheck_within (hm.up (by with_unfolding_all rfl)) ?_
    | with_reducible refine railFollow_within (hm.up (by with_unfolding_all rfl)) ?_
    | with_reducible refine recompute_within (hm.up (by with_unfolding_all rfl)) ?_
    | with_reducible refine darkOthers_within (hm.up (by with_unfolding_all rfl)) ?_
    | split
    | with_reducible refine Within.set_lmp (hm.bit (by with_unfolding_all rfl)) ?_
    | with_reducible refine Within.set_lnk (hm.bit (by with_unfolding_all rfl)) ?_)

theorem execLampLoadComplete_within {m : Nat} {s0 s : State} (hm : Sub 0x100000000000000000000000000000000000000000000000000000203001 m)
    (h : Within m s0 s) : WithinO m s0 (execLampLoadComplete s) := by
  unfold execLampLoadComplete
  repeat' (first
    | with_reducible assumption
    | (extract_lets +onlyGivenNames x; first | (refine Within.cut (m := m) (s := s0) x ?_ (fun h => ?_); subst x; rotate_left; clear_value x; rotate_right) | clear_value x | subst x)
    | with_reducible refine WithinO.next ?_
    | with_reducible refine setFlag_within (by with_reducible with_unfolding_all exact hm.reach (.inl (by simp only [LMP_STATUS_LOADING_row]; rfl))) ?_
    | with_reducible refine foldl_within (fun _ _ _ => ?_) ?_
    | with_reducible refine complete_within (hm.up (by with_unfolding_all rfl)) ?_
    | split
    | with_reducible refine Within.set_lmp (hm.bit (by with_unfolding_all rfl)) ?_)

theorem execDriveRecompute_within {m : Nat} {s0 s : State} (hm : Sub 0x200000000000000000000000000000000088000000000000000005201801 m)
    (h : Within m s0 s) : WithinO m s0 (execDriveRecompute s) := by
  unfold execDriveRecompute
  repeat' (first
    | with_reducible assumption
    | (extract_lets +onlyGivenNames x; first | (refine Within.cut (m := m) (s := s0) x ?_ (fun h => ?_); subst x; rotate_left; clear_value x; rotate_right) | clear_value x | subst x)
    | with_reducible refine WithinO.next ?_
    | with_reducible refine recompute_within (hm.up (by with_unfolding_all rfl)) ?_
    | split)

theorem execLmpSbinWrite_within {m : Nat} {s0 s : State} {k : Fin 16} {r : Fin 4} {v : Word} (hm : Sub 0xf000000000000000000000000000000000000000000000000000000000001001 m)
    (h : Within m s0 s) : WithinO m s0 (execLmpSbinWrite k r v s) := by
  unfold execLmpSbinWrite
  repeat' (first
    | with_reducible assumption
    | (extract_lets +onlyGivenNames x; first | (refine Within.cut (m := m) (s := s0) x ?_ (fun h => ?_); subst x; rotate_left; clear_value x; rotate_right) | clear_value x | subst x)
    | with_reducible refine WithinO.next ?_
    | with_reducible refine onWrite_within (hm.up (by with_unfolding_all rfl)) (fun _ _ => ?_) ?_
    | with_reducible refine schedule_within (hm.up (by with_unfolding_all rfl)) ?_
    | with_reducible refine writeRw_within (by with_reducible exact sbinOff_reach hm) ?_)

theorem execStrobeEnd_within {m : Nat} {s0 s : State} {k : Nat} (hm : Sub 0x200000 m)
    (h : Within m s0 s) : WithinO m s0 (execStrobeEnd k s) := by
  unfold execStrobeEnd
  repeat' (first
    | with_reducible assumption
    | (extract_lets +onlyGivenNames x; first | clear_value x | subst x)
    | with_reducible refine WithinO.next ?_
    | with_reducible refine setStr_within (hm.up (by with_unfolding_all rfl)) ?_
    | split)

theorem execLstbFall_within {m : Nat} {s0 s : State} (hm : Sub 0x200000 m)
    (h : Within m s0 s) : WithinO m s0 (execLstbFall s) := by
  unfold execLstbFall
  repeat' (first
    | with_reducible assumption
    | (extract_lets +onlyGivenNames x; first | clear_value x | subst x)
    | with_reducible refine WithinO.next ?_
    | split
    | with_reducible refine Within.set_lmp (hm.bit (by with_unfolding_all rfl)) ?_)

theorem execLbandHoldEnd_within {m : Nat} {s0 s : State} (hm : Sub 0x200000 m)
    (h : Within m s0 s) : WithinO m s0 (execLbandHoldEnd s) := by
  unfold execLbandHoldEnd
  repeat' (first
    | with_reducible assumption
    | (extract_lets +onlyGivenNames x; first | clear_value x | subst x)
    | with_reducible refine WithinO.next ?_
    | with_reducible refine setLband_within (hm.up (by with_unfolding_all rfl)) ?_
    | split
    | with_reducible refine Within.set_lmp (hm.bit (by with_unfolding_all rfl)) ?_)

theorem execLmpCntRead_within {m : Nat} {s0 s : State} (hm : Sub 0x200000000000000000000000000000000000000000000000000000000001041 m)
    (h : Within m s0 s) : WithinO m s0 (execLmpCntRead s) := by
  unfold execLmpCntRead
  repeat' (first
    | with_reducible assumption
    | (extract_lets +onlyGivenNames x; first | (refine Within.cut (m := m) (s := s0) x ?_ (fun h => ?_); subst x; rotate_left; clear_value x; rotate_right) | clear_value x | subst x)
    | with_reducible refine WithinO.next ?_
    | with_reducible refine rcRead_within (hm.up (by with_unfolding_all rfl)) (by with_reducible with_unfolding_all exact hm.reach (.inl (by simp only [LMP_CNT_row]; rfl))) ?_)

theorem execStringDueTimeout_within {m : Nat} {s0 s : State} {k : Nat} (hm : Sub 0x200001 m)
    (h : Within m s0 s) : WithinO m s0 (execStringDueTimeout k s) := by
  unfold execStringDueTimeout
  repeat' (first
    | with_reducible assumption
    | (extract_lets +onlyGivenNames x; first | clear_value x | subst x)
    | with_reducible refine WithinO.next ?_
    | with_reducible refine makeDue_within (hm.up (by with_unfolding_all rfl)) ?_
    | split)

theorem execDiagLate_within {m : Nat} {s0 s : State} {k : Nat} (hm : Sub 0x200200000000000000000000000000000000088000000000000000001201801 m)
    (h : Within m s0 s) : WithinO m s0 (execDiagLate k s) := by
  unfold execDiagLate
  repeat' (first
    | with_reducible assumption
    | (extract_lets +onlyGivenNames x; first | (refine Within.cut (m := m) (s := s0) x ?_ (fun h => ?_); subst x; rotate_left; clear_value x; rotate_right) | clear_value x | subst x)
    | with_reducible refine WithinO.next ?_
    | with_reducible refine fset_within (by with_reducible with_unfolding_all exact hm.reach (.inl (by simp only [LMP_CNT_DIAG_LATE_row, LMP_EVENTS_DIAG_LATE_row]; rfl))) ?_
    | with_reducible refine setStr_within (hm.up (by with_unfolding_all rfl)) ?_
    | with_reducible refine report_within (hm.up (by with_unfolding_all rfl)) (by with_reducible with_unfolding_all exact hm.reach (.inl (by simp only [LMP_CNT_DIAG_LATE_row, LMP_EVENTS_DIAG_LATE_row]; rfl))) ?_
    | split)

theorem learnVf_within {m : Nat} {s0 s : State} {k : Nat} {vfm : Nat} {i : Rat} (hm : Sub 0x800000000000000000000000000000000000000000000000000000000200000 m)
    (h : Within m s0 s) : Within m s0 (learnVf k vfm i s) := by
  unfold learnVf
  repeat' (first
    | with_reducible assumption
    | (extract_lets +onlyGivenNames x; first | (refine Within.cut (m := m) (s := s0) x ?_ (fun h => ?_); subst x; rotate_left; clear_value x; rotate_right) | clear_value x | subst x)
    | with_reducible refine fsets_nil ?_
    | with_reducible refine fsets_cons ?_
    | with_reducible refine fset_within (by with_reducible with_unfolding_all exact hm.reach (.inl (by simp only [LMP_SMEAS_TEMP_row, LMP_SMEAS_VF_row]; rfl))) ?_
    | with_reducible refine setStr_within (hm.up (by with_unfolding_all rfl)) ?_
    | split)

theorem headSample_within {m : Nat} {s0 s : State} {v : Nat} {sat : Nat} {str : Nat} (hm : Sub 0x200000 m)
    (h : Within m s0 s) : Within m s0 (headSample v sat str s) := by
  unfold headSample
  repeat' (first
    | with_reducible assumption
    | (extract_lets +onlyGivenNames x; clear_value x)
    | split
    | with_reducible refine Within.set_lmp (hm.bit (by with_unfolding_all rfl)) ?_)

theorem lmpLast_within {m : Nat} {s0 s : State} {kind : Nat} {b : Nat} {k : Nat} (hm : Sub 0x100000000000000000000000000000000000000000000000000000000000000 m)
    (h : Within m s0 s) : Within m s0 (lmpLast kind b k s) := by
  unfold lmpLast
  repeat' (first
    | with_reducible assumption
    | (extract_lets +onlyGivenNames x; first | (refine Within.cut (m := m) (s := s0) x ?_ (fun h => ?_); subst x; rotate_left; clear_value x; rotate_right) | clear_value x | subst x)
    | with_reducible refine fsets_nil ?_
    | with_reducible refine fsets_cons ?_
    | with_reducible refine fset_within (by with_reducible with_unfolding_all exact hm.reach (.inl (by simp only [LMP_LAST_KIND_row, LMP_LAST_BAND_row, LMP_LAST_SAT_row, LMP_LAST_STR_row]; rfl))) ?_)

theorem dropInBand_within {m : Nat} {s0 s : State} {e : LampEntry} {h_ : Nat} {b : Nat} (hm : Sub 0x81300000200000000000000000000000000088000000000000021001381901 m)
    (h : Within m s0 s) : Within m s0 (dropInBand e h_ b s) := by
  unfold dropInBand
  repeat' (first
    | with_reducible assumption
    | (extract_lets +onlyGivenNames x; first | (refine Within.cut (m := m) (s := s0) x ?_ (fun h => ?_); subst x; rotate_left; clear_value x; rotate_right) | clear_value x | subst x)
    | with_reducible refine setFlag_within (by with_reducible with_unfolding_all exact hm.reach (.inl (by simp only [LMP_EVENTS_NO_SIB_row, SYS_LIMP_LAMP_row, LMP_EVENTS_REDIST_row]; rfl))) ?_
    | with_reducible refine foldl_within (fun _ _ _ => ?_) ?_
    | with_reducible refine setStr_within (hm.up (by with_unfolding_all rfl)) ?_
    | with_reducible refine setDeficit_within (hm.up (by with_unfolding_all rfl)) ?_
    | with_reducible refine limpCause_within (hm.up (by with_unfolding_all rfl)) (by with_reducible with_unfolding_all exact hm.reach (.inl (by simp only [LMP_EVENTS_NO_SIB_row, SYS_LIMP_LAMP_row, LMP_EVENTS_REDIST_row]; rfl))) ?_
    | split
    | with_reducible refine Within.set_lmp (hm.bit (by with_unfolding_all rfl)) ?_)

theorem dropString_within {m : Nat} {s0 s : State} {k : Nat} {kind : Nat} {b : Nat} (hm : Sub 0x10581300000200000000000000000040000000088000000000000021001381901 m)
    (h : Within m s0 s) : Within m s0 (dropString k kind b s) := by
  unfold dropString
  repeat' (first
    | with_reducible assumption
    | (extract_lets +onlyGivenNames x; first | (refine Within.cut (m := m) (s := s0) x ?_ (fun h => ?_); subst x; rotate_left; clear_value x; rotate_right) | clear_value x | subst x)
    | with_reducible refine fset_within (by with_reducible with_unfolding_all exact hm.reach (.inl (by simp only [LMP_STATUS_DROPPED_row, LMP_EVENTS_DROP_row]; rfl))) ?_
    | with_reducible refine forN_within (fun _ _ _ => ?_) ?_
    | with_reducible refine whenS_within (fun _ _ => ?_) ?_
    | with_reducible refine setStr_within (hm.up (by with_unfolding_all rfl)) ?_
    | with_reducible refine lmpLast_within (hm.up (by with_unfolding_all rfl)) ?_
    | with_reducible refine pmcEvent_within (hm.up (by with_unfolding_all rfl)) ?_
    | with_reducible refine report_within (hm.up (by with_unfolding_all rfl)) (by with_reducible with_unfolding_all exact hm.reach (.inl (by simp only [LMP_STATUS_DROPPED_row, LMP_EVENTS_DROP_row]; rfl))) ?_
    | with_reducible refine showDrives_within (hm.up (by with_unfolding_all rfl)) ?_
    | with_reducible refine dropInBand_within (hm.up (by with_unfolding_all rfl)) ?_
    | with_reducible refine schedule_within (hm.up (by with_unfolding_all rfl)) ?_
    | with_reducible refine abortRun_within (hm.up (by with_unfolding_all rfl)) ?_
    | split)

theorem markStrobe_within {m : Nat} {s0 s : State} {q : Nat × Nat × Nat × Nat × Nat × Bool} (hm : Sub 0x4000 m)
    (h : Within m s0 s) : Within m s0 (markStrobe q s) := by
  unfold markStrobe
  repeat' (first
    | with_reducible assumption
    | with_reducible refine markLines_within (hm.up (by with_unfolding_all rfl)) ?_
    | split)

theorem diagnose_within {m : Nat} {s0 s : State} {k : Nat} {b : Nat} {i : Rat} {m_ : PulseMeas} (hm : Sub 0x10d81300000200000000000000000040000000088000000000000021001381901 m)
    (h : Within m s0 s) : Within m s0 (diagnose k b i m_ s).1 := by
  unfold diagnose
  repeat' (first
    | with_reducible assumption
    | (extract_lets +onlyGivenNames x; first | (refine Within.cut (m := m) (s := s0) x ?_ (fun h => ?_); subst x; rotate_left; clear_value x; rotate_right) | clear_value x | subst x)
    | with_reducible refine fset_within (by with_reducible with_unfolding_all exact hm.reach (.inl (by simp only [LMP_SSTAT_SCOUNT_row]; rfl))) ?_
    | with_reducible refine whenS_within (fun _ _ => ?_) ?_
    | with_reducible refine setStr_within (hm.up (by with_unfolding_all rfl)) ?_
    | with_reducible refine cancel_within (hm.up (by with_unfolding_all rfl)) ?_
    | with_reducible refine dropString_within (hm.up (by with_unfolding_all rfl)) ?_
    | with_reducible refine headSample_within (hm.up (by with_unfolding_all rfl)) ?_
    | with_reducible refine lmpLast_within (hm.up (by with_unfolding_all rfl)) ?_
    | with_reducible refine learnVf_within (hm.up (by with_unfolding_all rfl)) ?_
    | split)

theorem execPulseDiagnosed_within {m : Nat} {s0 s : State} {k : Nat} {meas : PulseMeas} (hm : Sub 0x10d81300000200000000000000000040000000088000000000000021001385901 m)
    (h : Within m s0 s) : WithinO m s0 (execPulseDiagnosed k meas s) := by
  unfold execPulseDiagnosed
  repeat' (first
    | with_reducible assumption
    | (extract_lets +onlyGivenNames x; first | (refine Within.cut (m := m) (s := s0) x.1 ?_ (fun h => ?_); subst x; rotate_left; clear_value x; rotate_right) | clear_value x | subst x)
    | with_reducible refine WithinO.next ?_
    | with_reducible refine diagnose_within (hm.up (by with_unfolding_all rfl)) ?_
    | with_reducible refine markStrobe_within (hm.up (by with_unfolding_all rfl)) ?_
    | split)

theorem execRedistApply_within {m : Nat} {s0 s : State} {k : Nat} (hm : Sub 0x10400000000000000000000000000040000000000000000000000000000200000 m)
    (h : Within m s0 s) : WithinO m s0 (execRedistApply k s) := by
  unfold execRedistApply
  repeat' (first
    | with_reducible assumption
    | (extract_lets +onlyGivenNames x; first | (refine Within.cut (m := m) (s := s0) x ?_ (fun h => ?_); subst x; rotate_left; clear_value x; rotate_right) | clear_value x | subst x)
    | with_reducible refine WithinO.next ?_
    | with_reducible refine foldl_within (fun _ _ _ => ?_) ?_
    | with_reducible refine showDrives_within (hm.up (by with_unfolding_all rfl)) ?_
    | with_reducible refine setStr_within (hm.up (by with_unfolding_all rfl)) ?_
    | with_reducible refine deficits_within (hm.up (by with_unfolding_all rfl)) ?_
    | split
    | with_reducible refine Within.set_lmp (hm.bit (by with_unfolding_all rfl)) ?_)

theorem execRedistSettleEnd_within {m : Nat} {s0 s : State} {k : Nat} (hm : Sub 0x200000 m)
    (h : Within m s0 s) : WithinO m s0 (execRedistSettleEnd k s) := by
  unfold execRedistSettleEnd
  repeat' (first
    | with_reducible assumption
    | (extract_lets +onlyGivenNames x; first | clear_value x | subst x)
    | with_reducible refine WithinO.next ?_
    | split
    | with_reducible refine Within.set_lmp (hm.bit (by with_unfolding_all rfl)) ?_)

theorem execServoPeriodEnd_within {m : Nat} {s0 s : State} {vmeas : Nat} {irail : Nat} (hm : Sub 0xb300000000000000000000000000000000000000000000000000000201001 m)
    (h : Within m s0 s) : WithinO m s0 (execServoPeriodEnd vmeas irail s) := by
  unfold execServoPeriodEnd
  repeat' (first
    | with_reducible assumption
    | (extract_lets +onlyGivenNames x; first | (refine Within.cut (m := m) (s := s0) x ?_ (fun h => ?_); subst x; rotate_left; clear_value x; rotate_right) | clear_value x | subst x)
    | with_reducible refine WithinO.next ?_
    | with_reducible refine setFlag_within (by with_reducible with_unfolding_all exact hm.reach (.inl (by simp only [LMP_VSET_VMEAS_row, LMP_IRAIL_IRAIL_row, LMP_STATUS_RAIL_ON_row, LMP_VSET_VSET_row, LMP_HMIN_HMIN_row, LMP_HMIN_SAT_row, LMP_HMIN_STR_row, LMP_STATUS_SERVO_LIM_row, LMP_EVENTS_SERVO_LIM_row]; rfl))) ?_
    | with_reducible refine fsets_nil ?_
    | with_reducible refine fsets_cons ?_
    | with_reducible refine fset_within (by with_reducible with_unfolding_all exact hm.reach (.inl (by simp only [LMP_VSET_VMEAS_row, LMP_IRAIL_IRAIL_row, LMP_STATUS_RAIL_ON_row, LMP_VSET_VSET_row, LMP_HMIN_HMIN_row, LMP_HMIN_SAT_row, LMP_HMIN_STR_row, LMP_STATUS_SERVO_LIM_row, LMP_EVENTS_SERVO_LIM_row]; rfl))) ?_
    | with_reducible refine whenS_within (fun _ _ => ?_) ?_
    | with_reducible refine pmcEvent_within (hm.up (by with_unfolding_all rfl)) ?_
    | split
    | with_reducible refine Within.set_lmp (hm.bit (by with_unfolding_all rfl)) ?_)

theorem execRailOkSet_within {m : Nat} {s0 s : State} (hm : Sub 0x100000000000000000000000000000000000000000000000000000200001 m)
    (h : Within m s0 s) : WithinO m s0 (execRailOkSet s) := by
  unfold execRailOkSet
  repeat' (first
    | with_reducible assumption
    | (extract_lets +onlyGivenNames x; first | (refine Within.cut (m := m) (s := s0) x ?_ (fun h => ?_); subst x; rotate_left; clear_value x; rotate_right) | clear_value x | subst x)
    | with_reducible refine WithinO.next ?_
    | with_reducible refine setFlag_within (by with_reducible with_unfolding_all exact hm.reach (.inl (by simp only [LMP_STATUS_RAIL_ON_row, LMP_STATUS_RAIL_OK_row]; rfl))) ?_
    | with_reducible refine cancel_within (hm.up (by with_unfolding_all rfl)) ?_
    | split
    | with_reducible refine Within.set_lmp (hm.bit (by with_unfolding_all rfl)) ?_)

theorem execRailOkClear_within {m : Nat} {s0 s : State} (hm : Sub 0x100000000000000000000000000000000000000000000000000000280001 m)
    (h : Within m s0 s) : WithinO m s0 (execRailOkClear s) := by
  unfold execRailOkClear
  repeat' (first
    | with_reducible assumption
    | (extract_lets +onlyGivenNames x; first | (refine Within.cut (m := m) (s := s0) x ?_ (fun h => ?_); subst x; rotate_left; clear_value x; rotate_right) | clear_value x | subst x)
    | with_reducible refine WithinO.next ?_
    | with_reducible refine setFlag_within (by with_reducible with_unfolding_all exact hm.reach (.inl (by simp only [LMP_STATUS_RAIL_ON_row, LMP_STATUS_RAIL_OK_row]; rfl))) ?_
    | with_reducible refine foldl_within (fun _ _ _ => ?_) ?_
    | with_reducible refine abortRun_within (hm.up (by with_unfolding_all rfl)) ?_
    | with_reducible refine schedule_within (hm.up (by with_unfolding_all rfl)) ?_
    | split
    | with_reducible refine Within.set_lmp (hm.bit (by with_unfolding_all rfl)) ?_)

theorem execRailFault_within {m : Nat} {s0 s : State} {kind : Fin 3} (hm : Sub 0x1813000023800046400000083008000180000880000000000000110017bfb09 m)
    (h : Within m s0 s) : WithinO m s0 (execRailFault kind s) := by
  unfold execRailFault
  repeat' (first
    | with_reducible assumption
    | (extract_lets +onlyGivenNames x; first | (refine Within.cut (m := m) (s := s0) x ?_ (fun h => ?_); subst x; rotate_left; clear_value x; rotate_right) | clear_value x | subst x)
    | with_reducible refine WithinO.next ?_
    | with_reducible refine fsets_nil ?_
    | with_reducible refine fsets_cons ?_
    | with_reducible refine fset_within (by with_reducible with_unfolding_all exact hm.reach (.inl (by simp only [LMP_STATUS_RAIL_OK_row, LMP_STATUS_RAIL_ON_row, LMP_LAST_KIND_row, LMP_LAST_BAND_row, LMP_LAST_SAT_row, LMP_LAST_STR_row, LMP_EVENTS_RAIL_FAULT_row]; rfl))) ?_
    | with_reducible refine lampsDark_within (hm.up (by with_unfolding_all rfl)) ?_
    | with_reducible refine haltCause_within (hm.up (by with_unfolding_all rfl)) ?_
    | with_reducible refine report_within (hm.up (by with_unfolding_all rfl)) (by with_reducible with_unfolding_all exact hm.reach (.inl (by simp only [LMP_STATUS_RAIL_OK_row, LMP_STATUS_RAIL_ON_row, LMP_LAST_KIND_row, LMP_LAST_BAND_row, LMP_LAST_SAT_row, LMP_LAST_STR_row, LMP_EVENTS_RAIL_FAULT_row]; rfl))) ?_
    | split)

theorem lmpCode_within {m : Nat} {s0 s : State} {c : Nat} (hm : Sub 0x80000000000000000000000000000000000000000000000000000000000000 m)
    (h : Within m s0 s) : Within m s0 (lmpCode c s) := by
  unfold lmpCode
  repeat' (first
    | with_reducible assumption
    | with_reducible refine fset_within (by with_reducible with_unfolding_all exact hm.reach (.inl (by simp only [LMP_CMDSTAT_CODE_row]; rfl))) ?_)

theorem execLmpCmdRestore_within {m : Nat} {s0 s : State} {sat : BitVec 8} {str : BitVec 8} (hm : Sub 0x80000000000000000000000000000000000000000000000000000000201001 m)
    (h : Within m s0 s) : WithinO m s0 (execLmpCmdRestore sat str s) := by
  unfold execLmpCmdRestore
  repeat' (first
    | with_reducible assumption
    | (extract_lets +onlyGivenNames x; first | clear_value x | subst x)
    | with_reducible refine WithinO.next ?_
    | with_reducible refine whenS_within (fun _ _ => ?_) ?_
    | with_reducible refine onWrite_within (hm.up (by with_unfolding_all rfl)) (fun _ _ => ?_) ?_
    | with_reducible refine lmpCode_within (hm.up (by with_unfolding_all rfl)) ?_
    | with_reducible refine setStr_within (hm.up (by with_unfolding_all rfl)) ?_
    | split)

theorem execLmpCmdRestoreAll_within {m : Nat} {s0 s : State} (hm : Sub 0x80000000000000000000000000000000000000000000000000000000201001 m)
    (h : Within m s0 s) : WithinO m s0 (execLmpCmdRestoreAll s) := by
  unfold execLmpCmdRestoreAll
  repeat' (first
    | with_reducible assumption
    | (extract_lets +onlyGivenNames x; first | clear_value x | subst x)
    | with_reducible refine WithinO.next ?_
    | with_reducible refine whenS_within (fun _ _ => ?_) ?_
    | with_reducible refine foldl_within (fun _ _ _ => ?_) ?_
    | with_reducible refine onWrite_within (hm.up (by with_unfolding_all rfl)) (fun _ _ => ?_) ?_
    | with_reducible refine lmpCode_within (hm.up (by with_unfolding_all rfl)) ?_
    | with_reducible refine setStr_within (hm.up (by with_unfolding_all rfl)) ?_)

theorem testEnd_within {m : Nat} {s0 s : State} {code : Nat} (hm : Sub 0x81100000000000000000000000000000000000000000000000000000200001 m)
    (h : Within m s0 s) : Within m s0 (testEnd code s) := by
  unfold testEnd
  repeat' (first
    | with_reducible assumption
    | (extract_lets +onlyGivenNames x; first | (refine Within.cut (m := m) (s := s0) x ?_ (fun h => ?_); subst x; rotate_left; clear_value x; rotate_right) | clear_value x | subst x)
    | with_reducible refine setFlag_within (by with_reducible with_unfolding_all exact hm.reach (.inl (by simp only [LMP_CMDSTAT_BUSY_row]; rfl))) ?_
    | with_reducible refine lmpCode_within (hm.up (by with_unfolding_all rfl)) ?_
    | with_reducible refine railFollow_within (hm.up (by with_unfolding_all rfl)) ?_
    | split
    | with_reducible refine Within.set_lmp (hm.bit (by with_unfolding_all rfl)) ?_)

theorem execLmpCmdLampTest_within {m : Nat} {s0 s : State} (hm : Sub 0x81100000000000000000000000000000000000000000000000000000201001 m)
    (h : Within m s0 s) : WithinO m s0 (execLmpCmdLampTest s) := by
  unfold execLmpCmdLampTest
  repeat' (first
    | with_reducible assumption
    | (extract_lets +onlyGivenNames x; first | clear_value x | subst x)
    | with_reducible refine WithinO.next ?_
    | with_reducible refine setFlag_within (by with_reducible with_unfolding_all exact hm.reach (.inl (by simp only [LMP_CMD_row, LMP_CMDSTAT_BUSY_row, LMP_CTL_EN_row]; rfl))) ?_
    | with_reducible refine onWrite_within (hm.up (by with_unfolding_all rfl)) (fun _ _ => ?_) ?_
    | with_reducible refine lmpCode_within (hm.up (by with_unfolding_all rfl)) ?_
    | with_reducible refine railFollow_within (hm.up (by with_unfolding_all rfl)) ?_
    | split
    | with_reducible refine Within.set_lmp (hm.bit (by with_unfolding_all rfl)) ?_)

theorem execLampTestPulse_within {m : Nat} {s0 s : State} {meas : PulseMeas} (hm : Sub 0x10d81300000200000000000000000040000000088000000000000021001381901 m)
    (h : Within m s0 s) : WithinO m s0 (execLampTestPulse meas s) := by
  unfold execLampTestPulse
  repeat' (first
    | with_reducible assumption
    | (extract_lets +onlyGivenNames x; first | (refine Within.cut (m := m) (s := s0) x ?_ (fun h => ?_); subst x; rotate_left; clear_value x; rotate_right) | (refine Within.cut (m := m) (s := s0) x.1 ?_ (fun h => ?_); subst x; rotate_left; clear_value x; rotate_right) | clear_value x | subst x)
    | with_reducible refine WithinO.next ?_
    | with_reducible refine fset_within (by with_reducible with_unfolding_all exact hm.reach (.inl (by simp only [LMP_SSTAT_CODE_row]; rfl))) ?_
    | with_reducible refine testEnd_within (hm.up (by with_unfolding_all rfl)) ?_
    | with_reducible refine pmcEvent_within (hm.up (by with_unfolding_all rfl)) ?_
    | with_reducible refine diagnose_within (hm.up (by with_unfolding_all rfl)) ?_
    | split
    | with_reducible refine Within.set_lmp (hm.bit (by with_unfolding_all rfl)) ?_)

end Sys2Proof.Machine
end

