-- ==== Sys2Proof/Laws/Landing.lean ====
section
/-! SUPPORT. What each definition of Machine/Landing.lean can change, said once: the set of parts after Sub (Laws/Within.lean gives
the bits), the queue never, and the invariants kept. -/

set_option linter.unusedSimpArgs false

namespace Sys2Proof.Machine

theorem lndTake_within {m : Nat} {s0 s : State} {d : DoneMsg} (hm : Sub 0x800 m)
    (h : Within m s0 s) : Within m s0 (lndTake d s) := by
  unfold lndTake
  repeat' (first
    | with_reducible assumption
    | (extract_lets +onlyGivenNames x; clear_value x)
    | split
    | with_reducible refine Within.set_lnd (hm.bit (by with_unfolding_all rfl)) ?_)

theorem execLandingDmaPop_within {m : Nat} {s0 s : State} (hm : Sub 0x10000000000000000003821 m)
    (h : Within m s0 s) : WithinO m s0 (execLandingDmaPop s) := by
  unfold execLandingDmaPop
  repeat' (first
    | with_reducible assumption
    | (extract_lets +onlyGivenNames x; first | (refine Within.cut (m := m) (s := s0) x ?_ (fun h => ?_); subst x; rotate_left; clear_value x; rotate_right) | clear_value x | subst x)
    | with_reducible refine WithinO.next ?_
    | with_reducible refine pmcEvents_within (hm.up (by with_unfolding_all rfl)) ?_
    | with_reducible refine lndTake_within (hm.up (by with_unfolding_all rfl)) ?_
    | with_reducible refine memWrite_within (hm.up (by with_unfolding_all rfl)) ?_
    | with_reducible refine pendIrq_within (hm.up (by with_unfolding_all rfl)) ?_
    | with_reducible refine ringAdvance_within (hm.up (by with_unfolding_all rfl)) ?_
    | split)

theorem portAnswer_within {m : Nat} {s0 s : State} {lo : Nat} {sh : Option Shadow} (hm : Sub 0xc0 m)
    (h : Within m s0 s) : Within m s0 (portAnswer lo sh s) := by
  unfold portAnswer
  repeat' (first
    | with_reducible assumption
    | (extract_lets +onlyGivenNames x; (refine Within.cut (m := m) (s := s0) x ?_ (fun h => ?_); subst x; rotate_left; clear_value x; rotate_right))
    | split
    | with_reducible refine Within.set_rdata (hm.bit (by with_unfolding_all rfl)) ?_
    | with_reducible refine Within.set_shadow0 (hm.bit (by with_unfolding_all rfl)) ?_)

theorem portLow_within {m : Nat} {s0 s : State} {p : PortMsg} (hm : Sub 0xc0 m)
    (h : Within m s0 s) : Within m s0 (portLow p s) := by
  unfold portLow
  repeat' (first
    | with_reducible assumption
    | (extract_lets +onlyGivenNames x; clear_value x)
    | with_reducible refine portAnswer_within (hm.up (by with_unfolding_all rfl)) ?_)

theorem bar0Read_within {m : Nat} {s0 s : State} {off : Nat} (hm : Sub 0x1001 m)
    (h : Within m s0 s) : Within m s0 (bar0Read off s) := by
  unfold bar0Read
  repeat' (first
    | with_reducible assumption
    | with_reducible refine pmcEvents_within (hm.up (by with_unfolding_all rfl)) ?_)

theorem execLndDataLoRead_within {m : Nat} {s0 s : State} {ms : Master} (hm : Sub 0x18c1 m)
    (h : Within m s0 s) : WithinO m s0 (execLndDataLoRead ms s) := by
  unfold execLndDataLoRead
  repeat' (first
    | with_reducible assumption
    | (extract_lets +onlyGivenNames x; first | (refine Within.cut (m := m) (s := s0) x ?_ (fun h => ?_); subst x; rotate_left; clear_value x; rotate_right) | clear_value x | subst x)
    | with_reducible refine WithinO.next ?_
    | with_reducible refine bar0Read_within (hm.up (by with_unfolding_all rfl)) ?_
    | with_reducible refine portLow_within (hm.up (by with_unfolding_all rfl)) ?_
    | with_reducible refine pmcEvents_within (hm.up (by with_unfolding_all rfl)) ?_
    | with_reducible refine lndTake_within (hm.up (by with_unfolding_all rfl)) ?_
    | split
    | with_reducible refine Within.set_rdata (hm.bit (by with_unfolding_all rfl)) ?_
    | with_reducible refine Within.set_lnd (hm.bit (by with_unfolding_all rfl)) ?_)

theorem portAdvance_within {m : Nat} {s0 s : State} (hm : Sub 0x800 m)
    (h : Within m s0 s) : Within m s0 (portAdvance s) := by
  unfold portAdvance
  repeat' (first
    | with_reducible assumption
    | (extract_lets +onlyGivenNames x; clear_value x)
    | split
    | with_reducible refine Within.set_lnd (hm.bit (by with_unfolding_all rfl)) ?_)

theorem execLndDataHiRead_within {m : Nat} {s0 s : State} {ms : Master} (hm : Sub 0x18c1 m)
    (h : Within m s0 s) : WithinO m s0 (execLndDataHiRead ms s) := by
  unfold execLndDataHiRead
  repeat' (first
    | with_reducible assumption
    | (extract_lets +onlyGivenNames x; first | (refine Within.cut (m := m) (s := s0) x ?_ (fun h => ?_); subst x; rotate_left; clear_value x; rotate_right) | clear_value x | subst x)
    | with_reducible refine WithinO.next ?_
    | with_reducible refine bar0Read_within (hm.up (by with_unfolding_all rfl)) ?_
    | with_reducible refine portAdvance_within (hm.up (by with_unfolding_all rfl)) ?_
    | with_reducible refine portAnswer_within (hm.up (by with_unfolding_all rfl)) ?_
    | split
    | with_reducible refine Within.set_rdata (hm.bit (by with_unfolding_all rfl)) ?_)

theorem execLndDrop_within {m : Nat} {s0 s : State} (hm : Sub 0x1801 m)
    (h : Within m s0 s) : WithinO m s0 (execLndDrop s) := by
  unfold execLndDrop
  repeat' (first
    | with_reducible assumption
    | (extract_lets +onlyGivenNames x; first | clear_value x | subst x)
    | with_reducible refine WithinO.next ?_
    | with_reducible refine onWrite_within (hm.up (by with_unfolding_all rfl)) (fun _ _ => ?_) ?_
    | with_reducible refine pmcEvents_within (hm.up (by with_unfolding_all rfl)) ?_
    | split
    | with_reducible refine Within.set_lnd (hm.bit (by with_unfolding_all rfl)) ?_)

theorem flush_within {m : Nat} {s0 s : State} (hm : Sub 0x788000000000000000000001801 m)
    (h : Within m s0 s) : Within m s0 (flush s) := by
  unfold flush
  repeat' (first
    | with_reducible assumption
    | (extract_lets +onlyGivenNames x; first | (refine Within.cut (m := m) (s := s0) x ?_ (fun h => ?_); subst x; rotate_left; clear_value x; rotate_right) | clear_value x | subst x)
    | with_reducible refine setRaw_within (by with_reducible with_unfolding_all exact hm.reach (.inl (by simp only [LND_FLUSHCNT_row, LND_EVENTS_FLUSHED_row, LND_FLUSHT_LO_row, LND_FLUSHT_HI_row, LND_LOST_row]; rfl))) ?_
    | with_reducible refine setFlag_within (by with_reducible with_unfolding_all exact hm.reach (.inl (by simp only [LND_FLUSHCNT_row, LND_EVENTS_FLUSHED_row, LND_FLUSHT_LO_row, LND_FLUSHT_HI_row, LND_LOST_row]; rfl))) ?_
    | with_reducible refine foldl_within (fun _ _ _ => ?_) ?_
    | with_reducible refine pmcEvents_within (hm.up (by with_unfolding_all rfl)) ?_
    | split
    | with_reducible refine Within.set_lnd (hm.bit (by with_unfolding_all rfl)) ?_)

theorem execLndFlush_within {m : Nat} {s0 s : State} (hm : Sub 0x788000000000000000000001801 m)
    (h : Within m s0 s) : WithinO m s0 (execLndFlush s) := by
  unfold execLndFlush
  repeat' (first
    | with_reducible assumption
    | (extract_lets +onlyGivenNames x; first | (refine Within.cut (m := m) (s := s0) x ?_ (fun h => ?_); subst x; rotate_left; clear_value x; rotate_right) | clear_value x | subst x)
    | with_reducible refine WithinO.next ?_
    | with_reducible refine onWrite_within (hm.up (by with_unfolding_all rfl)) (fun _ _ => ?_) ?_
    | with_reducible refine flush_within (hm.up (by with_unfolding_all rfl)) ?_)

theorem execLndCtlWrite_within {m : Nat} {s0 s : State} {v : Word} (hm : Sub 0xa000000000000000000001001 m)
    (h : Within m s0 s) : WithinO m s0 (execLndCtlWrite v s) := by
  unfold execLndCtlWrite
  repeat' (first
    | with_reducible assumption
    | (extract_lets +onlyGivenNames x; first | (refine Within.cut (m := m) (s := s0) x ?_ (fun h => ?_); subst x; rotate_left; clear_value x; rotate_right) | clear_value x | subst x)
    | with_reducible refine WithinO.next ?_
    | with_reducible refine fset_within (by with_reducible with_unfolding_all exact hm.reach (.inl (by simp only [LND_CTL_row, LND_EVENTS_WR_REJ_row, LND_CTL_DMA_EN_row]; rfl))) ?_
    | with_reducible refine setFlag_within (by with_reducible with_unfolding_all exact hm.reach (.inl (by simp only [LND_CTL_row, LND_EVENTS_WR_REJ_row, LND_CTL_DMA_EN_row]; rfl))) ?_
    | with_reducible refine onWrite_within (hm.up (by with_unfolding_all rfl)) (fun _ _ => ?_) ?_
    | split)

theorem execLndLostRead_within {m : Nat} {s0 s : State} {cl : Fin 4} (hm : Sub 0x80000000000000000000001041 m)
    (h : Within m s0 s) : WithinO m s0 (execLndLostRead cl s) := by
  unfold execLndLostRead
  repeat' (first
    | with_reducible assumption
    | (extract_lets +onlyGivenNames x; first | (refine Within.cut (m := m) (s := s0) x ?_ (fun h => ?_); subst x; rotate_left; clear_value x; rotate_right) | clear_value x | subst x)
    | with_reducible refine WithinO.next ?_
    | with_reducible refine rcRead_within (hm.up (by with_unfolding_all rfl)) (by with_reducible with_unfolding_all exact hm.reach (.inl (by simp only [LND_LOST_row]; rfl))) ?_)

theorem execLndFlushcntRead_within {m : Nat} {s0 s : State} (hm : Sub 0x100000000000000000000001041 m)
    (h : Within m s0 s) : WithinO m s0 (execLndFlushcntRead s) := by
  unfold execLndFlushcntRead
  repeat' (first
    | with_reducible assumption
    | (extract_lets +onlyGivenNames x; first | (refine Within.cut (m := m) (s := s0) x ?_ (fun h => ?_); subst x; rotate_left; clear_value x; rotate_right) | clear_value x | subst x)
    | with_reducible refine WithinO.next ?_
    | with_reducible refine rcRead_within (hm.up (by with_unfolding_all rfl)) (by with_reducible with_unfolding_all exact hm.reach (.inl (by simp only [LND_FLUSHCNT_row]; rfl))) ?_)

end Sys2Proof.Machine
end

