-- ==== Sys2Proof/Laws/Link.lean ====
section
/-! SUPPORT. What each definition of Machine/Link.lean can change, said once: the set of parts after Sub (Laws/Within.lean gives
the bits), the queue never, and the invariants kept. -/

set_option linter.unusedSimpArgs false

namespace Sys2Proof.Machine

theorem setSat_within {m : Nat} {s0 s : State} {p : Nat} {y : Sat} (hm : Sub 0x4000000 m)
    (h : Within m s0 s) : Within m s0 (setSat p y s) := by
  unfold setSat
  repeat' (first
    | with_reducible assumption
    | (extract_lets +onlyGivenNames x; clear_value x)
    | split
    | with_reducible refine Within.set_lnk (hm.bit (by with_unfolding_all rfl)) ?_)

theorem cycleBegin_within {m : Nat} {s0 s : State} (hm : Sub 0x4000020 m)
    (h : Within m s0 s) : Within m s0 (cycleBegin s) := by
  unfold cycleBegin
  repeat' (first
    | with_reducible assumption
    | (extract_lets +onlyGivenNames x; first | (refine Within.cut (m := m) (s := s0) x ?_ (fun h => ?_); subst x; rotate_left; clear_value x; rotate_right) | clear_value x | subst x)
    | with_reducible refine emit_within (hm.bit (by with_unfolding_all rfl)) ?_
    | with_reducible refine foldl_within (fun _ _ _ => ?_) ?_
    | with_reducible refine setSat_within (hm.up (by with_unfolding_all rfl)) ?_
    | split)

theorem sizeBegin_within {m : Nat} {s0 s : State} (hm : Sub 0x40000000000000000000000000000000000000000000000000000000004000000 m)
    (h : Within m s0 s) : Within m s0 (sizeBegin s) := by
  unfold sizeBegin
  repeat' (first
    | with_reducible assumption
    | (extract_lets +onlyGivenNames x; first | clear_value x | subst x)
    | with_reducible refine fset_within (by with_reducible with_unfolding_all exact hm.reach (.inl (by simp only [LNK_STATUS_STATE_row]; rfl))) ?_
    | split
    | with_reducible refine Within.set_lnk (hm.bit (by with_unfolding_all rfl)) ?_)

theorem identityDone_within {m : Nat} {s0 s : State} (hm : Sub 0x240000200000000000000000000000000000000088000000000000000005201801 m)
    (h : Within m s0 s) : Within m s0 (identityDone s) := by
  unfold identityDone
  repeat' (first
    | with_reducible assumption
    | (extract_lets +onlyGivenNames x; first | (refine Within.cut (m := m) (s := s0) x ?_ (fun h => ?_); subst x; rotate_left; clear_value x; rotate_right) | clear_value x | subst x)
    | with_reducible refine setRaw_within (by with_reducible with_unfolding_all exact hm.reach (.inl (by simp only [LNK_CHK_row, LNK_STATUS_STATE_row]; rfl))) ?_
    | with_reducible refine fset_within (by with_reducible with_unfolding_all exact hm.reach (.inl (by simp only [LNK_CHK_row, LNK_STATUS_STATE_row]; rfl))) ?_
    | with_reducible refine loadCheck_within (hm.up (by with_unfolding_all rfl)) ?_
    | with_reducible refine recompute_within (hm.up (by with_unfolding_all rfl)) ?_
    | split
    | with_reducible refine Within.set_lnk (hm.bit (by with_unfolding_all rfl)) ?_)

theorem execLinkSizingDone_within {m : Nat} {s0 s : State} {count : Option Nat} (hm : Sub 0x2c0081300000200000000000000000000000000088000000000000021005381921 m)
    (h : Within m s0 s) : WithinO m s0 (execLinkSizingDone count s) := by
  unfold execLinkSizingDone
  repeat' (first
    | with_reducible assumption
    | (extract_lets +onlyGivenNames x; first | (refine Within.cut (m := m) (s := s0) x ?_ (fun h => ?_); subst x; rotate_left; clear_value x; rotate_right) | clear_value x | subst x)
    | with_reducible refine WithinO.next ?_
    | with_reducible refine setFlag_within (by with_reducible with_unfolding_all exact hm.reach (.inl (by simp only [LNK_STATUS_STATE_row, LNK_CTL_EN_row, LNK_EVENTS_SIZE_FAULT_row, LNK_STATUS_N_row, LNK_STATUS_CYCLE_row, SYS_LIMP_LNK_row, LNK_EVENTS_CHAIN_row]; rfl))) ?_
    | with_reducible refine fsets_nil ?_
    | with_reducible refine fsets_cons ?_
    | with_reducible refine fset_within (by with_reducible with_unfolding_all exact hm.reach (.inl (by simp only [LNK_STATUS_STATE_row, LNK_CTL_EN_row, LNK_EVENTS_SIZE_FAULT_row, LNK_STATUS_N_row, LNK_STATUS_CYCLE_row, SYS_LIMP_LNK_row, LNK_EVENTS_CHAIN_row]; rfl))) ?_
    | with_reducible refine whenS_within (fun _ _ => ?_) ?_
    | with_reducible refine limpCause_within (hm.up (by with_unfolding_all rfl)) (by with_reducible with_unfolding_all exact hm.reach (.inl (by simp only [LNK_STATUS_STATE_row, LNK_CTL_EN_row, LNK_EVENTS_SIZE_FAULT_row, LNK_STATUS_N_row, LNK_STATUS_CYCLE_row, SYS_LIMP_LNK_row, LNK_EVENTS_CHAIN_row]; rfl))) ?_
    | with_reducible refine identityDone_within (hm.up (by with_unfolding_all rfl)) ?_
    | with_reducible refine cycleBegin_within (hm.up (by with_unfolding_all rfl)) ?_
    | split
    | with_reducible refine Within.set_lnk (hm.bit (by with_unfolding_all rfl)) ?_)

theorem verifyChain_within {m : Nat} {s0 s : State} (hm : Sub 0x40000000000000000000000000000000000000000000000000000000004000020 m)
    (h : Within m s0 s) : Within m s0 (verifyChain s) := by
  unfold verifyChain
  repeat' (first
    | with_reducible assumption
    | (extract_lets +onlyGivenNames x; first | (refine Within.cut (m := m) (s := s0) x ?_ (fun h => ?_); subst x; rotate_left; clear_value x; rotate_right) | clear_value x)
    | with_reducible refine fset_within (by with_reducible with_unfolding_all exact hm.reach (.inl (by simp only [LNK_STATUS_STATE_row]; rfl))) ?_
    | with_reducible refine foldl_within (fun _ _ _ => ?_) ?_
    | with_reducible refine setSat_within (hm.up (by with_unfolding_all rfl)) ?_
    | with_reducible refine sizeBegin_within (hm.up (by with_unfolding_all rfl)) ?_
    | with_reducible refine cycleBegin_within (hm.up (by with_unfolding_all rfl)) ?_
    | split)

theorem identTaken_within {m : Nat} {s0 s : State} {p : Nat} {b : List Byte} (hm : Sub 0x200000 m)
    (h : Within m s0 s) : Within m s0 (identTaken p b s) := by
  unfold identTaken
  repeat' (first
    | with_reducible assumption
    | (extract_lets +onlyGivenNames x; clear_value x)
    | with_reducible refine forN_within (fun _ _ _ => ?_) ?_
    | with_reducible refine setStr_within (hm.up (by with_unfolding_all rfl)) ?_
    | split)

theorem linkFault_within {m : Nat} {s0 s : State} {p : Nat} (hm : Sub 0x80081100000200000000000000000000000000088000000000000021005381901 m)
    (h : Within m s0 s) : Within m s0 (linkFault p s) := by
  unfold linkFault
  repeat' (first
    | with_reducible assumption
    | (extract_lets +onlyGivenNames x; first | (refine Within.cut (m := m) (s := s0) x ?_ (fun h => ?_); subst x; rotate_left; clear_value x; rotate_right) | clear_value x | subst x)
    | with_reducible refine report_within (hm.up (by with_unfolding_all rfl)) (by with_reducible with_unfolding_all exact hm.reach (.inl (by simp only [LNK_EVENTS_LINK_FAULT_row, SYS_LIMP_LNK_row]; rfl))) ?_
    | with_reducible refine limpCause_within (hm.up (by with_unfolding_all rfl)) (by with_reducible with_unfolding_all exact hm.reach (.inl (by simp only [LNK_EVENTS_LINK_FAULT_row, SYS_LIMP_LNK_row]; rfl))) ?_
    | split
    | with_reducible refine Within.set_lnk (hm.bit (by with_unfolding_all rfl)) ?_)

theorem serialChanged_within {m : Nat} {s0 s : State} {p : Nat} {n : Nat} {pay : List Byte} (hm : Sub 0x80081100000200000000000000000000000000088000000000000021005381901 m)
    (h : Within m s0 s) : Within m s0 (serialChanged p n pay s) := by
  unfold serialChanged
  repeat' (first
    | with_reducible assumption
    | (extract_lets +onlyGivenNames x; first | (refine Within.cut (m := m) (s := s0) x ?_ (fun h => ?_); subst x; rotate_left; clear_value x; rotate_right) | clear_value x)
    | with_reducible refine setFlag_within (by with_reducible with_unfolding_all exact hm.reach (.inl (by simp only [LNK_EVENTS_RENUM_row]; rfl))) ?_
    | with_reducible refine setSat_within (hm.up (by with_unfolding_all rfl)) ?_
    | with_reducible refine linkFault_within (hm.up (by with_unfolding_all rfl)) ?_
    | split)

theorem takeIdent_within {m : Nat} {s0 s : State} {p : Nat} {page : Nat} {pay : List Byte} (hm : Sub 0x80081300000200000000000000000000000000088000000000000021005381901 m)
    (h : Within m s0 s) : Within m s0 (takeIdent p page pay s) := by
  unfold takeIdent
  repeat' (first
    | with_reducible assumption
    | (extract_lets +onlyGivenNames x; first | (refine Within.cut (m := m) (s := s0) x ?_ (fun h => ?_); subst x; rotate_left; clear_value x; rotate_right) | clear_value x)
    | with_reducible refine setSat_within (hm.up (by with_unfolding_all rfl)) ?_
    | with_reducible refine serialChanged_within (hm.up (by with_unfolding_all rfl)) ?_
    | with_reducible refine identTaken_within (hm.up (by with_unfolding_all rfl)) ?_
    | with_reducible refine recompute_within (hm.up (by with_unfolding_all rfl)) ?_
    | split)

theorem takeString_within {m : Nat} {s0 s : State} {p : Nat} {i : Nat} {pay : List Byte} {vf : Nat} (hm : Sub 0x10d81300000200000000000000000040000000088000000000000021001381905 m)
    (h : Within m s0 s) : Within m s0 (takeString p i pay vf s) := by
  unfold takeString
  repeat' (first
    | with_reducible assumption
    | (extract_lets +onlyGivenNames x; first | (refine Within.cut (m := m) (s := s0) x ?_ (fun h => ?_); subst x; rotate_left; clear_value x; rotate_right) | (refine Within.cut (m := m) (s := s0) x.2 ?_ (fun h => ?_); subst x; rotate_left; clear_value x; rotate_right) | clear_value x)
    | with_reducible refine draw_within (hm.bit (by with_unfolding_all rfl)) ?_
    | with_reducible refine dropString_within (hm.up (by with_unfolding_all rfl)) ?_
    | with_reducible refine lmpLast_within (hm.up (by with_unfolding_all rfl)) ?_
    | with_reducible refine learnVf_within (hm.up (by with_unfolding_all rfl)) ?_
    | split)

theorem takeReport_within {m : Nat} {s0 s : State} {p : Nat} {page : Nat} {pay : List Byte} (hm : Sub 0x10d81300000200000000000000000040000000088000000000000021005381905 m)
    (h : Within m s0 s) : Within m s0 (takeReport p page pay s) := by
  unfold takeReport
  repeat' (first
    | with_reducible assumption
    | (extract_lets +onlyGivenNames x; first | (refine Within.cut (m := m) (s := s0) x ?_ (fun h => ?_); subst x; rotate_left; clear_value x; rotate_right) | (refine Within.cut (m := m) (s := s0) x.2 ?_ (fun h => ?_); subst x; rotate_left; clear_value x; rotate_right) | clear_value x)
    | with_reducible refine draw_within (hm.bit (by with_unfolding_all rfl)) ?_
    | with_reducible refine forN_within (fun _ _ _ => ?_) ?_
    | with_reducible refine headSample_within (hm.up (by with_unfolding_all rfl)) ?_
    | with_reducible refine setSat_within (hm.up (by with_unfolding_all rfl)) ?_
    | with_reducible refine takeString_within (hm.up (by with_unfolding_all rfl)) ?_
    | split)

theorem takeResponse_within {m : Nat} {s0 s : State} {p : Nat} {b : List Byte} (hm : Sub 0x90d81300000200000000000000000040000000088000000000000021005381905 m)
    (h : Within m s0 s) : Within m s0 (takeResponse p b s) := by
  unfold takeResponse
  repeat' (first
    | with_reducible assumption
    | (extract_lets +onlyGivenNames x; first | clear_value x | subst x)
    | with_reducible refine takeIdent_within (hm.up (by with_unfolding_all rfl)) ?_
    | with_reducible refine setSat_within (hm.up (by with_unfolding_all rfl)) ?_
    | with_reducible refine takeReport_within (hm.up (by with_unfolding_all rfl)) ?_
    | split)

theorem satResponse_within {m : Nat} {s0 s : State} {p : Nat} {b : List Byte} (hm : Sub 0x490d81300000200000000000000000040000000088000000000000021005381905 m)
    (h : Within m s0 s) : Within m s0 (satResponse p b s) := by
  unfold satResponse
  repeat' (first
    | with_reducible assumption
    | (extract_lets +onlyGivenNames x; first | (refine Within.cut (m := m) (s := s0) x ?_ (fun h => ?_); subst x; rotate_left; clear_value x; rotate_right) | clear_value x | subst x)
    | with_reducible refine setRaw_within (by with_reducible with_unfolding_all exact hm.reach (.inl (by simp only [LNK_ERRCNT_row]; rfl))) ?_
    | with_reducible refine takeResponse_within (hm.up (by with_unfolding_all rfl)) ?_
    | with_reducible refine setSat_within (hm.up (by with_unfolding_all rfl)) ?_
    | split)

theorem chainFollow_within {m : Nat} {s0 s : State} {m_ : Nat} (hm : Sub 0xc0000000000000000000000000000000000000000000000000000000004000000 m)
    (h : Within m s0 s) : Within m s0 (chainFollow m_ s) := by
  unfold chainFollow
  repeat' (first
    | with_reducible assumption
    | (extract_lets +onlyGivenNames x; first | (refine Within.cut (m := m) (s := s0) x ?_ (fun h => ?_); subst x; rotate_left; clear_value x; rotate_right) | clear_value x | subst x)
    | with_reducible refine fset_within (by with_reducible with_unfolding_all exact hm.reach (.inl (by simp only [LNK_EVENTS_CHAIN_row, LNK_STATUS_N_row]; rfl))) ?_
    | with_reducible refine setFlag_within (by with_reducible with_unfolding_all exact hm.reach (.inl (by simp only [LNK_EVENTS_CHAIN_row, LNK_STATUS_N_row]; rfl))) ?_
    | with_reducible refine foldl_within (fun _ _ _ => ?_) ?_
    | with_reducible refine setSat_within (hm.up (by with_unfolding_all rfl)) ?_
    | split
    | with_reducible refine Within.set_lnk (hm.bit (by with_unfolding_all rfl)) ?_)

theorem cycleVerdict_within {m : Nat} {s0 s : State} {good : Bool} {pos : Nat} (hm : Sub 0x80081100000200000000000000000000000000088000000000000021005381901 m)
    (h : Within m s0 s) : Within m s0 (cycleVerdict good pos s) := by
  unfold cycleVerdict
  repeat' (first
    | with_reducible assumption
    | (extract_lets +onlyGivenNames x; first | (refine Within.cut (m := m) (s := s0) x ?_ (fun h => ?_); subst x; rotate_left; clear_value x; rotate_right) | clear_value x | subst x)
    | with_reducible refine setFlag_within (by with_reducible with_unfolding_all exact hm.reach (.inl (by simp only [SYS_LIMP_LNK_row]; rfl))) ?_
    | with_reducible refine whenS_within (fun _ _ => ?_) ?_
    | with_reducible refine linkFault_within (hm.up (by with_unfolding_all rfl)) ?_
    | split
    | with_reducible refine Within.set_lnk (hm.bit (by with_unfolding_all rfl)) ?_)

theorem phaseEnd_within {m : Nat} {s0 s : State} {good : Bool} (hm : Sub 0x240000200000000000000000000000000000000088000000000000000005201801 m)
    (h : Within m s0 s) : Within m s0 (phaseEnd good s) := by
  unfold phaseEnd
  repeat' (first
    | with_reducible assumption
    | (extract_lets +onlyGivenNames x; clear_value x)
    | with_reducible refine fset_within (by with_reducible with_unfolding_all exact hm.reach (.inl (by simp only [LNK_STATUS_STATE_row, LNK_CHK_row]; rfl))) ?_
    | with_reducible refine sizeBegin_within (hm.up (by with_unfolding_all rfl)) ?_
    | with_reducible refine identityDone_within (hm.up (by with_unfolding_all rfl)) ?_
    | split)

theorem tablesFollow_within {m : Nat} {s0 s : State} (hm : Sub 0x200001 m)
    (h : Within m s0 s) : Within m s0 (tablesFollow s) := by
  unfold tablesFollow
  repeat' (first
    | with_reducible assumption
    | (extract_lets +onlyGivenNames x; first | (refine Within.cut (m := m) (s := s0) x ?_ (fun h => ?_); subst x; rotate_left; clear_value x; rotate_right) | clear_value x)
    | with_reducible refine loadCheck_within (hm.up (by with_unfolding_all rfl)) ?_
    | split
    | with_reducible refine Within.set_lmp (hm.bit (by with_unfolding_all rfl)) ?_)

theorem execLinkCycleEnd_within {m : Nat} {s0 s : State} {frames : List (List Byte)} (hm : Sub 0x6d0d81300000200000000000000000040000000088000000000000021005381925 m)
    (h : Within m s0 s) : WithinO m s0 (execLinkCycleEnd frames s) := by
  unfold execLinkCycleEnd
  repeat' (first
    | with_reducible assumption
    | (extract_lets +onlyGivenNames x; first | (refine Within.cut (m := m) (s := s0) x ?_ (fun h => ?_); subst x; rotate_left; clear_value x; rotate_right) | clear_value x | subst x)
    | with_reducible refine WithinO.next ?_
    | with_reducible refine foldl_within (fun _ _ _ => ?_) ?_
    | with_reducible refine pmcEvent_within (hm.up (by with_unfolding_all rfl)) ?_
    | with_reducible refine setSat_within (hm.up (by with_unfolding_all rfl)) ?_
    | with_reducible refine cycleBegin_within (hm.up (by with_unfolding_all rfl)) ?_
    | with_reducible refine linkFault_within (hm.up (by with_unfolding_all rfl)) ?_
    | with_reducible refine chainFollow_within (hm.up (by with_unfolding_all rfl)) ?_
    | with_reducible refine satResponse_within (hm.up (by with_unfolding_all rfl)) ?_
    | with_reducible refine cycleVerdict_within (hm.up (by with_unfolding_all rfl)) ?_
    | with_reducible refine tablesFollow_within (hm.up (by with_unfolding_all rfl)) ?_
    | with_reducible refine phaseEnd_within (hm.up (by with_unfolding_all rfl)) ?_
    | split)

theorem execLnkResize_within {m : Nat} {s0 s : State} (hm : Sub 0x40000000000000000000000000000000000000000000000000000000004001001 m)
    (h : Within m s0 s) : WithinO m s0 (execLnkResize s) := by
  unfold execLnkResize
  repeat' (first
    | with_reducible assumption
    | (extract_lets +onlyGivenNames x; first | (refine Within.cut (m := m) (s := s0) x ?_ (fun h => ?_); subst x; rotate_left; clear_value x; rotate_right) | clear_value x | subst x)
    | with_reducible refine WithinO.next ?_
    | with_reducible refine onWrite_within (hm.up (by with_unfolding_all rfl)) (fun _ _ => ?_) ?_
    | with_reducible refine sizeBegin_within (hm.up (by with_unfolding_all rfl)) ?_
    | split)

theorem execLnkErrcntRead_within {m : Nat} {s0 s : State} (hm : Sub 0x400000000000000000000000000000000000000000000000000000000000001041 m)
    (h : Within m s0 s) : WithinO m s0 (execLnkErrcntRead s) := by
  unfold execLnkErrcntRead
  repeat' (first
    | with_reducible assumption
    | (extract_lets +onlyGivenNames x; first | (refine Within.cut (m := m) (s := s0) x ?_ (fun h => ?_); subst x; rotate_left; clear_value x; rotate_right) | clear_value x | subst x)
    | with_reducible refine WithinO.next ?_
    | with_reducible refine rcRead_within (hm.up (by with_unfolding_all rfl)) (by with_reducible with_unfolding_all exact hm.reach (.inl (by simp only [LNK_ERRCNT_row]; rfl))) ?_)

end Sys2Proof.Machine
end

