-- ==== Sys2Proof/Laws/Slices.lean ====
section
/-! SUPPORT. What each definition of Machine/Slices.lean can change, said once: the set of parts after Sub (Laws/Within.lean gives
the bits), the queue never, and the invariants kept. -/

set_option linter.unusedSimpArgs false

namespace Sys2Proof.Machine

theorem slcFail_within {m : Nat} {s0 s : State} {g : Nat} {i : Nat} {code : Nat} {count : Nat} (hm : Sub 0x1020000000000088000000000000000001001801 m)
    (h : Within m s0 s) : Within m s0 (slcFail g i code count s) := by
  unfold slcFail
  repeat' (first
    | with_reducible assumption
    | (extract_lets +onlyGivenNames x; first | (refine Within.cut (m := m) (s := s0) x ?_ (fun h => ?_); subst x; rotate_left; clear_value x; rotate_right) | clear_value x | subst x)
    | with_reducible refine fsets_nil ?_
    | with_reducible refine fsets_cons ?_
    | with_reducible refine fset_within (by with_reducible with_unfolding_all exact hm.reach (.inl (by simp only [SLC_EVENTS_CAL_FAIL_row, SLC_GLAST_CODE_row, SLC_GLAST_COUNT_row, SLC_GLAST_SLICE_row]; rfl))) ?_
    | with_reducible refine pmcEvent_within (hm.up (by with_unfolding_all rfl)) ?_
    | with_reducible refine raise_within (hm.up (by with_unfolding_all rfl)) ?_)

theorem takeTrims_within {m : Nat} {s0 s : State} {g : Nat} {i : Nat} {m_ : SliceMeas} (hm : Sub 0x11001 m)
    (h : Within m s0 s) : Within m s0 (takeTrims g i m_ s) := by
  unfold takeTrims
  repeat' (first
    | with_reducible assumption
    | (extract_lets +onlyGivenNames x; first | clear_value x | subst x)
    | with_reducible refine pmcEvent_within (hm.up (by with_unfolding_all rfl)) ?_
    | with_reducible refine setGroup_within (hm.up (by with_unfolding_all rfl)) ?_)

theorem suspend_within {m : Nat} {s0 s : State} {g : Nat} (hm : Sub 0x240000000000000000000000000000000010000 m)
    (h : Within m s0 s) : Within m s0 (suspend g s) := by
  unfold suspend
  repeat' (first
    | with_reducible assumption
    | (extract_lets +onlyGivenNames x; first | (refine Within.cut (m := m) (s := s0) x ?_ (fun h => ?_); subst x; rotate_left; clear_value x; rotate_right) | clear_value x | subst x)
    | with_reducible refine fset_within (by with_reducible with_unfolding_all exact hm.reach (.inl (by simp only [SLC_SUSP_SUSP_row, SLC_GSTATE_PHASE_row]; rfl))) ?_
    | with_reducible refine setGroup_within (hm.up (by with_unfolding_all rfl)) ?_)

theorem commitGuest_within {m : Nat} {s0 s : State} {g : Nat} {i : Nat} (hm : Sub 0x200800000000000000000000000000000010000 m)
    (h : Within m s0 s) : Within m s0 (commitGuest g i s) := by
  unfold commitGuest
  repeat' (first
    | with_reducible assumption
    | (extract_lets +onlyGivenNames x; first | (refine Within.cut (m := m) (s := s0) x ?_ (fun h => ?_); subst x; rotate_left; clear_value x; rotate_right) | clear_value x)
    | with_reducible refine fset_within (by with_reducible with_unfolding_all exact hm.reach (.inl (by simp only [SLC_GSTATE_GUEST_TAP_row, TAP_STATUS_GUEST_row]; rfl))) ?_
    | with_reducible refine setFlag_within (by with_reducible with_unfolding_all exact hm.reach (.inl (by simp only [SLC_GSTATE_GUEST_TAP_row, TAP_STATUS_GUEST_row]; rfl))) ?_
    | with_reducible refine setGroup_within (hm.up (by with_unfolding_all rfl)) ?_)

theorem noteRetired_within {m : Nat} {s0 s : State} {g : Nat} {i : Nat} (hm : Sub 0x4600000000430000000000000000000000000000000410000 m)
    (h : Within m s0 s) : Within m s0 (noteRetired g i s) := by
  unfold noteRetired
  repeat' (first
    | with_reducible assumption
    | (extract_lets +onlyGivenNames x; first | (refine Within.cut (m := m) (s := s0) x ?_ (fun h => ?_); subst x; rotate_left; clear_value x; rotate_right) | clear_value x | subst x)
    | with_reducible refine fsets_nil ?_
    | with_reducible refine fsets_cons ?_
    | with_reducible refine fset_within (by with_reducible with_unfolding_all exact hm.reach (.inl (by simp only [SLC_STATUS_RETIRED_row, SLC_EVENTS_RETIRE_row, SLC_GRETIRE_VALID_row, SLC_GRETIRE_FACTORY_row, SLC_GRETIRE_SLICE_row]; rfl))) ?_
    | with_reducible refine recordRetire_within (hm.up (by with_unfolding_all rfl)) ?_
    | with_reducible refine setGroup_within (hm.up (by with_unfolding_all rfl)) ?_)

theorem uncover_within {m : Nat} {s0 s : State} {g : Nat} {i : Nat} {tap : Option Nat} (hm : Sub 0x81100000200000000000000020000000000088000000000000021001391901 m)
    (h : Within m s0 s) : Within m s0 (uncover g i tap s) := by
  unfold uncover
  repeat' (first
    | with_reducible assumption
    | (extract_lets +onlyGivenNames x; first | (refine Within.cut (m := m) (s := s0) x ?_ (fun h => ?_); subst x; rotate_left; clear_value x; rotate_right) | clear_value x | subst x)
    | with_reducible refine setGroup_within (hm.up (by with_unfolding_all rfl)) ?_
    | with_reducible refine limpCause_within (hm.up (by with_unfolding_all rfl)) (by with_reducible with_unfolding_all exact hm.reach (.inl (by simp only [SYS_LIMP_SLICE_row, SLC_EVENTS_UNCOVERED_row]; rfl))) ?_
    | with_reducible refine report_within (hm.up (by with_unfolding_all rfl)) (by with_reducible with_unfolding_all exact hm.reach (.inl (by simp only [SYS_LIMP_SLICE_row, SLC_EVENTS_UNCOVERED_row]; rfl))) ?_)

theorem retireByRuns_within {m : Nat} {s0 s : State} {g : Nat} {i : Nat} (hm : Sub 0x81100000200004600000000670800000000088000000000000021001791901 m)
    (h : Within m s0 s) : Within m s0 (retireByRuns g i s) := by
  unfold retireByRuns
  repeat' (first
    | with_reducible assumption
    | (extract_lets +onlyGivenNames x; first | (refine Within.cut (m := m) (s := s0) x ?_ (fun h => ?_); subst x; rotate_left; clear_value x; rotate_right) | clear_value x | subst x)
    | with_reducible refine uncover_within (hm.up (by with_unfolding_all rfl)) ?_
    | with_reducible refine raise_within (hm.up (by with_unfolding_all rfl)) ?_
    | with_reducible refine noteRetired_within (hm.up (by with_unfolding_all rfl)) ?_
    | with_reducible refine suspend_within (hm.up (by with_unfolding_all rfl)) ?_
    | with_reducible refine commitGuest_within (hm.up (by with_unfolding_all rfl)) ?_
    | split)

theorem countFail_within {m : Nat} {s0 s : State} {g : Nat} {i : Nat} (hm : Sub 0x200000000000000000000000000000000010000 m)
    (h : Within m s0 s) : Within m s0 (countFail g i s).1 := by
  unfold countFail
  repeat' (first
    | with_reducible assumption
    | (extract_lets +onlyGivenNames x; first | (refine Within.cut (m := m) (s := s0) x ?_ (fun h => ?_); subst x; rotate_left; clear_value x; rotate_right) | clear_value x | subst x)
    | with_reducible refine fset_within (by with_reducible with_unfolding_all exact hm.reach (.inl (by simp only [SLC_GSTATE_VISIT_row, SLC_GSTATE_FAILS_row]; rfl))) ?_
    | with_reducible refine whenS_within (fun _ _ => ?_) ?_
    | with_reducible refine setGroup_within (hm.up (by with_unfolding_all rfl)) ?_)

theorem clearFails_within {m : Nat} {s0 s : State} {g : Nat} {i : Nat} (hm : Sub 0x10000 m)
    (h : Within m s0 s) : Within m s0 (clearFails g i s) := by
  unfold clearFails
  repeat' (first
    | with_reducible assumption
    | (extract_lets +onlyGivenNames x; clear_value x)
    | with_reducible refine setGroup_within (hm.up (by with_unfolding_all rfl)) ?_)

theorem runInPlace_within {m : Nat} {s0 s : State} {g : Nat} {i : Nat} (hm : Sub 0x200000000000000000000000000000000010000 m)
    (h : Within m s0 s) : Within m s0 (runInPlace g i s) := by
  unfold runInPlace
  repeat' (first
    | with_reducible assumption
    | (extract_lets +onlyGivenNames x; first | clear_value x | subst x)
    | with_reducible refine fset_within (by with_reducible with_unfolding_all exact hm.reach (.inl (by simp only [SLC_GSTATE_PHASE_row]; rfl))) ?_
    | with_reducible refine setGroup_within (hm.up (by with_unfolding_all rfl)) ?_)

theorem beginVisit_within {m : Nat} {s0 s : State} {g : Fin 16} (hm : Sub 0x220000000000000000000000000000000011001 m)
    (h : Within m s0 s) : Within m s0 (beginVisit g s) := by
  unfold beginVisit
  repeat' (first
    | with_reducible assumption
    | (extract_lets +onlyGivenNames x; first | (refine Within.cut (m := m) (s := s0) x ?_ (fun h => ?_); subst x; rotate_left; clear_value x; rotate_right) | clear_value x | subst x)
    | with_reducible refine fset_within (by with_reducible with_unfolding_all exact hm.reach (.inl (by simp only [PWR_STATUS_BG_OK_row, SLC_EVENTS_PRECOND_row, SLC_GSTATE_VISIT_row, SLC_GSTATE_FAILS_row, SLC_GSTATE_GUEST_TAP_row, SLC_GSTATE_PHASE_row]; rfl))) ?_
    | with_reducible refine setFlag_within (by with_reducible with_unfolding_all exact hm.reach (.inl (by simp only [PWR_STATUS_BG_OK_row, SLC_EVENTS_PRECOND_row, SLC_GSTATE_VISIT_row, SLC_GSTATE_FAILS_row, SLC_GSTATE_GUEST_TAP_row, SLC_GSTATE_PHASE_row]; rfl))) ?_
    | with_reducible refine setGroup_within (hm.up (by with_unfolding_all rfl)) ?_
    | with_reducible refine pmcEvent_within (hm.up (by with_unfolding_all rfl)) ?_
    | with_reducible refine runInPlace_within (hm.up (by with_unfolding_all rfl)) ?_
    | with_reducible refine schedule_within (hm.up (by with_unfolding_all rfl)) ?_
    | split)

theorem execRotationStep_within {m : Nat} {s0 s : State} {g : Fin 16} (hm : Sub 0x220000000000000000000000000000000011001 m)
    (h : Within m s0 s) : WithinO m s0 (execRotationStep g s) := by
  unfold execRotationStep
  repeat' (first
    | with_reducible assumption
    | (extract_lets +onlyGivenNames x; first | clear_value x | subst x)
    | with_reducible refine WithinO.next ?_
    | with_reducible refine setGroup_within (hm.up (by with_unfolding_all rfl)) ?_
    | with_reducible refine beginVisit_within (hm.up (by with_unfolding_all rfl)) ?_
    | split)

theorem execGuestHandover_within {m : Nat} {s0 s : State} {g : Fin 16} (hm : Sub 0x200800000000000000000000000000000010000 m)
    (h : Within m s0 s) : WithinO m s0 (execGuestHandover g s) := by
  unfold execGuestHandover
  repeat' (first
    | with_reducible assumption
    | (extract_lets +onlyGivenNames x; first | (refine Within.cut (m := m) (s := s0) x ?_ (fun h => ?_); subst x; rotate_left; clear_value x; rotate_right) | clear_value x | subst x)
    | with_reducible refine WithinO.next ?_
    | with_reducible refine fset_within (by with_reducible with_unfolding_all exact hm.reach (.inl (by simp only [SLC_GSTATE_VISIT_row, SLC_GSTATE_PHASE_row, SLC_GSTATE_GUEST_TAP_row, TAP_STATUS_GUEST_row]; rfl))) ?_
    | with_reducible refine setFlag_within (by with_reducible with_unfolding_all exact hm.reach (.inl (by simp only [SLC_GSTATE_VISIT_row, SLC_GSTATE_PHASE_row, SLC_GSTATE_GUEST_TAP_row, TAP_STATUS_GUEST_row]; rfl))) ?_
    | with_reducible refine runInPlace_within (hm.up (by with_unfolding_all rfl)) ?_
    | split)

theorem visitRunEnd_within {m : Nat} {s0 s : State} {g : Fin 16} {i : Nat} {m_ : SliceMeas} (hm : Sub 0x81100000200004600000001670800000000088000000000000021001791901 m)
    (h : Within m s0 s) : Within m s0 (visitRunEnd g i m_ s) := by
  unfold visitRunEnd
  repeat' (first
    | with_reducible assumption
    | (extract_lets +onlyGivenNames x; first | (refine Within.cut (m := m) (s := s0) x ?_ (fun h => ?_); subst x; rotate_left; clear_value x; rotate_right) | (refine Within.cut (m := m) (s := s0) x.1 ?_ (fun h => ?_); subst x; rotate_left; clear_value x; rotate_right) | clear_value x | subst x)
    | with_reducible refine fset_within (by with_reducible with_unfolding_all exact hm.reach (.inl (by simp only [SLC_GSTATE_GUEST_TAP_row, SLC_GSTATE_PHASE_row]; rfl))) ?_
    | with_reducible refine whenS_within (fun _ _ => ?_) ?_
    | with_reducible refine takeTrims_within (hm.up (by with_unfolding_all rfl)) ?_
    | with_reducible refine setGroup_within (hm.up (by with_unfolding_all rfl)) ?_
    | with_reducible refine schedule_within (hm.up (by with_unfolding_all rfl)) ?_
    | with_reducible refine endVisit_within (hm.up (by with_unfolding_all rfl)) ?_
    | with_reducible refine clearFails_within (hm.up (by with_unfolding_all rfl)) ?_
    | with_reducible refine slcFail_within (hm.up (by with_unfolding_all rfl)) ?_
    | with_reducible refine countFail_within (hm.up (by with_unfolding_all rfl)) ?_
    | with_reducible refine retireByRuns_within (hm.up (by with_unfolding_all rfl)) ?_
    | split)

theorem cmdEnds_within {m : Nat} {s0 s : State} {code : Nat} (hm : Sub 0x100000000000000000000000000000000000000 m)
    (h : Within m s0 s) : Within m s0 (cmdEnds code s) := by
  unfold cmdEnds
  repeat' (first
    | with_reducible assumption
    | (extract_lets +onlyGivenNames x; first | (refine Within.cut (m := m) (s := s0) x ?_ (fun h => ?_); subst x; rotate_left; clear_value x; rotate_right) | clear_value x | subst x)
    | with_reducible refine fsets_nil ?_
    | with_reducible refine fsets_cons ?_
    | with_reducible refine fset_within (by with_reducible with_unfolding_all exact hm.reach (.inl (by simp only [SLC_CMDSTAT_BUSY_row, SLC_CMDSTAT_CODE_row]; rfl))) ?_)

theorem reinstate_within {m : Nat} {s0 s : State} {g : Nat} {i : Nat} (hm : Sub 0x4600000000650000000000000000000000000020000410000 m)
    (h : Within m s0 s) : Within m s0 (reinstate g i s) := by
  unfold reinstate
  repeat' (first
    | with_reducible assumption
    | (extract_lets +onlyGivenNames x; first | (refine Within.cut (m := m) (s := s0) x ?_ (fun h => ?_); subst x; rotate_left; clear_value x; rotate_right) | clear_value x | subst x)
    | with_reducible refine fset_within (by with_reducible with_unfolding_all exact hm.reach (.inl (by simp only [SLC_STATUS_RETIRED_row, SLC_STATUS_FACTORY_row, SLC_SUSP_SUSP_row, SYS_LIMP_SLICE_row, SLC_GRETIRE_SLICE_row, SLC_GSTATE_GUEST_TAP_row, SLC_GRETIRE_FACTORY_row, SLC_GRETIRE_VALID_row, SLC_GSTATE_PHASE_row]; rfl))) ?_
    | with_reducible refine setFlag_within (by with_reducible with_unfolding_all exact hm.reach (.inl (by simp only [SLC_STATUS_RETIRED_row, SLC_STATUS_FACTORY_row, SLC_SUSP_SUSP_row, SYS_LIMP_SLICE_row, SLC_GRETIRE_SLICE_row, SLC_GSTATE_GUEST_TAP_row, SLC_GRETIRE_FACTORY_row, SLC_GRETIRE_VALID_row, SLC_GSTATE_PHASE_row]; rfl))) ?_
    | with_reducible refine fsets_nil ?_
    | with_reducible refine fsets_cons ?_
    | with_reducible refine whenS_within (fun _ _ => ?_) ?_
    | with_reducible refine clearFails_within (hm.up (by with_unfolding_all rfl)) ?_
    | with_reducible refine setGroup_within (hm.up (by with_unfolding_all rfl)) ?_
    | with_reducible refine recordRetire_within (hm.up (by with_unfolding_all rfl)) ?_
    | split)

theorem cmdRunEnd_within {m : Nat} {s0 s : State} {g : Fin 16} {i : Nat} {m_ : SliceMeas} (hm : Sub 0x81100000200004600000001770800000000088000000000000021001791901 m)
    (h : Within m s0 s) : Within m s0 (cmdRunEnd g i m_ s) := by
  unfold cmdRunEnd
  repeat' (first
    | with_reducible assumption
    | (extract_lets +onlyGivenNames x; first | (refine Within.cut (m := m) (s := s0) x ?_ (fun h => ?_); subst x; rotate_left; clear_value x; rotate_right) | (refine Within.cut (m := m) (s := s0) x.1 ?_ (fun h => ?_); subst x; rotate_left; clear_value x; rotate_right) | clear_value x | subst x)
    | with_reducible refine setGroup_within (hm.up (by with_unfolding_all rfl)) ?_
    | with_reducible refine cmdEnds_within (hm.up (by with_unfolding_all rfl)) ?_
    | with_reducible refine clearFails_within (hm.up (by with_unfolding_all rfl)) ?_
    | with_reducible refine takeTrims_within (hm.up (by with_unfolding_all rfl)) ?_
    | with_reducible refine reinstate_within (hm.up (by with_unfolding_all rfl)) ?_
    | with_reducible refine slcFail_within (hm.up (by with_unfolding_all rfl)) ?_
    | with_reducible refine countFail_within (hm.up (by with_unfolding_all rfl)) ?_
    | with_reducible refine retireByRuns_within (hm.up (by with_unfolding_all rfl)) ?_
    | split)

theorem execSliceCalRunEnd_within {m : Nat} {s0 s : State} {g : Fin 16} {meas : SliceMeas} (hm : Sub 0x81100000200004600000001770800000000088000000000000021001791901 m)
    (h : Within m s0 s) : WithinO m s0 (execSliceCalRunEnd g meas s) := by
  unfold execSliceCalRunEnd
  repeat' (first
    | with_reducible assumption
    | (extract_lets +onlyGivenNames x; first | clear_value x | subst x)
    | with_reducible refine WithinO.next ?_
    | with_reducible refine visitRunEnd_within (hm.up (by with_unfolding_all rfl)) ?_
    | with_reducible refine cmdRunEnd_within (hm.up (by with_unfolding_all rfl)) ?_
    | split)

theorem execGuestHandback_within {m : Nat} {s0 s : State} {g : Fin 16} {fit : ResidualFit} (hm : Sub 0x81100000200004600000001670800000000088000000000000021001791901 m)
    (h : Within m s0 s) : WithinO m s0 (execGuestHandback g fit s) := by
  unfold execGuestHandback
  repeat' (first
    | with_reducible assumption
    | (extract_lets +onlyGivenNames x; first | (refine Within.cut (m := m) (s := s0) x ?_ (fun h => ?_); subst x; rotate_left; clear_value x; rotate_right) | (refine Within.cut (m := m) (s := s0) x.1 ?_ (fun h => ?_); subst x; rotate_left; clear_value x; rotate_right) | clear_value x | subst x)
    | with_reducible refine WithinO.next ?_
    | with_reducible refine fset_within (by with_reducible with_unfolding_all exact hm.reach (.inl (by simp only [SLC_GSTATE_PHASE_row]; rfl))) ?_
    | with_reducible refine whenS_within (fun _ _ => ?_) ?_
    | with_reducible refine setGroup_within (hm.up (by with_unfolding_all rfl)) ?_
    | with_reducible refine endVisit_within (hm.up (by with_unfolding_all rfl)) ?_
    | with_reducible refine clearFails_within (hm.up (by with_unfolding_all rfl)) ?_
    | with_reducible refine releaseGuest_within (hm.up (by with_unfolding_all rfl)) ?_
    | with_reducible refine slcFail_within (hm.up (by with_unfolding_all rfl)) ?_
    | with_reducible refine countFail_within (hm.up (by with_unfolding_all rfl)) ?_
    | with_reducible refine retireByRuns_within (hm.up (by with_unfolding_all rfl)) ?_
    | with_reducible refine schedule_within (hm.up (by with_unfolding_all rfl)) ?_
    | split)

theorem execOverlapTimeout_within {m : Nat} {s0 s : State} {g : Fin 16} (hm : Sub 0x1200800000000000000000000000000000010001 m)
    (h : Within m s0 s) : WithinO m s0 (execOverlapTimeout g s) := by
  unfold execOverlapTimeout
  repeat' (first
    | with_reducible assumption
    | (extract_lets +onlyGivenNames x; first | (refine Within.cut (m := m) (s := s0) x ?_ (fun h => ?_); subst x; rotate_left; clear_value x; rotate_right) | clear_value x | subst x)
    | with_reducible refine WithinO.next ?_
    | with_reducible refine fsets_nil ?_
    | with_reducible refine fsets_cons ?_
    | with_reducible refine fset_within (by with_reducible with_unfolding_all exact hm.reach (.inl (by simp only [SLC_GSTATE_PHASE_row, SLC_GLAST_CODE_row, SLC_GLAST_COUNT_row, SLC_GLAST_SLICE_row]; rfl))) ?_
    | with_reducible refine setGroup_within (hm.up (by with_unfolding_all rfl)) ?_
    | with_reducible refine endVisit_within (hm.up (by with_unfolding_all rfl)) ?_
    | with_reducible refine clearFails_within (hm.up (by with_unfolding_all rfl)) ?_
    | with_reducible refine releaseGuest_within (hm.up (by with_unfolding_all rfl)) ?_
    | split)

theorem replaceFrom_within {m : Nat} {s0 s : State} {t : Nat} (hm : Sub 0xc000 m)
    (h : Within m s0 s) : Within m s0 (replaceFrom t s) := by
  unfold replaceFrom
  repeat' (first
    | with_reducible assumption
    | (extract_lets +onlyGivenNames x; first | (refine Within.cut (m := m) (s := s0) x ?_ (fun h => ?_); subst x; rotate_left; clear_value x; rotate_right) | clear_value x)
    | with_reducible refine setHead_within (hm.up (by with_unfolding_all rfl)) ?_
    | with_reducible refine setTap_within (hm.up (by with_unfolding_all rfl)) ?_
    | split)

theorem replaceUntil_within {m : Nat} {s0 s : State} {t : Nat} (hm : Sub 0xc000 m)
    (h : Within m s0 s) : Within m s0 (replaceUntil t s) := by
  unfold replaceUntil
  repeat' (first
    | with_reducible assumption
    | (extract_lets +onlyGivenNames x; first | (refine Within.cut (m := m) (s := s0) x ?_ (fun h => ?_); subst x; rotate_left; clear_value x; rotate_right) | clear_value x)
    | with_reducible refine forN_within (fun _ _ _ => ?_) ?_
    | with_reducible refine setTap_within (hm.up (by with_unfolding_all rfl)) ?_
    | with_reducible refine setHead_within (hm.up (by with_unfolding_all rfl)) ?_)

theorem addReport_within {m : Nat} {s0 s : State} {g : Nat} {i : Nat} {due : Nat} (hm : Sub 0x10000 m)
    (h : Within m s0 s) : Within m s0 (addReport g i due s) := by
  unfold addReport
  repeat' (first
    | with_reducible assumption
    | (extract_lets +onlyGivenNames x; clear_value x)
    | with_reducible refine setGroup_within (hm.up (by with_unfolding_all rfl)) ?_)

theorem guestFault_within {m : Nat} {s0 s : State} {g : Nat} (hm : Sub 0x8110000020000460000000067080000000008800000000000002100179d901 m)
    (h : Within m s0 s) : Within m s0 (guestFault g s) := by
  unfold guestFault
  repeat' (first
    | with_reducible assumption
    | (extract_lets +onlyGivenNames x; first | (refine Within.cut (m := m) (s := s0) x ?_ (fun h => ?_); subst x; rotate_left; clear_value x; rotate_right) | clear_value x | subst x)
    | with_reducible refine whenS_within (fun _ _ => ?_) ?_
    | with_reducible refine uncover_within (hm.up (by with_unfolding_all rfl)) ?_
    | with_reducible refine replaceFrom_within (hm.up (by with_unfolding_all rfl)) ?_
    | with_reducible refine suspend_within (hm.up (by with_unfolding_all rfl)) ?_
    | with_reducible refine releaseGuest_within (hm.up (by with_unfolding_all rfl)) ?_
    | with_reducible refine noteRetired_within (hm.up (by with_unfolding_all rfl)) ?_
    | split)

theorem execSliceFault_within {m : Nat} {s0 s : State} {g : Fin 16} {i : Fin 17} (hm : Sub 0x8110000020000460000000067080000000008800000000000002100179d901 m)
    (h : Within m s0 s) : WithinO m s0 (execSliceFault g i s) := by
  unfold execSliceFault
  repeat' (first
    | with_reducible assumption
    | (extract_lets +onlyGivenNames x; first | (refine Within.cut (m := m) (s := s0) x ?_ (fun h => ?_); subst x; rotate_left; clear_value x; rotate_right) | clear_value x | subst x)
    | with_reducible refine WithinO.next ?_
    | with_reducible refine setFlag_within (by with_reducible with_unfolding_all exact hm.reach (.inl (by simp only [SLC_EVENTS_FAULT_row, SLC_GSTATE_GUEST_TAP_row]; rfl))) ?_
    | with_reducible refine guestFault_within (hm.up (by with_unfolding_all rfl)) ?_
    | with_reducible refine uncover_within (hm.up (by with_unfolding_all rfl)) ?_
    | with_reducible refine replaceFrom_within (hm.up (by with_unfolding_all rfl)) ?_
    | with_reducible refine suspend_within (hm.up (by with_unfolding_all rfl)) ?_
    | with_reducible refine noteRetired_within (hm.up (by with_unfolding_all rfl)) ?_
    | with_reducible refine releaseGuest_within (hm.up (by with_unfolding_all rfl)) ?_
    | with_reducible refine raise_within (hm.up (by with_unfolding_all rfl)) ?_
    | with_reducible refine commitGuest_within (hm.up (by with_unfolding_all rfl)) ?_
    | with_reducible refine schedule_within (hm.up (by with_unfolding_all rfl)) ?_
    | with_reducible refine addReport_within (hm.up (by with_unfolding_all rfl)) ?_
    | split)

theorem execGuestStandin_within {m : Nat} {s0 s : State} {g : Fin 16} (hm : Sub 0x20080000000000000000000000000000001c001 m)
    (h : Within m s0 s) : WithinO m s0 (execGuestStandin g s) := by
  unfold execGuestStandin
  repeat' (first
    | with_reducible assumption
    | (extract_lets +onlyGivenNames x; first | (refine Within.cut (m := m) (s := s0) x ?_ (fun h => ?_); subst x; rotate_left; clear_value x; rotate_right) | clear_value x | subst x)
    | with_reducible refine WithinO.next ?_
    | with_reducible refine releaseGuest_within (hm.up (by with_unfolding_all rfl)) ?_
    | with_reducible refine setGroup_within (hm.up (by with_unfolding_all rfl)) ?_
    | with_reducible refine replaceUntil_within (hm.up (by with_unfolding_all rfl)) ?_
    | with_reducible refine commitGuest_within (hm.up (by with_unfolding_all rfl)) ?_
    | with_reducible refine schedule_within (hm.up (by with_unfolding_all rfl)) ?_
    | split)

theorem execSliceFaultReport_within {m : Nat} {s0 s : State} {g : Fin 16} (hm : Sub 0x88000000000000000001011801 m)
    (h : Within m s0 s) : WithinO m s0 (execSliceFaultReport g s) := by
  unfold execSliceFaultReport
  repeat' (first
    | with_reducible assumption
    | (extract_lets +onlyGivenNames x; first | clear_value x | subst x)
    | with_reducible refine WithinO.next ?_
    | with_reducible refine raiseAt_within (hm.up (by with_unfolding_all rfl)) ?_
    | with_reducible refine setGroup_within (hm.up (by with_unfolding_all rfl)) ?_
    | split)

theorem slcCmd_within {m : Nat} {s0 s : State} {g : Nat} {i : Nat} {reinst : Bool} {may : State → Bool} (hm : Sub 0x120000000000000000000000000000000010000 m)
    (h : Within m s0 s) : Within m s0 (slcCmd g i reinst may s) := by
  unfold slcCmd
  repeat' (first
    | with_reducible assumption
    | (extract_lets +onlyGivenNames x; first | clear_value x | subst x)
    | with_reducible refine setFlag_within (by with_reducible with_unfolding_all exact hm.reach (.inl (by simp only [SLC_CMDSTAT_BUSY_row, SLC_EVENTS_CMD_REJ_row, PWR_STATUS_BG_OK_row, SLC_EVENTS_PRECOND_row]; rfl))) ?_
    | with_reducible refine cmdEnds_within (hm.up (by with_unfolding_all rfl)) ?_
    | with_reducible refine setGroup_within (hm.up (by with_unfolding_all rfl)) ?_
    | split)

theorem execSlcCmdRun_within {m : Nat} {s0 s : State} {g : Fin 16} {i : Fin 32} (hm : Sub 0x120000000000000000000000000000000011001 m)
    (h : Within m s0 s) : WithinO m s0 (execSlcCmdRun g i s) := by
  unfold execSlcCmdRun
  repeat' (first
    | with_reducible assumption
    | (extract_lets +onlyGivenNames x; first | (refine Within.cut (m := m) (s := s0) x ?_ (fun h => ?_); subst x; rotate_left; clear_value x; rotate_right) | clear_value x | subst x)
    | with_reducible refine WithinO.next ?_
    | with_reducible refine onWrite_within (hm.up (by with_unfolding_all rfl)) (fun _ _ => ?_) ?_
    | with_reducible refine slcCmd_within (hm.up (by with_unfolding_all rfl)) ?_)

theorem execSlcCmdReinstate_within {m : Nat} {s0 s : State} {g : Fin 16} {i : Fin 32} (hm : Sub 0x120000000000000000000000000000000011001 m)
    (h : Within m s0 s) : WithinO m s0 (execSlcCmdReinstate g i s) := by
  unfold execSlcCmdReinstate
  repeat' (first
    | with_reducible assumption
    | (extract_lets +onlyGivenNames x; first | (refine Within.cut (m := m) (s := s0) x ?_ (fun h => ?_); subst x; rotate_left; clear_value x; rotate_right) | clear_value x | subst x)
    | with_reducible refine WithinO.next ?_
    | with_reducible refine onWrite_within (hm.up (by with_unfolding_all rfl)) (fun _ _ => ?_) ?_
    | with_reducible refine slcCmd_within (hm.up (by with_unfolding_all rfl)) ?_)

theorem startRuns_within {m : Nat} {s0 s : State} {g : Nat} {i : Nat} {l : List SliceMeas} (hm : Sub 0x81100000200004600000001670800000000088000000000000021001791901 m)
    (h : Within m s0 s) : Within m s0 (startRuns g i l s) := by
  induction l generalizing s with
  | nil => exact h
  | cons q r ih =>
    unfold startRuns
    extract_lets +onlyGivenNames x
    clear_value x
    split
    · exact clearFails_within (hm.up rfl) (takeTrims_within (hm.up rfl) h)
    · extract_lets +onlyGivenNames y
      have k : Within m s0 y.1 := countFail_within (hm.up rfl) (slcFail_within (hm.up rfl) h)
      clear_value y
      split
      · exact retireByRuns_within (hm.up rfl) k
      · exact ih k

theorem slcStartPass_within {m : Nat} {s0 s : State} {runs : List (Nat × Nat × List SliceMeas)} (hm : Sub 0x81100000200004600000001670800000000088000000000000021001791901 m)
    (h : Within m s0 s) : Within m s0 (slcStartPass runs s) := by
  unfold slcStartPass
  repeat' (first
    | with_reducible assumption
    | (extract_lets +onlyGivenNames x; first | (refine Within.cut (m := m) (s := s0) x ?_ (fun h => ?_); subst x; rotate_left; clear_value x; rotate_right) | clear_value x | subst x)
    | with_reducible refine forN_within (fun _ _ _ => ?_) ?_
    | with_reducible refine foldl_within (fun _ _ _ => ?_) ?_
    | with_reducible refine setGroup_within (hm.up (by with_unfolding_all rfl)) ?_
    | with_reducible refine startRuns_within (hm.up (by with_unfolding_all rfl)) ?_
    | with_reducible refine suspend_within (hm.up (by with_unfolding_all rfl)) ?_
    | with_reducible refine commitGuest_within (hm.up (by with_unfolding_all rfl)) ?_
    | split)

end Sys2Proof.Machine
end

