-- ==== Sys2Proof/Laws/Recorder.lean ====
section
/-! SUPPORT. What each definition of Machine/Recorder.lean can change, said once: the set of parts after Sub (Laws/Within.lean gives
the bits), the queue never, and the invariants kept. -/

set_option linter.unusedSimpArgs false

namespace Sys2Proof.Machine

theorem recEnter_within {m : Nat} {s0 s : State} {n : Nat} (hm : Sub 0x800000000000000000000000000000000000000000000000000000000000000000000000000 m)
    (h : Within m s0 s) : Within m s0 (recEnter n s) := by
  unfold recEnter
  repeat' (first
    | with_reducible assumption
    | with_reducible refine fset_within (by with_reducible with_unfolding_all exact hm.reach (.inl (by simp only [REC_STATUS_STATE_row]; rfl))) ?_)

theorem setRec_within {m : Nat} {s0 s : State} {r : RecSt} (hm : Sub 0x1000000 m)
    (h : Within m s0 s) : Within m s0 (setRec r s) := by
  unfold setRec
  repeat' (first
    | with_reducible assumption
    | split
    | with_reducible refine Within.set_recd (hm.bit (by with_unfolding_all rfl)) ?_)

theorem recCount_within {m : Nat} {s0 s : State} (hm : Sub 0x400000000000000000000000000000000000000000000000000000000000000000000000000000 m)
    (h : Within m s0 s) : Within m s0 (recCount s) := by
  unfold recCount
  repeat' (first
    | with_reducible assumption
    | with_reducible refine fset_within (by with_reducible with_unfolding_all exact hm.reach (.inl (by simp only [REC_INFO_COUNT_row]; rfl))) ?_)

theorem recMessage_within {m : Nat} {s0 s : State} (hm : Sub 0x88000000000000000001001801 m)
    (h : Within m s0 s) : Within m s0 (recMessage s) := by
  unfold recMessage
  repeat' (first
    | with_reducible assumption
    | (extract_lets +onlyGivenNames x; first | clear_value x | subst x)
    | with_reducible refine raiseAt_within (hm.up (by with_unfolding_all rfl)) ?_
    | with_reducible refine setRec_within (hm.up (by with_unfolding_all rfl)) ?_
    | split)

theorem recEndCount_within {m : Nat} {s0 s : State} (hm : Sub 0x800000000000000000000000000000000000000000000000088000000000000000001001801 m)
    (h : Within m s0 s) : Within m s0 (recEndCount s) := by
  unfold recEndCount
  repeat' (first
    | with_reducible assumption
    | (extract_lets +onlyGivenNames x; first | clear_value x | subst x)
    | with_reducible refine setFlag_within (by with_reducible with_unfolding_all exact hm.reach (.inl (by simp only [REC_STATUS_COUNTING_row]; rfl))) ?_
    | with_reducible refine recMessage_within (hm.up (by with_unfolding_all rfl)) ?_
    | with_reducible refine setRec_within (hm.up (by with_unfolding_all rfl)) ?_)

theorem recClear_within {m : Nat} {s0 s : State} (hm : Sub 0x800000000000000000000000000000000000000000000000088000000000000000001001801 m)
    (h : Within m s0 s) : Within m s0 (recClear s) := by
  unfold recClear
  repeat' (first
    | with_reducible assumption
    | (extract_lets +onlyGivenNames x; first | (refine Within.cut (m := m) (s := s0) x ?_ (fun h => ?_); subst x; rotate_left; clear_value x; rotate_right) | clear_value x | subst x)
    | with_reducible refine recEndCount_within (hm.up (by with_unfolding_all rfl)) ?_
    | with_reducible refine setRec_within (hm.up (by with_unfolding_all rfl)) ?_
    | with_reducible refine schedule_within (hm.up (by with_unfolding_all rfl)) ?_
    | with_reducible refine recEnter_within (hm.up (by with_unfolding_all rfl)) ?_)

theorem recComplete_within {m : Nat} {s0 s : State} (hm : Sub 0x40001800000000000000000000000000000000000000000000000088000000000000000001001801 m)
    (h : Within m s0 s) : Within m s0 (recComplete s) := by
  unfold recComplete
  repeat' (first
    | with_reducible assumption
    | (extract_lets +onlyGivenNames x; first | (refine Within.cut (m := m) (s := s0) x ?_ (fun h => ?_); subst x; rotate_left; clear_value x; rotate_right) | clear_value x)
    | with_reducible refine setRaw_within (by with_reducible with_unfolding_all exact hm.reach (.inl (by simp only [REC_EVENTS_DONE_row, REC_DEAD_CAP_row, REC_CTL_AUTO_row, REC_STATUS_COUNTING_row]; rfl))) ?_
    | with_reducible refine setFlag_within (by with_reducible with_unfolding_all exact hm.reach (.inl (by simp only [REC_EVENTS_DONE_row, REC_DEAD_CAP_row, REC_CTL_AUTO_row, REC_STATUS_COUNTING_row]; rfl))) ?_
    | with_reducible refine setRec_within (hm.up (by with_unfolding_all rfl)) ?_
    | with_reducible refine recEnter_within (hm.up (by with_unfolding_all rfl)) ?_
    | with_reducible refine recMessage_within (hm.up (by with_unfolding_all rfl)) ?_
    | split)

theorem recStorePre_within {m : Nat} {s0 s : State} {e : RecEntry} (hm : Sub 0x400000000000000000000000000000000000000000000000000000000000000000000001000000 m)
    (h : Within m s0 s) : Within m s0 (recStorePre e s) := by
  unfold recStorePre
  repeat' (first
    | with_reducible assumption
    | (extract_lets +onlyGivenNames x; first | clear_value x | subst x)
    | with_reducible refine recCount_within (hm.up (by with_unfolding_all rfl)) ?_
    | with_reducible refine setRec_within (hm.up (by with_unfolding_all rfl)) ?_)

theorem recStore_within {m : Nat} {s0 s : State} {e : RecEntry} (hm : Sub 0x400000000000000000000000000000000000000000000000000000000000000000000001000000 m)
    (h : Within m s0 s) : Within m s0 (recStore e s) := by
  unfold recStore
  repeat' (first
    | with_reducible assumption
    | (extract_lets +onlyGivenNames x; first | clear_value x | subst x)
    | with_reducible refine recCount_within (hm.up (by with_unfolding_all rfl)) ?_
    | with_reducible refine setRec_within (hm.up (by with_unfolding_all rfl)) ?_)

theorem recChange_within {m : Nat} {s0 s : State} {post : Bool} {new : BitVec 64} (hm : Sub 0x400000000000000000000000000000000000000000000000000000000000000000000001000000 m)
    (h : Within m s0 s) : Within m s0 (recChange post new s).1 := by
  unfold recChange
  repeat' (first
    | with_reducible assumption
    | (extract_lets +onlyGivenNames x; clear_value x)
    | with_reducible refine setRec_within (hm.up (by with_unfolding_all rfl)) ?_
    | with_reducible refine recStore_within (hm.up (by with_unfolding_all rfl)) ?_
    | with_reducible refine recStorePre_within (hm.up (by with_unfolding_all rfl)) ?_
    | split)

theorem recTrigger_within {m : Nat} {s0 s : State} {new : BitVec 64} (hm : Sub 0x4e401800000000000000000000000000000000000000000000000088000000000000000101001801 m)
    (h : Within m s0 s) : Within m s0 (recTrigger new s) := by
  unfold recTrigger
  repeat' (first
    | with_reducible assumption
    | (extract_lets +onlyGivenNames x; first | (refine Within.cut (m := m) (s := s0) x ?_ (fun h => ?_); subst x; rotate_left; clear_value x; rotate_right) | clear_value x | subst x)
    | with_reducible refine setFlag_within (by with_reducible with_unfolding_all exact hm.reach (.inl (by simp only [REC_TTRIG_LO_row, REC_TTRIG_HI_row, REC_INFO_PRE_ACT_row, REC_INFO_TRIGGERED_row, REC_CAPNUM_row, REC_INFO_POST_CLAMPED_row, REC_EVENTS_CLAMPED_row]; rfl))) ?_
    | with_reducible refine setPair_within (by with_reducible with_unfolding_all exact hm.reach (.inl (by simp only [REC_TTRIG_LO_row, REC_TTRIG_HI_row, REC_INFO_PRE_ACT_row, REC_INFO_TRIGGERED_row, REC_CAPNUM_row, REC_INFO_POST_CLAMPED_row, REC_EVENTS_CLAMPED_row]; rfl))) (by with_reducible with_unfolding_all exact hm.reach (.inl (by simp only [REC_TTRIG_LO_row, REC_TTRIG_HI_row, REC_INFO_PRE_ACT_row, REC_INFO_TRIGGERED_row, REC_CAPNUM_row, REC_INFO_POST_CLAMPED_row, REC_EVENTS_CLAMPED_row]; rfl))) ?_
    | with_reducible refine fsets_nil ?_
    | with_reducible refine fsets_cons ?_
    | with_reducible refine fset_within (by with_reducible with_unfolding_all exact hm.reach (.inl (by simp only [REC_TTRIG_LO_row, REC_TTRIG_HI_row, REC_INFO_PRE_ACT_row, REC_INFO_TRIGGERED_row, REC_CAPNUM_row, REC_INFO_POST_CLAMPED_row, REC_EVENTS_CLAMPED_row]; rfl))) ?_
    | with_reducible refine whenS_within (fun _ _ => ?_) ?_
    | with_reducible refine recStore_within (hm.up (by with_unfolding_all rfl)) ?_
    | with_reducible refine setRec_within (hm.up (by with_unfolding_all rfl)) ?_
    | with_reducible refine recEnter_within (hm.up (by with_unfolding_all rfl)) ?_
    | with_reducible refine recComplete_within (hm.up (by with_unfolding_all rfl)) ?_
    | split)

theorem recReject_within {m : Nat} {s0 s : State} {n : Nat} (hm : Sub 0x31001000000000000000000000000000000000000000000000000000000000000000000001000000 m)
    (h : Within m s0 s) : Within m s0 (recReject n s) := by
  unfold recReject
  repeat' (first
    | with_reducible assumption
    | (extract_lets +onlyGivenNames x; first | (refine Within.cut (m := m) (s := s0) x ?_ (fun h => ?_); subst x; rotate_left; clear_value x; rotate_right) | clear_value x | subst x)
    | with_reducible refine setRaw_within (by with_reducible with_unfolding_all exact hm.reach (.inl (by simp only [REC_REJ_row, REC_EVENTS_REJ_row, REC_REJT_LO_row, REC_REJT_HI_row]; rfl))) ?_
    | with_reducible refine setFlag_within (by with_reducible with_unfolding_all exact hm.reach (.inl (by simp only [REC_REJ_row, REC_EVENTS_REJ_row, REC_REJT_LO_row, REC_REJT_HI_row]; rfl))) ?_
    | with_reducible refine setPair_within (by with_reducible with_unfolding_all exact hm.reach (.inl (by simp only [REC_REJ_row, REC_EVENTS_REJ_row, REC_REJT_LO_row, REC_REJT_HI_row]; rfl))) (by with_reducible with_unfolding_all exact hm.reach (.inl (by simp only [REC_REJ_row, REC_EVENTS_REJ_row, REC_REJT_LO_row, REC_REJT_HI_row]; rfl))) ?_
    | with_reducible refine setRec_within (hm.up (by with_unfolding_all rfl)) ?_
    | split)

theorem recCountChange_within {m : Nat} {s0 s : State} (hm : Sub 0x800800000000000000000000000000000000000000000000000088000000000000000001001801 m)
    (h : Within m s0 s) : Within m s0 (recCountChange s) := by
  unfold recCountChange
  repeat' (first
    | with_reducible assumption
    | (extract_lets +onlyGivenNames x; first | (refine Within.cut (m := m) (s := s0) x ?_ (fun h => ?_); subst x; rotate_left; clear_value x; rotate_right) | clear_value x)
    | with_reducible refine setRaw_within (by with_reducible with_unfolding_all exact hm.reach (.inl (by simp only [REC_LOST_row]; rfl))) ?_
    | with_reducible refine setRec_within (hm.up (by with_unfolding_all rfl)) ?_
    | with_reducible refine recEndCount_within (hm.up (by with_unfolding_all rfl)) ?_
    | split)

theorem recSample_within {m : Nat} {s0 s : State} {new : BitVec 64} (hm : Sub 0x7fc01800000000000000000000000000000000000000000000000088000000000000000101001801 m)
    (h : Within m s0 s) : Within m s0 (recSample new s) := by
  unfold recSample
  repeat' (first
    | with_reducible assumption
    | (extract_lets +onlyGivenNames x; first | (refine Within.cut (m := m) (s := s0) x ?_ (fun h => ?_); subst x; rotate_left; clear_value x; rotate_right) | (refine Within.cut (m := m) (s := s0) x.1 ?_ (fun h => ?_); subst x; rotate_left; clear_value x; rotate_right) | clear_value x | subst x)
    | with_reducible refine recTrigger_within (hm.up (by with_unfolding_all rfl)) ?_
    | with_reducible refine recStorePre_within (hm.up (by with_unfolding_all rfl)) ?_
    | with_reducible refine setRec_within (hm.up (by with_unfolding_all rfl)) ?_
    | with_reducible refine recChange_within (hm.up (by with_unfolding_all rfl)) ?_
    | with_reducible refine recComplete_within (hm.up (by with_unfolding_all rfl)) ?_
    | with_reducible refine recReject_within (hm.up (by with_unfolding_all rfl)) ?_
    | with_reducible refine recCountChange_within (hm.up (by with_unfolding_all rfl)) ?_
    | split)

theorem recTick_within {m : Nat} {s0 s : State} (hm : Sub 0x7fc01800000000000000000000000000000000000000000000000088000000000000000101001801 m)
    (h : Within m s0 s) : Within m s0 (recTick s) := by
  unfold recTick
  repeat' (first
    | with_reducible assumption
    | with_reducible refine recSample_within (hm.up (by with_unfolding_all rfl)) ?_
    | split)

theorem execRecSignalChange_within {m : Nat} {s0 s : State} {smp : BitVec 64} (hm : Sub 0x7fc01800000000000000000000000000000000000000000000000088000000000000000101001801 m)
    (h : Within m s0 s) : WithinO m s0 (execRecSignalChange smp s) := by
  unfold execRecSignalChange
  repeat' (first
    | with_reducible assumption
    | (extract_lets +onlyGivenNames x; first | (refine Within.cut (m := m) (s := s0) x ?_ (fun h => ?_); subst x; rotate_left; clear_value x; rotate_right) | clear_value x | subst x)
    | with_reducible refine WithinO.next ?_
    | with_reducible refine recSample_within (hm.up (by with_unfolding_all rfl)) ?_
    | split)

theorem execRecMaskedTrigger_within {m : Nat} {s0 s : State} {smp : BitVec 64} (hm : Sub 0x7fc01800000000000000000000000000000000000000000000000088000000000000000101001801 m)
    (h : Within m s0 s) : WithinO m s0 (execRecMaskedTrigger smp s) := by
  unfold execRecMaskedTrigger
  repeat' (first
    | with_reducible assumption
    | (extract_lets +onlyGivenNames x; first | (refine Within.cut (m := m) (s := s0) x ?_ (fun h => ?_); subst x; rotate_left; clear_value x; rotate_right) | clear_value x | subst x)
    | with_reducible refine WithinO.next ?_
    | with_reducible refine recSample_within (hm.up (by with_unfolding_all rfl)) ?_
    | split)

theorem execRecArm_within {m : Nat} {s0 s : State} (hm : Sub 0x1800000000000000000000000000000000000000000000000088000000000000000001001801 m)
    (h : Within m s0 s) : WithinO m s0 (execRecArm s) := by
  unfold execRecArm
  repeat' (first
    | with_reducible assumption
    | (extract_lets +onlyGivenNames x; first | (refine Within.cut (m := m) (s := s0) x ?_ (fun h => ?_); subst x; rotate_left; clear_value x; rotate_right) | clear_value x | subst x)
    | with_reducible refine WithinO.next ?_
    | with_reducible refine setFlag_within (by with_reducible with_unfolding_all exact hm.reach (.inl (by simp only [REC_CMD_row, REC_EVENTS_CMD_REJ_row]; rfl))) ?_
    | with_reducible refine onWrite_within (hm.up (by with_unfolding_all rfl)) (fun _ _ => ?_) ?_
    | with_reducible refine recClear_within (hm.up (by with_unfolding_all rfl)) ?_
    | split)

theorem execRecDisarm_within {m : Nat} {s0 s : State} (hm : Sub 0x40001800000000000000000000000000000000000000000000000088000000000000000001001801 m)
    (h : Within m s0 s) : WithinO m s0 (execRecDisarm s) := by
  unfold execRecDisarm
  repeat' (first
    | with_reducible assumption
    | (extract_lets +onlyGivenNames x; first | clear_value x | subst x)
    | with_reducible refine WithinO.next ?_
    | with_reducible refine onWrite_within (hm.up (by with_unfolding_all rfl)) (fun _ _ => ?_) ?_
    | with_reducible refine setRec_within (hm.up (by with_unfolding_all rfl)) ?_
    | with_reducible refine recEnter_within (hm.up (by with_unfolding_all rfl)) ?_
    | with_reducible refine recComplete_within (hm.up (by with_unfolding_all rfl)) ?_
    | split)

theorem execRecHostTrig_within {m : Nat} {s0 s : State} (hm : Sub 0x1001001 m)
    (h : Within m s0 s) : WithinO m s0 (execRecHostTrig s) := by
  unfold execRecHostTrig
  repeat' (first
    | with_reducible assumption
    | (extract_lets +onlyGivenNames x; first | clear_value x | subst x)
    | with_reducible refine WithinO.next ?_
    | with_reducible refine onWrite_within (hm.up (by with_unfolding_all rfl)) (fun _ _ => ?_) ?_
    | with_reducible refine setRec_within (hm.up (by with_unfolding_all rfl)) ?_)

theorem execRecCopy_within {m : Nat} {s0 s : State} (hm : Sub 0x1800000000000000000000000000000000000000000000000000000000000000000000001001 m)
    (h : Within m s0 s) : WithinO m s0 (execRecCopy s) := by
  unfold execRecCopy
  repeat' (first
    | with_reducible assumption
    | (extract_lets +onlyGivenNames x; first | (refine Within.cut (m := m) (s := s0) x ?_ (fun h => ?_); subst x; rotate_left; clear_value x; rotate_right) | clear_value x | subst x)
    | with_reducible refine WithinO.next ?_
    | with_reducible refine setFlag_within (by with_reducible with_unfolding_all exact hm.reach (.inl (by simp only [REC_CMD_row, REC_EVENTS_CMD_REJ_row]; rfl))) ?_
    | with_reducible refine onWrite_within (hm.up (by with_unfolding_all rfl)) (fun _ _ => ?_) ?_
    | with_reducible refine recEnter_within (hm.up (by with_unfolding_all rfl)) ?_
    | split)

theorem execRecClearEnd_within {m : Nat} {s0 s : State} (hm : Sub 0x80c00800000000000000000000000000000000000000000000000000000000000000000001000000 m)
    (h : Within m s0 s) : WithinO m s0 (execRecClearEnd s) := by
  unfold execRecClearEnd
  repeat' (first
    | with_reducible assumption
    | (extract_lets +onlyGivenNames x; first | (refine Within.cut (m := m) (s := s0) x ?_ (fun h => ?_); subst x; rotate_left; clear_value x; rotate_right) | clear_value x | subst x)
    | with_reducible refine WithinO.next ?_
    | with_reducible refine setRaw_within (by with_reducible with_unfolding_all exact hm.reach (.inl (by simp only [REC_INFO_POST_CLAMPED_row, REC_INFO_TRIGGERED_row, REC_INFO_PRE_ACT_row, REC_LOST_LOST_row, REC_STATUS_PARTIAL_row, REC_DEAD_ARM_row]; rfl))) ?_
    | with_reducible refine fsets_nil ?_
    | with_reducible refine fsets_cons ?_
    | with_reducible refine fset_within (by with_reducible with_unfolding_all exact hm.reach (.inl (by simp only [REC_INFO_POST_CLAMPED_row, REC_INFO_TRIGGERED_row, REC_INFO_PRE_ACT_row, REC_LOST_LOST_row, REC_STATUS_PARTIAL_row, REC_DEAD_ARM_row]; rfl))) ?_
    | with_reducible refine setRec_within (hm.up (by with_unfolding_all rfl)) ?_
    | with_reducible refine recCount_within (hm.up (by with_unfolding_all rfl)) ?_
    | with_reducible refine recEnter_within (hm.up (by with_unfolding_all rfl)) ?_
    | split)

theorem execRecCopyDone_within {m : Nat} {s0 s : State} (hm : Sub 0x1800000000000000000000000000000000000000000000000088000000000000000001001821 m)
    (h : Within m s0 s) : WithinO m s0 (execRecCopyDone s) := by
  unfold execRecCopyDone
  repeat' (first
    | with_reducible assumption
    | (extract_lets +onlyGivenNames x; first | (refine Within.cut (m := m) (s := s0) x ?_ (fun h => ?_); subst x; rotate_left; clear_value x; rotate_right) | clear_value x | subst x)
    | with_reducible refine WithinO.next ?_
    | with_reducible refine setFlag_within (by with_reducible with_unfolding_all exact hm.reach (.inl (by simp only [REC_EVENTS_COPY_DONE_row, REC_CAPNUM_row, REC_CTL_AUTO_row]; rfl))) ?_
    | with_reducible refine whenS_within (fun _ _ => ?_) ?_
    | with_reducible refine memWrite_within (hm.up (by with_unfolding_all rfl)) ?_
    | with_reducible refine raise_within (hm.up (by with_unfolding_all rfl)) ?_
    | with_reducible refine setRec_within (hm.up (by with_unfolding_all rfl)) ?_
    | with_reducible refine recEnter_within (hm.up (by with_unfolding_all rfl)) ?_
    | with_reducible refine recClear_within (hm.up (by with_unfolding_all rfl)) ?_
    | split)

theorem execRecRd0Read_within {m : Nat} {s0 s : State} {ms : Master} (hm : Sub 0x1000000000000000000000000000000000000000000000000000000000000000000001001041 m)
    (h : Within m s0 s) : WithinO m s0 (execRecRd0Read ms s) := by
  unfold execRecRd0Read
  repeat' (first
    | with_reducible assumption
    | (extract_lets +onlyGivenNames x; first | (refine Within.cut (m := m) (s := s0) x ?_ (fun h => ?_); subst x; rotate_left; clear_value x; rotate_right) | clear_value x | subst x)
    | with_reducible refine WithinO.next ?_
    | with_reducible refine setFlag_within (by with_reducible with_unfolding_all exact hm.reach (.inl (by simp only [REC_RDIDX_IDX_row, REC_EVENTS_RD_REJ_row, REC_RD_row]; rfl))) ?_
    | with_reducible refine readEvent_within (hm.up (by with_unfolding_all rfl)) ?_
    | with_reducible refine setRec_within (hm.up (by with_unfolding_all rfl)) ?_
    | split
    | with_reducible refine Within.set_rdata (hm.bit (by with_unfolding_all rfl)) ?_)

theorem execRecRd3Read_within {m : Nat} {s0 s : State} {ms : Master} (hm : Sub 0x400001000000000000000000000000000000000000000000000000000000000000000000000001041 m)
    (h : Within m s0 s) : WithinO m s0 (execRecRd3Read ms s) := by
  unfold execRecRd3Read
  repeat' (first
    | with_reducible assumption
    | (extract_lets +onlyGivenNames x; first | (refine Within.cut (m := m) (s := s0) x ?_ (fun h => ?_); subst x; rotate_left; clear_value x; rotate_right) | clear_value x | subst x)
    | with_reducible refine WithinO.next ?_
    | with_reducible refine fset_within (by with_reducible with_unfolding_all exact hm.reach (.inl (by simp only [REC_RDIDX_IDX_row, REC_EVENTS_RD_REJ_row, REC_RD_row]; rfl))) ?_
    | with_reducible refine setFlag_within (by with_reducible with_unfolding_all exact hm.reach (.inl (by simp only [REC_RDIDX_IDX_row, REC_EVENTS_RD_REJ_row, REC_RD_row]; rfl))) ?_
    | with_reducible refine readEvent_within (hm.up (by with_unfolding_all rfl)) ?_
    | split
    | with_reducible refine Within.set_rdata (hm.bit (by with_unfolding_all rfl)) ?_)

theorem execRecRejRead_within {m : Nat} {s0 s : State} (hm : Sub 0x1000000000000000000000000000000000000000000000000000000000000000000000000001041 m)
    (h : Within m s0 s) : WithinO m s0 (execRecRejRead s) := by
  unfold execRecRejRead
  repeat' (first
    | with_reducible assumption
    | (extract_lets +onlyGivenNames x; first | (refine Within.cut (m := m) (s := s0) x ?_ (fun h => ?_); subst x; rotate_left; clear_value x; rotate_right) | clear_value x | subst x)
    | with_reducible refine WithinO.next ?_
    | with_reducible refine rcRead_within (hm.up (by with_unfolding_all rfl)) (by with_reducible with_unfolding_all exact hm.reach (.inl (by simp only [REC_REJ_row]; rfl))) ?_)

theorem recStart_within {m : Nat} {s0 s : State} {warm : Bool} (hm : Sub 0x400800000000000000000000000000000000000000000000000000000000000000000001000001 m)
    (h : Within m s0 s) : Within m s0 (recStart warm s) := by
  unfold recStart
  repeat' (first
    | with_reducible assumption
    | (extract_lets +onlyGivenNames x; first | (refine Within.cut (m := m) (s := s0) x ?_ (fun h => ?_); subst x; rotate_left; clear_value x; rotate_right) | clear_value x | subst x)
    | with_reducible refine setFlag_within (by with_reducible with_unfolding_all exact hm.reach (.inl (by simp only [REC_STATUS_COUNTING_row, REC_STATUS_PARTIAL_row]; rfl))) ?_
    | with_reducible refine whenS_within (fun _ _ => ?_) ?_
    | with_reducible refine cancel_within (hm.up (by with_unfolding_all rfl)) ?_
    | with_reducible refine recEnter_within (hm.up (by with_unfolding_all rfl)) ?_
    | with_reducible refine setRec_within (hm.up (by with_unfolding_all rfl)) ?_
    | with_reducible refine recCount_within (hm.up (by with_unfolding_all rfl)) ?_
    | split)

end Sys2Proof.Machine
end

