-- ==== Sys2Proof/Laws/Starts.lean ====
section
/-! SUPPORT. What each definition of Machine/Starts.lean can change, said once: the set of parts after Sub (Laws/Within.lean gives
the bits), the queue never, and the invariants kept. -/

set_option linter.unusedSimpArgs false

namespace Sys2Proof.Machine

theorem wf_fold {α β : Type} [DecidableEq α] {d : Nat → α} {f : Tbl α → β → Tbl α} {l : List β}
    (k : ∀ t b, tblWf d t = true → tblWf d (f t b) = true) {t : Tbl α} (h : tblWf d t = true) :
    tblWf d (l.foldl f t) = true := by
  induction l generalizing t with
  | nil => exact h
  | cons b r ih => exact ih (k _ _ h)

theorem startTable_wf {w : Bool} {t : Tbl Word} : tblWf regReset (startTable w t) = true :=
  wf_fold (fun _ _ => tset_wf) rfl

theorem startActive_wf {w : Bool} {t : Tbl Word} : tblWf regReset (startActive w t) = true := by
  unfold startActive
  split
  · exact wf_fold (fun _ _ => tset_wf) rfl
  · rfl

theorem startPipe_wf {w : Bool} {p : PipeSt} (h : pipeWf p = true) : pipeWf (startPipe w p) = true := by
  unfold startPipe
  split
  · exact h
  · decide

theorem startGroups_wf {w : Bool} {t : Tbl GroupSt} : tblWf (fun _ => ({} : GroupSt))
    (if w = true then t.foldl (fun t p => tset (fun _ => {}) t p.1 (startGroup p.2)) [] else []) = true := by
  split
  · exact wf_fold (fun _ _ => tset_wf) rfl
  · rfl

theorem startReset_within {m : Nat} {s0 s : State} {warm : Bool} (hm : Sub 0x400904418400000000000000000000000000000000000000000000000000000000000087fffc89 m)
    (h : Within m s0 s) : Within m s0 (startReset warm s) := by
  unfold startReset
  extract_lets +onlyGivenNames x
  have k : Within m s0 x := recStart_within (hm.up rfl) (auxStart_within (hm.up rfl) h)
  clear_value x
  refine ⟨k.pending, k.emits, k.fresh, fun j => ?_, fun p q => ?_⟩
  · have i := k.inv j
    refine ⟨?_, i.counters.1, Nat.two_pow_pos _, fun _ e => absurd e List.not_mem_nil, fun _ e => absurd e List.not_mem_nil⟩
    have w := i.tables
    have pw : pipeWf (startPipe warm x.pipe) = true := startPipe_wf (by
      simp only [tablesWf, pipeWf, Bool.and_eq_true] at w ⊢
      simp only [w, and_self])
    simp only [pipeWf, Bool.and_eq_true] at pw
    simp only [tablesWf, Bool.and_eq_true]
    exact ⟨⟨⟨⟨⟨⟨⟨⟨⟨startTable_wf, startActive_wf⟩, pw.1.1.1.1⟩, pw.1.1.1.2⟩, pw.1.1.2⟩, pw.1.2⟩, pw.2⟩, rfl⟩, rfl⟩, startGroups_wf⟩
  · have a := k.parts p q
    cases p with
    | reg n =>
      have w := hm.bit (k := 31) rfl
      simp [Part.outside, w] at q
    | _ => first | exact a | exact absurd q (Part.not_outside (hm.bit rfl))

theorem markDone_within {m : Nat} {s0 s : State} {n : Nat} (hm : Sub 0x200 m)
    (h : Within m s0 s) : Within m s0 (markDone n s) := by
  unfold markDone
  repeat' (first
    | with_reducible assumption
    | (extract_lets +onlyGivenNames x; clear_value x)
    | split
    | with_reducible refine Within.set_start (hm.bit (by with_unfolding_all rfl)) ?_)

theorem stepBegin_within {m : Nat} {s0 s : State} {n : Nat} (hm : Sub 0x40000000000000000000000000000000000000000000000000008000006000220 m)
    (h : Within m s0 s) : Within m s0 (stepBegin n s) := by
  unfold stepBegin
  repeat' (first
    | with_reducible assumption
    | (extract_lets +onlyGivenNames x; first | (refine Within.cut (m := m) (s := s0) x ?_ (fun h => ?_); subst x; rotate_left; clear_value x; rotate_right) | clear_value x | subst x)
    | with_reducible refine fsets_nil ?_
    | with_reducible refine fsets_cons ?_
    | with_reducible refine fset_within (by with_reducible with_unfolding_all exact hm.reach (.inl (by simp only [CLK_STATUS_ROOT_LOCK_row, CLK_STATUS_CEL_LOCK_row, CLK_STATUS_TIME_ALIGNED_row]; rfl))) ?_
    | with_reducible refine enumSend_within (hm.up (by with_unfolding_all rfl)) ?_
    | with_reducible refine verifyChain_within (hm.up (by with_unfolding_all rfl)) ?_
    | with_reducible refine sizeBegin_within (hm.up (by with_unfolding_all rfl)) ?_
    | split
    | with_reducible refine Within.set_start (hm.bit (by with_unfolding_all rfl)) ?_
    | with_reducible refine Within.set_hwy (hm.bit (by with_unfolding_all rfl)) ?_)

theorem stepsFollow_within {m : Nat} {s0 s : State} (hm : Sub 0x40000000000000000000000000000000000000000000000000008008006000220 m)
    (h : Within m s0 s) : Within m s0 (stepsFollow s) := by
  unfold stepsFollow
  repeat' (first
    | with_reducible assumption
    | (extract_lets +onlyGivenNames x; first | (refine Within.cut (m := m) (s := s0) x ?_ (fun h => ?_); subst x; rotate_left; clear_value x; rotate_right) | clear_value x | subst x)
    | with_reducible refine fset_within (by with_reducible with_unfolding_all exact hm.reach (.inl (by simp only [SYS_STARTSTAT_STEP_row]; rfl))) ?_
    | with_reducible refine foldl_within (fun _ _ _ => ?_) ?_
    | with_reducible refine markDone_within (hm.up (by with_unfolding_all rfl)) ?_
    | with_reducible refine stepBegin_within (hm.up (by with_unfolding_all rfl)) ?_
    | split)

theorem countRetired_within {m : Nat} {s0 s : State} (hm : Sub 0x410000000000000000000000000000000000000 m)
    (h : Within m s0 s) : Within m s0 (countRetired s) := by
  unfold countRetired
  repeat' (first
    | with_reducible assumption
    | (extract_lets +onlyGivenNames x; first | clear_value x | subst x)
    | with_reducible refine fsets_nil ?_
    | with_reducible refine fsets_cons ?_
    | with_reducible refine fset_within (by with_reducible with_unfolding_all exact hm.reach (.inl (by simp only [SLC_STATUS_RETIRED_row, SLC_STATUS_FACTORY_row, SLC_GRETIRE_FACTORY_row]; rfl))) ?_)

theorem laneAgain_within {m : Nat} {s0 s : State} (hm : Sub 0x21000000000 m)
    (h : Within m s0 s) : Within m s0 (laneAgain s) := by
  unfold laneAgain
  repeat' (first
    | with_reducible assumption
    | (extract_lets +onlyGivenNames x; first | (refine Within.cut (m := m) (s := s0) x ?_ (fun h => ?_); subst x; rotate_left; clear_value x; rotate_right) | clear_value x | subst x)
    | with_reducible refine setFlag_within (by with_reducible with_unfolding_all exact hm.reach (.inl (by simp only [SYS_LIMP_LANE_row, SYS_EVENTS_LIMP_row]; rfl))) ?_
    | split)

theorem beginStart_within {m : Nat} {s0 s : State} {warm : Bool} {cause : Nat} (hm : Sub 0x4009044184010400811000002000000000000084100000000000880000000000080ad087ffffa9 m)
    (h : Within m s0 s) : Within m s0 (beginStart warm cause s) := by
  unfold beginStart
  repeat' (first
    | with_reducible assumption
    | (extract_lets +onlyGivenNames x; first | (refine Within.cut (m := m) (s := s0) x ?_ (fun h => ?_); subst x; rotate_left; clear_value x; rotate_right) | clear_value x | subst x)
    | with_reducible refine fset_within (by with_reducible with_unfolding_all exact hm.reach (.inl (by simp only [PIPE_STATUS_SPARES_row, LMP_STATUS_TABLE_row, HWY_STATUS_MASTER_row, SYS_STRAP_HWY_MASTER_N_row, SYS_STARTSTAT_KIND_row, SYS_STARTSTAT_STEP_row, SYS_STARTS_WARM_row, SYS_STARTS_COLD_row, HWY_CTL_row, LNK_CTL_row, CLK_CTL_row]; rfl))) ?_
    | with_reducible refine fsets_nil ?_
    | with_reducible refine fsets_cons ?_
    | with_reducible refine countRetired_within (hm.up (by with_unfolding_all rfl)) ?_
    | with_reducible refine startReset_within (hm.up (by with_unfolding_all rfl)) ?_
    | with_reducible refine laneAgain_within (hm.up (by with_unfolding_all rfl)) ?_
    | with_reducible refine stepsFollow_within (hm.up (by with_unfolding_all rfl)) ?_
    | with_reducible refine enterMode_within (hm.up (by with_unfolding_all rfl)) ?_
    | split
    | with_reducible refine Within.set_mode (hm.bit (by with_unfolding_all rfl)) ?_
    | with_reducible refine Within.set_start (hm.bit (by with_unfolding_all rfl)) ?_)

theorem startFailed_within {m : Nat} {s0 s : State} {n : Nat} {code : Nat} (hm : Sub 0x4009044184010400811000023800046400000087108000180000880000000000080bd087ffffa9 m)
    (h : Within m s0 s) : Within m s0 (startFailed n code s) := by
  unfold startFailed
  repeat' (first
    | with_reducible assumption
    | (extract_lets +onlyGivenNames x; first | (refine Within.cut (m := m) (s := s0) x ?_ (fun h => ?_); subst x; rotate_left; clear_value x; rotate_right) | clear_value x | subst x)
    | with_reducible refine fsets_nil ?_
    | with_reducible refine fsets_cons ?_
    | with_reducible refine fset_within (by with_reducible with_unfolding_all exact hm.reach (.inl (by simp only [SYS_STARTS_FAILS_row, SYS_STARTSTAT_VALID_row, SYS_STARTSTAT_FKIND_row, SYS_STARTSTAT_FSTEP_row, SYS_STARTSTAT_CODE_row, SYS_EVENTS_START_FAIL_row]; rfl))) ?_
    | with_reducible refine report_within (hm.up (by with_unfolding_all rfl)) (by with_reducible with_unfolding_all exact hm.reach (.inl (by simp only [SYS_STARTS_FAILS_row, SYS_STARTSTAT_VALID_row, SYS_STARTSTAT_FKIND_row, SYS_STARTSTAT_FSTEP_row, SYS_STARTSTAT_CODE_row, SYS_EVENTS_START_FAIL_row]; rfl))) ?_
    | with_reducible refine haltCause_within (hm.up (by with_unfolding_all rfl)) ?_
    | with_reducible refine beginStart_within (hm.up (by with_unfolding_all rfl)) ?_
    | split)

theorem stepTimes_within {m : Nat} {s0 s : State} (hm : Sub 0x4009044184010400811000023800046400000087108000180000880000000000080bd087ffffa9 m)
    (h : Within m s0 s) : Within m s0 (stepTimes s) := by
  unfold stepTimes
  repeat' (first
    | with_reducible assumption
    | with_reducible refine startFailed_within (hm.up (by with_unfolding_all rfl)) ?_
    | split)

theorem firmwareStep_within {m : Nat} {s0 s : State} {nums : List Nat} (hm : Sub 0x800000000000000000000000000000000003000000000400 m)
    (h : Within m s0 s) : Within m s0 (firmwareStep nums s) := by
  unfold firmwareStep
  repeat' (first
    | with_reducible assumption
    | (extract_lets +onlyGivenNames x; first | (refine Within.cut (m := m) (s := s0) x ?_ (fun h => ?_); subst x; rotate_left; clear_value x; rotate_right) | clear_value x | subst x)
    | with_reducible refine fsets_nil ?_
    | with_reducible refine fsets_cons ?_
    | with_reducible refine fset_within (by with_reducible with_unfolding_all exact hm.reach (.inl (by simp only [ATT_FLASH_VALID_row, ATT_FLASH_MODE_row, ATT_FLASH_MBIT_row, SYS_FWSTAT_ACTIVE_row, SYS_FWVER_VERSION_row]; rfl))) ?_
    | split
    | with_reducible refine Within.set_fw (hm.bit (by with_unfolding_all rfl)) ?_)

theorem bistRow_within {m : Nat} {s0 s : State} {bank : Nat} (hm : Sub 0x810000000000000088000000000000000001001801 m)
    (h : Within m s0 s) : Within m s0 (bistRow bank s) := by
  unfold bistRow
  repeat' (first
    | with_reducible assumption
    | (extract_lets +onlyGivenNames x; first | (refine Within.cut (m := m) (s := s0) x ?_ (fun h => ?_); subst x; rotate_left; clear_value x; rotate_right) | clear_value x | subst x)
    | with_reducible refine fsets_nil ?_
    | with_reducible refine fsets_cons ?_
    | with_reducible refine fset_within (by with_reducible with_unfolding_all exact hm.reach (.inl (by simp only [PIPE_EVENTS_ROW_REMAP_row, PIPE_EVENTS_SPARES_OUT_row, PIPE_SPROW_USED_row]; rfl))) ?_
    | with_reducible refine whenS_within (fun _ _ => ?_) ?_
    | with_reducible refine report_within (hm.up (by with_unfolding_all rfl)) (by with_reducible with_unfolding_all exact hm.reach (.inl (by simp only [PIPE_EVENTS_ROW_REMAP_row, PIPE_EVENTS_SPARES_OUT_row, PIPE_SPROW_USED_row]; rfl))) ?_)

theorem laneTest_within {m : Nat} {s0 s : State} {l : List Nat} (hm : Sub 0x811000002000000000000780000000000000880000000000000210013a5901 m)
    (h : Within m s0 s) : Within m s0 (laneTest l s) := by
  unfold laneTest
  repeat' (first
    | with_reducible assumption
    | (extract_lets +onlyGivenNames x; first | (refine Within.cut (m := m) (s := s0) x ?_ (fun h => ?_); subst x; rotate_left; clear_value x; rotate_right) | clear_value x | subst x)
    | with_reducible refine fset_within (by with_reducible with_unfolding_all exact hm.reach (.inl (by simp only [PIPE_LANEMAP_SP_FAIL_row, PIPE_LANEFAIL_FAIL_row, SYS_LIMP_LANE_row, PIPE_EVENTS_LANE_UNCOVERED_row, PIPE_STATUS_SPARES_row]; rfl))) ?_
    | with_reducible refine foldl_within (fun _ _ _ => ?_) ?_
    | with_reducible refine setSpare_within (hm.up (by with_unfolding_all rfl)) ?_
    | with_reducible refine limpCause_within (hm.up (by with_unfolding_all rfl)) (by with_reducible with_unfolding_all exact hm.reach (.inl (by simp only [PIPE_LANEMAP_SP_FAIL_row, PIPE_LANEFAIL_FAIL_row, SYS_LIMP_LANE_row, PIPE_EVENTS_LANE_UNCOVERED_row, PIPE_STATUS_SPARES_row]; rfl))) ?_
    | with_reducible refine report_within (hm.up (by with_unfolding_all rfl)) (by with_reducible with_unfolding_all exact hm.reach (.inl (by simp only [PIPE_LANEMAP_SP_FAIL_row, PIPE_LANEFAIL_FAIL_row, SYS_LIMP_LANE_row, PIPE_EVENTS_LANE_UNCOVERED_row, PIPE_STATUS_SPARES_row]; rfl))) ?_
    | with_reducible refine laneDies_within (hm.up (by with_unfolding_all rfl)) ?_
    | split)

theorem fuseStep_within {m : Nat} {s0 s : State} {f : FuseBlock} (hm : Sub 0x500000000410000000000000000000000000000000400000 m)
    (h : Within m s0 s) : Within m s0 (fuseStep f s) := by
  unfold fuseStep
  repeat' (first
    | with_reducible assumption
    | (extract_lets +onlyGivenNames x; first | (refine Within.cut (m := m) (s := s0) x ?_ (fun h => ?_); subst x; rotate_left; clear_value x; rotate_right) | clear_value x | subst x)
    | with_reducible refine setFlag_within (by with_reducible with_unfolding_all exact hm.reach (.inl (by simp only [ATT_EVENTS_FUSE_BAD_row, ATT_CTL_FUSE_COMPAT_row, SLC_GRETIRE_VALID_row, SLC_GRETIRE_FACTORY_row, SLC_GRETIRE_SLICE_row]; rfl))) ?_
    | with_reducible refine fsets_nil ?_
    | with_reducible refine fsets_cons ?_
    | with_reducible refine fset_within (by with_reducible with_unfolding_all exact hm.reach (.inl (by simp only [ATT_EVENTS_FUSE_BAD_row, ATT_CTL_FUSE_COMPAT_row, SLC_GRETIRE_VALID_row, SLC_GRETIRE_FACTORY_row, SLC_GRETIRE_SLICE_row]; rfl))) ?_
    | with_reducible refine forN_within (fun _ _ _ => ?_) ?_
    | with_reducible refine countRetired_within (hm.up (by with_unfolding_all rfl)) ?_
    | split
    | with_reducible refine Within.set_att (hm.bit (by with_unfolding_all rfl)) ?_)

theorem cellarStep_within {m : Nat} {s0 s : State} {nums : List Nat} (hm : Sub 0x3000000000000000000000000000000000000000000000000000000000000000000000000000000000 m)
    (h : Within m s0 s) : Within m s0 (cellarStep nums s) := by
  unfold cellarStep
  repeat' (first
    | with_reducible assumption
    | (extract_lets +onlyGivenNames x; first | (refine Within.cut (m := m) (s := s0) x ?_ (fun h => ?_); subst x; rotate_left; clear_value x; rotate_right) | clear_value x | subst x)
    | with_reducible refine setFlag_within (by with_reducible with_unfolding_all exact hm.reach (.inl (by simp only [CEL_STATUS_SREF_row, CEL_STATUS_TRAINED_row, CEL_STATUS_RATE_row, CEL_STATUS_DENS_row, CEL_STATUS_CH_FAIL_row, CEL_EVENTS_RATE_LOW_row]; rfl))) ?_
    | with_reducible refine fsets_nil ?_
    | with_reducible refine fsets_cons ?_
    | with_reducible refine fset_within (by with_reducible with_unfolding_all exact hm.reach (.inl (by simp only [CEL_STATUS_SREF_row, CEL_STATUS_TRAINED_row, CEL_STATUS_RATE_row, CEL_STATUS_DENS_row, CEL_STATUS_CH_FAIL_row, CEL_EVENTS_RATE_LOW_row]; rfl))) ?_
    | with_reducible refine whenS_within (fun _ _ => ?_) ?_
    | split)

theorem passStep_within {m : Nat} {s0 s : State} {runs : List (Nat × Nat × List SliceMeas)} (hm : Sub 0x81100000200004600000001670800000000088000000000000021001791b01 m)
    (h : Within m s0 s) : Within m s0 (passStep runs s) := by
  unfold passStep
  repeat' (first
    | with_reducible assumption
    | (extract_lets +onlyGivenNames x; first | (refine Within.cut (m := m) (s := s0) x ?_ (fun h => ?_); subst x; rotate_left; clear_value x; rotate_right) | clear_value x)
    | with_reducible refine slcStartPass_within (hm.up (by with_unfolding_all rfl)) ?_
    | split
    | with_reducible refine Within.set_start (hm.bit (by with_unfolding_all rfl)) ?_)

theorem earlyStep_within {m : Nat} {s0 s : State} (hm : Sub 0x80000200 m)
    (h : Within m s0 s) : Within m s0 (earlyStep s) := by
  unfold earlyStep
  repeat' (first
    | with_reducible assumption
    | (extract_lets +onlyGivenNames x; first | (refine Within.cut (m := m) (s := s0) x ?_ (fun h => ?_); subst x; rotate_left; clear_value x; rotate_right) | clear_value x | subst x)
    | with_reducible refine forN_within (fun _ _ _ => ?_) ?_
    | with_reducible refine foldl_within (fun _ _ _ => ?_) ?_
    | with_reducible refine writeRw_within (by with_reducible first | with_unfolding_all exact hm.reach (.inl (by simp only [HWY_CTL_row, LNK_CTL_row, CLK_CTL_row]; rfl)) | exact hm.reach (.all (by with_unfolding_all rfl))) ?_
    | split
    | with_reducible refine Within.set_start (hm.bit (by with_unfolding_all rfl)) ?_)

theorem fusePath_within {m : Nat} {s0 s : State} (hm : Sub 0x600000000000780000000000000000000000000000000008 m)
    (h : Within m s0 s) : Within m s0 (fusePath s) := by
  unfold fusePath
  repeat' (first
    | with_reducible assumption
    | (extract_lets +onlyGivenNames x; first | (refine Within.cut (m := m) (s := s0) x ?_ (fun h => ?_); subst x; rotate_left; clear_value x; rotate_right) | clear_value x | subst x)
    | with_reducible refine setRaw_within (by with_reducible with_unfolding_all exact hm.reach (.inl (by simp only [ATT_EVENTS_FUSE_USED_row, ATT_STATUS_SOURCE_row, TAP_PHASE_BASE_row, TAP_PHASE_COARSE_row, TAP_PHASE_FINE_row, TAP_CLAMP_CLAMP_row, TAP_CTL_REV_row, TAP_CTL_INV_row, TAP_CTL_MODE_row, TAP_PGA_row, TAP_PHASE_row]; rfl))) ?_
    | with_reducible refine fset_within (by with_reducible with_unfolding_all exact hm.reach (.inl (by simp only [ATT_EVENTS_FUSE_USED_row, ATT_STATUS_SOURCE_row, TAP_PHASE_BASE_row, TAP_PHASE_COARSE_row, TAP_PHASE_FINE_row, TAP_CLAMP_CLAMP_row, TAP_CTL_REV_row, TAP_CTL_INV_row, TAP_CTL_MODE_row, TAP_PGA_row, TAP_PHASE_row]; rfl))) ?_
    | with_reducible refine setFlag_within (by with_reducible with_unfolding_all exact hm.reach (.inl (by simp only [ATT_EVENTS_FUSE_USED_row, ATT_STATUS_SOURCE_row, TAP_PHASE_BASE_row, TAP_PHASE_COARSE_row, TAP_PHASE_FINE_row, TAP_CLAMP_CLAMP_row, TAP_CTL_REV_row, TAP_CTL_INV_row, TAP_CTL_MODE_row, TAP_PGA_row, TAP_PHASE_row]; rfl))) ?_
    | with_reducible refine fsets_nil ?_
    | with_reducible refine fsets_cons ?_
    | with_reducible refine forN_within (fun _ _ _ => ?_) ?_
    | with_reducible refine foldl_within (fun _ _ _ => ?_) ?_
    | with_reducible refine activateAll_within (hm.up (by with_unfolding_all rfl)) ?_)

theorem restoreStep_within {m : Nat} {s0 s : State} {bad : List Nat} (hm : Sub 0xb6400040004007800080000000000000000000000806a0209 m)
    (h : Within m s0 s) : Within m s0 (restoreStep bad s) := by
  unfold restoreStep
  repeat' (first
    | with_reducible assumption
    | (extract_lets +onlyGivenNames x; first | (refine Within.cut (m := m) (s := s0) x ?_ (fun h => ?_); subst x; rotate_left; clear_value x; rotate_right) | clear_value x | subst x)
    | with_reducible refine foldl_within (fun _ _ _ => ?_) ?_
    | with_reducible refine setBank_within (hm.up (by with_unfolding_all rfl)) ?_
    | with_reducible refine restoreBank_within (hm.up (by with_unfolding_all rfl)) ?_
    | with_reducible refine fusePath_within (hm.up (by with_unfolding_all rfl)) ?_
    | split
    | with_reducible refine Within.set_att (hm.bit (by with_unfolding_all rfl)) ?_
    | with_reducible refine Within.set_start (hm.bit (by with_unfolding_all rfl)) ?_)

theorem warmStep_within {m : Nat} {s0 s : State} {k : Nat} (hm : Sub 0xb2400040004000000080000000000000000000000802a0209 m)
    (h : Within m s0 s) : Within m s0 (warmStep k s) := by
  unfold warmStep
  repeat' (first
    | with_reducible assumption
    | (extract_lets +onlyGivenNames x; first | clear_value x | subst x)
    | with_reducible refine restoreBank_within (hm.up (by with_unfolding_all rfl)) ?_
    | split
    | with_reducible refine Within.set_start (hm.bit (by with_unfolding_all rfl)) ?_)

theorem runAgain_within {m : Nat} {s0 s : State} (hm : Sub 0x41040000000000000000000000000000000000000000000000000008000002000200 m)
    (h : Within m s0 s) : Within m s0 (runAgain s) := by
  unfold runAgain
  repeat' (first
    | with_reducible assumption
    | (extract_lets +onlyGivenNames x; first | (refine Within.cut (m := m) (s := s0) x ?_ (fun h => ?_); subst x; rotate_left; clear_value x; rotate_right) | clear_value x | subst x)
    | with_reducible refine fset_within (by with_reducible with_unfolding_all exact hm.reach (.inl (by simp only [HWY_CTL_EN_row, LNK_CTL_EN_row, LNK_STATUS_STATE_row]; rfl))) ?_
    | with_reducible refine whenS_within (fun _ _ => ?_) ?_
    | with_reducible refine foldl_within (fun _ _ _ => ?_) ?_
    | with_reducible refine ringLeave_within (hm.up (by with_unfolding_all rfl)) ?_
    | split
    | with_reducible refine Within.set_start (hm.bit (by with_unfolding_all rfl)) ?_)

theorem journalStep_within {m : Nat} {s0 s : State} (hm : Sub 0x81100000200004600000000670800000000088000000000000021001791b01 m)
    (h : Within m s0 s) : Within m s0 (journalStep s) := by
  unfold journalStep
  repeat' (first
    | with_reducible assumption
    | (extract_lets +onlyGivenNames x; first | (refine Within.cut (m := m) (s := s0) x ?_ (fun h => ?_); subst x; rotate_left; clear_value x; rotate_right) | clear_value x | subst x)
    | with_reducible refine fset_within (by with_reducible with_unfolding_all exact hm.reach (.inl (by simp only [ATT_JRNL_ENTRIES_row, SLC_SUSP_SUSP_row, SLC_GRETIRE_VALID_row, SLC_GRETIRE_FACTORY_row, SLC_GRETIRE_SLICE_row, SLC_GSTATE_PHASE_row]; rfl))) ?_
    | with_reducible refine fsets_nil ?_
    | with_reducible refine fsets_cons ?_
    | with_reducible refine forN_within (fun _ _ _ => ?_) ?_
    | with_reducible refine foldl_within (fun _ _ _ => ?_) ?_
    | with_reducible refine restoreJournal_within (hm.up (by with_unfolding_all rfl)) ?_
    | with_reducible refine uncover_within (hm.up (by with_unfolding_all rfl)) ?_
    | with_reducible refine setGroup_within (hm.up (by with_unfolding_all rfl)) ?_
    | with_reducible refine suspend_within (hm.up (by with_unfolding_all rfl)) ?_
    | with_reducible refine commitGuest_within (hm.up (by with_unfolding_all rfl)) ?_
    | with_reducible refine releaseGuest_within (hm.up (by with_unfolding_all rfl)) ?_
    | with_reducible refine countRetired_within (hm.up (by with_unfolding_all rfl)) ?_
    | with_reducible refine jrnlAppend_within (hm.up (by with_unfolding_all rfl)) ?_
    | split
    | with_reducible refine Within.set_att (hm.bit (by with_unfolding_all rfl)) ?_
    | with_reducible refine Within.set_start (hm.bit (by with_unfolding_all rfl)) ?_)

theorem stepEnds_within {m : Nat} {s0 s : State} {n : Nat} {rep : StepReport} (hm : Sub 0x300000000000004104008110000020000ff40004879670f8000800008800000000000b0210837b5f09 m)
    (h : Within m s0 s) : Within m s0 (stepEnds n rep s) := by
  unfold stepEnds
  repeat' (first
    | with_reducible assumption
    | (extract_lets +onlyGivenNames x; first | clear_value x | subst x)
    | with_reducible refine setFlag_within (by with_reducible with_unfolding_all exact hm.reach (.inl (by simp only [CLK_STATUS_CEL_LOCK_row]; rfl))) ?_
    | with_reducible refine foldl_within (fun _ _ _ => ?_) ?_
    | with_reducible refine fuseStep_within (hm.up (by with_unfolding_all rfl)) ?_
    | with_reducible refine firmwareStep_within (hm.up (by with_unfolding_all rfl)) ?_
    | with_reducible refine bistRow_within (hm.up (by with_unfolding_all rfl)) ?_
    | with_reducible refine cellarStep_within (hm.up (by with_unfolding_all rfl)) ?_
    | with_reducible refine laneTest_within (hm.up (by with_unfolding_all rfl)) ?_
    | with_reducible refine passStep_within (hm.up (by with_unfolding_all rfl)) ?_
    | with_reducible refine earlyStep_within (hm.up (by with_unfolding_all rfl)) ?_
    | with_reducible refine runAgain_within (hm.up (by with_unfolding_all rfl)) ?_
    | with_reducible refine warmStep_within (hm.up (by with_unfolding_all rfl)) ?_
    | with_reducible refine restoreStep_within (hm.up (by with_unfolding_all rfl)) ?_
    | with_reducible refine journalStep_within (hm.up (by with_unfolding_all rfl)) ?_
    | split)

theorem execStartStepDone_within {m : Nat} {s0 s : State} {step : Fin 17} {rep : StepReport} (hm : Sub 0x300040090441844104008110000238000ff40004879770f8001800008800000000000b0bd087ffffa9 m)
    (h : Within m s0 s) : WithinO m s0 (execStartStepDone step rep s) := by
  unfold execStartStepDone
  repeat' (first
    | with_reducible assumption
    | (extract_lets +onlyGivenNames x; first | (refine Within.cut (m := m) (s := s0) x ?_ (fun h => ?_); subst x; rotate_left; clear_value x; rotate_right) | clear_value x | subst x)
    | with_reducible refine WithinO.next ?_
    | with_reducible refine startFailed_within (hm.up (by with_unfolding_all rfl)) ?_
    | with_reducible refine haltCause_within (hm.up (by with_unfolding_all rfl)) ?_
    | with_reducible refine stepsFollow_within (hm.up (by with_unfolding_all rfl)) ?_
    | with_reducible refine markDone_within (hm.up (by with_unfolding_all rfl)) ?_
    | with_reducible refine stepEnds_within (hm.up (by with_unfolding_all rfl)) ?_
    | with_reducible refine reachReady_within (hm.up (by with_unfolding_all rfl)) ?_
    | split
    | with_reducible refine Within.set_start (hm.bit (by with_unfolding_all rfl)) ?_)

theorem ringFollow_within {m : Nat} {s0 s : State} (hm : Sub 0x40000000000000000000000000000000000000000000000000008008006000220 m)
    (h : Within m s0 s) : Within m s0 (ringFollow s) := by
  unfold ringFollow
  repeat' (first
    | with_reducible assumption
    | (extract_lets +onlyGivenNames x; first | clear_value x | subst x)
    | with_reducible refine stepsFollow_within (hm.up (by with_unfolding_all rfl)) ?_
    | with_reducible refine markDone_within (hm.up (by with_unfolding_all rfl)) ?_
    | split
    | with_reducible refine Within.set_hwy (hm.bit (by with_unfolding_all rfl)) ?_)

theorem execRootLock_within {m : Nat} {s0 s : State} (hm : Sub 0x8000000000002 m)
    (h : Within m s0 s) : WithinO m s0 (execRootLock s) := by
  unfold execRootLock
  repeat' (first
    | with_reducible assumption
    | (extract_lets +onlyGivenNames x; first | (refine Within.cut (m := m) (s := s0) x ?_ (fun h => ?_); subst x; rotate_left; clear_value x; rotate_right) | clear_value x | subst x)
    | with_reducible refine WithinO.next ?_
    | with_reducible refine fsets_nil ?_
    | with_reducible refine fsets_cons ?_
    | with_reducible refine fset_within (by with_reducible with_unfolding_all exact hm.reach (.inl (by simp only [HWY_CTL_EN_row, HWY_STATUS_MASTER_row, CLK_STATUS_REF_OK_row, CLK_STATUS_ROOT_LOCK_row, CLK_STATUS_TIME_ALIGNED_row]; rfl))) ?_
    | split
    | with_reducible refine Within.set_time (Nat.two_pow_pos _) (hm.bit (by with_unfolding_all rfl)) ?_)

end Sys2Proof.Machine
end

