-- ==== Sys2Proof/Laws/Modes.lean ====
section
/-! SUPPORT. What each definition of Machine/Modes.lean can change, said once: the set of parts after Sub (Laws/Within.lean gives
the bits), the queue never, and the invariants kept. -/

set_option linter.unusedSimpArgs false

namespace Sys2Proof.Machine

theorem clockEvent_row {c : ClockFault} : rowIdx (clockEvent c).off = 20 := by cases c <;> exact CLK_EVENTS_row

theorem clockPresent_row {c : ClockFault} : rowIdx (clockPresent c).off = 19 := by cases c <;> exact CLK_STATUS_row

theorem reqReject_within {m : Nat} {s0 s : State} (hm : Sub 0x1000000000 m)
    (h : Within m s0 s) : Within m s0 (reqReject s) := by
  unfold reqReject
  repeat' (first
    | with_reducible assumption
    | with_reducible refine setFlag_within (by with_reducible with_unfolding_all exact hm.reach (.inl (by simp only [SYS_EVENTS_REQ_REJ_row]; rfl))) ?_)

theorem enterRequested_within {m : Nat} {s0 s : State} {m_ : Mode} (hm : Sub 0x1000000000016c00000081100002380004640000008300800018000088000000000000011001fbfb09 m)
    (h : Within m s0 s) : Within m s0 (enterRequested m_ s) := by
  unfold enterRequested
  repeat' (first
    | with_reducible assumption
    | (extract_lets +onlyGivenNames x; first | (refine Within.cut (m := m) (s := s0) x ?_ (fun h => ?_); subst x; rotate_left; clear_value x; rotate_right) | clear_value x | subst x)
    | with_reducible refine setFlag_within (by with_reducible with_unfolding_all exact hm.reach (.inl (by simp only [SYS_EVENTS_LIMP_row]; rfl))) ?_
    | with_reducible refine haltCause_within (hm.up (by with_unfolding_all rfl)) ?_
    | with_reducible refine enterSleep_within (hm.up (by with_unfolding_all rfl)) ?_
    | with_reducible refine enterMode_within (hm.up (by with_unfolding_all rfl)) ?_
    | split)

theorem request_within {m : Nat} {s0 s : State} {t : Mode} (hm : Sub 0x1000000000016c00000081100002380004640000008300800018000088000000000000011001fbfb09 m)
    (h : Within m s0 s) : Within m s0 (request t s) := by
  unfold request
  repeat' (first
    | with_reducible assumption
    | with_reducible refine enterRequested_within (hm.up (by with_unfolding_all rfl)) ?_
    | with_reducible refine reqReject_within (hm.up (by with_unfolding_all rfl)) ?_
    | split)

theorem execSysModereq_within {m : Nat} {s0 s : State} {v : Word} (hm : Sub 0x1000000000016c00000081100002380004640000008300800018000088000000000000011001fbfb09 m)
    (h : Within m s0 s) : WithinO m s0 (execSysModereq v s) := by
  unfold execSysModereq
  repeat' (first
    | with_reducible assumption
    | (extract_lets +onlyGivenNames x; first | (refine Within.cut (m := m) (s := s0) x ?_ (fun h => ?_); subst x; rotate_left; clear_value x; rotate_right) | clear_value x | subst x)
    | with_reducible refine WithinO.next ?_
    | with_reducible refine onWrite_within (hm.up (by with_unfolding_all rfl)) (fun _ _ => ?_) ?_
    | with_reducible refine request_within (hm.up (by with_unfolding_all rfl)) ?_
    | with_reducible refine reqReject_within (hm.up (by with_unfolding_all rfl)) ?_
    | split)

theorem execStartCold_within {m : Nat} {s0 s : State} (hm : Sub 0x4009044184010400811000002000000000000084100000000000880000000000080ad087ffffa9 m)
    (h : Within m s0 s) : WithinO m s0 (execStartCold s) := by
  unfold execStartCold
  repeat' (first
    | with_reducible assumption
    | (extract_lets +onlyGivenNames x; first | clear_value x | subst x)
    | with_reducible refine WithinO.next ?_
    | with_reducible refine onWrite_within (hm.up (by with_unfolding_all rfl)) (fun _ _ => ?_) ?_
    | with_reducible refine beginStart_within (hm.up (by with_unfolding_all rfl)) ?_
    | with_reducible refine reqReject_within (hm.up (by with_unfolding_all rfl)) ?_
    | split
    | with_reducible refine Within.set_mode (hm.bit (by with_unfolding_all rfl)) ?_)

theorem execStartWarm_within {m : Nat} {s0 s : State} (hm : Sub 0x4009044184010400811000002000000000000084100000000000880000000000080ad087ffffa9 m)
    (h : Within m s0 s) : WithinO m s0 (execStartWarm s) := by
  unfold execStartWarm
  repeat' (first
    | with_reducible assumption
    | (extract_lets +onlyGivenNames x; first | clear_value x | subst x)
    | with_reducible refine WithinO.next ?_
    | with_reducible refine onWrite_within (hm.up (by with_unfolding_all rfl)) (fun _ _ => ?_) ?_
    | with_reducible refine beginStart_within (hm.up (by with_unfolding_all rfl)) ?_
    | with_reducible refine reqReject_within (hm.up (by with_unfolding_all rfl)) ?_
    | split
    | with_reducible refine Within.set_mode (hm.bit (by with_unfolding_all rfl)) ?_)

theorem execHeldStartBegin_within {m : Nat} {s0 s : State} (hm : Sub 0x4009044184010400811000002000000000000084100000000000880000000000080ad087ffffa9 m)
    (h : Within m s0 s) : WithinO m s0 (execHeldStartBegin s) := by
  unfold execHeldStartBegin
  repeat' (first
    | with_reducible assumption
    | (extract_lets +onlyGivenNames x; first | (refine Within.cut (m := m) (s := s0) x ?_ (fun h => ?_); subst x; rotate_left; clear_value x; rotate_right) | clear_value x | subst x)
    | with_reducible refine WithinO.next ?_
    | with_reducible refine setFlag_within (by with_reducible with_unfolding_all exact hm.reach (.inl (by simp only [CLK_STATUS_REF_OK_row]; rfl))) ?_
    | with_reducible refine beginStart_within (hm.up (by with_unfolding_all rfl)) ?_
    | split)

theorem execWake_within {m : Nat} {s0 s : State} (hm : Sub 0x4009044184010400811000002000000000000084100000000000880000000000080ad087ffffa9 m)
    (h : Within m s0 s) : WithinO m s0 (execWake s) := by
  unfold execWake
  repeat' (first
    | with_reducible assumption
    | (extract_lets +onlyGivenNames x; first | (refine Within.cut (m := m) (s := s0) x ?_ (fun h => ?_); subst x; rotate_left; clear_value x; rotate_right) | clear_value x | subst x)
    | with_reducible refine WithinO.next ?_
    | with_reducible refine onWrite_within (hm.up (by with_unfolding_all rfl)) (fun _ _ => ?_) ?_
    | with_reducible refine beginStart_within (hm.up (by with_unfolding_all rfl)) ?_
    | with_reducible refine reqReject_within (hm.up (by with_unfolding_all rfl)) ?_
    | split)

theorem execSelftest_within {m : Nat} {s0 s : State} {tests : BitVec 4} (hm : Sub 0x41000001101 m)
    (h : Within m s0 s) : WithinO m s0 (execSelftest tests s) := by
  unfold execSelftest
  repeat' (first
    | with_reducible assumption
    | (extract_lets +onlyGivenNames x; first | (refine Within.cut (m := m) (s := s0) x ?_ (fun h => ?_); subst x; rotate_left; clear_value x; rotate_right) | clear_value x | subst x)
    | with_reducible refine WithinO.next ?_
    | with_reducible refine setRaw_within (by with_reducible with_unfolding_all exact hm.reach (.inl (by simp only [SYS_CMD_row, SYS_DIAG_BUSY_row, SYS_DIAG_row]; rfl))) ?_
    | with_reducible refine onWrite_within (hm.up (by with_unfolding_all rfl)) (fun _ _ => ?_) ?_
    | with_reducible refine reqReject_within (hm.up (by with_unfolding_all rfl)) ?_
    | split
    | with_reducible refine Within.set_mode (hm.bit (by with_unfolding_all rfl)) ?_)

theorem execSelftestDone_within {m : Nat} {s0 s : State} {pass : BitVec 4} {rep : DiagReport} (hm : Sub 0x81100000200004600000bf96708000000000880000000000000610017b5901 m)
    (h : Within m s0 s) : WithinO m s0 (execSelftestDone pass rep s) := by
  unfold execSelftestDone
  repeat' (first
    | with_reducible assumption
    | (extract_lets +onlyGivenNames x; first | (refine Within.cut (m := m) (s := s0) x ?_ (fun h => ?_); subst x; rotate_left; clear_value x; rotate_right) | clear_value x | subst x)
    | with_reducible refine WithinO.next ?_
    | with_reducible refine fsets_nil ?_
    | with_reducible refine fsets_cons ?_
    | with_reducible refine fset_within (by with_reducible with_unfolding_all exact hm.reach (.inl (by simp only [SYS_DIAG_BUSY_row, SYS_DIAG_PASS_row, SYS_DIAG_FAIL_row, SYS_EVENTS_DIAG_DONE_row, SYS_DIAG_row]; rfl))) ?_
    | with_reducible refine whenS_within (fun _ _ => ?_) ?_
    | with_reducible refine foldl_within (fun _ _ _ => ?_) ?_
    | with_reducible refine laneTest_within (hm.up (by with_unfolding_all rfl)) ?_
    | with_reducible refine slcStartPass_within (hm.up (by with_unfolding_all rfl)) ?_
    | with_reducible refine scrubOne_within (hm.up (by with_unfolding_all rfl)) ?_
    | with_reducible refine report_within (hm.up (by with_unfolding_all rfl)) (by with_reducible with_unfolding_all exact hm.reach (.inl (by simp only [SYS_DIAG_BUSY_row, SYS_DIAG_PASS_row, SYS_DIAG_FAIL_row, SYS_EVENTS_DIAG_DONE_row, SYS_DIAG_row]; rfl))) ?_
    | split
    | with_reducible refine Within.set_mode (hm.bit (by with_unfolding_all rfl)) ?_)

theorem execSysLock_within {m : Nat} {s0 s : State} (hm : Sub 0x2000001001 m)
    (h : Within m s0 s) : WithinO m s0 (execSysLock s) := by
  unfold execSysLock
  repeat' (first
    | with_reducible assumption
    | (extract_lets +onlyGivenNames x; first | (refine Within.cut (m := m) (s := s0) x ?_ (fun h => ?_); subst x; rotate_left; clear_value x; rotate_right) | clear_value x | subst x)
    | with_reducible refine WithinO.next ?_
    | with_reducible refine setFlag_within (by with_reducible with_unfolding_all exact hm.reach (.inl (by simp only [SYS_LOCK_row, SYS_LOCK_LOCK_row]; rfl))) ?_
    | with_reducible refine onWrite_within (hm.up (by with_unfolding_all rfl)) (fun _ _ => ?_) ?_)

theorem execSysLimpCelClear_within {m : Nat} {s0 s : State} (hm : Sub 0x20000001001 m)
    (h : Within m s0 s) : WithinO m s0 (execSysLimpCelClear s) := by
  unfold execSysLimpCelClear
  repeat' (first
    | with_reducible assumption
    | (extract_lets +onlyGivenNames x; first | (refine Within.cut (m := m) (s := s0) x ?_ (fun h => ?_); subst x; rotate_left; clear_value x; rotate_right) | clear_value x | subst x)
    | with_reducible refine WithinO.next ?_
    | with_reducible refine setFlag_within (by with_reducible with_unfolding_all exact hm.reach (.inl (by simp only [SYS_LIMP_row, SYS_LIMP_CEL_row]; rfl))) ?_
    | with_reducible refine onWrite_within (hm.up (by with_unfolding_all rfl)) (fun _ _ => ?_) ?_)

theorem fwEnds_within {m : Nat} {s0 s : State} {code : Nat} (hm : Sub 0x1001000000400 m)
    (h : Within m s0 s) : Within m s0 (fwEnds code s) := by
  unfold fwEnds
  repeat' (first
    | with_reducible assumption
    | (extract_lets +onlyGivenNames x; first | (refine Within.cut (m := m) (s := s0) x ?_ (fun h => ?_); subst x; rotate_left; clear_value x; rotate_right) | clear_value x | subst x)
    | with_reducible refine setFlag_within (by with_reducible with_unfolding_all exact hm.reach (.inl (by simp only [SYS_FWSTAT_BUSY_row, SYS_FWSTAT_SWAP_PEND_row, SYS_FWSTAT_CODE_row, SYS_EVENTS_FW_DONE_row, SYS_EVENTS_FW_FAIL_row]; rfl))) ?_
    | with_reducible refine fsets_nil ?_
    | with_reducible refine fsets_cons ?_
    | with_reducible refine fset_within (by with_reducible with_unfolding_all exact hm.reach (.inl (by simp only [SYS_FWSTAT_BUSY_row, SYS_FWSTAT_SWAP_PEND_row, SYS_FWSTAT_CODE_row, SYS_EVENTS_FW_DONE_row, SYS_EVENTS_FW_FAIL_row]; rfl))) ?_
    | split
    | with_reducible refine Within.set_fw (hm.bit (by with_unfolding_all rfl)) ?_)

theorem fwBegin_within {m : Nat} {s0 s : State} {op : Nat} (hm : Sub 0x1001000000400 m)
    (h : Within m s0 s) : Within m s0 (fwBegin op s) := by
  unfold fwBegin
  repeat' (first
    | with_reducible assumption
    | (extract_lets +onlyGivenNames x; first | clear_value x | subst x)
    | with_reducible refine setFlag_within (by with_reducible with_unfolding_all exact hm.reach (.inl (by simp only [SYS_FWSTAT_BUSY_row]; rfl))) ?_
    | with_reducible refine reqReject_within (hm.up (by with_unfolding_all rfl)) ?_
    | with_reducible refine fwEnds_within (hm.up (by with_unfolding_all rfl)) ?_
    | split
    | with_reducible refine Within.set_fw (hm.bit (by with_unfolding_all rfl)) ?_)

theorem putInactive_within {m : Nat} {s0 s : State} {valid : Bool} {seq : Nat} {version : Nat} (hm : Sub 0x400 m)
    (h : Within m s0 s) : Within m s0 (putInactive valid seq version s) := by
  unfold putInactive
  repeat' (first
    | with_reducible assumption
    | (extract_lets +onlyGivenNames x; clear_value x)
    | split
    | with_reducible refine Within.set_fw (hm.bit (by with_unfolding_all rfl)) ?_)

theorem execFwWrite_within {m : Nat} {s0 s : State} (hm : Sub 0x1001000001401 m)
    (h : Within m s0 s) : WithinO m s0 (execFwWrite s) := by
  unfold execFwWrite
  repeat' (first
    | with_reducible assumption
    | (extract_lets +onlyGivenNames x; first | (refine Within.cut (m := m) (s := s0) x ?_ (fun h => ?_); subst x; rotate_left; clear_value x; rotate_right) | clear_value x | subst x)
    | with_reducible refine WithinO.next ?_
    | with_reducible refine onWrite_within (hm.up (by with_unfolding_all rfl)) (fun _ _ => ?_) ?_
    | with_reducible refine fwBegin_within (hm.up (by with_unfolding_all rfl)) ?_)

theorem execFwWriteDone_within {m : Nat} {s0 s : State} {rep : FwReport} (hm : Sub 0x1001000000400 m)
    (h : Within m s0 s) : WithinO m s0 (execFwWriteDone rep s) := by
  unfold execFwWriteDone
  repeat' (first
    | with_reducible assumption
    | (extract_lets +onlyGivenNames x; first | (refine Within.cut (m := m) (s := s0) x ?_ (fun h => ?_); subst x; rotate_left; clear_value x; rotate_right) | clear_value x | subst x)
    | with_reducible refine WithinO.next ?_
    | with_reducible refine fwEnds_within (hm.up (by with_unfolding_all rfl)) ?_
    | with_reducible refine putInactive_within (hm.up (by with_unfolding_all rfl)) ?_
    | split)

theorem execFwSwap_within {m : Nat} {s0 s : State} (hm : Sub 0x1001000001401 m)
    (h : Within m s0 s) : WithinO m s0 (execFwSwap s) := by
  unfold execFwSwap
  repeat' (first
    | with_reducible assumption
    | (extract_lets +onlyGivenNames x; first | (refine Within.cut (m := m) (s := s0) x ?_ (fun h => ?_); subst x; rotate_left; clear_value x; rotate_right) | clear_value x | subst x)
    | with_reducible refine WithinO.next ?_
    | with_reducible refine onWrite_within (hm.up (by with_unfolding_all rfl)) (fun _ _ => ?_) ?_
    | with_reducible refine fwBegin_within (hm.up (by with_unfolding_all rfl)) ?_)

theorem execFwSwapReady_within {m : Nat} {s0 s : State} {rep : FwReport} (hm : Sub 0x1001000000400 m)
    (h : Within m s0 s) : WithinO m s0 (execFwSwapReady rep s) := by
  unfold execFwSwapReady
  repeat' (first
    | with_reducible assumption
    | (extract_lets +onlyGivenNames x; first | (refine Within.cut (m := m) (s := s0) x ?_ (fun h => ?_); subst x; rotate_left; clear_value x; rotate_right) | clear_value x | subst x)
    | with_reducible refine WithinO.next ?_
    | with_reducible refine setFlag_within (by with_reducible with_unfolding_all exact hm.reach (.inl (by simp only [SYS_FWSTAT_SWAP_PEND_row]; rfl))) ?_
    | with_reducible refine fwEnds_within (hm.up (by with_unfolding_all rfl)) ?_
    | with_reducible refine putInactive_within (hm.up (by with_unfolding_all rfl)) ?_
    | split)

theorem hkPause_within {m : Nat} {s0 s : State} {d : Nat} (hm : Sub 0x401 m)
    (h : Within m s0 s) : Within m s0 (hkPause d s) := by
  unfold hkPause
  repeat' (first
    | with_reducible assumption
    | (extract_lets +onlyGivenNames x; first | clear_value x | subst x)
    | with_reducible refine schedule_within (hm.up (by with_unfolding_all rfl)) ?_
    | split
    | with_reducible refine Within.set_fw (hm.bit (by with_unfolding_all rfl)) ?_)

theorem swapSlots_within {m : Nat} {s0 s : State} (hm : Sub 0x3000000000000 m)
    (h : Within m s0 s) : Within m s0 (swapSlots s) := by
  unfold swapSlots
  repeat' (first
    | with_reducible assumption
    | (extract_lets +onlyGivenNames x; first | clear_value x | subst x)
    | with_reducible refine fsets_nil ?_
    | with_reducible refine fsets_cons ?_
    | with_reducible refine fset_within (by with_reducible with_unfolding_all exact hm.reach (.inl (by simp only [SYS_FWSTAT_ACTIVE_row, SYS_FWVER_VERSION_row]; rfl))) ?_)

theorem execFwSwapExecute_within {m : Nat} {s0 s : State} (hm : Sub 0x3001000000401 m)
    (h : Within m s0 s) : WithinO m s0 (execFwSwapExecute s) := by
  unfold execFwSwapExecute
  repeat' (first
    | with_reducible assumption
    | (extract_lets +onlyGivenNames x; first | (refine Within.cut (m := m) (s := s0) x ?_ (fun h => ?_); subst x; rotate_left; clear_value x; rotate_right) | clear_value x | subst x)
    | with_reducible refine WithinO.next ?_
    | with_reducible refine fwEnds_within (hm.up (by with_unfolding_all rfl)) ?_
    | with_reducible refine swapSlots_within (hm.up (by with_unfolding_all rfl)) ?_
    | with_reducible refine hkPause_within (hm.up (by with_unfolding_all rfl)) ?_
    | with_reducible refine schedule_within (hm.up (by with_unfolding_all rfl)) ?_
    | with_reducible refine cancel_within (hm.up (by with_unfolding_all rfl)) ?_
    | split
    | with_reducible refine Within.set_fw (hm.bit (by with_unfolding_all rfl)) ?_)

theorem execFwSwapCancel_within {m : Nat} {s0 s : State} (hm : Sub 0x1001000001401 m)
    (h : Within m s0 s) : WithinO m s0 (execFwSwapCancel s) := by
  unfold execFwSwapCancel
  repeat' (first
    | with_reducible assumption
    | (extract_lets +onlyGivenNames x; first | (refine Within.cut (m := m) (s := s0) x ?_ (fun h => ?_); subst x; rotate_left; clear_value x; rotate_right) | clear_value x | subst x)
    | with_reducible refine WithinO.next ?_
    | with_reducible refine onWrite_within (hm.up (by with_unfolding_all rfl)) (fun _ _ => ?_) ?_
    | with_reducible refine fwEnds_within (hm.up (by with_unfolding_all rfl)) ?_
    | with_reducible refine reqReject_within (hm.up (by with_unfolding_all rfl)) ?_
    | split)

theorem execRevertWindowEnd_within {m : Nat} {s0 s : State} (hm : Sub 0x400 m)
    (h : Within m s0 s) : WithinO m s0 (execRevertWindowEnd s) := by
  unfold execRevertWindowEnd
  repeat' (first
    | with_reducible assumption
    | (extract_lets +onlyGivenNames x; first | clear_value x | subst x)
    | with_reducible refine WithinO.next ?_
    | split
    | with_reducible refine Within.set_fw (hm.bit (by with_unfolding_all rfl)) ?_)

theorem fwRevert_within {m : Nat} {s0 s : State} (hm : Sub 0x88000000000003001001001c01 m)
    (h : Within m s0 s) : Within m s0 (fwRevert s) := by
  unfold fwRevert
  repeat' (first
    | with_reducible assumption
    | (extract_lets +onlyGivenNames x; first | (refine Within.cut (m := m) (s := s0) x ?_ (fun h => ?_); subst x; rotate_left; clear_value x; rotate_right) | clear_value x | subst x)
    | with_reducible refine fset_within (by with_reducible with_unfolding_all exact hm.reach (.inl (by simp only [SYS_FWSTAT_CODE_row, SYS_EVENTS_FW_REVERT_row]; rfl))) ?_
    | with_reducible refine swapSlots_within (hm.up (by with_unfolding_all rfl)) ?_
    | with_reducible refine putInactive_within (hm.up (by with_unfolding_all rfl)) ?_
    | with_reducible refine hkPause_within (hm.up (by with_unfolding_all rfl)) ?_
    | with_reducible refine cancel_within (hm.up (by with_unfolding_all rfl)) ?_
    | with_reducible refine report_within (hm.up (by with_unfolding_all rfl)) (by with_reducible with_unfolding_all exact hm.reach (.inl (by simp only [SYS_FWSTAT_CODE_row, SYS_EVENTS_FW_REVERT_row]; rfl))) ?_
    | split
    | with_reducible refine Within.set_fw (hm.bit (by with_unfolding_all rfl)) ?_)

theorem execHousekeeperFault_within {m : Nat} {s0 s : State} (hm : Sub 0x40090441840104008110000238000464000000871080001800008800000000000b0bd087ffffa9 m)
    (h : Within m s0 s) : WithinO m s0 (execHousekeeperFault s) := by
  unfold execHousekeeperFault
  repeat' (first
    | with_reducible assumption
    | (extract_lets +onlyGivenNames x; first | (refine Within.cut (m := m) (s := s0) x ?_ (fun h => ?_); subst x; rotate_left; clear_value x; rotate_right) | clear_value x | subst x)
    | with_reducible refine WithinO.next ?_
    | with_reducible refine startFailed_within (hm.up (by with_unfolding_all rfl)) ?_
    | with_reducible refine fwRevert_within (hm.up (by with_unfolding_all rfl)) ?_
    | with_reducible refine haltCause_within (hm.up (by with_unfolding_all rfl)) ?_
    | split)

theorem execHkPauseEnd_within {m : Nat} {s0 s : State} (hm : Sub 0x200000000000000000000000000000000000000000400400 m)
    (h : Within m s0 s) : WithinO m s0 (execHkPauseEnd s) := by
  unfold execHkPauseEnd
  repeat' (first
    | with_reducible assumption
    | (extract_lets +onlyGivenNames x; first | clear_value x | subst x)
    | with_reducible refine WithinO.next ?_
    | with_reducible refine deferredSave_within (hm.up (by with_unfolding_all rfl)) ?_
    | split
    | with_reducible refine Within.set_fw (hm.bit (by with_unfolding_all rfl)) ?_)

theorem linkLoss_within {m : Nat} {s0 s : State} (hm : Sub 0x811000023800046400000083008000180000880006000000000110017bfb09 m)
    (h : Within m s0 s) : Within m s0 (linkLoss s) := by
  unfold linkLoss
  repeat' (first
    | with_reducible assumption
    | (extract_lets +onlyGivenNames x; first | (refine Within.cut (m := m) (s := s0) x ?_ (fun h => ?_); subst x; rotate_left; clear_value x; rotate_right) | clear_value x | subst x)
    | with_reducible refine fsets_nil ?_
    | with_reducible refine fsets_cons ?_
    | with_reducible refine fset_within (by with_reducible with_unfolding_all exact hm.reach (.inl (by simp only [HOST_STATUS_LINK_UP_row, HOST_STATUS_BME_row, HOST_STATUS_WIDTH_row, HOST_STATUS_SPEED_row, HOST_EVENTS_LINK_DOWN_row]; rfl))) ?_
    | with_reducible refine hostEvent_within (hm.up (by with_unfolding_all rfl)) (by with_reducible with_unfolding_all exact hm.reach (.inl (by simp only [HOST_STATUS_LINK_UP_row, HOST_STATUS_BME_row, HOST_STATUS_WIDTH_row, HOST_STATUS_SPEED_row, HOST_EVENTS_LINK_DOWN_row]; rfl))) ?_
    | with_reducible refine haltCause_within (hm.up (by with_unfolding_all rfl)) ?_
    | split)

theorem execLinkDown_within {m : Nat} {s0 s : State} (hm : Sub 0x811000023800046400000083008000180000880006000000000110017bfb09 m)
    (h : Within m s0 s) : WithinO m s0 (execLinkDown s) := by
  unfold execLinkDown
  repeat' (first
    | with_reducible assumption
    | (extract_lets +onlyGivenNames x; first | (refine Within.cut (m := m) (s := s0) x ?_ (fun h => ?_); subst x; rotate_left; clear_value x; rotate_right) | clear_value x | subst x)
    | with_reducible refine WithinO.next ?_
    | with_reducible refine linkLoss_within (hm.up (by with_unfolding_all rfl)) ?_)

theorem msixReset_within {m : Nat} {s0 s : State} (hm : Sub 0x1f00000000000000000000000 m)
    (h : Within m s0 s) : Within m s0 (msixReset s) := by
  unfold msixReset
  repeat' (first
    | with_reducible assumption
    | (extract_lets +onlyGivenNames x; first | (refine Within.cut (m := m) (s := s0) x ?_ (fun h => ?_); subst x; rotate_left; clear_value x; rotate_right) | clear_value x | subst x)
    | with_reducible refine setRaw_within (by with_reducible with_unfolding_all exact hm.reach (.inl (by simp only [MSIX_ADDR_LO_row, MSIX_ADDR_HI_row, MSIX_DATA_row, MSIX_CTRL_row, MSIX_PBA_row]; rfl))) ?_
    | with_reducible refine forN_within (fun _ _ _ => ?_) ?_)

theorem execPerst_within {m : Nat} {s0 s : State} (hm : Sub 0x81100002380004640000008300800018000089f006000000000110017bfb09 m)
    (h : Within m s0 s) : WithinO m s0 (execPerst s) := by
  unfold execPerst
  repeat' (first
    | with_reducible assumption
    | (extract_lets +onlyGivenNames x; first | clear_value x | subst x)
    | with_reducible refine WithinO.next ?_
    | with_reducible refine linkLoss_within (hm.up (by with_unfolding_all rfl)) ?_
    | with_reducible refine msixReset_within (hm.up (by with_unfolding_all rfl)) ?_
    | split
    | with_reducible refine Within.set_host (hm.bit (by with_unfolding_all rfl)) ?_)

theorem execPerstRelease_within {m : Nat} {s0 s : State} (hm : Sub 0x2000 m)
    (h : Within m s0 s) : WithinO m s0 (execPerstRelease s) := by
  unfold execPerstRelease
  repeat' (first
    | with_reducible assumption
    | (extract_lets +onlyGivenNames x; first | clear_value x | subst x)
    | with_reducible refine WithinO.next ?_
    | split
    | with_reducible refine Within.set_host (hm.bit (by with_unfolding_all rfl)) ?_)

theorem execLinkUp_within {m : Nat} {s0 s : State} {width : Nat} {speed : Nat} (hm : Sub 0x200000008000000000000 m)
    (h : Within m s0 s) : WithinO m s0 (execLinkUp width speed s) := by
  unfold execLinkUp
  repeat' (first
    | with_reducible assumption
    | (extract_lets +onlyGivenNames x; first | (refine Within.cut (m := m) (s := s0) x ?_ (fun h => ?_); subst x; rotate_left; clear_value x; rotate_right) | clear_value x | subst x)
    | with_reducible refine WithinO.next ?_
    | with_reducible refine fsets_nil ?_
    | with_reducible refine fsets_cons ?_
    | with_reducible refine fset_within (by with_reducible with_unfolding_all exact hm.reach (.inl (by simp only [HOST_STATUS_LINK_UP_row, HOST_STATUS_WIDTH_row, HOST_STATUS_SPEED_row, CLK_STATUS_PCIE_REF_OK_row]; rfl))) ?_
    | split)

theorem execBusMasterEnable_within {m : Nat} {s0 s : State} {on : Bool} (hm : Sub 0x200000000000000000000 m)
    (h : Within m s0 s) : WithinO m s0 (execBusMasterEnable on s) := by
  unfold execBusMasterEnable
  repeat' (first
    | with_reducible assumption
    | (extract_lets +onlyGivenNames x; first | (refine Within.cut (m := m) (s := s0) x ?_ (fun h => ?_); subst x; rotate_left; clear_value x; rotate_right) | clear_value x | subst x)
    | with_reducible refine WithinO.next ?_
    | with_reducible refine setFlag_within (by with_reducible with_unfolding_all exact hm.reach (.inl (by simp only [HOST_STATUS_LINK_UP_row, HOST_STATUS_BME_row]; rfl))) ?_
    | split)

theorem execClockFault_within {m : Nat} {s0 s : State} {f : List ClockFault} (hm : Sub 0x811000023800046400000083008000180000880006000006180110017bfb09 m)
    (h : Within m s0 s) : WithinO m s0 (execClockFault f s) := by
  unfold execClockFault
  repeat' (first
    | with_reducible assumption
    | (extract_lets +onlyGivenNames x; first | (refine Within.cut (m := m) (s := s0) x ?_ (fun h => ?_); subst x; rotate_left; clear_value x; rotate_right) | clear_value x | subst x)
    | with_reducible refine WithinO.next ?_
    | with_reducible refine setFlag_within (by with_reducible with_unfolding_all exact hm.reach (.inl (by simp only [CLK_EVENTS_REF_LOST_row, CLK_EVENTS_ROOT_UNLOCK_row, CLK_EVENTS_CEL_UNLOCK_row, CLK_EVENTS_PCIE_REF_LOST_row, CLK_FAULT_TIME_LO_row, CLK_FAULT_TIME_HI_row, CLK_STATUS_ROOT_LOCK_row, clockEvent_row, clockPresent_row]; rfl))) ?_
    | with_reducible refine setPair_within (by with_reducible with_unfolding_all exact hm.reach (.inl (by simp only [CLK_EVENTS_REF_LOST_row, CLK_EVENTS_ROOT_UNLOCK_row, CLK_EVENTS_CEL_UNLOCK_row, CLK_EVENTS_PCIE_REF_LOST_row, CLK_FAULT_TIME_LO_row, CLK_FAULT_TIME_HI_row, CLK_STATUS_ROOT_LOCK_row, clockEvent_row, clockPresent_row]; rfl))) (by with_reducible with_unfolding_all exact hm.reach (.inl (by simp only [CLK_EVENTS_REF_LOST_row, CLK_EVENTS_ROOT_UNLOCK_row, CLK_EVENTS_CEL_UNLOCK_row, CLK_EVENTS_PCIE_REF_LOST_row, CLK_FAULT_TIME_LO_row, CLK_FAULT_TIME_HI_row, CLK_STATUS_ROOT_LOCK_row, clockEvent_row, clockPresent_row]; rfl))) ?_
    | with_reducible refine whenS_within (fun _ _ => ?_) ?_
    | with_reducible refine foldl_within (fun _ _ _ => ?_) ?_
    | with_reducible refine report_within (hm.up (by with_unfolding_all rfl)) (by with_reducible with_unfolding_all exact hm.reach (.inl (by simp only [CLK_EVENTS_REF_LOST_row, CLK_EVENTS_ROOT_UNLOCK_row, CLK_EVENTS_CEL_UNLOCK_row, CLK_EVENTS_PCIE_REF_LOST_row, CLK_FAULT_TIME_LO_row, CLK_FAULT_TIME_HI_row, CLK_STATUS_ROOT_LOCK_row, clockEvent_row, clockPresent_row]; rfl))) ?_
    | with_reducible refine haltCause_within (hm.up (by with_unfolding_all rfl)) ?_
    | with_reducible refine axesOff_within (hm.up (by with_unfolding_all rfl)) ?_
    | with_reducible refine lampsDark_within (hm.up (by with_unfolding_all rfl)) ?_
    | with_reducible refine linkLoss_within (hm.up (by with_unfolding_all rfl)) ?_
    | split
    | with_reducible refine Within.set_lnd (hm.bit (by with_unfolding_all rfl)) ?_
    | with_reducible refine Within.set_recd (hm.bit (by with_unfolding_all rfl)) ?_)

end Sys2Proof.Machine
end

