-- ==== Sys2Proof/Laws/Motion.lean ====
section
/-! SUPPORT. What each definition of Machine/Motion.lean can change, said once: the set of parts after Sub (Laws/Within.lean gives
the bits), the queue never, and the invariants kept. -/

set_option linter.unusedSimpArgs false

namespace Sys2Proof.Machine

theorem axisStep_within {m : Nat} {s0 s : State} {m_ : Nat} {fwd : Bool} (hm : Sub 0x12c0201040014008260040004000000000004c038000088000000000000020003b87829 m)
    (h : Within m s0 s) : Within m s0 (axisStep m_ fwd s) := by
  unfold axisStep
  repeat' (first
    | with_reducible assumption
    | (extract_lets +onlyGivenNames x; first | (refine Within.cut (m := m) (s := s0) x ?_ (fun h => ?_); subst x; rotate_left; clear_value x; rotate_right) | clear_value x | subst x)
    | with_reducible refine fset_within (by with_reducible with_unfolding_all exact hm.reach (.inl (by simp only [MOT_ASTATUS_DIR_row, MOT_ASTATUS_MOVE_row, MOT_ACTL_BIND_row]; rfl))) ?_
    | with_reducible refine whenS_within (fun _ _ => ?_) ?_
    | with_reducible refine pmcEvent_within (hm.up (by with_unfolding_all rfl)) ?_
    | with_reducible refine setAxis_within (hm.up (by with_unfolding_all rfl)) ?_
    | with_reducible refine showErr_within (hm.up (by with_unfolding_all rfl)) ?_
    | with_reducible refine posMove_within (hm.up (by with_unfolding_all rfl)) ?_
    | with_reducible refine segEnd_within (hm.up (by with_unfolding_all rfl)) ?_
    | split)

theorem execPosChange_within {m : Nat} {s0 s : State} {m_ : Fin 8} {fwd : Bool} (hm : Sub 0x12c0201040014008260040004000000000004c038000088000000000000020003b87829 m)
    (h : Within m s0 s) : WithinO m s0 (execPosChange m_ fwd s) := by
  unfold execPosChange
  repeat' (first
    | with_reducible assumption
    | (extract_lets +onlyGivenNames x; first | (refine Within.cut (m := m) (s := s0) x ?_ (fun h => ?_); subst x; rotate_left; clear_value x; rotate_right) | clear_value x | subst x)
    | with_reducible refine WithinO.next ?_
    | with_reducible refine axisStep_within (hm.up (by with_unfolding_all rfl)) ?_
    | split)

theorem encoderCount_within {m : Nat} {s0 s : State} {e : Nat} {fwd : Bool} (hm : Sub 0x12c0201040014108020040004000000000004c038000088000000000000020003b87829 m)
    (h : Within m s0 s) : Within m s0 (encoderCount e fwd s) := by
  unfold encoderCount
  repeat' (first
    | with_reducible assumption
    | (extract_lets +onlyGivenNames x; first | (refine Within.cut (m := m) (s := s0) x ?_ (fun h => ?_); subst x; rotate_left; clear_value x; rotate_right) | clear_value x | subst x)
    | with_reducible refine setRaw_within (by with_reducible with_unfolding_all exact hm.reach (.inl (by simp only [MOT_ECNT_row, MOT_ACTL_BIND_row, MOT_ACTL_ENC_row]; rfl))) ?_
    | with_reducible refine forN_within (fun _ _ _ => ?_) ?_
    | with_reducible refine pmcEvent_within (hm.up (by with_unfolding_all rfl)) ?_
    | with_reducible refine posMove_within (hm.up (by with_unfolding_all rfl)) ?_
    | with_reducible refine showErr_within (hm.up (by with_unfolding_all rfl)) ?_
    | with_reducible refine setAxis_within (hm.up (by with_unfolding_all rfl)) ?_
    | split)

theorem encoderIllegal_within {m : Nat} {s0 s : State} {e : Nat} (hm : Sub 0x4000000400000000000000000000000088000000000000000001001801 m)
    (h : Within m s0 s) : Within m s0 (encoderIllegal e s) := by
  unfold encoderIllegal
  repeat' (first
    | with_reducible assumption
    | (extract_lets +onlyGivenNames x; first | (refine Within.cut (m := m) (s := s0) x ?_ (fun h => ?_); subst x; rotate_left; clear_value x; rotate_right) | clear_value x | subst x)
    | with_reducible refine setRaw_within (by with_reducible with_unfolding_all exact hm.reach (.inl (by simp only [MOT_EVENTS_ENC_ERR_row, MOT_EERR_row]; rfl))) ?_
    | with_reducible refine setFlag_within (by with_reducible with_unfolding_all exact hm.reach (.inl (by simp only [MOT_EVENTS_ENC_ERR_row, MOT_EERR_row]; rfl))) ?_
    | with_reducible refine whenS_within (fun _ _ => ?_) ?_
    | with_reducible refine pmcEvent_within (hm.up (by with_unfolding_all rfl)) ?_
    | with_reducible refine raise_within (hm.up (by with_unfolding_all rfl)) ?_)

theorem execEncoderEdge_within {m : Nat} {s0 s : State} {e : Fin 4} {a : Bool} {b : Bool} {i : Bool} (hm : Sub 0x12c0201040014708020040004000000000004c038000088000000000000020003b87829 m)
    (h : Within m s0 s) : WithinO m s0 (execEncoderEdge e a b i s) := by
  unfold execEncoderEdge
  repeat' (first
    | with_reducible assumption
    | (extract_lets +onlyGivenNames x; first | (refine Within.cut (m := m) (s := s0) x ?_ (fun h => ?_); subst x; rotate_left; clear_value x; rotate_right) | clear_value x | subst x)
    | with_reducible refine WithinO.next ?_
    | with_reducible refine setRaw_within (by with_reducible with_unfolding_all exact hm.reach (.inl (by simp only [MOT_ECTL_EN_row, MOT_ECTL_IDX_EN_row, MOT_EIDX_row, MOT_ECNT_row]; rfl))) ?_
    | with_reducible refine encoderIllegal_within (hm.up (by with_unfolding_all rfl)) ?_
    | with_reducible refine encoderCount_within (hm.up (by with_unfolding_all rfl)) ?_
    | split
    | with_reducible refine Within.set_mot (hm.bit (by with_unfolding_all rfl)) ?_)

theorem execMotEerrRead_within {m : Nat} {s0 s : State} {e : Fin 4} (hm : Sub 0x4000000000000000000000000000000000000000000000000000001041 m)
    (h : Within m s0 s) : WithinO m s0 (execMotEerrRead e s) := by
  unfold execMotEerrRead
  repeat' (first
    | with_reducible assumption
    | (extract_lets +onlyGivenNames x; first | (refine Within.cut (m := m) (s := s0) x ?_ (fun h => ?_); subst x; rotate_left; clear_value x; rotate_right) | clear_value x | subst x)
    | with_reducible refine WithinO.next ?_
    | with_reducible refine rcRead_within (hm.up (by with_unfolding_all rfl)) (by with_reducible with_unfolding_all exact hm.reach (.inl (by simp only [MOT_EERR_row]; rfl))) ?_)

theorem docEdge_within {m : Nat} {s0 s : State} {k : Nat} {level : Bool} {pos : List Int} {h_ : Nat} (hm : Sub 0x400000000000000000000000000000000000000000000100000 m)
    (h : Within m s0 s) : Within m s0 (docEdge k level pos h_ s) := by
  unfold docEdge
  repeat' (first
    | with_reducible assumption
    | (extract_lets +onlyGivenNames x; clear_value x)
    | with_reducible refine docCovered_within (hm.up (by with_unfolding_all rfl)) ?_
    | with_reducible refine docClear_within (hm.up (by with_unfolding_all rfl)) ?_
    | split)

theorem guardEdge_within {m : Nat} {s0 s : State} {k : Nat} {level : Bool} {pos : List Int} {h_ : Nat} (hm : Sub 0x80001 m)
    (h : Within m s0 s) : Within m s0 (guardEdge k level pos h_ s) := by
  unfold guardEdge
  repeat' (first
    | with_reducible assumption
    | (extract_lets +onlyGivenNames x; first | (refine Within.cut (m := m) (s := s0) x ?_ (fun h => ?_); subst x; rotate_left; clear_value x; rotate_right) | clear_value x)
    | with_reducible refine abortRun_within (hm.up (by with_unfolding_all rfl)) ?_
    | split
    | with_reducible refine Within.set_shd (hm.bit (by with_unfolding_all rfl)) ?_)

theorem execDocSensorEdge_within {m : Nat} {s0 s : State} {k : Fin 16} {level : Bool} {_runTime : Nat} {runPos : List Int} (hm : Sub 0x2644400000000000000000000000000000000000000000000180001 m)
    (h : Within m s0 s) : WithinO m s0 (execDocSensorEdge k level _runTime runPos s) := by
  unfold execDocSensorEdge
  repeat' (first
    | with_reducible assumption
    | (extract_lets +onlyGivenNames x; first | (refine Within.cut (m := m) (s := s0) x ?_ (fun h => ?_); subst x; rotate_left; clear_value x; rotate_right) | clear_value x | subst x)
    | with_reducible refine WithinO.next ?_
    | with_reducible refine fset_within (by with_reducible with_unfolding_all exact hm.reach (.inl (by simp only [MOT_DSSTATE_COVERED_row, MOT_CTL_PACE_MODE_row, MOT_ADM_FEED_DS_row]; rfl))) ?_
    | with_reducible refine forN_within (fun _ _ _ => ?_) ?_
    | with_reducible refine sensorSegs_within (hm.up (by with_unfolding_all rfl)) ?_
    | with_reducible refine guardEdge_within (hm.up (by with_unfolding_all rfl)) ?_
    | with_reducible refine docEdge_within (hm.up (by with_unfolding_all rfl)) ?_
    | with_reducible refine admRequest_within (hm.up (by with_unfolding_all rfl)) ?_
    | split)

theorem execMotHdocWrite_within {m : Nat} {s0 s : State} {h_ : Fin 16} {v : Word} (hm : Sub 0x8000000000000000000000000000000000000000000000000000101001 m)
    (h : Within m s0 s) : WithinO m s0 (execMotHdocWrite h_ v s) := by
  unfold execMotHdocWrite
  repeat' (first
    | with_reducible assumption
    | (extract_lets +onlyGivenNames x; first | (refine Within.cut (m := m) (s := s0) x ?_ (fun h => ?_); subst x; rotate_left; clear_value x; rotate_right) | clear_value x | subst x)
    | with_reducible refine WithinO.next ?_
    | with_reducible refine whenS_within (fun _ _ => ?_) ?_
    | with_reducible refine onWrite_within (hm.up (by with_unfolding_all rfl)) (fun _ _ => ?_) ?_
    | with_reducible refine docDisable_within (hm.up (by with_unfolding_all rfl)) ?_
    | with_reducible refine writeRw_within (by with_reducible with_unfolding_all exact hm.reach (.inl (by simp only [MOT_HDOC_row]; rfl))) ?_)

theorem execAdmissionGrant_within {m : Nat} {s0 s : State} (hm : Sub 0x4000000000000000000000000000000000000000000000101001 m)
    (h : Within m s0 s) : WithinO m s0 (execAdmissionGrant s) := by
  unfold execAdmissionGrant
  repeat' (first
    | with_reducible assumption
    | (extract_lets +onlyGivenNames x; first | (refine Within.cut (m := m) (s := s0) x ?_ (fun h => ?_); subst x; rotate_left; clear_value x; rotate_right) | clear_value x | subst x)
    | with_reducible refine WithinO.next ?_
    | with_reducible refine fset_within (by with_reducible with_unfolding_all exact hm.reach (.inl (by simp only [MOT_ADM_TO_SEL_row, MOT_ADM_REL_W_row, MOT_ADMKIB_row, MOT_ADMSTAT_ADMITTED_row]; rfl))) ?_
    | with_reducible refine schedule_within (hm.up (by with_unfolding_all rfl)) ?_
    | with_reducible refine pmcEvent_within (hm.up (by with_unfolding_all rfl)) ?_
    | split
    | with_reducible refine Within.set_mot (hm.bit (by with_unfolding_all rfl)) ?_)

theorem execReleasePulseEnd_within {m : Nat} {s0 s : State} (hm : Sub 0x100000 m)
    (h : Within m s0 s) : WithinO m s0 (execReleasePulseEnd s) := by
  unfold execReleasePulseEnd
  repeat' (first
    | with_reducible assumption
    | (extract_lets +onlyGivenNames x; first | clear_value x | subst x)
    | with_reducible refine WithinO.next ?_
    | split
    | with_reducible refine Within.set_mot (hm.bit (by with_unfolding_all rfl)) ?_)

theorem execMotAdmstatRead_within {m : Nat} {s0 s : State} (hm : Sub 0x4000000000000000000000000000000000000000000000001041 m)
    (h : Within m s0 s) : WithinO m s0 (execMotAdmstatRead s) := by
  unfold execMotAdmstatRead
  repeat' (first
    | with_reducible assumption
    | (extract_lets +onlyGivenNames x; first | (refine Within.cut (m := m) (s := s0) x ?_ (fun h => ?_); subst x; rotate_left; clear_value x; rotate_right) | clear_value x | subst x)
    | with_reducible refine WithinO.next ?_
    | with_reducible refine rcRead_within (hm.up (by with_unfolding_all rfl)) (by with_reducible with_unfolding_all exact hm.reach (.inl (by simp only [MOT_ADMSTAT_row]; rfl))) ?_)

theorem showFill_within {m : Nat} {s0 s : State} (hm : Sub 0x200000000000000000000000000000000000000000000000000 m)
    (h : Within m s0 s) : Within m s0 (showFill s) := by
  unfold showFill
  repeat' (first
    | with_reducible assumption
    | (extract_lets +onlyGivenNames x; first | clear_value x | subst x)
    | with_reducible refine fsets_nil ?_
    | with_reducible refine fsets_cons ?_
    | with_reducible refine fset_within (by with_reducible with_unfolding_all exact hm.reach (.inl (by simp only [MOT_FILL_FILL_row, MOT_FILL_RSV_row]; rfl))) ?_)

theorem execFillEval_within {m : Nat} {s0 s : State} (hm : Sub 0x81100000600700000000000000000000000088000000000000001001381901 m)
    (h : Within m s0 s) : WithinO m s0 (execFillEval s) := by
  unfold execFillEval
  repeat' (first
    | with_reducible assumption
    | (extract_lets +onlyGivenNames x; first | (refine Within.cut (m := m) (s := s0) x ?_ (fun h => ?_); subst x; rotate_left; clear_value x; rotate_right) | clear_value x | subst x)
    | with_reducible refine WithinO.next ?_
    | with_reducible refine showFill_within (hm.up (by with_unfolding_all rfl)) ?_
    | with_reducible refine watermarks_within (hm.up (by with_unfolding_all rfl)) ?_
    | with_reducible refine followPace_within (hm.up (by with_unfolding_all rfl)) ?_
    | with_reducible refine paceStep_within (hm.up (by with_unfolding_all rfl)) ?_
    | with_reducible refine paceState_within (hm.up (by with_unfolding_all rfl)) ?_
    | with_reducible refine schedule_within (hm.up (by with_unfolding_all rfl)) ?_
    | split)

theorem execAxisAtRest_within {m : Nat} {s0 s : State} {m_ : Fin 8} (hm : Sub 0x81100002600100000000000000000000000088000000000000001001381901 m)
    (h : Within m s0 s) : WithinO m s0 (execAxisAtRest m_ s) := by
  unfold execAxisAtRest
  repeat' (first
    | with_reducible assumption
    | (extract_lets +onlyGivenNames x; first | (refine Within.cut (m := m) (s := s0) x ?_ (fun h => ?_); subst x; rotate_left; clear_value x; rotate_right) | clear_value x | subst x)
    | with_reducible refine WithinO.next ?_
    | with_reducible refine stopNow_within (hm.up (by with_unfolding_all rfl)) ?_
    | with_reducible refine axisRests_within (hm.up (by with_unfolding_all rfl)) ?_
    | with_reducible refine holdCheck_within (hm.up (by with_unfolding_all rfl)) ?_
    | split)

theorem execBackupMoveDone_within {m : Nat} {s0 s : State} {m_ : Fin 8} (hm : Sub 0x2600000000000000000000000000000000000000000000000100001 m)
    (h : Within m s0 s) : WithinO m s0 (execBackupMoveDone m_ s) := by
  unfold execBackupMoveDone
  repeat' (first
    | with_reducible assumption
    | (extract_lets +onlyGivenNames x; first | (refine Within.cut (m := m) (s := s0) x ?_ (fun h => ?_); subst x; rotate_left; clear_value x; rotate_right) | clear_value x | subst x)
    | with_reducible refine WithinO.next ?_
    | with_reducible refine setFlag_within (by with_reducible with_unfolding_all exact hm.reach (.inl (by simp only [MOT_ASTATUS_MOVE_row, MOT_AEVENTS_BACKUP_DONE_row]; rfl))) ?_
    | with_reducible refine axisRests_within (hm.up (by with_unfolding_all rfl)) ?_
    | with_reducible refine resumeAxis_within (hm.up (by with_unfolding_all rfl)) ?_
    | split)

theorem execRunupDone_within {m : Nat} {s0 s : State} {m_ : Fin 8} (hm : Sub 0x2200000000000000000000000000000000000000000000000100001 m)
    (h : Within m s0 s) : WithinO m s0 (execRunupDone m_ s) := by
  unfold execRunupDone
  repeat' (first
    | with_reducible assumption
    | (extract_lets +onlyGivenNames x; first | clear_value x | subst x)
    | with_reducible refine WithinO.next ?_
    | with_reducible refine startMove_within (hm.up (by with_unfolding_all rfl)) ?_
    | with_reducible refine axisRests_within (hm.up (by with_unfolding_all rfl)) ?_
    | split)

theorem execHoldTimeout_within {m : Nat} {s0 s : State} (hm : Sub 0x400000000000000000000000088000000000000000001001801 m)
    (h : Within m s0 s) : WithinO m s0 (execHoldTimeout s) := by
  unfold execHoldTimeout
  repeat' (first
    | with_reducible assumption
    | (extract_lets +onlyGivenNames x; first | (refine Within.cut (m := m) (s := s0) x ?_ (fun h => ?_); subst x; rotate_left; clear_value x; rotate_right) | clear_value x | subst x)
    | with_reducible refine WithinO.next ?_
    | with_reducible refine report_within (hm.up (by with_unfolding_all rfl)) (by with_reducible with_unfolding_all exact hm.reach (.inl (by simp only [MOT_HOLDTO_TIMEOUT_row, MOT_EVENTS_HOLD_TO_row]; rfl))) ?_
    | split)

theorem execMotPaceWrite_within {m : Nat} {s0 s : State} {v : Word} (hm : Sub 0x420000000000000000000000000000000000000000000001001 m)
    (h : Within m s0 s) : WithinO m s0 (execMotPaceWrite v s) := by
  unfold execMotPaceWrite
  repeat' (first
    | with_reducible assumption
    | (extract_lets +onlyGivenNames x; first | clear_value x | subst x)
    | with_reducible refine WithinO.next ?_
    | with_reducible refine setFlag_within (by with_reducible with_unfolding_all exact hm.reach (.inl (by simp only [MOT_PACE_row, MOT_EVENTS_CFG_REJ_row]; rfl))) ?_
    | with_reducible refine onWrite_within (hm.up (by with_unfolding_all rfl)) (fun _ _ => ?_) ?_
    | with_reducible refine writeRw_within (by with_reducible with_unfolding_all exact hm.reach (.inl (by simp only [MOT_PACE_row, MOT_EVENTS_CFG_REJ_row]; rfl))) ?_
    | split)

theorem execMotProfile_within {m : Nat} {s0 s : State} {slot : Nat} {bytes : List Byte} (hm : Sub 0x103001 m)
    (h : Within m s0 s) : WithinO m s0 (execMotProfile slot bytes s) := by
  unfold execMotProfile
  repeat' (first
    | with_reducible assumption
    | (extract_lets +onlyGivenNames x; first | clear_value x | subst x)
    | with_reducible refine WithinO.next ?_
    | with_reducible refine complete_within (hm.up (by with_unfolding_all rfl)) ?_
    | with_reducible refine setAxis_within (hm.up (by with_unfolding_all rfl)) ?_
    | split)

theorem execMotAcmdStart_within {m : Nat} {s0 s : State} {m_ : Fin 8} (hm : Sub 0x200400000000000000000000000000000000000000000000101001 m)
    (h : Within m s0 s) : WithinO m s0 (execMotAcmdStart m_ s) := by
  unfold execMotAcmdStart
  repeat' (first
    | with_reducible assumption
    | (extract_lets +onlyGivenNames x; first | (refine Within.cut (m := m) (s := s0) x ?_ (fun h => ?_); subst x; rotate_left; clear_value x; rotate_right) | clear_value x | subst x)
    | with_reducible refine WithinO.next ?_
    | with_reducible refine fset_within (by with_reducible with_unfolding_all exact hm.reach (.inl (by simp only [MOT_EVENTS_CFG_REJ_row, MOT_ACMD_row, MOT_ACTL_EN_row, MOT_ASTATUS_STATE_row, MOT_ASTATUS_SEG_row]; rfl))) ?_
    | with_reducible refine setFlag_within (by with_reducible with_unfolding_all exact hm.reach (.inl (by simp only [MOT_EVENTS_CFG_REJ_row, MOT_ACMD_row, MOT_ACTL_EN_row, MOT_ASTATUS_STATE_row, MOT_ASTATUS_SEG_row]; rfl))) ?_
    | with_reducible refine onWrite_within (hm.up (by with_unfolding_all rfl)) (fun _ _ => ?_) ?_
    | with_reducible refine setAxis_within (hm.up (by with_unfolding_all rfl)) ?_
    | with_reducible refine startMove_within (hm.up (by with_unfolding_all rfl)) ?_
    | split)

theorem execMotAcmdStop_within {m : Nat} {s0 s : State} {m_ : Fin 8} (hm : Sub 0x600000000000000000000000000000000000000000000000101001 m)
    (h : Within m s0 s) : WithinO m s0 (execMotAcmdStop m_ s) := by
  unfold execMotAcmdStop
  repeat' (first
    | with_reducible assumption
    | (extract_lets +onlyGivenNames x; first | (refine Within.cut (m := m) (s := s0) x ?_ (fun h => ?_); subst x; rotate_left; clear_value x; rotate_right) | clear_value x | subst x)
    | with_reducible refine WithinO.next ?_
    | with_reducible refine onWrite_within (hm.up (by with_unfolding_all rfl)) (fun _ _ => ?_) ?_
    | with_reducible refine dropProfile_within (hm.up (by with_unfolding_all rfl)) ?_
    | with_reducible refine controlledStop_within (hm.up (by with_unfolding_all rfl)) ?_)

theorem execMotAcmdImmediateStop_within {m : Nat} {s0 s : State} {m_ : Fin 8} (hm : Sub 0x81100002600100000000000000000000000088000000000000001001381901 m)
    (h : Within m s0 s) : WithinO m s0 (execMotAcmdImmediateStop m_ s) := by
  unfold execMotAcmdImmediateStop
  repeat' (first
    | with_reducible assumption
    | (extract_lets +onlyGivenNames x; first | (refine Within.cut (m := m) (s := s0) x ?_ (fun h => ?_); subst x; rotate_left; clear_value x; rotate_right) | clear_value x | subst x)
    | with_reducible refine WithinO.next ?_
    | with_reducible refine onWrite_within (hm.up (by with_unfolding_all rfl)) (fun _ _ => ?_) ?_
    | with_reducible refine dropProfile_within (hm.up (by with_unfolding_all rfl)) ?_
    | with_reducible refine holdCheck_within (hm.up (by with_unfolding_all rfl)) ?_
    | with_reducible refine stopNow_within (hm.up (by with_unfolding_all rfl)) ?_)

theorem execIrefStandby_within {m : Nat} {s0 s : State} {m_ : Fin 8} (hm : Sub 0x100000 m)
    (h : Within m s0 s) : WithinO m s0 (execIrefStandby m_ s) := by
  unfold execIrefStandby
  repeat' (first
    | with_reducible assumption
    | (extract_lets +onlyGivenNames x; first | clear_value x | subst x)
    | with_reducible refine WithinO.next ?_
    | with_reducible refine setAxis_within (hm.up (by with_unfolding_all rfl)) ?_
    | split)

theorem faultStop_within {m : Nat} {s0 s : State} {m_ : Nat} (hm : Sub 0x2200000000000000000000000000000000000000000000000100000 m)
    (h : Within m s0 s) : Within m s0 (faultStop m_ s) := by
  unfold faultStop
  repeat' (first
    | with_reducible assumption
    | (extract_lets +onlyGivenNames x; first | (refine Within.cut (m := m) (s := s0) x ?_ (fun h => ?_); subst x; rotate_left; clear_value x; rotate_right) | clear_value x | subst x)
    | with_reducible refine fsets_nil ?_
    | with_reducible refine fsets_cons ?_
    | with_reducible refine fset_within (by with_reducible with_unfolding_all exact hm.reach (.inl (by simp only [MOT_ASTATUS_STATE_row, MOT_ASTATUS_REST_row, MOT_ASTATUS_MOVE_row, MOT_AVEL_VEL_row]; rfl))) ?_
    | with_reducible refine setAxis_within (hm.up (by with_unfolding_all rfl)) ?_)

theorem execAxisFault_within {m : Nat} {s0 s : State} {m_ : Fin 8} {drv : Bool} (hm : Sub 0x811000027805046400000083008000180000880000000000000110017bfb09 m)
    (h : Within m s0 s) : WithinO m s0 (execAxisFault m_ drv s) := by
  unfold execAxisFault
  repeat' (first
    | with_reducible assumption
    | (extract_lets +onlyGivenNames x; first | (refine Within.cut (m := m) (s := s0) x ?_ (fun h => ?_); subst x; rotate_left; clear_value x; rotate_right) | clear_value x | subst x)
    | with_reducible refine WithinO.next ?_
    | with_reducible refine setFlag_within (by with_reducible with_unfolding_all exact hm.reach (.inl (by simp only [MOT_EVENTS_AXIS_FAULT_row, MOT_AEVENTS_DRV_FAULT_row, MOT_AEVENTS_FE_FAULT_row, MOT_ACTL_FE_ACT_row]; rfl))) ?_
    | with_reducible refine faultStop_within (hm.up (by with_unfolding_all rfl)) ?_
    | with_reducible refine report_within (hm.up (by with_unfolding_all rfl)) (by with_reducible with_unfolding_all exact hm.reach (.inl (by simp only [MOT_EVENTS_AXIS_FAULT_row, MOT_AEVENTS_DRV_FAULT_row, MOT_AEVENTS_FE_FAULT_row, MOT_ACTL_FE_ACT_row]; rfl))) ?_
    | with_reducible refine haltCause_within (hm.up (by with_unfolding_all rfl)) ?_
    | with_reducible refine holdCheck_within (hm.up (by with_unfolding_all rfl)) ?_
    | split)

theorem execXsyncEdge_within {m : Nat} {s0 s : State} {falling : Bool} (hm : Sub 0x201040014000000040004000000000004c038000088000000000000020003387829 m)
    (h : Within m s0 s) : WithinO m s0 (execXsyncEdge falling s) := by
  unfold execXsyncEdge
  repeat' (first
    | with_reducible assumption
    | (extract_lets +onlyGivenNames x; first | (refine Within.cut (m := m) (s := s0) x ?_ (fun h => ?_); subst x; rotate_left; clear_value x; rotate_right) | clear_value x | subst x)
    | with_reducible refine WithinO.next ?_
    | with_reducible refine forwardCause_within (hm.up (by with_unfolding_all rfl)) ?_
    | with_reducible refine xsyncCause_within (hm.up (by with_unfolding_all rfl)) ?_
    | split)

end Sys2Proof.Machine
end

