-- ==== Sys2Proof/Laws/Pmc.lean ====
section
/-! SUPPORT. What each definition of Machine/Pmc.lean can change, said once: the set of parts after Sub (Laws/Within.lean gives
the bits), the queue never, and the invariants kept. -/

set_option linter.unusedSimpArgs false

namespace Sys2Proof.Machine

theorem pmc_high {a b : Nat} (h : a < 2 ^ 32) (k : b < 2 ^ 32) : a * 2 ^ 32 + b < 2 ^ 64 := by omega

theorem pmc_high16 {a b : Nat} (h : a < 2 ^ 16) (k : b < 2 ^ 32) : a * 2 ^ 32 + b < 2 ^ 48 := by omega

theorem pmcSnapshot_within {m : Nat} {s0 s : State} (hm : Sub 0x1000 m)
    (h : Within m s0 s) : Within m s0 (pmcSnapshot s) := by
  unfold pmcSnapshot
  repeat' (first
    | with_reducible assumption
    | (extract_lets +onlyGivenNames x; subst x)
    | split
    | with_reducible refine Within.set_pmc (by with_unfolding_all exact fun c => c) (hm.bit (by with_unfolding_all rfl)) ?_)

theorem execPmcSnap_within {m : Nat} {s0 s : State} (hm : Sub 0x1001 m)
    (h : Within m s0 s) : WithinO m s0 (execPmcSnap s) := by
  unfold execPmcSnap
  repeat' (first
    | with_reducible assumption
    | (extract_lets +onlyGivenNames x; first | (refine Within.cut (m := m) (s := s0) x ?_ (fun h => ?_); subst x; rotate_left; clear_value x; rotate_right) | clear_value x | subst x)
    | with_reducible refine WithinO.next ?_
    | with_reducible refine onWriteThen_within (hm.up (by with_unfolding_all rfl)) (fun _ _ => ?_) ?_
    | with_reducible refine pmcSnapshot_within (hm.up (by with_unfolding_all rfl)) ?_)

theorem execPmcFreeze_within {m : Nat} {s0 s : State} {b : Bool} (hm : Sub 0x800000000000000000000001001 m)
    (h : Within m s0 s) : WithinO m s0 (execPmcFreeze b s) := by
  unfold execPmcFreeze
  repeat' (first
    | with_reducible assumption
    | (extract_lets +onlyGivenNames x; first | (refine Within.cut (m := m) (s := s0) x ?_ (fun h => ?_); subst x; rotate_left; clear_value x; rotate_right) | clear_value x | subst x)
    | with_reducible refine WithinO.next ?_
    | with_reducible refine setFlag_within (by with_reducible with_unfolding_all exact hm.reach (.inl (by simp only [PMC_CTL_row, PMC_CTL_FREEZE_row]; rfl))) ?_
    | with_reducible refine onWriteThen_within (hm.up (by with_unfolding_all rfl)) (fun _ _ => ?_) ?_)

theorem execPmcClr_within {m : Nat} {s0 s : State} (hm : Sub 0x1001 m)
    (h : Within m s0 s) : WithinO m s0 (execPmcClr s) := by
  unfold execPmcClr
  repeat' (first
    | with_reducible assumption
    | (extract_lets +onlyGivenNames x; subst x)
    | with_reducible refine WithinO.next ?_
    | with_reducible refine onWrite_within (hm.up (by with_unfolding_all rfl)) (fun _ _ => ?_) ?_
    | split
    | with_reducible refine Within.set_pmc (by with_unfolding_all exact fun c => ⟨c.1, Nat.two_pow_pos _, fun _ q => absurd q List.not_mem_nil, c.2.2.2⟩) (hm.bit (by with_unfolding_all rfl)) ?_)

theorem execPmcLoadLow_within {m : Nat} {s0 s : State} {k : Fin 9} {v : Word} (hm : Sub 0x1001 m)
    (h : Within m s0 s) : WithinO m s0 (execPmcLoadLow k v s) := by
  unfold execPmcLoadLow
  repeat' (first
    | with_reducible assumption
    | (extract_lets +onlyGivenNames x; subst x)
    | with_reducible refine WithinO.next ?_
    | with_reducible refine onWrite_within (hm.up (by with_unfolding_all rfl)) (fun _ _ => ?_) ?_
    | split
    | with_reducible refine Within.set_pmc (by with_unfolding_all exact fun c => ⟨c.1, c.2.1, c.2.2.1, nset_bound c.2.2.2 (BitVec.isLt _)⟩) (hm.bit (by with_unfolding_all rfl)) ?_)

theorem execPmcLoadHigh_within {m : Nat} {s0 s : State} {k : Fin 9} {v : Word} (hm : Sub 0x1001 m)
    (h : Within m s0 s) : WithinO m s0 (execPmcLoadHigh k v s) := by
  unfold execPmcLoadHigh
  repeat' (first
    | with_reducible assumption
    | (extract_lets +onlyGivenNames x; first | (refine Within.cut (m := m) (s := s0) x ?_ (fun h => ?_); subst x; rotate_left; clear_value x; rotate_right) | skip)
    | with_reducible refine WithinO.next ?_
    | with_reducible refine onWrite_within (hm.up (by with_unfolding_all rfl)) (fun _ _ => ?_) ?_
    | split
    | with_reducible refine Within.set_pmc (by first | with_unfolding_all exact fun c => ⟨c.1, pmc_high (BitVec.isLt _) (nget_bound c.2.2.2 (Nat.two_pow_pos _)), c.2.2.1, c.2.2.2⟩ | with_unfolding_all exact fun c => ⟨c.1, c.2.1, nset_bound c.2.2.1 (pmc_high16 (Nat.mod_lt _ (Nat.two_pow_pos _)) (nget_bound c.2.2.2 (Nat.two_pow_pos _))), c.2.2.2⟩) (hm.bit (by with_unfolding_all rfl)) ?_)

theorem execPmcOverflow_within {m : Nat} {s0 s : State} {k : Fin 8} (hm : Sub 0x1088000000000000000001001801 m)
    (h : Within m s0 s) : WithinO m s0 (execPmcOverflow k s) := by
  unfold execPmcOverflow
  repeat' (first
    | with_reducible assumption
    | (extract_lets +onlyGivenNames x; first | (refine Within.cut (m := m) (s := s0) x ?_ (fun h => ?_); subst x; rotate_left; clear_value x; rotate_right) | subst x)
    | with_reducible refine WithinO.next ?_
    | with_reducible refine fset_within (by with_reducible with_unfolding_all exact hm.reach (.inl (by simp only [PMC_OVF_OVF_row, PMC_OVFEN_OVFEN_row]; rfl))) ?_
    | with_reducible refine whenS_within (fun _ _ => ?_) ?_
    | with_reducible refine raise_within (hm.up (by with_unfolding_all rfl)) ?_
    | split
    | with_reducible refine Within.set_pmc (by with_unfolding_all exact fun c => c) (hm.bit (by with_unfolding_all rfl)) ?_)

end Sys2Proof.Machine
end

