-- ==== Sys2Proof/Laws/Power.lean ====
section
/-! SUPPORT. What each definition of Machine/Power.lean can change, said once: the set of parts after Sub (Laws/Within.lean gives
the bits), the queue never, and the invariants kept. -/

set_option linter.unusedSimpArgs false

namespace Sys2Proof.Machine

theorem powerOff_within {m : Nat} {s0 s : State} (hm : Sub 0x400904418400000000000000000000000000000000000000000000000200000000000087ffff89 m)
    (h : Within m s0 s) : Within m s0 (powerOff s) := by
  unfold powerOff
  repeat' (first
    | with_reducible assumption
    | (extract_lets +onlyGivenNames x; first | (refine Within.cut (m := m) (s := s0) x ?_ (fun h => ?_); subst x; rotate_left; clear_value x; rotate_right) | clear_value x)
    | with_reducible refine setRaw_within (by with_reducible with_unfolding_all exact hm.reach (.inl (by simp only [HOST_STATUS_row]; rfl))) ?_
    | with_reducible refine startReset_within (hm.up (by with_unfolding_all rfl)) ?_
    | split
    | with_reducible refine Within.set_mode (hm.bit (by with_unfolding_all rfl)) ?_
    | with_reducible refine Within.set_start (hm.bit (by with_unfolding_all rfl)) ?_
    | with_reducible refine Within.set_pwr (hm.bit (by with_unfolding_all rfl)) ?_)

theorem execPorConditionsMet_within {m : Nat} {s0 s : State} (hm : Sub 0x40000 m)
    (h : Within m s0 s) : WithinO m s0 (execPorConditionsMet s) := by
  unfold execPorConditionsMet
  repeat' (first
    | with_reducible assumption
    | (extract_lets +onlyGivenNames x; first | clear_value x | subst x)
    | with_reducible refine WithinO.next ?_
    | split
    | with_reducible refine Within.set_pwr (hm.bit (by with_unfolding_all rfl)) ?_)

theorem overVoltage_within {m : Nat} {s0 s : State} {rail : Nat} (hm : Sub 0x811000023800046400000083008000180000880000000030000110017bfb09 m)
    (h : Within m s0 s) : Within m s0 (overVoltage rail s) := by
  unfold overVoltage
  repeat' (first
    | with_reducible assumption
    | (extract_lets +onlyGivenNames x; first | (refine Within.cut (m := m) (s := s0) x ?_ (fun h => ?_); subst x; rotate_left; clear_value x; rotate_right) | clear_value x | subst x)
    | with_reducible refine fset_within (by with_reducible with_unfolding_all exact hm.reach (.inl (by simp only [PWR_STATUS_RAIL_OK_row, PWR_EVENTS_OV_row]; rfl))) ?_
    | with_reducible refine haltCause_within (hm.up (by with_unfolding_all rfl)) ?_
    | with_reducible refine report_within (hm.up (by with_unfolding_all rfl)) (by with_reducible with_unfolding_all exact hm.reach (.inl (by simp only [PWR_STATUS_RAIL_OK_row, PWR_EVENTS_OV_row]; rfl))) ?_)

theorem execPowerOnResetRelease_within {m : Nat} {s0 s : State} {straps : Word} {bankFault : List (Fin 8)} (hm : Sub 0x4009044184010400811000023800046400000087108000180000880000000130080bd087ffffa9 m)
    (h : Within m s0 s) : WithinO m s0 (execPowerOnResetRelease straps bankFault s) := by
  unfold execPowerOnResetRelease
  repeat' (first
    | with_reducible assumption
    | (extract_lets +onlyGivenNames x; first | (refine Within.cut (m := m) (s := s0) x ?_ (fun h => ?_); subst x; rotate_left; clear_value x; rotate_right) | clear_value x | subst x)
    | with_reducible refine WithinO.next ?_
    | with_reducible refine setRaw_within (by with_reducible with_unfolding_all exact hm.reach (.inl (by simp only [SYS_STRAP_row, PWR_RSTCAUSE_UV_row]; rfl))) ?_
    | with_reducible refine fset_within (by with_reducible with_unfolding_all exact hm.reach (.inl (by simp only [SYS_STRAP_row, PWR_RSTCAUSE_UV_row]; rfl))) ?_
    | with_reducible refine beginStart_within (hm.up (by with_unfolding_all rfl)) ?_
    | with_reducible refine overVoltage_within (hm.up (by with_unfolding_all rfl)) ?_
    | split
    | with_reducible refine Within.set_pwr (hm.bit (by with_unfolding_all rfl)) ?_)

theorem execReset_within {m : Nat} {s0 s : State} {cause : ResetCause} (hm : Sub 0x400904418400000000000000000000000000000000000000000000000200010000000087ffff89 m)
    (h : Within m s0 s) : WithinO m s0 (execReset cause s) := by
  unfold execReset
  repeat' (first
    | with_reducible assumption
    | (extract_lets +onlyGivenNames x; first | (refine Within.cut (m := m) (s := s0) x ?_ (fun h => ?_); subst x; rotate_left; clear_value x; rotate_right) | clear_value x | subst x)
    | with_reducible refine WithinO.next ?_
    | with_reducible refine fset_within (by with_reducible with_unfolding_all exact hm.reach (.inl (by simp only [PWR_RSTCAUSE_UV_row, PWR_RSTCAUSE_PIN_row]; rfl))) ?_
    | with_reducible refine setFlag_within (by with_reducible with_unfolding_all exact hm.reach (.inl (by simp only [PWR_RSTCAUSE_UV_row, PWR_RSTCAUSE_PIN_row]; rfl))) ?_
    | with_reducible refine whenS_within (fun _ _ => ?_) ?_
    | with_reducible refine powerOff_within (hm.up (by with_unfolding_all rfl)) ?_
    | split
    | with_reducible refine Within.set_pwr (hm.bit (by with_unfolding_all rfl)) ?_)

theorem execJtagExtest_within {m : Nat} {s0 s : State} {on : Bool} (hm : Sub 0x400904418400000000000000000000000000000000000000000000000200000000000087ffff89 m)
    (h : Within m s0 s) : WithinO m s0 (execJtagExtest on s) := by
  unfold execJtagExtest
  repeat' (first
    | with_reducible assumption
    | (extract_lets +onlyGivenNames x; first | (refine Within.cut (m := m) (s := s0) x ?_ (fun h => ?_); subst x; rotate_left; clear_value x; rotate_right) | clear_value x | subst x)
    | with_reducible refine WithinO.next ?_
    | with_reducible refine powerOff_within (hm.up (by with_unfolding_all rfl)) ?_
    | split
    | with_reducible refine Within.set_pwr (hm.bit (by with_unfolding_all rfl)) ?_)

theorem execTmodeHigh_within {m : Nat} {s0 s : State} {on : Bool} (hm : Sub 0x400904418400000000000000000000000000000000000000000000000200000000000087ffff89 m)
    (h : Within m s0 s) : WithinO m s0 (execTmodeHigh on s) := by
  unfold execTmodeHigh
  repeat' (first
    | with_reducible assumption
    | (extract_lets +onlyGivenNames x; first | (refine Within.cut (m := m) (s := s0) x ?_ (fun h => ?_); subst x; rotate_left; clear_value x; rotate_right) | clear_value x | subst x)
    | with_reducible refine WithinO.next ?_
    | with_reducible refine powerOff_within (hm.up (by with_unfolding_all rfl)) ?_
    | split
    | with_reducible refine Within.set_pwr (hm.bit (by with_unfolding_all rfl)) ?_)

theorem execTrstNLow_within {m : Nat} {s0 s : State} (hm : Sub 0x40000 m)
    (h : Within m s0 s) : WithinO m s0 (execTrstNLow s) := by
  unfold execTrstNLow
  repeat' (first
    | with_reducible assumption
    | (extract_lets +onlyGivenNames x; first | clear_value x | subst x)
    | with_reducible refine WithinO.next ?_
    | split
    | with_reducible refine Within.set_pwr (hm.bit (by with_unfolding_all rfl)) ?_)

theorem execPwrBudgetWrite_within {m : Nat} {s0 s : State} {peak : Bool} {v : Word} (hm : Sub 0x60000000000041001 m)
    (h : Within m s0 s) : WithinO m s0 (execPwrBudgetWrite peak v s) := by
  unfold execPwrBudgetWrite
  repeat' (first
    | with_reducible assumption
    | (extract_lets +onlyGivenNames x; first | (refine Within.cut (m := m) (s := s0) x ?_ (fun h => ?_); subst x; rotate_left; clear_value x; rotate_right) | subst x)
    | with_reducible refine WithinO.next ?_
    | with_reducible refine setRaw_within (by with_reducible first | exact Reach.ite hm (.of PWR_PEAK_row (by with_unfolding_all rfl)) (.of PWR_AVG_row (by with_unfolding_all rfl)) | with_unfolding_all exact hm.reach (.inl (by simp only [PWR_PEAK_row, PWR_AVG_row]; rfl))) ?_
    | with_reducible refine onWrite_within (hm.up (by with_unfolding_all rfl)) (fun _ _ => ?_) ?_
    | split
    | dsimp -zeta only
    | with_reducible refine Within.set_pwr (hm.bit (by with_unfolding_all rfl)) ?_)

theorem paceFree_within {m : Nat} {s0 s : State} (hm : Sub 0x81100000200100000000000000000000000088000000000000001001381901 m)
    (h : Within m s0 s) : Within m s0 (paceFree s) := by
  unfold paceFree
  repeat' (first
    | with_reducible assumption
    | (extract_lets +onlyGivenNames x; first | (refine Within.cut (m := m) (s := s0) x ?_ (fun h => ?_); subst x; rotate_left; clear_value x; rotate_right) | clear_value x | subst x)
    | with_reducible refine fset_within (by with_reducible with_unfolding_all exact hm.reach (.inl (by simp only [MOT_STATUS_PSTATE_row, MOT_PACE_RESUME_row, MOT_CTL_PACE_MODE_row, MOT_PACE_HOLD_row]; rfl))) ?_
    | with_reducible refine holdEnd_within (hm.up (by with_unfolding_all rfl)) ?_
    | split
    | with_reducible refine Within.set_mot (hm.bit (by with_unfolding_all rfl)) ?_)

theorem setLevel_within {m : Nat} {s0 s : State} {l : Nat} {kp : Nat} {fc : Nat} (hm : Sub 0x811000002081000000600000100000000000880000000030000010013c1901 m)
    (h : Within m s0 s) : Within m s0 (setLevel l kp fc s) := by
  unfold setLevel
  repeat' (first
    | with_reducible assumption
    | (extract_lets +onlyGivenNames x; first | (refine Within.cut (m := m) (s := s0) x ?_ (fun h => ?_); subst x; rotate_left; clear_value x; rotate_right) | clear_value x | subst x)
    | with_reducible refine fsets_nil ?_
    | with_reducible refine fsets_cons ?_
    | with_reducible refine fset_within (by with_reducible with_unfolding_all exact hm.reach (.inl (by simp only [PWR_STATUS_LEVEL_row, SLC_STATUS_SHED_row, MOT_PANTRY_KP_row, MOT_PANTRY_REFUSE_row, PWR_EVENTS_SHED_CHG_row, PWR_STATUS_WARN_row]; rfl))) ?_
    | with_reducible refine whenS_within (fun _ _ => ?_) ?_
    | with_reducible refine deferFollow_within (hm.up (by with_unfolding_all rfl)) ?_
    | with_reducible refine report_within (hm.up (by with_unfolding_all rfl)) (by with_reducible with_unfolding_all exact hm.reach (.inl (by simp only [PWR_STATUS_LEVEL_row, SLC_STATUS_SHED_row, MOT_PANTRY_KP_row, MOT_PANTRY_REFUSE_row, PWR_EVENTS_SHED_CHG_row, PWR_STATUS_WARN_row]; rfl))) ?_
    | with_reducible refine paceFree_within (hm.up (by with_unfolding_all rfl)) ?_
    | split
    | with_reducible refine Within.set_pwr (hm.bit (by with_unfolding_all rfl)) ?_)

theorem warnPace_within {m : Nat} {s0 s : State} (hm : Sub 0x81100000200100000000000000000000000088000000000000001001381901 m)
    (h : Within m s0 s) : Within m s0 (warnPace s) := by
  unfold warnPace
  repeat' (first
    | with_reducible assumption
    | (extract_lets +onlyGivenNames x; first | (refine Within.cut (m := m) (s := s0) x ?_ (fun h => ?_); subst x; rotate_left; clear_value x; rotate_right) | clear_value x | subst x)
    | with_reducible refine fset_within (by with_reducible with_unfolding_all exact hm.reach (.inl (by simp only [MOT_STATUS_PSTATE_row, MOT_CTL_PACE_MODE_row]; rfl))) ?_
    | with_reducible refine whenS_within (fun _ _ => ?_) ?_
    | with_reducible refine holdCheck_within (hm.up (by with_unfolding_all rfl)) ?_
    | with_reducible refine admStopCheck_within (hm.up (by with_unfolding_all rfl)) ?_
    | split
    | with_reducible refine Within.set_mot (hm.bit (by with_unfolding_all rfl)) ?_)

theorem execWarn_within {m : Nat} {s0 s : State} {rails : BitVec 10} {vmon : Nat} (hm : Sub 0x8110000020810460006000001000000000008800000000f0000010017c3901 m)
    (h : Within m s0 s) : WithinO m s0 (execWarn rails vmon s) := by
  unfold execWarn
  repeat' (first
    | with_reducible assumption
    | (extract_lets +onlyGivenNames x; first | (refine Within.cut (m := m) (s := s0) x ?_ (fun h => ?_); subst x; rotate_left; clear_value x; rotate_right) | clear_value x | subst x)
    | with_reducible refine WithinO.next ?_
    | with_reducible refine setFlag_within (by with_reducible with_unfolding_all exact hm.reach (.inl (by simp only [PWR_VMON_WARN_PCT_row, PWR_STATUS_RAIL_OK_row, PWR_VMEAS_VMON_row, PWR_STATUS_WARN_row, PWR_EVENTS_WARN_row, PWR_VMEAS_row, PWR_SURV_row, MOT_PANTRY_KP_row, PWR_PLAN_row]; rfl))) ?_
    | with_reducible refine fsets_nil ?_
    | with_reducible refine fsets_cons ?_
    | with_reducible refine fset_within (by with_reducible with_unfolding_all exact hm.reach (.inl (by simp only [PWR_VMON_WARN_PCT_row, PWR_STATUS_RAIL_OK_row, PWR_VMEAS_VMON_row, PWR_STATUS_WARN_row, PWR_EVENTS_WARN_row, PWR_VMEAS_row, PWR_SURV_row, MOT_PANTRY_KP_row, PWR_PLAN_row]; rfl))) ?_
    | with_reducible refine foldl_within (fun _ _ _ => ?_) ?_
    | with_reducible refine report_within (hm.up (by with_unfolding_all rfl)) (by with_reducible with_unfolding_all exact hm.reach (.inl (by simp only [PWR_VMON_WARN_PCT_row, PWR_STATUS_RAIL_OK_row, PWR_VMEAS_VMON_row, PWR_STATUS_WARN_row, PWR_EVENTS_WARN_row, PWR_VMEAS_row, PWR_SURV_row, MOT_PANTRY_KP_row, PWR_PLAN_row]; rfl))) ?_
    | with_reducible refine setLevel_within (hm.up (by with_unfolding_all rfl)) ?_
    | with_reducible refine abandonSave_within (hm.up (by with_unfolding_all rfl)) ?_
    | with_reducible refine warnPace_within (hm.up (by with_unfolding_all rfl)) ?_
    | split
    | with_reducible refine Within.set_pwr (hm.bit (by with_unfolding_all rfl)) ?_)

theorem execWarnClear_within {m : Nat} {s0 s : State} {vmon : Nat} (hm : Sub 0x8800000000b000000001041a01 m)
    (h : Within m s0 s) : WithinO m s0 (execWarnClear vmon s) := by
  unfold execWarnClear
  repeat' (first
    | with_reducible assumption
    | (extract_lets +onlyGivenNames x; first | (refine Within.cut (m := m) (s := s0) x ?_ (fun h => ?_); subst x; rotate_left; clear_value x; rotate_right) | clear_value x | subst x)
    | with_reducible refine WithinO.next ?_
    | with_reducible refine fsets_nil ?_
    | with_reducible refine fsets_cons ?_
    | with_reducible refine fset_within (by with_reducible with_unfolding_all exact hm.reach (.inl (by simp only [PWR_STATUS_WARN_row, PWR_VMON_WARN_PCT_row, PWR_VMON_HYST_PCT_row, PWR_STATUS_RAIL_OK_row, PWR_VMEAS_VMON_row, PWR_EVENTS_WARN_CLR_row, PWR_AVG_row]; rfl))) ?_
    | with_reducible refine report_within (hm.up (by with_unfolding_all rfl)) (by with_reducible with_unfolding_all exact hm.reach (.inl (by simp only [PWR_STATUS_WARN_row, PWR_VMON_WARN_PCT_row, PWR_VMON_HYST_PCT_row, PWR_STATUS_RAIL_OK_row, PWR_VMEAS_VMON_row, PWR_EVENTS_WARN_CLR_row, PWR_AVG_row]; rfl))) ?_
    | split
    | with_reducible refine Within.set_pwr (hm.bit (by with_unfolding_all rfl)) ?_
    | with_reducible refine Within.set_start (hm.bit (by with_unfolding_all rfl)) ?_)

theorem execRailOvervoltage_within {m : Nat} {s0 s : State} {rail : Fin 10} (hm : Sub 0x811000023800046400000083008000180000880000000030000110017bfb09 m)
    (h : Within m s0 s) : WithinO m s0 (execRailOvervoltage rail s) := by
  unfold execRailOvervoltage
  repeat' (first
    | with_reducible assumption
    | (extract_lets +onlyGivenNames x; first | (refine Within.cut (m := m) (s := s0) x ?_ (fun h => ?_); subst x; rotate_left; clear_value x; rotate_right) | clear_value x | subst x)
    | with_reducible refine WithinO.next ?_
    | with_reducible refine overVoltage_within (hm.up (by with_unfolding_all rfl)) ?_
    | split)

theorem execBandgapCheck_within {m : Nat} {s0 s : State} {good : Bool} (hm : Sub 0x88000000003000000001001801 m)
    (h : Within m s0 s) : WithinO m s0 (execBandgapCheck good s) := by
  unfold execBandgapCheck
  repeat' (first
    | with_reducible assumption
    | (extract_lets +onlyGivenNames x; first | (refine Within.cut (m := m) (s := s0) x ?_ (fun h => ?_); subst x; rotate_left; clear_value x; rotate_right) | clear_value x | subst x)
    | with_reducible refine WithinO.next ?_
    | with_reducible refine setFlag_within (by with_reducible with_unfolding_all exact hm.reach (.inl (by simp only [PWR_STATUS_BG_OK_row, PWR_EVENTS_BG_FAULT_row]; rfl))) ?_
    | with_reducible refine report_within (hm.up (by with_unfolding_all rfl)) (by with_reducible with_unfolding_all exact hm.reach (.inl (by simp only [PWR_STATUS_BG_OK_row, PWR_EVENTS_BG_FAULT_row]; rfl))) ?_
    | split)

theorem execDieTempCheck_within {m : Nat} {s0 s : State} {temp : Int} (hm : Sub 0x811000023800046400000083008000180000880000000030000110017bfb09 m)
    (h : Within m s0 s) : WithinO m s0 (execDieTempCheck temp s) := by
  unfold execDieTempCheck
  repeat' (first
    | with_reducible assumption
    | (extract_lets +onlyGivenNames x; first | (refine Within.cut (m := m) (s := s0) x ?_ (fun h => ?_); subst x; rotate_left; clear_value x; rotate_right) | clear_value x | subst x)
    | with_reducible refine WithinO.next ?_
    | with_reducible refine setFlag_within (by with_reducible with_unfolding_all exact hm.reach (.inl (by simp only [PWR_STATUS_TJ_HIGH_row, PWR_EVENTS_TJ_HIGH_row]; rfl))) ?_
    | with_reducible refine report_within (hm.up (by with_unfolding_all rfl)) (by with_reducible with_unfolding_all exact hm.reach (.inl (by simp only [PWR_STATUS_TJ_HIGH_row, PWR_EVENTS_TJ_HIGH_row]; rfl))) ?_
    | with_reducible refine haltCause_within (hm.up (by with_unfolding_all rfl)) ?_
    | split)

theorem overFollow_within {m : Nat} {s0 s : State} {b : Bool} (hm : Sub 0x88000000003000000001001801 m)
    (h : Within m s0 s) : Within m s0 (overFollow b s) := by
  unfold overFollow
  repeat' (first
    | with_reducible assumption
    | (extract_lets +onlyGivenNames x; first | (refine Within.cut (m := m) (s := s0) x ?_ (fun h => ?_); subst x; rotate_left; clear_value x; rotate_right) | clear_value x | subst x)
    | with_reducible refine setFlag_within (by with_reducible with_unfolding_all exact hm.reach (.inl (by simp only [PWR_STATUS_OVER_row, PWR_EVENTS_OVER_row]; rfl))) ?_
    | with_reducible refine report_within (hm.up (by with_unfolding_all rfl)) (by with_reducible with_unfolding_all exact hm.reach (.inl (by simp only [PWR_STATUS_OVER_row, PWR_EVENTS_OVER_row]; rfl))) ?_
    | split)

theorem budgetsFollow_within {m : Nat} {s0 s : State} (hm : Sub 0x40000 m)
    (h : Within m s0 s) : Within m s0 (budgetsFollow s) := by
  unfold budgetsFollow
  repeat' (first
    | with_reducible assumption
    | (extract_lets +onlyGivenNames x; first | (refine Within.cut (m := m) (s := s0) x ?_ (fun h => ?_); subst x; rotate_left; clear_value x; rotate_right) | clear_value x)
    | split
    | with_reducible refine Within.set_pwr (hm.bit (by with_unfolding_all rfl)) ?_)

theorem bookEpoch_within {m : Nat} {s0 s : State} {x : PantryMeas} (hm : Sub 0x3b800000000000040000 m)
    (h : Within m s0 s) : Within m s0 (bookEpoch x s) := by
  unfold bookEpoch
  repeat' (first
    | with_reducible assumption
    | (extract_lets +onlyGivenNames x; first | (refine Within.cut (m := m) (s := s0) x ?_ (fun h => ?_); subst x; rotate_left; clear_value x; rotate_right) | clear_value x | subst x)
    | with_reducible refine setRaw_within (by with_reducible with_unfolding_all exact hm.reach (.inl (by simp only [PWR_LCORE_row, PWR_LLAMP_row, PWR_LMOT_row, PWR_PEAKMEAS_row, PWR_ETOT_LO_row, PWR_ETOT_HI_row]; rfl))) ?_
    | with_reducible refine setPair_within (by with_reducible with_unfolding_all exact hm.reach (.inl (by simp only [PWR_LCORE_row, PWR_LLAMP_row, PWR_LMOT_row, PWR_PEAKMEAS_row, PWR_ETOT_LO_row, PWR_ETOT_HI_row]; rfl))) (by with_reducible with_unfolding_all exact hm.reach (.inl (by simp only [PWR_LCORE_row, PWR_LLAMP_row, PWR_LMOT_row, PWR_PEAKMEAS_row, PWR_ETOT_LO_row, PWR_ETOT_HI_row]; rfl))) ?_
    | with_reducible refine foldl_within (fun _ _ _ => ?_) ?_
    | split
    | with_reducible refine Within.set_pwr (hm.bit (by with_unfolding_all rfl)) ?_)

theorem planEpoch_within {m : Nat} {s0 s : State} {p : Plan} (hm : Sub 0x811000002081000000600000100000000000880000040030000010013c1901 m)
    (h : Within m s0 s) : Within m s0 (planEpoch p s) := by
  unfold planEpoch
  repeat' (first
    | with_reducible assumption
    | (extract_lets +onlyGivenNames x; first | (refine Within.cut (m := m) (s := s0) x ?_ (fun h => ?_); subst x; rotate_left; clear_value x; rotate_right) | clear_value x)
    | with_reducible refine setRaw_within (by with_reducible with_unfolding_all exact hm.reach (.inl (by simp only [PWR_PLAN_row]; rfl))) ?_
    | with_reducible refine setLevel_within (hm.up (by with_unfolding_all rfl)) ?_
    | with_reducible refine overFollow_within (hm.up (by with_unfolding_all rfl)) ?_
    | split
    | with_reducible refine Within.set_pwr (hm.bit (by with_unfolding_all rfl)) ?_)

theorem ledgerReport_within {m : Nat} {s0 s : State} {p : Plan} (hm : Sub 0x88000000000000000001041801 m)
    (h : Within m s0 s) : Within m s0 (ledgerReport p s) := by
  unfold ledgerReport
  repeat' (first
    | with_reducible assumption
    | (extract_lets +onlyGivenNames x; first | clear_value x | subst x)
    | with_reducible refine raise_within (hm.up (by with_unfolding_all rfl)) ?_
    | split
    | with_reducible refine Within.set_pwr (hm.bit (by with_unfolding_all rfl)) ?_)

theorem execPantryEpoch_within {m : Nat} {s0 s : State} {x : PantryMeas} (hm : Sub 0x8110000020810000006000001000000000008800003f8030000010013c1901 m)
    (h : Within m s0 s) : WithinO m s0 (execPantryEpoch x s) := by
  unfold execPantryEpoch
  repeat' (first
    | with_reducible assumption
    | (extract_lets +onlyGivenNames x; first | (refine Within.cut (m := m) (s := s0) x ?_ (fun h => ?_); subst x; rotate_left; clear_value x; rotate_right) | clear_value x | subst x)
    | with_reducible refine WithinO.next ?_
    | with_reducible refine budgetsFollow_within (hm.up (by with_unfolding_all rfl)) ?_
    | with_reducible refine bookEpoch_within (hm.up (by with_unfolding_all rfl)) ?_
    | with_reducible refine ledgerReport_within (hm.up (by with_unfolding_all rfl)) ?_
    | with_reducible refine planEpoch_within (hm.up (by with_unfolding_all rfl)) ?_
    | split)

end Sys2Proof.Machine
end

