-- ==== Sys2Proof/Laws/Taps.lean ====
section
/-! SUPPORT. What each definition of Machine/Taps.lean can change, said once: the set of parts after Sub (Laws/Within.lean gives
the bits), the queue never, and the invariants kept. -/

set_option linter.unusedSimpArgs false

namespace Sys2Proof.Machine

theorem execTapOvrRead_within {m : Nat} {s0 s : State} {t : Fin 256} (hm : Sub 0x2000000000000000000000000000000001041 m)
    (h : Within m s0 s) : WithinO m s0 (execTapOvrRead t s) := by
  unfold execTapOvrRead
  repeat' (first
    | with_reducible assumption
    | (extract_lets +onlyGivenNames x; first | (refine Within.cut (m := m) (s := s0) x ?_ (fun h => ?_); subst x; rotate_left; clear_value x; rotate_right) | clear_value x | subst x)
    | with_reducible refine WithinO.next ?_
    | with_reducible refine rcRead_within (hm.up (by with_unfolding_all rfl)) (by with_reducible with_unfolding_all exact hm.reach (.inl (by simp only [TAP_OVR_row]; rfl))) ?_)

theorem headOut_within {m : Nat} {s0 s : State} {h_ : Nat} (hm : Sub 0x10000000000000000000000000000000 m)
    (h : Within m s0 s) : Within m s0 (headOut h_ s) := by
  unfold headOut
  repeat' (first
    | with_reducible assumption
    | with_reducible refine setFlag_within (by with_reducible with_unfolding_all exact hm.reach (.inl (by simp only [HEAD_STATUS_CM_OUT_row, TAP_STATUS_CM_OUT_row]; rfl))) ?_)

theorem execCmAverageDone_within {m : Nat} {s0 s : State} {t : Fin 256} {mv : Nat} {last : Nat} (hm : Sub 0x4800010000000000000000000000000008000 m)
    (h : Within m s0 s) : WithinO m s0 (execCmAverageDone t mv last s) := by
  unfold execCmAverageDone
  repeat' (first
    | with_reducible assumption
    | (extract_lets +onlyGivenNames x; first | (refine Within.cut (m := m) (s := s0) x ?_ (fun h => ?_); subst x; rotate_left; clear_value x; rotate_right) | clear_value x | subst x)
    | with_reducible refine WithinO.next ?_
    | with_reducible refine fsets_nil ?_
    | with_reducible refine fsets_cons ?_
    | with_reducible refine fset_within (by with_reducible with_unfolding_all exact hm.reach (.inl (by simp only [TAP_CM_CM_MV_row, TAP_CM_VALID_row, TAP_STATUS_CM_OUT_row]; rfl))) ?_
    | with_reducible refine setTap_within (hm.up (by with_unfolding_all rfl)) ?_
    | with_reducible refine headOut_within (hm.up (by with_unfolding_all rfl)) ?_
    | split)

theorem execTapFixedWrite_within {m : Nat} {s0 s : State} {t : Fin 256} {clamp : Bool} {v : Word} (hm : Sub 0x1280000000000000000000000000000001001 m)
    (h : Within m s0 s) : WithinO m s0 (execTapFixedWrite t clamp v s) := by
  unfold execTapFixedWrite
  repeat' (first
    | with_reducible assumption
    | (extract_lets +onlyGivenNames x; subst x)
    | with_reducible refine WithinO.next ?_
    | with_reducible refine setFlag_within (by with_reducible first | exact Reach.ite hm (.of (TAP_CLAMP_row _) (by with_unfolding_all rfl)) (.of (TAP_CTL_row _) (by with_unfolding_all rfl)) | exact Reach.ite hm (.of (TAP_PGA_row _) (by with_unfolding_all rfl)) (.of (TAP_PHASE_row _) (by with_unfolding_all rfl)) | with_unfolding_all exact hm.reach (.inl (by simp only [TAP_CLAMP_row, TAP_CTL_row, TAP_EVENTS_WR_REJ_row]; rfl))) ?_
    | with_reducible refine onWrite_within (hm.up (by with_unfolding_all rfl)) (fun _ _ => ?_) ?_
    | with_reducible refine writeRw_within (by with_reducible first | exact Reach.ite hm (.of (TAP_CLAMP_row _) (by with_unfolding_all rfl)) (.of (TAP_CTL_row _) (by with_unfolding_all rfl)) | exact Reach.ite hm (.of (TAP_PGA_row _) (by with_unfolding_all rfl)) (.of (TAP_PHASE_row _) (by with_unfolding_all rfl)) | with_unfolding_all exact hm.reach (.inl (by simp only [TAP_CLAMP_row, TAP_CTL_row, TAP_EVENTS_WR_REJ_row]; rfl))) ?_
    | split)

theorem execTapLiveWrite_within {m : Nat} {s0 s : State} {t : Fin 256} {pga : Bool} {v : Word} (hm : Sub 0x40000000000d00000000000000000000000000000089009 m)
    (h : Within m s0 s) : WithinO m s0 (execTapLiveWrite t pga v s) := by
  unfold execTapLiveWrite
  repeat' (first
    | with_reducible assumption
    | (extract_lets +onlyGivenNames x; first | (refine Within.cut (m := m) (s := s0) x ?_ (fun h => ?_); subst x; rotate_left; clear_value x; rotate_right) | subst x)
    | with_reducible refine WithinO.next ?_
    | with_reducible refine setFlag_within (by with_reducible first | exact Reach.ite hm (.of (TAP_CLAMP_row _) (by with_unfolding_all rfl)) (.of (TAP_CTL_row _) (by with_unfolding_all rfl)) | exact Reach.ite hm (.of (TAP_PGA_row _) (by with_unfolding_all rfl)) (.of (TAP_PHASE_row _) (by with_unfolding_all rfl)) | with_unfolding_all exact hm.reach (.inl (by simp only [TAP_PGA_row, TAP_PHASE_row, TAP_STATUS_PEND_row]; rfl))) ?_
    | with_reducible refine onWrite_within (hm.up (by with_unfolding_all rfl)) (fun _ _ => ?_) ?_
    | with_reducible refine whiteRestartTap_within (hm.up (by with_unfolding_all rfl)) ?_
    | with_reducible refine writeRw_within (by with_reducible first | exact Reach.ite hm (.of (TAP_CLAMP_row _) (by with_unfolding_all rfl)) (.of (TAP_CTL_row _) (by with_unfolding_all rfl)) | exact Reach.ite hm (.of (TAP_PGA_row _) (by with_unfolding_all rfl)) (.of (TAP_PHASE_row _) (by with_unfolding_all rfl)) | with_unfolding_all exact hm.reach (.inl (by simp only [TAP_PGA_row, TAP_PHASE_row, TAP_STATUS_PEND_row]; rfl))) ?_
    | with_reducible refine setTap_within (hm.up (by with_unfolding_all rfl)) ?_
    | with_reducible refine activate_within (hm.up (by with_unfolding_all rfl)) ?_
    | split)

theorem execSlcCmwinWrite_within {m : Nat} {s0 s : State} {g : Fin 16} {v : Word} (hm : Sub 0x2000800010000000000000000000000000009001 m)
    (h : Within m s0 s) : WithinO m s0 (execSlcCmwinWrite g v s) := by
  unfold execSlcCmwinWrite
  repeat' (first
    | with_reducible assumption
    | (extract_lets +onlyGivenNames x; first | (refine Within.cut (m := m) (s := s0) x ?_ (fun h => ?_); subst x; rotate_left; clear_value x; rotate_right) | clear_value x | subst x)
    | with_reducible refine WithinO.next ?_
    | with_reducible refine setFlag_within (by with_reducible with_unfolding_all exact hm.reach (.inl (by simp only [SLC_CMWIN_row, SLC_CMWIN_CM_EN_row, TAP_STATUS_CM_OUT_row]; rfl))) ?_
    | with_reducible refine forN_within (fun _ _ _ => ?_) ?_
    | with_reducible refine whenS_within (fun _ _ => ?_) ?_
    | with_reducible refine onWrite_within (hm.up (by with_unfolding_all rfl)) (fun _ _ => ?_) ?_
    | with_reducible refine setTap_within (hm.up (by with_unfolding_all rfl)) ?_
    | with_reducible refine writeRw_within (by with_reducible with_unfolding_all exact hm.reach (.inl (by simp only [SLC_CMWIN_row, SLC_CMWIN_CM_EN_row, TAP_STATUS_CM_OUT_row]; rfl))) ?_
    | with_reducible refine headOut_within (hm.up (by with_unfolding_all rfl)) ?_)

end Sys2Proof.Machine
end

