-- ==== Sys2Proof/Laws/PerInstr.lean ====
section
/-! SUPPORT. What each command may change, one lemma per command: it answers a next state, and from there only the parts of its
row in Machine/Touch.lean differ, the invariants being kept. -/

namespace Sys2Proof.Laws

open Sys2Proof.Machine

set_option Elab.async false

theorem parts_tail {a off : Nat} {ps : List Part} (h : a &&& partsMask ps = a) : Sub a (partsMask (.reg (regRow off) :: ps)) := by
  intro k hk
  have e : (partsMask (.reg (regRow off) :: ps)).testBit k =
      ((0 ||| 1 <<< (Part.reg (regRow off)).bit ||| partsMask ps).testBit k) := rfl
  rw [e, Nat.testBit_or, Sub.of h k hk, Bool.or_true]

theorem parts_head {off : Nat} {ps : List Part} : Reach (partsMask (.reg (regRow off) :: ps)) off := by
  left
  have e : (partsMask (.reg (regRow off) :: ps)).testBit (32 + rowIdx off) =
      ((0 ||| 1 <<< (32 + rowIdx off) ||| partsMask ps).testBit (32 + rowIdx off)) := rfl
  rw [e, Nat.testBit_or, Nat.testBit_or, Nat.testBit_shiftLeft]
  simp

/-- Command c answers a next state in which only touches c differs. -/
def Touches.Statement (c : Instr) : Prop := ∀ s : State, WithinO (partsMask (touches c)) s (exec c s)

theorem touchMasks0 :
    (0xc00000000000000002041 &&& partsMask ([.agenda, .rdata, .host, .reg HOST_EVENTS, .reg HOST_ERRINFO]) = 0xc00000000000000002041) ∧
    (0x10c1 &&& partsMask (List.append readParts [.shadows]) = 0x10c1) ∧
    (0x8010c1 &&& partsMask (List.append readParts [.shadows, .aux]) = 0x8010c1) ∧
    (0x4000000000000000000000000000001041 &&& partsMask (List.append readParts [.reg (HEAD_TRIGSTAT 0)]) = 0x4000000000000000000000000000001041) ∧
    (0x2000000000000000000000000000000001041 &&& partsMask (List.append readParts [.reg (TAP_OVR 0)]) = 0x2000000000000000000000000000000001041) ∧
    (0x80000000000000000000000000000000000001041 &&& partsMask (List.append readParts [.reg PIPE_ECC_CE]) = 0x80000000000000000000000000000000000001041) ∧
    (0x100000000000000000000000000000000000001041 &&& partsMask (List.append readParts [.reg PIPE_ECC_UE]) = 0x100000000000000000000000000000000000001041) ∧
    (0x8000000000000000000000000000000000000001041 &&& partsMask (List.append readParts [.reg (PIPE_CLIP 0)]) = 0x8000000000000000000000000000000000000001041) ∧
    (0x80000000000000000000001041 &&& partsMask (List.append readParts [.reg (LND_LOST 0)]) = 0x80000000000000000000001041) ∧
    (0x100000000000000000000001041 &&& partsMask (List.append readParts [.reg LND_FLUSHCNT]) = 0x100000000000000000000001041) := by decide +kernel

theorem touchMasks1 :
    (0x4000000000000000000000000000000000000000000000001041 &&& partsMask (List.append readParts [.reg MOT_ADMSTAT]) = 0x4000000000000000000000000000000000000000000000001041) ∧
    (0x4000000000000000000000000000000000000000000000000000001041 &&& partsMask (List.append readParts [.reg (MOT_EERR 0)]) = 0x4000000000000000000000000000000000000000000000000000001041) ∧
    (0x200000000000000000000000000000000000000000000000000000000001041 &&& partsMask (List.append readParts [.reg LMP_CNT]) = 0x200000000000000000000000000000000000000000000000000000000001041) ∧
    (0x4000000000000000000000000000000000000000000000000000000000000000001041 &&& partsMask (List.append readParts [.reg AUX_DROPS]) = 0x4000000000000000000000000000000000000000000000000000000000000000001041) ∧
    (0x100000000000000000000000000000000000000000000000000000000000000000000001041 &&& partsMask (List.append readParts [.reg (AUX_WC_STAT 0)]) = 0x100000000000000000000000000000000000000000000000000000000000000000000001041) ∧
    (0x1000000000000000000000000000000000000000000000000000000000000000000000000001041 &&& partsMask (List.append readParts [.reg REC_REJ]) = 0x1000000000000000000000000000000000000000000000000000000000000000000000000001041) ∧
    (0x10000000000000000000000000000000000000000000000000000000000000001041 &&& partsMask (List.append readParts [.reg HWY_ERRCNT]) = 0x10000000000000000000000000000000000000000000000000000000000000001041) ∧
    (0x400000000000000000000000000000000000000000000000000000000000001041 &&& partsMask (List.append readParts [.reg LNK_ERRCNT]) = 0x400000000000000000000000000000000000000000000000000000000000001041) ∧
    (0x4000000000000000000000000000000000000000000000000000000000000000000000000000001041 &&& partsMask (List.append readParts [.reg CEL_CE]) = 0x4000000000000000000000000000000000000000000000000000000000000000000000000000001041) ∧
    (0x8000000000000000000000000000000000000000000000000000000000000000000000000000001041 &&& partsMask (List.append readParts [.reg CEL_UE]) = 0x8000000000000000000000000000000000000000000000000000000000000000000000000000001041) := by decide +kernel

theorem touchMasks2 :
    (0x4009044184010400811000023800046400000087108000180000880000000130080bd087ffffa9 &&& partsMask (List.append resetParts [.emits]) = 0x4009044184010400811000023800046400000087108000180000880000000130080bd087ffffa9) ∧
    (0x400904418400000000000000000000000000000000000000000000000200010000000087ffff89 &&& partsMask (resetParts) = 0x400904418400000000000000000000000000000000000000000000000200010000000087ffff89) ∧
    (0x8110000020810460006000001000000000008800000000f0000010017c3901 &&& partsMask (List.append limpParts [.host, .pwr, .att, .reg PWR_STATUS, .reg PWR_EVENTS, .reg PWR_VMON, .reg PWR_VMEAS, .reg SLC_STATUS, .reg SHD_STATUS, .reg SHD_EVENTS, .reg ATT_STATUS, .reg ATT_EVENTS, .reg ATT_JRNL, .reg MOT_STATUS, .reg MOT_PANTRY]) = 0x8110000020810460006000001000000000008800000000f0000010017c3901) ∧
    (0x8800000000b000000001041a01 &&& partsMask (List.append messageParts [.start, .pwr, .reg PWR_STATUS, .reg PWR_EVENTS, .reg PWR_VMEAS]) = 0x8800000000b000000001041a01) ∧
    (0x811000023800046400000083008000180000880000000030000110017bfb09 &&& partsMask (List.append haltParts [.reg PWR_STATUS, .reg PWR_EVENTS]) = 0x811000023800046400000083008000180000880000000030000110017bfb09) ∧
    (0x88000000003000000001001801 &&& partsMask (List.append messageParts [.reg PWR_STATUS, .reg PWR_EVENTS]) = 0x88000000003000000001001801) ∧
    (0x811000023800046400000083008000180000880000000030000110017bfb09 &&& partsMask (List.append haltParts [.reg PWR_STATUS, .reg PWR_EVENTS]) = 0x811000023800046400000083008000180000880000000030000110017bfb09) ∧
    (0x8110000020810000006000001000000000008800003f8030000010013c1901 &&& partsMask (List.append limpParts [.pwr, .reg PWR_STATUS, .reg PWR_EVENTS, .reg PWR_LCORE, .reg PWR_LLAMP, .reg PWR_LMOT, .reg PWR_PLAN, .reg PWR_PEAKMEAS, .reg PWR_ETOT_LO, .reg PWR_ETOT_HI, .reg SLC_STATUS, .reg SHD_STATUS, .reg SHD_EVENTS, .reg MOT_STATUS, .reg MOT_PANTRY]) = 0x8110000020810000006000001000000000008800003f8030000010013c1901) ∧
    (0x60000000000041001 &&& partsMask ([.agenda, .pmc, .pwr, .reg PWR_AVG, .reg PWR_PEAK]) = 0x60000000000041001) ∧
    (0x8000000000002 &&& partsMask ([.time, .reg CLK_STATUS]) = 0x8000000000002) := by decide +kernel

theorem touchMasks3 :
    (0x300040090441844104008110000238000ff40004879770f8001800008800000000000b0bd087ffffa9 &&& partsMask (List.append resetParts [.emits]) = 0x300040090441844104008110000238000ff40004879770f8001800008800000000000b0bd087ffffa9) ∧
    (0x600000000000000000000088000000000000000001401801 &&& partsMask (List.append messageParts [.att, .reg ATT_STATUS, .reg ATT_EVENTS]) = 0x600000000000000000000088000000000000000001401801) ∧
    (0x1000000000016c00000081100002380004640000008300800018000088000000000000011001fbfb09 &&& partsMask (List.append (List.append haltParts auxTriggerParts) [.reg AUX_DROPS, .reg CEL_STATUS]) = 0x1000000000016c00000081100002380004640000008300800018000088000000000000011001fbfb09) ∧
    (0x4009044184010400811000002000000000000084100000000000880000000000080ad087ffffa9 &&& partsMask (List.append resetParts [.emits]) = 0x4009044184010400811000002000000000000084100000000000880000000000080ad087ffffa9) ∧
    (0x4009044184010400811000002000000000000084100000000000880000000000080ad087ffffa9 &&& partsMask (List.append resetParts [.emits]) = 0x4009044184010400811000002000000000000084100000000000880000000000080ad087ffffa9) ∧
    (0x4009044184010400811000002000000000000084100000000000880000000000080ad087ffffa9 &&& partsMask (List.append resetParts [.emits]) = 0x4009044184010400811000002000000000000084100000000000880000000000080ad087ffffa9) ∧
    (0x4009044184010400811000002000000000000084100000000000880000000000080ad087ffffa9 &&& partsMask (List.append resetParts [.emits]) = 0x4009044184010400811000002000000000000084100000000000880000000000080ad087ffffa9) ∧
    (0x41000001101 &&& partsMask ([.agenda, .mode, .pmc, .reg SYS_EVENTS, .reg SYS_DIAG]) = 0x41000001101) ∧
    (0x81100000200004600000bf96708000000000880000000000000610017b5901 &&& partsMask (List.append retireParts [.heads, .pipe, .reg SYS_DIAG, .reg (SLC_GLAST 0), .reg PIPE_STATUS, .reg PIPE_EVENTS, .reg PIPE_LANEMAP, .reg PIPE_LANEFAIL, .reg PIPE_ECC_CE, .reg PIPE_ECC_UE, .reg PIPE_ECC_ROW, .reg (PIPE_SPROW 0)]) = 0x81100000200004600000bf96708000000000880000000000000610017b5901) ∧
    (0x2000001001 &&& partsMask ([.agenda, .pmc, .reg SYS_LOCK]) = 0x2000001001) := by decide +kernel

theorem touchMasks4 :
    (0x20000001001 &&& partsMask ([.agenda, .pmc, .reg SYS_LIMP]) = 0x20000001001) ∧
    (0x1001000001401 &&& partsMask ([.agenda, .fw, .pmc, .reg SYS_EVENTS, .reg SYS_FWSTAT]) = 0x1001000001401) ∧
    (0x1001000000400 &&& partsMask ([.fw, .reg SYS_EVENTS, .reg SYS_FWSTAT]) = 0x1001000000400) ∧
    (0x1001000001401 &&& partsMask ([.agenda, .fw, .pmc, .reg SYS_EVENTS, .reg SYS_FWSTAT]) = 0x1001000001401) ∧
    (0x1001000000400 &&& partsMask ([.fw, .reg SYS_EVENTS, .reg SYS_FWSTAT]) = 0x1001000000400) ∧
    (0x3001000000401 &&& partsMask ([.agenda, .fw, .reg SYS_EVENTS, .reg SYS_FWSTAT, .reg SYS_FWVER]) = 0x3001000000401) ∧
    (0x1001000001401 &&& partsMask ([.agenda, .fw, .pmc, .reg SYS_EVENTS, .reg SYS_FWSTAT]) = 0x1001000001401) ∧
    (0x400 &&& partsMask ([.fw]) = 0x400) ∧
    (0x40090441840104008110000238000464000000871080001800008800000000000b0bd087ffffa9 &&& partsMask (List.append resetParts [.emits]) = 0x40090441840104008110000238000464000000871080001800008800000000000b0bd087ffffa9) ∧
    (0x200000000000000000000000000000000000000000400400 &&& partsMask ([.fw, .att, .reg ATT_STATUS]) = 0x200000000000000000000000000000000000000000400400) := by decide +kernel

theorem touchMasks5 :
    (0x811000023800046400000083008000180000880006000000000110017bfb09 &&& partsMask (List.append haltParts [.reg HOST_STATUS, .reg HOST_EVENTS]) = 0x811000023800046400000083008000180000880006000000000110017bfb09) ∧
    (0x81100002380004640000008300800018000089f006000000000110017bfb09 &&& partsMask (List.append haltParts [.reg HOST_STATUS, .reg HOST_EVENTS, .reg (MSIX_ADDR_LO 0), .reg (MSIX_ADDR_HI 0), .reg (MSIX_DATA 0), .reg (MSIX_CTRL 0), .reg (MSIX_PBA 0)]) = 0x81100002380004640000008300800018000089f006000000000110017bfb09) ∧
    (0x200000008000000000000 &&& partsMask ([.reg CLK_STATUS, .reg HOST_STATUS]) = 0x200000008000000000000) ∧
    (0x200000000000000000000 &&& partsMask ([.reg HOST_STATUS]) = 0x200000000000000000000) ∧
    (0x811000023800046400000083008000180000880006000006180110017bfb09 &&& partsMask (List.append haltParts [.reg CLK_STATUS, .reg CLK_EVENTS, .reg CLK_FAULT_TIME_LO, .reg CLK_FAULT_TIME_HI, .reg HOST_STATUS, .reg HOST_EVENTS]) = 0x811000023800046400000083008000180000880006000006180110017bfb09) ∧
    (0x201040014000000040004000000000004c038000088000000000000020003387829 &&& partsMask (List.append compareParts [.emits, .reg (MOT_HDOCNUM 0)]) = 0x201040014000000040004000000000004c038000088000000000000020003387829) ∧
    (0x200800038000000000000000000000000005001 &&& partsMask ([.agenda, .pmc, .heads, .reg (HEAD_CTL 0), .reg (HEAD_STATUS 0), .reg (HEAD_EVENTS 0), .reg (TAP_STATUS 0), .reg (SLC_GSTATE 0)]) = 0x200800038000000000000000000000000005001) ∧
    (0x4001 &&& partsMask ([.agenda, .heads]) = 0x4001) ∧
    (0x40000000000000000000200800010000000000000000000000000104001 &&& partsMask ([.agenda, .heads, .mot, .reg (HEAD_STATUS 0), .reg (TAP_STATUS 0), .reg (SLC_GSTATE 0), .reg (MOT_HDOCNUM 0)]) = 0x40000000000000000000200800010000000000000000000000000104001) ∧
    (0x4000000020080001800000000000000000000000039d009 &&& partsMask (List.append offlineParts [.pmc]) = 0x4000000020080001800000000000000000000000039d009) := by decide +kernel

theorem touchMasks6 :
    (0x4000000020080001800000000000000000000000039f009 &&& partsMask (List.append offlineParts [.pmc, .host]) = 0x4000000020080001800000000000000000000000039f009) ∧
    (0x40000000000000008000000000000000000000000085009 &&& partsMask ([.agenda, .active, .pmc, .heads, .shd, .reg (HEAD_CTL 0), .reg (SHD_HSTAT 0)]) = 0x40000000000000008000000000000000000000000085009) ∧
    (0x1040014000000040004000000000004c038000088000000000000020001387809 &&& partsMask (triggerParts) = 0x1040014000000040004000000000004c038000088000000000000020001387809) ∧
    (0x1040014000000040004000000000004c038000088000000000000020001387809 &&& partsMask (triggerParts) = 0x1040014000000040004000000000004c038000088000000000000020001387809) ∧
    (0x400000000000007e8000000000000000000000000081011 &&& partsMask ([.agenda, .bands, .pmc, .shd, .reg (HEAD_CTL 0), .reg (HEAD_EVENTS 0), .reg (HEAD_TAPS 0), .reg (HEAD_READ 0), .reg (HEAD_CLK 0), .reg (HEAD_SP 0), .reg (HEAD_TRIG 0), .reg (SHD_HSTAT 0)]) = 0x400000000000007e8000000000000000000000000081011) ∧
    (0x600200000000000000000000200000000000000000000000000000000205001 &&& partsMask ([.agenda, .pmc, .heads, .lmp, .reg (SLC_GSTATE 0), .reg LMP_EVENTS, .reg LMP_CNT, .reg (LMP_SSTAT 0)]) = 0x600200000000000000000000200000000000000000000000000000000205001) ∧
    (0x400000000000000000000000000000000000000000000000000000000205001 &&& partsMask ([.agenda, .pmc, .heads, .lmp, .reg (LMP_SSTAT 0)]) = 0x400000000000000000000000000000000000000000000000000000000205001) ∧
    (0x4004000000080000000000000000000000000000008c008 &&& partsMask ([.active, .heads, .taps, .shd, .reg (TAP_STATUS 0), .reg SHD_EVENTS, .reg (SHD_HSTAT 0)]) = 0x4004000000080000000000000000000000000000008c008) ∧
    (0x80000000000000000000000000000000d009 &&& partsMask ([.agenda, .active, .pmc, .heads, .taps, .reg (TAP_STATUS 0)]) = 0x80000000000000000000000000000000d009) ∧
    (0x18000000000000000000000000094001 &&& partsMask ([.agenda, .heads, .groups, .shd, .reg (HEAD_CTL 0), .reg (HEAD_STATUS 0)]) = 0x18000000000000000000000000094001) := by decide +kernel

theorem touchMasks7 :
    (0x4000000020182003800008800000000000000000139d809 &&& partsMask (List.append (List.append offlineParts messageParts) [.reg (HEAD_EVENTS 0), .reg (HEAD_CONN 0), .reg (TAP_EVENTS 0)]) = 0x4000000020182003800008800000000000000000139d809) ∧
    (0x4800010000000000000000000000000008000 &&& partsMask ([.taps, .reg (HEAD_STATUS 0), .reg (TAP_STATUS 0), .reg (TAP_CM 0)]) = 0x4800010000000000000000000000000008000) ∧
    (0x1280000000000000000000000000000001001 &&& partsMask ([.agenda, .pmc, .reg (TAP_CTL 0), .reg (TAP_CLAMP 0), .reg (TAP_EVENTS 0)]) = 0x1280000000000000000000000000000001001) ∧
    (0x40000000000d00000000000000000000000000000089009 &&& partsMask ([.agenda, .active, .pmc, .taps, .shd, .reg (TAP_PHASE 0), .reg (TAP_PGA 0), .reg (TAP_STATUS 0), .reg (SHD_HSTAT 0)]) = 0x40000000000d00000000000000000000000000000089009) ∧
    (0x2000800010000000000000000000000000009001 &&& partsMask ([.agenda, .pmc, .taps, .reg (HEAD_STATUS 0), .reg (TAP_STATUS 0), .reg (SLC_CMWIN 0)]) = 0x2000800010000000000000000000000000009001) ∧
    (0x220000000000000000000000000000000011001 &&& partsMask ([.agenda, .pmc, .groups, .reg SLC_EVENTS, .reg (SLC_GSTATE 0)]) = 0x220000000000000000000000000000000011001) ∧
    (0x200800000000000000000000000000000010000 &&& partsMask ([.groups, .reg (TAP_STATUS 0), .reg (SLC_GSTATE 0)]) = 0x200800000000000000000000000000000010000) ∧
    (0x81100000200004600000001770800000000088000000000000021001791901 &&& partsMask (List.append retireParts [.reg SLC_CMDSTAT, .reg (SLC_GLAST 0)]) = 0x81100000200004600000001770800000000088000000000000021001791901) ∧
    (0x81100000200004600000001670800000000088000000000000021001791901 &&& partsMask (List.append retireParts [.reg (SLC_GLAST 0)]) = 0x81100000200004600000001670800000000088000000000000021001791901) ∧
    (0x1200800000000000000000000000000000010001 &&& partsMask ([.agenda, .groups, .reg (TAP_STATUS 0), .reg (SLC_GSTATE 0), .reg (SLC_GLAST 0)]) = 0x1200800000000000000000000000000000010001) := by decide +kernel

theorem touchMasks8 :
    (0x8110000020000460000000067080000000008800000000000002100179d901 &&& partsMask (List.append retireParts [.heads, .taps]) = 0x8110000020000460000000067080000000008800000000000002100179d901) ∧
    (0x20080000000000000000000000000000001c001 &&& partsMask ([.agenda, .heads, .taps, .groups, .reg (TAP_STATUS 0), .reg (SLC_GSTATE 0)]) = 0x20080000000000000000000000000000001c001) ∧
    (0x88000000000000000001011801 &&& partsMask (List.append messageParts [.groups]) = 0x88000000000000000001011801) ∧
    (0x120000000000000000000000000000000011001 &&& partsMask ([.agenda, .pmc, .groups, .reg SLC_EVENTS, .reg SLC_CMDSTAT]) = 0x120000000000000000000000000000000011001) ∧
    (0x120000000000000000000000000000000011001 &&& partsMask ([.agenda, .pmc, .groups, .reg SLC_EVENTS, .reg SLC_CMDSTAT]) = 0x120000000000000000000000000000000011001) ∧
    (0x26005000400083900030100000000880000000000000000011b7805 &&& partsMask (List.append messageParts [.draws, .host, .heads, .groups, .pipe, .shd, .mot, .reg (HEAD_PERIOD 0), .reg (TAP_EVENTS 0), .reg (TAP_OVR 0), .reg PIPE_EVENTS, .reg PIPE_ECC_CE, .reg PIPE_ECC_UE, .reg PIPE_ECC_ROW, .reg (PIPE_CLIP 0), .reg (SHD_HSTAT 0), .reg MOT_STATUS, .reg MOT_EVENTS, .reg (MOT_ASTATUS 0), .reg (MOT_AEVENTS 0), .reg (MOT_AVEL 0)]) = 0x26005000400083900030100000000880000000000000000011b7805) ∧
    (0x2000 &&& partsMask ([.host]) = 0x2000) ∧
    (0xb90000000000000088000000000000000001021801 &&& partsMask (List.append messageParts [.pipe, .reg PIPE_EVENTS, .reg PIPE_ECC_CE, .reg PIPE_ECC_UE, .reg PIPE_ECC_ROW, .reg (PIPE_SPROW 0)]) = 0xb90000000000000088000000000000000001021801) ∧
    (0x811000002000000000000780000000000000880000000000000210013a5901 &&& partsMask (List.append limpParts [.heads, .pipe, .reg SYS_LIMP, .reg PIPE_STATUS, .reg PIPE_EVENTS, .reg PIPE_LANEMAP, .reg PIPE_LANEFAIL]) = 0x811000002000000000000780000000000000880000000000000210013a5901) ∧
    (0x24001 &&& partsMask ([.agenda, .heads, .pipe]) = 0x24001) := by decide +kernel

theorem touchMasks9 :
    (0x88000000000000000001021801 &&& partsMask (List.append messageParts [.pipe]) = 0x88000000000000000001021801) ∧
    (0x38000000000000088000000000000000001001801 &&& partsMask (List.append messageParts [.reg PIPE_STATUS, .reg PIPE_EVENTS, .reg PIPE_LANEMAP]) = 0x38000000000000088000000000000000001001801) ∧
    (0x20000 &&& partsMask ([.pipe]) = 0x20000) ∧
    (0x400200080000000000000000000000000000000000a1001 &&& partsMask ([.agenda, .pmc, .pipe, .shd, .reg PIPE_STATUS, .reg SHD_STATUS, .reg (SHD_HSTAT 0)]) = 0x400200080000000000000000000000000000000000a1001) ∧
    (0x3a0000000000000000000811000002000000000000080000000000000880000000000000210013a3905 &&& partsMask (List.append limpParts [.draws, .host, .pipe, .reg SYS_LIMP, .reg PIPE_STATUS, .reg CEL_EVENTS, .reg CEL_UE, .reg CEL_ERRADDR_LO, .reg CEL_ERRADDR_HI]) = 0x3a0000000000000000000811000002000000000000080000000000000880000000000000210013a3905) ∧
    (0x8000000000000000000000000000000000023001 &&& partsMask (List.append commandParts [.pipe, .reg PIPE_STATUS]) = 0x8000000000000000000000000000000000023001) ∧
    (0x200080000000000000000000000000000000000a3001 &&& partsMask (List.append commandParts [.pipe, .shd, .reg PIPE_STATUS, .reg SHD_STATUS]) = 0x200080000000000000000000000000000000000a3001) ∧
    (0x400648180000000000000880000000000000000010a7801 &&& partsMask (List.append messageParts [.host, .heads, .pipe, .shd, .reg PIPE_STATUS, .reg PIPE_EVENTS, .reg (PIPE_SPROW 0), .reg (PIPE_GEN 0), .reg SHD_STATUS, .reg SHD_EVENTS, .reg (SHD_HSTAT 0)]) = 0x400648180000000000000880000000000000000010a7801) ∧
    (0x3021 &&& partsMask (List.append commandParts [.emits]) = 0x3021) ∧
    (0x401e0000000000010000088000000000000000001083801 &&& partsMask (List.append messageParts [.host, .shd, .reg (HEAD_STATUS 0), .reg SHD_STATUS, .reg SHD_EVENTS, .reg SHD_LAST, .reg SHD_LASTCNT, .reg (SHD_HSTAT 0)]) = 0x401e0000000000010000088000000000000000001083801) := by decide +kernel

theorem touchMasks10 :
    (0x1040014000000040004000000000004c038000088000000000000020001387809 &&& partsMask (triggerParts) = 0x1040014000000040004000000000004c038000088000000000000020001387809) ∧
    (0x400000000009000000000000000000000000000002a8009 &&& partsMask ([.agenda, .active, .taps, .pipe, .shd, .lmp, .reg (TAP_PHASE 0), .reg (TAP_STATUS 0), .reg (SHD_HSTAT 0)]) = 0x400000000009000000000000000000000000000002a8009) ∧
    (0x401e0000000000010000088000000000000000001087809 &&& partsMask (List.append messageParts [.active, .host, .heads, .shd, .reg (HEAD_STATUS 0), .reg SHD_STATUS, .reg SHD_EVENTS, .reg SHD_LAST, .reg SHD_LASTCNT, .reg (SHD_HSTAT 0)]) = 0x401e0000000000010000088000000000000000001087809) ∧
    (0x80001 &&& partsMask ([.agenda, .shd]) = 0x80001) ∧
    (0x400400000000000000000880000000000000000010a1801 &&& partsMask (List.append messageParts [.pipe, .shd, .reg SHD_EVENTS, .reg (SHD_HSTAT 0)]) = 0x400400000000000000000880000000000000000010a1801) ∧
    (0x401c00000000000000000880000000000000000010a1801 &&& partsMask (List.append messageParts [.pipe, .shd, .reg SHD_EVENTS, .reg SHD_LAST, .reg SHD_LASTCNT, .reg (SHD_HSTAT 0)]) = 0x401c00000000000000000880000000000000000010a1801) ∧
    (0x600000000000000000000000000000000000000000403001 &&& partsMask (List.append commandParts [.att, .reg ATT_STATUS, .reg ATT_EVENTS]) = 0x600000000000000000000000000000000000000000403001) ∧
    (0xf600000000000000000000000000000000000000000403001 &&& partsMask (List.append commandParts [.att, .reg ATT_STATUS, .reg ATT_EVENTS, .reg ATT_SEQ_LO, .reg ATT_SEQ_HI, .reg ATT_JRNL, .reg ATT_USED]) = 0xf600000000000000000000000000000000000000000403001) ∧
    (0x12c0201040014008260040004000000000004c038000088000000000000020003b87829 &&& partsMask (List.append (List.append compareParts auxTriggerParts) [.emits, .reg (MOT_ASTATUS 0), .reg (MOT_AEVENTS 0), .reg (MOT_AVEL 0), .reg (MOT_AFERR 0), .reg (MOT_HDOCNUM 0)]) = 0x12c0201040014008260040004000000000004c038000088000000000000020003b87829) ∧
    (0x12c0201040014708020040004000000000004c038000088000000000000020003b87829 &&& partsMask (List.append (List.append compareParts auxTriggerParts) [.emits, .reg (MOT_ASTATUS 0), .reg (MOT_AFERR 0), .reg (MOT_ECNT 0), .reg (MOT_EIDX 0), .reg (MOT_EERR 0), .reg (MOT_HDOCNUM 0)]) = 0x12c0201040014708020040004000000000004c038000088000000000000020003b87829) := by decide +kernel

theorem touchMasks11 :
    (0x2644400000000000000000000000000000000000000000000180001 &&& partsMask ([.agenda, .shd, .mot, .reg MOT_EVENTS, .reg MOT_ADMSTAT, .reg MOT_DSSTATE, .reg (MOT_ASTATUS 0), .reg (MOT_AEVENTS 0), .reg (MOT_AVEL 0)]) = 0x2644400000000000000000000000000000000000000000000180001) ∧
    (0x4000000000000000000000000000000000000000000000101001 &&& partsMask ([.agenda, .pmc, .mot, .reg MOT_ADMSTAT]) = 0x4000000000000000000000000000000000000000000000101001) ∧
    (0x100000 &&& partsMask ([.mot]) = 0x100000) ∧
    (0x8000000000000000000000000000000000000000000000000000101001 &&& partsMask ([.agenda, .pmc, .mot, .reg (MOT_HDOC 0)]) = 0x8000000000000000000000000000000000000000000000000000101001) ∧
    (0x81100000600700000000000000000000000088000000000000001001381901 &&& partsMask (List.append limpParts [.reg MOT_STATUS, .reg MOT_FILL, .reg MOT_EVENTS, .reg (MOT_AEVENTS 0)]) = 0x81100000600700000000000000000000000088000000000000001001381901) ∧
    (0x81100002600100000000000000000000000088000000000000001001381901 &&& partsMask (List.append limpParts [.reg MOT_STATUS, .reg (MOT_AEVENTS 0), .reg (MOT_AVEL 0)]) = 0x81100002600100000000000000000000000088000000000000001001381901) ∧
    (0x2600000000000000000000000000000000000000000000000100001 &&& partsMask ([.agenda, .mot, .reg (MOT_ASTATUS 0), .reg (MOT_AEVENTS 0), .reg (MOT_AVEL 0)]) = 0x2600000000000000000000000000000000000000000000000100001) ∧
    (0x2200000000000000000000000000000000000000000000000100001 &&& partsMask ([.agenda, .mot, .reg (MOT_ASTATUS 0), .reg (MOT_AVEL 0)]) = 0x2200000000000000000000000000000000000000000000000100001) ∧
    (0x400000000000000000000000088000000000000000001001801 &&& partsMask (List.append messageParts [.reg MOT_EVENTS]) = 0x400000000000000000000000088000000000000000001001801) ∧
    (0x103001 &&& partsMask (List.append commandParts [.mot]) = 0x103001) := by decide +kernel

theorem touchMasks12 :
    (0x200400000000000000000000000000000000000000000000101001 &&& partsMask ([.agenda, .pmc, .mot, .reg MOT_EVENTS, .reg (MOT_ASTATUS 0)]) = 0x200400000000000000000000000000000000000000000000101001) ∧
    (0x600000000000000000000000000000000000000000000000101001 &&& partsMask ([.agenda, .pmc, .mot, .reg (MOT_ASTATUS 0), .reg (MOT_AEVENTS 0)]) = 0x600000000000000000000000000000000000000000000000101001) ∧
    (0x81100002600100000000000000000000000088000000000000001001381901 &&& partsMask (List.append limpParts [.reg MOT_STATUS, .reg (MOT_AEVENTS 0), .reg (MOT_AVEL 0)]) = 0x81100002600100000000000000000000000088000000000000001001381901) ∧
    (0x811000027805046400000083008000180000880000000000000110017bfb09 &&& partsMask (List.append haltParts [.reg MOT_STATUS, .reg MOT_EVENTS, .reg (MOT_AEVENTS 0)]) = 0x811000027805046400000083008000180000880000000000000110017bfb09) ∧
    (0x100000 &&& partsMask ([.mot]) = 0x100000) ∧
    (0x420000000000000000000000000000000000000000000001001 &&& partsMask ([.agenda, .pmc, .reg MOT_PACE, .reg MOT_EVENTS]) = 0x420000000000000000000000000000000000000000000001001) ∧
    (0x10401300000000000000000000000040000000088000000000000000005203801 &&& partsMask (List.append messageParts [.host, .lmp, .lnk, .reg (HEAD_BAND 0 0), .reg LMP_STATUS, .reg LMP_EVENTS, .reg LMP_VSET, .reg (LMP_SSTAT 0), .reg (LMP_SDRV 0 0)]) = 0x10401300000000000000000000000040000000088000000000000000005203801) ∧
    (0x100000000000000000000000000000000000000000000000000000203001 &&& partsMask (List.append commandParts [.lmp, .reg LMP_STATUS]) = 0x100000000000000000000000000000000000000000000000000000203001) ∧
    (0x200000000000000000000000000000000088000000000000000005201801 &&& partsMask (List.append messageParts [.lmp, .lnk, .reg LMP_EVENTS]) = 0x200000000000000000000000000000000088000000000000000005201801) ∧
    (0xf000000000000000000000000000000000000000000000000000000000001001 &&& partsMask ([.agenda, .pmc, .reg (LMP_SBIN0 0), .reg (LMP_SBIN1 0), .reg (LMP_SBIN2 0), .reg (LMP_SBIN3 0)]) = 0xf000000000000000000000000000000000000000000000000000000000001001) := by decide +kernel

theorem touchMasks13 :
    (0x200001 &&& partsMask ([.agenda, .lmp]) = 0x200001) ∧
    (0x200200000000000000000000000000000000088000000000000000001201801 &&& partsMask (List.append messageParts [.lmp, .reg LMP_EVENTS, .reg LMP_CNT]) = 0x200200000000000000000000000000000000088000000000000000001201801) ∧
    (0x200000 &&& partsMask ([.lmp]) = 0x200000) ∧
    (0x200000 &&& partsMask ([.lmp]) = 0x200000) ∧
    (0x200000 &&& partsMask ([.lmp]) = 0x200000) ∧
    (0x10d81300000200000000000000000040000000088000000000000021001385901 &&& partsMask (List.append limpParts [.heads, .reg SYS_LIMP, .reg (HEAD_BAND 0 0), .reg LMP_EVENTS, .reg LMP_LAST, .reg (LMP_SSTAT 0), .reg (LMP_SMEAS 0), .reg (LMP_SDRV 0 0)]) = 0x10d81300000200000000000000000040000000088000000000000021001385901) ∧
    (0x10400000000000000000000000000040000000000000000000000000000200000 &&& partsMask ([.lmp, .reg (HEAD_BAND 0 0), .reg (LMP_SSTAT 0), .reg (LMP_SDRV 0 0)]) = 0x10400000000000000000000000000040000000000000000000000000000200000) ∧
    (0x200000 &&& partsMask ([.lmp]) = 0x200000) ∧
    (0xb300000000000000000000000000000000000000000000000000000201001 &&& partsMask ([.agenda, .pmc, .lmp, .reg LMP_STATUS, .reg LMP_EVENTS, .reg LMP_VSET, .reg LMP_HMIN, .reg LMP_IRAIL]) = 0xb300000000000000000000000000000000000000000000000000000201001) ∧
    (0x100000000000000000000000000000000000000000000000000000200001 &&& partsMask ([.agenda, .lmp, .reg LMP_STATUS]) = 0x100000000000000000000000000000000000000000000000000000200001) := by decide +kernel

theorem touchMasks14 :
    (0x1813000023800046400000083008000180000880000000000000110017bfb09 &&& partsMask (List.append haltParts [.reg LMP_EVENTS, .reg LMP_LAST]) = 0x1813000023800046400000083008000180000880000000000000110017bfb09) ∧
    (0x80000000000000000000000000000000000000000000000000000000201001 &&& partsMask ([.agenda, .pmc, .lmp, .reg LMP_CMDSTAT]) = 0x80000000000000000000000000000000000000000000000000000000201001) ∧
    (0x80000000000000000000000000000000000000000000000000000000201001 &&& partsMask ([.agenda, .pmc, .lmp, .reg LMP_CMDSTAT]) = 0x80000000000000000000000000000000000000000000000000000000201001) ∧
    (0x81100000000000000000000000000000000000000000000000000000201001 &&& partsMask ([.agenda, .pmc, .lmp, .reg LMP_STATUS, .reg LMP_VSET, .reg LMP_CMDSTAT]) = 0x81100000000000000000000000000000000000000000000000000000201001) ∧
    (0x10d81300000200000000000000000040000000088000000000000021001381901 &&& partsMask (List.append limpParts [.reg SYS_LIMP, .reg (HEAD_BAND 0 0), .reg LMP_EVENTS, .reg LMP_LAST, .reg (LMP_SSTAT 0), .reg (LMP_SMEAS 0), .reg (LMP_SDRV 0 0)]) = 0x10d81300000200000000000000000040000000088000000000000021001381901) ∧
    (0x88080c00000000000001003801 &&& partsMask (List.append messageParts [.host, .reg HOST_EVENTS, .reg HOST_ERRINFO, .reg (HOST_RHIDX 0)]) = 0x88080c00000000000001003801) ∧
    (0x88080c00000000000001003801 &&& partsMask (List.append messageParts [.host, .reg HOST_EVENTS, .reg HOST_ERRINFO, .reg (HOST_RHIDX 0)]) = 0x88080c00000000000001003801) ∧
    (0x88080c00000000000001003801 &&& partsMask (List.append messageParts [.host, .reg HOST_EVENTS, .reg HOST_ERRINFO, .reg (HOST_RHIDX 0)]) = 0x88080c00000000000001003801) ∧
    (0x88080c00000000000001003801 &&& partsMask (List.append messageParts [.host, .reg HOST_EVENTS, .reg HOST_ERRINFO, .reg (HOST_RHIDX 0)]) = 0x88080c00000000000001003801) ∧
    (0x98400000000000000003001 &&& partsMask (List.append commandParts [.reg HOST_EVENTS, .reg (HOST_RCTL 0), .reg (HOST_RSTAT 0), .reg (HOST_RHIDX 0)]) = 0x98400000000000000003001) := by decide +kernel

theorem touchMasks15 :
    (0x10000000000000000000000 &&& partsMask ([.reg (HOST_RSTAT 0)]) = 0x10000000000000000000000) ∧
    (0x10000000000000000003001 &&& partsMask (List.append commandParts [.reg (HOST_RSTAT 0)]) = 0x10000000000000000003001) ∧
    (0x88018c00000000000001003801 &&& partsMask (List.append messageParts [.host, .reg HOST_EVENTS, .reg HOST_ERRINFO, .reg (HOST_RCTL 0), .reg (HOST_RSTAT 0)]) = 0x88018c00000000000001003801) ∧
    (0x8000000000000000000c00000000000000023001 &&& partsMask (List.append commandParts [.pipe, .reg HOST_EVENTS, .reg HOST_ERRINFO, .reg PIPE_STATUS]) = 0x8000000000000000000c00000000000000023001) ∧
    (0x3001 &&& partsMask (commandParts) = 0x3001) ∧
    (0x3001 &&& partsMask (commandParts) = 0x3001) ∧
    (0x3001 &&& partsMask (commandParts) = 0x3001) ∧
    (0x10400000000000000003021 &&& partsMask (List.append commandParts [.emits, .reg HOST_EVENTS, .reg (HOST_RSTAT 0)]) = 0x10400000000000000003021) ∧
    (0x3e000000000000000000081100000200000000000000000000000000088010000000000021001383925 &&& partsMask (List.append limpParts [.draws, .emits, .host, .reg SYS_LIMP, .reg (HOST_RSTAT 0), .reg CEL_EVENTS, .reg CEL_CE, .reg CEL_UE, .reg CEL_ERRADDR_LO, .reg CEL_ERRADDR_HI]) = 0x3e000000000000000000081100000200000000000000000000000000088010000000000021001383925) ∧
    (0x1000000000000000000002020 &&& partsMask ([.emits, .host, .reg (MSIX_PBA 0)]) = 0x1000000000000000000002020) := by decide +kernel

theorem touchMasks16 :
    (0x1800000000000000000001021 &&& partsMask ([.agenda, .emits, .pmc, .reg (MSIX_CTRL 0), .reg (MSIX_PBA 0)]) = 0x1800000000000000000001021) ∧
    (0x10000000000000000003821 &&& partsMask (List.append commandParts [.emits, .lnd, .reg (HOST_RSTAT 0)]) = 0x10000000000000000003821) ∧
    (0x18c1 &&& partsMask (List.append readParts [.shadows, .lnd]) = 0x18c1) ∧
    (0x18c1 &&& partsMask (List.append readParts [.shadows, .lnd]) = 0x18c1) ∧
    (0x1801 &&& partsMask ([.agenda, .lnd, .pmc]) = 0x1801) ∧
    (0x788000000000000000000001801 &&& partsMask ([.agenda, .lnd, .pmc, .reg LND_EVENTS, .reg (LND_LOST 0), .reg LND_FLUSHCNT, .reg LND_FLUSHT_LO, .reg LND_FLUSHT_HI]) = 0x788000000000000000000001801) ∧
    (0xa000000000000000000001001 &&& partsMask ([.agenda, .pmc, .reg LND_CTL, .reg LND_EVENTS]) = 0xa000000000000000000001001) ∧
    (0x1ec00000000000000000000000000000000000000000088000000000000000001801801 &&& partsMask (List.append (List.append messageParts auxTriggerParts) [.reg AUX_DROPS, .reg (AUX_CVCTL 0)]) = 0x1ec00000000000000000000000000000000000000000088000000000000000001801801) ∧
    (0x12c00000000000000000000000000000000000000000000000000000000000000801001 &&& partsMask (List.append auxTriggerParts [.agenda, .pmc]) = 0x12c00000000000000000000000000000000000000000000000000000000000000801001) ∧
    (0x12c00000000000000000000000000000000000000000000000000000000000000800001 &&& partsMask (List.append auxTriggerParts [.agenda]) = 0x12c00000000000000000000000000000000000000000000000000000000000000800001) := by decide +kernel

theorem touchMasks17 :
    (0x12c00000000000000000000000000000000000000000000000000000000000000801001 &&& partsMask (List.append auxTriggerParts [.agenda, .pmc]) = 0x12c00000000000000000000000000000000000000000000000000000000000000801001) ∧
    (0x11fe16c00000000000000000000000000000000000000000088000000000000000001801801 &&& partsMask (List.append (List.append messageParts auxTriggerParts) [.reg AUX_DROPS, .reg (AUX_RES_LO 0 0), .reg (AUX_RES_HI 0 0), .reg (AUX_TS_LO 0 0), .reg (AUX_TS_HI 0 0), .reg (AUX_IRES_LO 0 0), .reg (AUX_IRES_HI 0 0), .reg (AUX_ITS_LO 0 0), .reg (AUX_ITS_HI 0 0), .reg (AUX_WC_STAT 0)]) = 0x11fe16c00000000000000000000000000000000000000000088000000000000000001801801) ∧
    (0x11fe16c00000000000000000000000000000000000000000088000000000000000001801801 &&& partsMask (List.append (List.append messageParts auxTriggerParts) [.reg AUX_DROPS, .reg (AUX_RES_LO 0 0), .reg (AUX_RES_HI 0 0), .reg (AUX_TS_LO 0 0), .reg (AUX_TS_HI 0 0), .reg (AUX_IRES_LO 0 0), .reg (AUX_IRES_HI 0 0), .reg (AUX_ITS_LO 0 0), .reg (AUX_ITS_HI 0 0), .reg (AUX_WC_STAT 0)]) = 0x11fe16c00000000000000000000000000000000000000000088000000000000000001801801) ∧
    (0x4800000000000000000000000000000000000000000088000000000000000001801801 &&& partsMask (List.append messageParts [.aux, .reg AUX_EVENTS, .reg AUX_DROPS]) = 0x4800000000000000000000000000000000000000000088000000000000000001801801) ∧
    (0x400000000000000000000000000000000000000000000000000000000000000000001 &&& partsMask ([.agenda, .reg AUX_STATUS]) = 0x400000000000000000000000000000000000000000000000000000000000000000001) ∧
    (0x6c00000000000000000000000000000000000000000088000000000000000001801801 &&& partsMask (List.append messageParts [.aux, .reg AUX_STATUS, .reg AUX_EVENTS, .reg AUX_CALSTAT, .reg AUX_DROPS]) = 0x6c00000000000000000000000000000000000000000088000000000000000001801801) ∧
    (0x16c00000000000000000000000000000000000000000088000000000000000001801801 &&& partsMask (List.append (List.append messageParts auxTriggerParts) [.reg AUX_DROPS]) = 0x16c00000000000000000000000000000000000000000088000000000000000001801801) ∧
    (0x16c00000000000000000000000000000000000000000088000000000000000001801801 &&& partsMask (List.append (List.append messageParts auxTriggerParts) [.reg AUX_DROPS]) = 0x16c00000000000000000000000000000000000000000088000000000000000001801801) ∧
    (0x200016c00000000000000000000000000000000000000000088000000000000000001801801 &&& partsMask (List.append (List.append messageParts auxTriggerParts) [.reg AUX_DROPS, .reg (AUX_TRIM 0 0)]) = 0x200016c00000000000000000000000000000000000000000088000000000000000001801801) ∧
    (0x6c00000081100000200000000000000000000000000088000000000000021001b81901 &&& partsMask (List.append limpParts [.aux, .reg SYS_LIMP, .reg AUX_STATUS, .reg AUX_EVENTS, .reg AUX_CALSTAT, .reg AUX_DROPS]) = 0x6c00000081100000200000000000000000000000000088000000000000021001b81901) := by decide +kernel

theorem touchMasks18 :
    (0x12400000000000000000000000000000000000000000000000000000000000000800001 &&& partsMask ([.agenda, .aux, .reg AUX_STATUS, .reg AUX_CALSTAT, .reg (AUX_EXC 0)]) = 0x12400000000000000000000000000000000000000000000000000000000000000800001) ∧
    (0x10800000000000000000000000000000000000000000000000000000000000000001001 &&& partsMask ([.agenda, .pmc, .reg AUX_EVENTS, .reg (AUX_EXC 0)]) = 0x10800000000000000000000000000000000000000000000000000000000000000001001) ∧
    (0x8010c1 &&& partsMask (List.append readParts [.shadows, .aux]) = 0x8010c1) ∧
    (0x7fc01800000000000000000000000000000000000000000000000088000000000000000101001801 &&& partsMask (sampleParts) = 0x7fc01800000000000000000000000000000000000000000000000088000000000000000101001801) ∧
    (0x1800000000000000000000000000000000000000000000000088000000000000000001001801 &&& partsMask (List.append messageParts [.reg REC_STATUS, .reg REC_EVENTS]) = 0x1800000000000000000000000000000000000000000000000088000000000000000001001801) ∧
    (0x40001800000000000000000000000000000000000000000000000088000000000000000001001801 &&& partsMask (List.append messageParts [.reg REC_STATUS, .reg REC_EVENTS, .reg REC_DEAD_CAP]) = 0x40001800000000000000000000000000000000000000000000000088000000000000000001001801) ∧
    (0x1001001 &&& partsMask ([.agenda, .pmc, .recd]) = 0x1001001) ∧
    (0x1800000000000000000000000000000000000000000000000000000000000000000000001001 &&& partsMask ([.agenda, .pmc, .reg REC_STATUS, .reg REC_EVENTS]) = 0x1800000000000000000000000000000000000000000000000000000000000000000000001001) ∧
    (0x80c00800000000000000000000000000000000000000000000000000000000000000000001000000 &&& partsMask ([.recd, .reg REC_STATUS, .reg REC_INFO, .reg REC_LOST, .reg REC_DEAD_ARM]) = 0x80c00800000000000000000000000000000000000000000000000000000000000000000001000000) ∧
    (0x1800000000000000000000000000000000000000000000000088000000000000000001001821 &&& partsMask (List.append messageParts [.emits, .reg REC_STATUS, .reg REC_EVENTS]) = 0x1800000000000000000000000000000000000000000000000088000000000000000001001821) := by decide +kernel

theorem touchMasks19 :
    (0x1000000000000000000000000000000000000000000000000000000000000000000001001041 &&& partsMask (List.append readParts [.recd, .reg REC_EVENTS]) = 0x1000000000000000000000000000000000000000000000000000000000000000000001001041) ∧
    (0x400001000000000000000000000000000000000000000000000000000000000000000000000001041 &&& partsMask (List.append readParts [.reg REC_EVENTS, .reg REC_RDIDX]) = 0x400001000000000000000000000000000000000000000000000000000000000000000000000001041) ∧
    (0x4201040010000000040004000000000004c038000088000000000000020003387829 &&& partsMask (List.append compareParts [.emits, .reg HWY_MSTAT]) = 0x4201040010000000040004000000000004c038000088000000000000020003387829) ∧
    (0x15301048110000020040044000000000004c03800008800000000018802d003787b2f &&& partsMask (List.append (List.append compareParts limpParts) [.time, .draws, .emits, .start, .att, .reg SYS_STARTS, .reg SYS_STARTSTAT, .reg CLK_STATUS, .reg CLK_TIME_ERR, .reg CLK_STEER, .reg ATT_EVENTS, .reg HWY_STATUS, .reg HWY_ERRCNT, .reg HWY_MSTAT, .reg (HWY_MRX 0)]) = 0x15301048110000020040044000000000004c03800008800000000018802d003787b2f) ∧
    (0x2000021 &&& partsMask ([.agenda, .emits, .hwy]) = 0x2000021) ∧
    (0x1040014000000040004000000000004c038000088000000000000020003387809 &&& partsMask (List.append triggerParts [.hwy]) = 0x1040014000000040004000000000004c038000088000000000000020003387809) ∧
    (0x60000000000000000000000000000000000000000000000000000000000002001001 &&& partsMask ([.agenda, .pmc, .hwy, .reg HWY_MCTL, .reg HWY_MSTAT]) = 0x60000000000000000000000000000000000000000000000000000000000002001001) ∧
    (0xb000000000000000000000000000000000000000000000000000008020002000000 &&& partsMask ([.hwy, .reg SYS_LIMP, .reg CLK_STATUS, .reg HWY_STATUS, .reg HWY_EVENTS, .reg HWY_LINK]) = 0xb000000000000000000000000000000000000000000000000000008020002000000) ∧
    (0x3000081100000200000000000000000000000000088000000000008021003381901 &&& partsMask (List.append limpParts [.hwy, .reg SYS_LIMP, .reg CLK_STATUS, .reg HWY_STATUS, .reg HWY_EVENTS]) = 0x3000081100000200000000000000000000000000088000000000008021003381901) ∧
    (0x1000000000000000000000000000000000000000088000000000008000003001801 &&& partsMask (List.append messageParts [.hwy, .reg CLK_STATUS, .reg HWY_STATUS]) = 0x1000000000000000000000000000000000000000088000000000008000003001801) := by decide +kernel

theorem touchMasks20 :
    (0x20000811000023800046400000083008000180000880000000000000110017bfb09 &&& partsMask (List.append haltParts [.reg HWY_EVENTS]) = 0x20000811000023800046400000083008000180000880000000000000110017bfb09) ∧
    (0x2000000000000000000000000000000000000000000000000000000000002001021 &&& partsMask ([.agenda, .emits, .pmc, .hwy, .reg HWY_EVENTS]) = 0x2000000000000000000000000000000000000000000000000000000000002001021) ∧
    (0x43800000000000000000000000000000000000000000000000000008000002001001 &&& partsMask ([.agenda, .pmc, .hwy, .reg CLK_STATUS, .reg HWY_CTL, .reg HWY_STATUS, .reg HWY_EVENTS, .reg HWY_MSTAT]) = 0x43800000000000000000000000000000000000000000000000000008000002001001) ∧
    (0x6d0d81300000200000000000000000040000000088000000000000021005381925 &&& partsMask (List.append limpParts [.draws, .emits, .lnk, .reg SYS_LIMP, .reg (HEAD_BAND 0 0), .reg LMP_EVENTS, .reg LMP_LAST, .reg (LMP_SSTAT 0), .reg (LMP_SMEAS 0), .reg (LMP_SDRV 0 0), .reg LNK_STATUS, .reg LNK_EVENTS, .reg LNK_CHK, .reg LNK_ERRCNT]) = 0x6d0d81300000200000000000000000040000000088000000000000021005381925) ∧
    (0x2c0081300000200000000000000000000000000088000000000000021005381921 &&& partsMask (List.append limpParts [.emits, .lnk, .reg SYS_LIMP, .reg LMP_EVENTS, .reg LNK_STATUS, .reg LNK_EVENTS, .reg LNK_CHK]) = 0x2c0081300000200000000000000000000000000088000000000000021005381921) ∧
    (0x40000000000000000000000000000000000000000000000000000000004001001 &&& partsMask ([.agenda, .pmc, .lnk, .reg LNK_STATUS]) = 0x40000000000000000000000000000000000000000000000000000000004001001) ∧
    (0x1001 &&& partsMask ([.agenda, .pmc]) = 0x1001) ∧
    (0x800000000000000000000001001 &&& partsMask ([.agenda, .pmc, .reg PMC_CTL]) = 0x800000000000000000000001001) ∧
    (0x1001 &&& partsMask ([.agenda, .pmc]) = 0x1001) ∧
    (0x1001 &&& partsMask ([.agenda, .pmc]) = 0x1001) := by decide +kernel

theorem touchMasks21 :
    (0x1001 &&& partsMask ([.agenda, .pmc]) = 0x1001) ∧
    (0x1088000000000000000001001801 &&& partsMask (List.append messageParts [.reg PMC_OVF]) = 0x1088000000000000000001001801) ∧
    (0x400904418400000000000000000000000000000000000000000000000200000000000087ffff89 &&& partsMask (resetParts) = 0x400904418400000000000000000000000000000000000000000000000200000000000087ffff89) ∧
    (0x400904418400000000000000000000000000000000000000000000000200000000000087ffff89 &&& partsMask (resetParts) = 0x400904418400000000000000000000000000000000000000000000000200000000000087ffff89) ∧
    (0x40000 &&& partsMask ([.pwr]) = 0x40000) ∧
    (0x40000 &&& partsMask ([.pwr]) = 0x40000) ∧
    (0x2000 &&& partsMask ([.host]) = 0x2000) ∧
    (0x2000020 &&& partsMask ([.emits, .hwy]) = 0x2000020) ∧
    (0x100000000000000000000000000000000000000000000000000000280001 &&& partsMask ([.agenda, .shd, .lmp, .reg LMP_STATUS]) = 0x100000000000000000000000000000000000000000000000000000280001) ∧
    (0x7fc01800000000000000000000000000000000000000000000000088000000000000000101001801 &&& partsMask (sampleParts) = 0x7fc01800000000000000000000000000000000000000000000000088000000000000000101001801) := by decide +kernel

theorem Touches.regWrite (byHk : Bool) (off : Nat) (v : Word) : Touches.Statement (.regWrite byHk off v) := fun s =>
  execRegWrite_within (parts_tail (by decide +kernel)) (parts_head) (Within.refl _ s)

theorem Touches.badAccess (read : Bool) (bar : Nat) (off : Nat) : Touches.Statement (.badAccess read bar off) := fun s =>
  show WithinO (partsMask ([.agenda, .rdata, .host, .reg HOST_EVENTS, .reg HOST_ERRINFO])) s (execBadAccess read bar off s) from
    execBadAccess_within (Sub.of touchMasks0.1) (Within.refl _ s)

theorem Touches.rootStoppedAccess (bar : Nat) (write : Bool) (off : Nat) (v : Word) : Touches.Statement (.rootStoppedAccess bar write off v) := fun s =>
  execRootStoppedAccess_within (parts_tail (by decide +kernel)) (parts_head) (Within.refl _ s)

theorem Touches.pairLowRead (ms : Master) (off : Nat) : Touches.Statement (.pairLowRead ms off) := fun s =>
  show WithinO (partsMask (List.append readParts [.shadows])) s (execPairLowRead ms off s) from
    execPairLowRead_within (Sub.of touchMasks0.2.1) (Within.refl _ s)

theorem Touches.pairHighRead (ms : Master) (off : Nat) : Touches.Statement (.pairHighRead ms off) := fun s =>
  show WithinO (partsMask (List.append readParts [.shadows, .aux])) s (execPairHighRead ms off s) from
    execPairHighRead_within (Sub.of touchMasks0.2.2.1) (Within.refl _ s)

theorem Touches.headTrigstatRead (h_ : Fin 16) : Touches.Statement (.headTrigstatRead h_) := fun s =>
  show WithinO (partsMask (List.append readParts [.reg (HEAD_TRIGSTAT 0)])) s (execHeadTrigstatRead h_ s) from
    execHeadTrigstatRead_within (Sub.of touchMasks0.2.2.2.1) (Within.refl _ s)

theorem Touches.tapOvrRead (t : Fin 256) : Touches.Statement (.tapOvrRead t) := fun s =>
  show WithinO (partsMask (List.append readParts [.reg (TAP_OVR 0)])) s (execTapOvrRead t s) from
    execTapOvrRead_within (Sub.of touchMasks0.2.2.2.2.1) (Within.refl _ s)

theorem Touches.pipeEccCeRead : Touches.Statement .pipeEccCeRead := fun s =>
  show WithinO (partsMask (List.append readParts [.reg PIPE_ECC_CE])) s (execPipeEccCeRead s) from
    execPipeEccCeRead_within (Sub.of touchMasks0.2.2.2.2.2.1) (Within.refl _ s)

theorem Touches.pipeEccUeRead : Touches.Statement .pipeEccUeRead := fun s =>
  show WithinO (partsMask (List.append readParts [.reg PIPE_ECC_UE])) s (execPipeEccUeRead s) from
    execPipeEccUeRead_within (Sub.of touchMasks0.2.2.2.2.2.2.1) (Within.refl _ s)

theorem Touches.pipeClipRead (h_ : Fin 16) : Touches.Statement (.pipeClipRead h_) := fun s =>
  show WithinO (partsMask (List.append readParts [.reg (PIPE_CLIP 0)])) s (execPipeClipRead h_ s) from
    execPipeClipRead_within (Sub.of touchMasks0.2.2.2.2.2.2.2.1) (Within.refl _ s)

theorem Touches.lndLostRead (cl : Fin 4) : Touches.Statement (.lndLostRead cl) := fun s =>
  show WithinO (partsMask (List.append readParts [.reg (LND_LOST 0)])) s (execLndLostRead cl s) from
    execLndLostRead_within (Sub.of touchMasks0.2.2.2.2.2.2.2.2.1) (Within.refl _ s)

theorem Touches.lndFlushcntRead : Touches.Statement .lndFlushcntRead := fun s =>
  show WithinO (partsMask (List.append readParts [.reg LND_FLUSHCNT])) s (execLndFlushcntRead s) from
    execLndFlushcntRead_within (Sub.of touchMasks0.2.2.2.2.2.2.2.2.2) (Within.refl _ s)

theorem Touches.motAdmstatRead : Touches.Statement .motAdmstatRead := fun s =>
  show WithinO (partsMask (List.append readParts [.reg MOT_ADMSTAT])) s (execMotAdmstatRead s) from
    execMotAdmstatRead_within (Sub.of touchMasks1.1) (Within.refl _ s)

theorem Touches.motEerrRead (e : Fin 4) : Touches.Statement (.motEerrRead e) := fun s =>
  show WithinO (partsMask (List.append readParts [.reg (MOT_EERR 0)])) s (execMotEerrRead e s) from
    execMotEerrRead_within (Sub.of touchMasks1.2.1) (Within.refl _ s)

theorem Touches.lmpCntRead : Touches.Statement .lmpCntRead := fun s =>
  show WithinO (partsMask (List.append readParts [.reg LMP_CNT])) s (execLmpCntRead s) from
    execLmpCntRead_within (Sub.of touchMasks1.2.2.1) (Within.refl _ s)

theorem Touches.auxDropsRead : Touches.Statement .auxDropsRead := fun s =>
  show WithinO (partsMask (List.append readParts [.reg AUX_DROPS])) s (execAuxDropsRead s) from
    execAuxDropsRead_within (Sub.of touchMasks1.2.2.2.1) (Within.refl _ s)

theorem Touches.auxWcStatRead (k : Fin 16) : Touches.Statement (.auxWcStatRead k) := fun s =>
  show WithinO (partsMask (List.append readParts [.reg (AUX_WC_STAT 0)])) s (execAuxWcStatRead k s) from
    execAuxWcStatRead_within (Sub.of touchMasks1.2.2.2.2.1) (Within.refl _ s)

theorem Touches.recRejRead : Touches.Statement .recRejRead := fun s =>
  show WithinO (partsMask (List.append readParts [.reg REC_REJ])) s (execRecRejRead s) from
    execRecRejRead_within (Sub.of touchMasks1.2.2.2.2.2.1) (Within.refl _ s)

theorem Touches.hwyErrcntRead : Touches.Statement .hwyErrcntRead := fun s =>
  show WithinO (partsMask (List.append readParts [.reg HWY_ERRCNT])) s (execHwyErrcntRead s) from
    execHwyErrcntRead_within (Sub.of touchMasks1.2.2.2.2.2.2.1) (Within.refl _ s)

theorem Touches.lnkErrcntRead : Touches.Statement .lnkErrcntRead := fun s =>
  show WithinO (partsMask (List.append readParts [.reg LNK_ERRCNT])) s (execLnkErrcntRead s) from
    execLnkErrcntRead_within (Sub.of touchMasks1.2.2.2.2.2.2.2.1) (Within.refl _ s)

theorem Touches.celCeRead : Touches.Statement .celCeRead := fun s =>
  show WithinO (partsMask (List.append readParts [.reg CEL_CE])) s (execCelCeRead s) from
    execCelCeRead_within (Sub.of touchMasks1.2.2.2.2.2.2.2.2.1) (Within.refl _ s)

theorem Touches.celUeRead : Touches.Statement .celUeRead := fun s =>
  show WithinO (partsMask (List.append readParts [.reg CEL_UE])) s (execCelUeRead s) from
    execCelUeRead_within (Sub.of touchMasks1.2.2.2.2.2.2.2.2.2) (Within.refl _ s)

theorem Touches.powerOnResetRelease (straps : Word) (bankFault : List (Fin 8)) : Touches.Statement (.powerOnResetRelease straps bankFault) := fun s =>
  show WithinO (partsMask (List.append resetParts [.emits])) s (execPowerOnResetRelease straps bankFault s) from
    execPowerOnResetRelease_within (Sub.of touchMasks2.1) (Within.refl _ s)

theorem Touches.reset (cause : ResetCause) : Touches.Statement (.reset cause) := fun s =>
  show WithinO (partsMask (resetParts)) s (execReset cause s) from
    execReset_within (Sub.of touchMasks2.2.1) (Within.refl _ s)

theorem Touches.warn (rails : BitVec 10) (vmon : Nat) : Touches.Statement (.warn rails vmon) := fun s =>
  show WithinO (partsMask (List.append limpParts [.host, .pwr, .att, .reg PWR_STATUS, .reg PWR_EVENTS, .reg PWR_VMON, .reg PWR_VMEAS, .reg SLC_STATUS, .reg SHD_STATUS, .reg SHD_EVENTS, .reg ATT_STATUS, .reg ATT_EVENTS, .reg ATT_JRNL, .reg MOT_STATUS, .reg MOT_PANTRY])) s (execWarn rails vmon s) from
    execWarn_within (Sub.of touchMasks2.2.2.1) (Within.refl _ s)

theorem Touches.warnClear (vmon : Nat) : Touches.Statement (.warnClear vmon) := fun s =>
  show WithinO (partsMask (List.append messageParts [.start, .pwr, .reg PWR_STATUS, .reg PWR_EVENTS, .reg PWR_VMEAS])) s (execWarnClear vmon s) from
    execWarnClear_within (Sub.of touchMasks2.2.2.2.1) (Within.refl _ s)

theorem Touches.railOvervoltage (rail : Fin 10) : Touches.Statement (.railOvervoltage rail) := fun s =>
  show WithinO (partsMask (List.append haltParts [.reg PWR_STATUS, .reg PWR_EVENTS])) s (execRailOvervoltage rail s) from
    execRailOvervoltage_within (Sub.of touchMasks2.2.2.2.2.1) (Within.refl _ s)

theorem Touches.bandgapCheck (good : Bool) : Touches.Statement (.bandgapCheck good) := fun s =>
  show WithinO (partsMask (List.append messageParts [.reg PWR_STATUS, .reg PWR_EVENTS])) s (execBandgapCheck good s) from
    execBandgapCheck_within (Sub.of touchMasks2.2.2.2.2.2.1) (Within.refl _ s)

theorem Touches.dieTempCheck (temp : Int) : Touches.Statement (.dieTempCheck temp) := fun s =>
  show WithinO (partsMask (List.append haltParts [.reg PWR_STATUS, .reg PWR_EVENTS])) s (execDieTempCheck temp s) from
    execDieTempCheck_within (Sub.of touchMasks2.2.2.2.2.2.2.1) (Within.refl _ s)

theorem Touches.pantryEpoch (x : PantryMeas) : Touches.Statement (.pantryEpoch x) := fun s =>
  show WithinO (partsMask (List.append limpParts [.pwr, .reg PWR_STATUS, .reg PWR_EVENTS, .reg PWR_LCORE, .reg PWR_LLAMP, .reg PWR_LMOT, .reg PWR_PLAN, .reg PWR_PEAKMEAS, .reg PWR_ETOT_LO, .reg PWR_ETOT_HI, .reg SLC_STATUS, .reg SHD_STATUS, .reg SHD_EVENTS, .reg MOT_STATUS, .reg MOT_PANTRY])) s (execPantryEpoch x s) from
    execPantryEpoch_within (Sub.of touchMasks2.2.2.2.2.2.2.2.1) (Within.refl _ s)

theorem Touches.pwrBudgetWrite (peak : Bool) (v : Word) : Touches.Statement (.pwrBudgetWrite peak v) := fun s =>
  show WithinO (partsMask ([.agenda, .pmc, .pwr, .reg PWR_AVG, .reg PWR_PEAK])) s (execPwrBudgetWrite peak v s) from
    execPwrBudgetWrite_within (Sub.of touchMasks2.2.2.2.2.2.2.2.2.1) (Within.refl _ s)

theorem Touches.rootLock : Touches.Statement .rootLock := fun s =>
  show WithinO (partsMask ([.time, .reg CLK_STATUS])) s (execRootLock s) from
    execRootLock_within (Sub.of touchMasks2.2.2.2.2.2.2.2.2.2) (Within.refl _ s)

theorem Touches.startStepDone (step : Fin 17) (rep : StepReport) : Touches.Statement (.startStepDone step rep) := fun s =>
  show WithinO (partsMask (List.append resetParts [.emits])) s (execStartStepDone step rep s) from
    execStartStepDone_within (Sub.of touchMasks3.1) (Within.refl _ s)

theorem Touches.atticBackgroundCheck (pass : Bool) : Touches.Statement (.atticBackgroundCheck pass) := fun s =>
  show WithinO (partsMask (List.append messageParts [.att, .reg ATT_STATUS, .reg ATT_EVENTS])) s (execAtticBackgroundCheck pass s) from
    execAtticBackgroundCheck_within (Sub.of touchMasks3.2.1) (Within.refl _ s)

theorem Touches.sysModereq (v : Word) : Touches.Statement (.sysModereq v) := fun s =>
  show WithinO (partsMask (List.append (List.append haltParts auxTriggerParts) [.reg AUX_DROPS, .reg CEL_STATUS])) s (execSysModereq v s) from
    execSysModereq_within (Sub.of touchMasks3.2.2.1) (Within.refl _ s)

theorem Touches.startCold : Touches.Statement .startCold := fun s =>
  show WithinO (partsMask (List.append resetParts [.emits])) s (execStartCold s) from
    execStartCold_within (Sub.of touchMasks3.2.2.2.1) (Within.refl _ s)

theorem Touches.startWarm : Touches.Statement .startWarm := fun s =>
  show WithinO (partsMask (List.append resetParts [.emits])) s (execStartWarm s) from
    execStartWarm_within (Sub.of touchMasks3.2.2.2.2.1) (Within.refl _ s)

theorem Touches.heldStartBegin : Touches.Statement .heldStartBegin := fun s =>
  show WithinO (partsMask (List.append resetParts [.emits])) s (execHeldStartBegin s) from
    execHeldStartBegin_within (Sub.of touchMasks3.2.2.2.2.2.1) (Within.refl _ s)

theorem Touches.wake : Touches.Statement .wake := fun s =>
  show WithinO (partsMask (List.append resetParts [.emits])) s (execWake s) from
    execWake_within (Sub.of touchMasks3.2.2.2.2.2.2.1) (Within.refl _ s)

theorem Touches.selftest (tests : BitVec 4) : Touches.Statement (.selftest tests) := fun s =>
  show WithinO (partsMask ([.agenda, .mode, .pmc, .reg SYS_EVENTS, .reg SYS_DIAG])) s (execSelftest tests s) from
    execSelftest_within (Sub.of touchMasks3.2.2.2.2.2.2.2.1) (Within.refl _ s)

theorem Touches.selftestDone (pass : BitVec 4) (rep : DiagReport) : Touches.Statement (.selftestDone pass rep) := fun s =>
  show WithinO (partsMask (List.append retireParts [.heads, .pipe, .reg SYS_DIAG, .reg (SLC_GLAST 0), .reg PIPE_STATUS, .reg PIPE_EVENTS, .reg PIPE_LANEMAP, .reg PIPE_LANEFAIL, .reg PIPE_ECC_CE, .reg PIPE_ECC_UE, .reg PIPE_ECC_ROW, .reg (PIPE_SPROW 0)])) s (execSelftestDone pass rep s) from
    execSelftestDone_within (Sub.of touchMasks3.2.2.2.2.2.2.2.2.1) (Within.refl _ s)

theorem Touches.sysLock : Touches.Statement .sysLock := fun s =>
  show WithinO (partsMask ([.agenda, .pmc, .reg SYS_LOCK])) s (execSysLock s) from
    execSysLock_within (Sub.of touchMasks3.2.2.2.2.2.2.2.2.2) (Within.refl _ s)

theorem Touches.sysLimpCelClear : Touches.Statement .sysLimpCelClear := fun s =>
  show WithinO (partsMask ([.agenda, .pmc, .reg SYS_LIMP])) s (execSysLimpCelClear s) from
    execSysLimpCelClear_within (Sub.of touchMasks4.1) (Within.refl _ s)

theorem Touches.fwWrite : Touches.Statement .fwWrite := fun s =>
  show WithinO (partsMask ([.agenda, .fw, .pmc, .reg SYS_EVENTS, .reg SYS_FWSTAT])) s (execFwWrite s) from
    execFwWrite_within (Sub.of touchMasks4.2.1) (Within.refl _ s)

theorem Touches.fwWriteDone (rep : FwReport) : Touches.Statement (.fwWriteDone rep) := fun s =>
  show WithinO (partsMask ([.fw, .reg SYS_EVENTS, .reg SYS_FWSTAT])) s (execFwWriteDone rep s) from
    execFwWriteDone_within (Sub.of touchMasks4.2.2.1) (Within.refl _ s)

theorem Touches.fwSwap : Touches.Statement .fwSwap := fun s =>
  show WithinO (partsMask ([.agenda, .fw, .pmc, .reg SYS_EVENTS, .reg SYS_FWSTAT])) s (execFwSwap s) from
    execFwSwap_within (Sub.of touchMasks4.2.2.2.1) (Within.refl _ s)

theorem Touches.fwSwapReady (rep : FwReport) : Touches.Statement (.fwSwapReady rep) := fun s =>
  show WithinO (partsMask ([.fw, .reg SYS_EVENTS, .reg SYS_FWSTAT])) s (execFwSwapReady rep s) from
    execFwSwapReady_within (Sub.of touchMasks4.2.2.2.2.1) (Within.refl _ s)

theorem Touches.fwSwapExecute : Touches.Statement .fwSwapExecute := fun s =>
  show WithinO (partsMask ([.agenda, .fw, .reg SYS_EVENTS, .reg SYS_FWSTAT, .reg SYS_FWVER])) s (execFwSwapExecute s) from
    execFwSwapExecute_within (Sub.of touchMasks4.2.2.2.2.2.1) (Within.refl _ s)

theorem Touches.fwSwapCancel : Touches.Statement .fwSwapCancel := fun s =>
  show WithinO (partsMask ([.agenda, .fw, .pmc, .reg SYS_EVENTS, .reg SYS_FWSTAT])) s (execFwSwapCancel s) from
    execFwSwapCancel_within (Sub.of touchMasks4.2.2.2.2.2.2.1) (Within.refl _ s)

theorem Touches.revertWindowEnd : Touches.Statement .revertWindowEnd := fun s =>
  show WithinO (partsMask ([.fw])) s (execRevertWindowEnd s) from
    execRevertWindowEnd_within (Sub.of touchMasks4.2.2.2.2.2.2.2.1) (Within.refl _ s)

theorem Touches.housekeeperFault : Touches.Statement .housekeeperFault := fun s =>
  show WithinO (partsMask (List.append resetParts [.emits])) s (execHousekeeperFault s) from
    execHousekeeperFault_within (Sub.of touchMasks4.2.2.2.2.2.2.2.2.1) (Within.refl _ s)

theorem Touches.hkPauseEnd : Touches.Statement .hkPauseEnd := fun s =>
  show WithinO (partsMask ([.fw, .att, .reg ATT_STATUS])) s (execHkPauseEnd s) from
    execHkPauseEnd_within (Sub.of touchMasks4.2.2.2.2.2.2.2.2.2) (Within.refl _ s)

theorem Touches.linkDown : Touches.Statement .linkDown := fun s =>
  show WithinO (partsMask (List.append haltParts [.reg HOST_STATUS, .reg HOST_EVENTS])) s (execLinkDown s) from
    execLinkDown_within (Sub.of touchMasks5.1) (Within.refl _ s)

theorem Touches.perst : Touches.Statement .perst := fun s =>
  show WithinO (partsMask (List.append haltParts [.reg HOST_STATUS, .reg HOST_EVENTS, .reg (MSIX_ADDR_LO 0), .reg (MSIX_ADDR_HI 0), .reg (MSIX_DATA 0), .reg (MSIX_CTRL 0), .reg (MSIX_PBA 0)])) s (execPerst s) from
    execPerst_within (Sub.of touchMasks5.2.1) (Within.refl _ s)

theorem Touches.linkUp (width : Nat) (speed : Nat) : Touches.Statement (.linkUp width speed) := fun s =>
  show WithinO (partsMask ([.reg CLK_STATUS, .reg HOST_STATUS])) s (execLinkUp width speed s) from
    execLinkUp_within (Sub.of touchMasks5.2.2.1) (Within.refl _ s)

theorem Touches.busMasterEnable (on : Bool) : Touches.Statement (.busMasterEnable on) := fun s =>
  show WithinO (partsMask ([.reg HOST_STATUS])) s (execBusMasterEnable on s) from
    execBusMasterEnable_within (Sub.of touchMasks5.2.2.2.1) (Within.refl _ s)

theorem Touches.clockFault (f : List ClockFault) : Touches.Statement (.clockFault f) := fun s =>
  show WithinO (partsMask (List.append haltParts [.reg CLK_STATUS, .reg CLK_EVENTS, .reg CLK_FAULT_TIME_LO, .reg CLK_FAULT_TIME_HI, .reg HOST_STATUS, .reg HOST_EVENTS])) s (execClockFault f s) from
    execClockFault_within (Sub.of touchMasks5.2.2.2.2.1) (Within.refl _ s)

theorem Touches.xsyncEdge (falling : Bool) : Touches.Statement (.xsyncEdge falling) := fun s =>
  show WithinO (partsMask (List.append compareParts [.emits, .reg (MOT_HDOCNUM 0)])) s (execXsyncEdge falling s) from
    execXsyncEdge_within (Sub.of touchMasks5.2.2.2.2.2.1) (Within.refl _ s)

theorem Touches.headOnline (h_ : Fin 16) : Touches.Statement (.headOnline h_) := fun s =>
  show WithinO (partsMask ([.agenda, .pmc, .heads, .reg (HEAD_CTL 0), .reg (HEAD_STATUS 0), .reg (HEAD_EVENTS 0), .reg (TAP_STATUS 0), .reg (SLC_GSTATE 0)])) s (execHeadOnline h_ s) from
    execHeadOnline_within (Sub.of touchMasks5.2.2.2.2.2.2.1) (Within.refl _ s)

theorem Touches.headSettleDone (h_ : Fin 16) : Touches.Statement (.headSettleDone h_) := fun s =>
  show WithinO (partsMask ([.agenda, .heads])) s (execHeadSettleDone h_ s) from
    execHeadSettleDone_within (Sub.of touchMasks5.2.2.2.2.2.2.2.1) (Within.refl _ s)

theorem Touches.headWarmupDone (h_ : Fin 16) : Touches.Statement (.headWarmupDone h_) := fun s =>
  show WithinO (partsMask ([.agenda, .heads, .mot, .reg (HEAD_STATUS 0), .reg (TAP_STATUS 0), .reg (SLC_GSTATE 0), .reg (MOT_HDOCNUM 0)])) s (execHeadWarmupDone h_ s) from
    execHeadWarmupDone_within (Sub.of touchMasks5.2.2.2.2.2.2.2.2.1) (Within.refl _ s)

theorem Touches.headOffline (h_ : Fin 16) : Touches.Statement (.headOffline h_) := fun s =>
  show WithinO (partsMask (List.append offlineParts [.pmc])) s (execHeadOffline h_ s) from
    execHeadOffline_within (Sub.of touchMasks5.2.2.2.2.2.2.2.2.2) (Within.refl _ s)

theorem Touches.headStopDone (h_ : Fin 16) : Touches.Statement (.headStopDone h_) := fun s =>
  show WithinO (partsMask (List.append offlineParts [.pmc, .host])) s (execHeadStopDone h_ s) from
    execHeadStopDone_within (Sub.of touchMasks6.1) (Within.refl _ s)

theorem Touches.headCommit (h_ : Fin 16) : Touches.Statement (.headCommit h_) := fun s =>
  show WithinO (partsMask ([.agenda, .active, .pmc, .heads, .shd, .reg (HEAD_CTL 0), .reg (SHD_HSTAT 0)])) s (execHeadCommit h_ s) from
    execHeadCommit_within (Sub.of touchMasks6.2.1) (Within.refl _ s)

theorem Touches.headSwtrig (h_ : Fin 16) : Touches.Statement (.headSwtrig h_) := fun s =>
  show WithinO (partsMask (triggerParts)) s (execHeadSwtrig h_ s) from
    execHeadSwtrig_within (Sub.of touchMasks6.2.2.1) (Within.refl _ s)

theorem Touches.headTimerTrigger (h_ : Fin 16) : Touches.Statement (.headTimerTrigger h_) := fun s =>
  show WithinO (partsMask (triggerParts)) s (execHeadTimerTrigger h_ s) from
    execHeadTimerTrigger_within (Sub.of touchMasks6.2.2.2.1) (Within.refl _ s)

theorem Touches.headGeometryWrite (h_ : Fin 16) (reg : GeomReg) (v : Word) : Touches.Statement (.headGeometryWrite h_ reg v) := fun s =>
  show WithinO (partsMask ([.agenda, .bands, .pmc, .shd, .reg (HEAD_CTL 0), .reg (HEAD_EVENTS 0), .reg (HEAD_TAPS 0), .reg (HEAD_READ 0), .reg (HEAD_CLK 0), .reg (HEAD_SP 0), .reg (HEAD_TRIG 0), .reg (SHD_HSTAT 0)])) s (execHeadGeometryWrite h_ reg v s) from
    execHeadGeometryWrite_within (Sub.of touchMasks6.2.2.2.2.1) (Within.refl _ s)

theorem Touches.triggerFire (h_ : Fin 16) : Touches.Statement (.triggerFire h_) := fun s =>
  show WithinO (partsMask ([.agenda, .pmc, .heads, .lmp, .reg (SLC_GSTATE 0), .reg LMP_EVENTS, .reg LMP_CNT, .reg (LMP_SSTAT 0)])) s (execTriggerFire h_ s) from
    execTriggerFire_within (Sub.of touchMasks6.2.2.2.2.2.1) (Within.refl _ s)

theorem Touches.exposureEnd (h_ : Fin 16) : Touches.Statement (.exposureEnd h_) := fun s =>
  show WithinO (partsMask ([.agenda, .pmc, .heads, .lmp, .reg (LMP_SSTAT 0)])) s (execExposureEnd h_ s) from
    execExposureEnd_within (Sub.of touchMasks6.2.2.2.2.2.2.1) (Within.refl _ s)

theorem Touches.tapPhaseActivate (h_ : Fin 16) : Touches.Statement (.tapPhaseActivate h_) := fun s =>
  show WithinO (partsMask ([.active, .heads, .taps, .shd, .reg (TAP_STATUS 0), .reg SHD_EVENTS, .reg (SHD_HSTAT 0)])) s (execTapPhaseActivate h_ s) from
    execTapPhaseActivate_within (Sub.of touchMasks6.2.2.2.2.2.2.2.1) (Within.refl _ s)

theorem Touches.readoutEnd (h_ : Fin 16) : Touches.Statement (.readoutEnd h_) := fun s =>
  show WithinO (partsMask ([.agenda, .active, .pmc, .heads, .taps, .reg (TAP_STATUS 0)])) s (execReadoutEnd h_ s) from
    execReadoutEnd_within (Sub.of touchMasks6.2.2.2.2.2.2.2.2.1) (Within.refl _ s)

theorem Touches.busyWindowClose (h_ : Fin 16) : Touches.Statement (.busyWindowClose h_) := fun s =>
  show WithinO (partsMask ([.agenda, .heads, .groups, .shd, .reg (HEAD_CTL 0), .reg (HEAD_STATUS 0)])) s (execBusyWindowClose h_ s) from
    execBusyWindowClose_within (Sub.of touchMasks6.2.2.2.2.2.2.2.2.2) (Within.refl _ s)

theorem Touches.headConnFault (t : Fin 256) : Touches.Statement (.headConnFault t) := fun s =>
  show WithinO (partsMask (List.append (List.append offlineParts messageParts) [.reg (HEAD_EVENTS 0), .reg (HEAD_CONN 0), .reg (TAP_EVENTS 0)])) s (execHeadConnFault t s) from
    execHeadConnFault_within (Sub.of touchMasks7.1) (Within.refl _ s)

theorem Touches.cmAverageDone (t : Fin 256) (mv : Nat) (last : Nat) : Touches.Statement (.cmAverageDone t mv last) := fun s =>
  show WithinO (partsMask ([.taps, .reg (HEAD_STATUS 0), .reg (TAP_STATUS 0), .reg (TAP_CM 0)])) s (execCmAverageDone t mv last s) from
    execCmAverageDone_within (Sub.of touchMasks7.2.1) (Within.refl _ s)

theorem Touches.tapFixedWrite (t : Fin 256) (clamp : Bool) (v : Word) : Touches.Statement (.tapFixedWrite t clamp v) := fun s =>
  show WithinO (partsMask ([.agenda, .pmc, .reg (TAP_CTL 0), .reg (TAP_CLAMP 0), .reg (TAP_EVENTS 0)])) s (execTapFixedWrite t clamp v s) from
    execTapFixedWrite_within (Sub.of touchMasks7.2.2.1) (Within.refl _ s)

theorem Touches.tapLiveWrite (t : Fin 256) (pga : Bool) (v : Word) : Touches.Statement (.tapLiveWrite t pga v) := fun s =>
  show WithinO (partsMask ([.agenda, .active, .pmc, .taps, .shd, .reg (TAP_PHASE 0), .reg (TAP_PGA 0), .reg (TAP_STATUS 0), .reg (SHD_HSTAT 0)])) s (execTapLiveWrite t pga v s) from
    execTapLiveWrite_within (Sub.of touchMasks7.2.2.2.1) (Within.refl _ s)

theorem Touches.slcCmwinWrite (g : Fin 16) (v : Word) : Touches.Statement (.slcCmwinWrite g v) := fun s =>
  show WithinO (partsMask ([.agenda, .pmc, .taps, .reg (HEAD_STATUS 0), .reg (TAP_STATUS 0), .reg (SLC_CMWIN 0)])) s (execSlcCmwinWrite g v s) from
    execSlcCmwinWrite_within (Sub.of touchMasks7.2.2.2.2.1) (Within.refl _ s)

theorem Touches.rotationStep (g : Fin 16) : Touches.Statement (.rotationStep g) := fun s =>
  show WithinO (partsMask ([.agenda, .pmc, .groups, .reg SLC_EVENTS, .reg (SLC_GSTATE 0)])) s (execRotationStep g s) from
    execRotationStep_within (Sub.of touchMasks7.2.2.2.2.2.1) (Within.refl _ s)

theorem Touches.guestHandover (g : Fin 16) : Touches.Statement (.guestHandover g) := fun s =>
  show WithinO (partsMask ([.groups, .reg (TAP_STATUS 0), .reg (SLC_GSTATE 0)])) s (execGuestHandover g s) from
    execGuestHandover_within (Sub.of touchMasks7.2.2.2.2.2.2.1) (Within.refl _ s)

theorem Touches.sliceCalRunEnd (g : Fin 16) (meas : SliceMeas) : Touches.Statement (.sliceCalRunEnd g meas) := fun s =>
  show WithinO (partsMask (List.append retireParts [.reg SLC_CMDSTAT, .reg (SLC_GLAST 0)])) s (execSliceCalRunEnd g meas s) from
    execSliceCalRunEnd_within (Sub.of touchMasks7.2.2.2.2.2.2.2.1) (Within.refl _ s)

theorem Touches.guestHandback (g : Fin 16) (fit : ResidualFit) : Touches.Statement (.guestHandback g fit) := fun s =>
  show WithinO (partsMask (List.append retireParts [.reg (SLC_GLAST 0)])) s (execGuestHandback g fit s) from
    execGuestHandback_within (Sub.of touchMasks7.2.2.2.2.2.2.2.2.1) (Within.refl _ s)

theorem Touches.overlapTimeout (g : Fin 16) : Touches.Statement (.overlapTimeout g) := fun s =>
  show WithinO (partsMask ([.agenda, .groups, .reg (TAP_STATUS 0), .reg (SLC_GSTATE 0), .reg (SLC_GLAST 0)])) s (execOverlapTimeout g s) from
    execOverlapTimeout_within (Sub.of touchMasks7.2.2.2.2.2.2.2.2.2) (Within.refl _ s)

theorem Touches.sliceFault (g : Fin 16) (i : Fin 17) : Touches.Statement (.sliceFault g i) := fun s =>
  show WithinO (partsMask (List.append retireParts [.heads, .taps])) s (execSliceFault g i s) from
    execSliceFault_within (Sub.of touchMasks8.1) (Within.refl _ s)

theorem Touches.guestStandin (g : Fin 16) : Touches.Statement (.guestStandin g) := fun s =>
  show WithinO (partsMask ([.agenda, .heads, .taps, .groups, .reg (TAP_STATUS 0), .reg (SLC_GSTATE 0)])) s (execGuestStandin g s) from
    execGuestStandin_within (Sub.of touchMasks8.2.1) (Within.refl _ s)

theorem Touches.sliceFaultReport (g : Fin 16) : Touches.Statement (.sliceFaultReport g) := fun s =>
  show WithinO (partsMask (List.append messageParts [.groups])) s (execSliceFaultReport g s) from
    execSliceFaultReport_within (Sub.of touchMasks8.2.2.1) (Within.refl _ s)

theorem Touches.slcCmdRun (g : Fin 16) (i : Fin 32) : Touches.Statement (.slcCmdRun g i) := fun s =>
  show WithinO (partsMask ([.agenda, .pmc, .groups, .reg SLC_EVENTS, .reg SLC_CMDSTAT])) s (execSlcCmdRun g i s) from
    execSlcCmdRun_within (Sub.of touchMasks8.2.2.2.1) (Within.refl _ s)

theorem Touches.slcCmdReinstate (g : Fin 16) (i : Fin 32) : Touches.Statement (.slcCmdReinstate g i) := fun s =>
  show WithinO (partsMask ([.agenda, .pmc, .groups, .reg SLC_EVENTS, .reg SLC_CMDSTAT])) s (execSlcCmdReinstate g i s) from
    execSlcCmdReinstate_within (Sub.of touchMasks8.2.2.2.2.1) (Within.refl _ s)

theorem Touches.bandLineRecordStore (h_ : Fin 16) (samples : List Sample) : Touches.Statement (.bandLineRecordStore h_ samples) := fun s =>
  show WithinO (partsMask (List.append messageParts [.draws, .host, .heads, .groups, .pipe, .shd, .mot, .reg (HEAD_PERIOD 0), .reg (TAP_EVENTS 0), .reg (TAP_OVR 0), .reg PIPE_EVENTS, .reg PIPE_ECC_CE, .reg PIPE_ECC_UE, .reg PIPE_ECC_ROW, .reg (PIPE_CLIP 0), .reg (SHD_HSTAT 0), .reg MOT_STATUS, .reg MOT_EVENTS, .reg (MOT_ASTATUS 0), .reg (MOT_AEVENTS 0), .reg (MOT_AVEL 0)])) s (execBandLineRecordStore h_ samples s) from
    execBandLineRecordStore_within (Sub.of touchMasks8.2.2.2.2.2.1) (Within.refl _ s)

theorem Touches.packetTimeout (h_ : Fin 16) : Touches.Statement (.packetTimeout h_) := fun s =>
  show WithinO (partsMask ([.host])) s (execPacketTimeout h_ s) from
    execPacketTimeout_within (Sub.of touchMasks8.2.2.2.2.2.2.1) (Within.refl _ s)

theorem Touches.scrubPass (found : List ScrubFind) : Touches.Statement (.scrubPass found) := fun s =>
  show WithinO (partsMask (List.append messageParts [.pipe, .reg PIPE_EVENTS, .reg PIPE_ECC_CE, .reg PIPE_ECC_UE, .reg PIPE_ECC_ROW, .reg (PIPE_SPROW 0)])) s (execScrubPass found s) from
    execScrubPass_within (Sub.of touchMasks8.2.2.2.2.2.2.2.1) (Within.refl _ s)

theorem Touches.laneFault (l : Fin 34) : Touches.Statement (.laneFault l) := fun s =>
  show WithinO (partsMask (List.append limpParts [.heads, .pipe, .reg SYS_LIMP, .reg PIPE_STATUS, .reg PIPE_EVENTS, .reg PIPE_LANEMAP, .reg PIPE_LANEFAIL])) s (execLaneFault l s) from
    execLaneFault_within (Sub.of touchMasks8.2.2.2.2.2.2.2.2.1) (Within.refl _ s)

theorem Touches.spareLaneTakeover (l : Fin 34) : Touches.Statement (.spareLaneTakeover l) := fun s =>
  show WithinO (partsMask ([.agenda, .heads, .pipe])) s (execSpareLaneTakeover l s) from
    execSpareLaneTakeover_within (Sub.of touchMasks8.2.2.2.2.2.2.2.2.2) (Within.refl _ s)

theorem Touches.laneFaultReport (l : Fin 34) : Touches.Statement (.laneFaultReport l) := fun s =>
  show WithinO (partsMask (List.append messageParts [.pipe])) s (execLaneFaultReport l s) from
    execLaneFaultReport_within (Sub.of touchMasks9.1) (Within.refl _ s)

theorem Touches.spareLaneFault (sp : Fin 2) : Touches.Statement (.spareLaneFault sp) := fun s =>
  show WithinO (partsMask (List.append messageParts [.reg PIPE_STATUS, .reg PIPE_EVENTS, .reg PIPE_LANEMAP])) s (execSpareLaneFault sp s) from
    execSpareLaneFault_within (Sub.of touchMasks9.2.1) (Within.refl _ s)

theorem Touches.coefLoad (slot : Nat) : Touches.Statement (.coefLoad slot) := fun s =>
  show WithinO (partsMask ([.pipe])) s (execCoefLoad slot s) from
    execCoefLoad_within (Sub.of touchMasks9.2.2.1) (Within.refl _ s)

theorem Touches.stagingGrant : Touches.Statement .stagingGrant := fun s =>
  show WithinO (partsMask ([.agenda, .pmc, .pipe, .shd, .reg PIPE_STATUS, .reg SHD_STATUS, .reg (SHD_HSTAT 0)])) s (execStagingGrant s) from
    execStagingGrant_within (Sub.of touchMasks9.2.2.2.1) (Within.refl _ s)

theorem Touches.coefFetchDone (bytes : List Byte) (celUe : Bool) : Touches.Statement (.coefFetchDone bytes celUe) := fun s =>
  show WithinO (partsMask (List.append limpParts [.draws, .host, .pipe, .reg SYS_LIMP, .reg PIPE_STATUS, .reg CEL_EVENTS, .reg CEL_UE, .reg CEL_ERRADDR_LO, .reg CEL_ERRADDR_HI])) s (execCoefFetchDone bytes celUe s) from
    execCoefFetchDone_within (Sub.of touchMasks9.2.2.2.2.1) (Within.refl _ s)

theorem Touches.coefCommit (slot : Nat) : Touches.Statement (.coefCommit slot) := fun s =>
  show WithinO (partsMask (List.append commandParts [.pipe, .reg PIPE_STATUS])) s (execCoefCommit slot s) from
    execCoefCommit_within (Sub.of touchMasks9.2.2.2.2.2.1) (Within.refl _ s)

theorem Touches.commitCopyStart : Touches.Statement .commitCopyStart := fun s =>
  show WithinO (partsMask (List.append commandParts [.pipe, .shd, .reg PIPE_STATUS, .reg SHD_STATUS])) s (execCommitCopyStart s) from
    execCommitCopyStart_within (Sub.of touchMasks9.2.2.2.2.2.2.1) (Within.refl _ s)

theorem Touches.commitCopyEnd : Touches.Statement .commitCopyEnd := fun s =>
  show WithinO (partsMask (List.append messageParts [.host, .heads, .pipe, .shd, .reg PIPE_STATUS, .reg PIPE_EVENTS, .reg (PIPE_SPROW 0), .reg (PIPE_GEN 0), .reg SHD_STATUS, .reg SHD_EVENTS, .reg (SHD_HSTAT 0)])) s (execCommitCopyEnd s) from
    execCommitCopyEnd_within (Sub.of touchMasks9.2.2.2.2.2.2.2.1) (Within.refl _ s)

theorem Touches.coefRead (slot : Nat) : Touches.Statement (.coefRead slot) := fun s =>
  show WithinO (partsMask (List.append commandParts [.emits])) s (execCoefRead slot s) from
    execCoefRead_within (Sub.of touchMasks9.2.2.2.2.2.2.2.2.1) (Within.refl _ s)

theorem Touches.calRun (slot : Nat) : Touches.Statement (.calRun slot) := fun s =>
  show WithinO (partsMask (List.append messageParts [.host, .shd, .reg (HEAD_STATUS 0), .reg SHD_STATUS, .reg SHD_EVENTS, .reg SHD_LAST, .reg SHD_LASTCNT, .reg (SHD_HSTAT 0)])) s (execCalRun slot s) from
    execCalRun_within (Sub.of touchMasks9.2.2.2.2.2.2.2.2.2) (Within.refl _ s)

theorem Touches.calRunTrigger (h_ : Fin 16) : Touches.Statement (.calRunTrigger h_) := fun s =>
  show WithinO (partsMask (triggerParts)) s (execCalRunTrigger h_ s) from
    execCalRunTrigger_within (Sub.of touchMasks10.1) (Within.refl _ s)

theorem Touches.calRunMeasureEnd (h_ : Fin 16) : Touches.Statement (.calRunMeasureEnd h_) := fun s =>
  show WithinO (partsMask ([.agenda, .active, .taps, .pipe, .shd, .lmp, .reg (TAP_PHASE 0), .reg (TAP_STATUS 0), .reg (SHD_HSTAT 0)])) s (execCalRunMeasureEnd h_ s) from
    execCalRunMeasureEnd_within (Sub.of touchMasks10.2.1) (Within.refl _ s)

theorem Touches.calRunComplete (h_ : Fin 16) : Touches.Statement (.calRunComplete h_) := fun s =>
  show WithinO (partsMask (List.append messageParts [.active, .host, .heads, .shd, .reg (HEAD_STATUS 0), .reg SHD_STATUS, .reg SHD_EVENTS, .reg SHD_LAST, .reg SHD_LASTCNT, .reg (SHD_HSTAT 0)])) s (execCalRunComplete h_ s) from
    execCalRunComplete_within (Sub.of touchMasks10.2.2.1) (Within.refl _ s)

theorem Touches.gapSearchTimeout (h_ : Fin 16) : Touches.Statement (.gapSearchTimeout h_) := fun s =>
  show WithinO (partsMask ([.agenda, .shd])) s (execGapSearchTimeout h_ s) from
    execGapSearchTimeout_within (Sub.of touchMasks10.2.2.2.1) (Within.refl _ s)

theorem Touches.darkTrackUpdate (t : Fin 256) (b : Fin 8) (samples : List Sample) : Touches.Statement (.darkTrackUpdate t b samples) := fun s =>
  show WithinO (partsMask (List.append messageParts [.pipe, .shd, .reg SHD_EVENTS, .reg (SHD_HSTAT 0)])) s (execDarkTrackUpdate t b samples s) from
    execDarkTrackUpdate_within (Sub.of touchMasks10.2.2.2.2.1) (Within.refl _ s)

theorem Touches.whiteTrackDue (h_ : Fin 16) (b : Fin 8) : Touches.Statement (.whiteTrackDue h_ b) := fun s =>
  show WithinO (partsMask (List.append messageParts [.pipe, .shd, .reg SHD_EVENTS, .reg SHD_LAST, .reg SHD_LASTCNT, .reg (SHD_HSTAT 0)])) s (execWhiteTrackDue h_ b s) from
    execWhiteTrackDue_within (Sub.of touchMasks10.2.2.2.2.2.1) (Within.refl _ s)

theorem Touches.attSave (slot : Nat) : Touches.Statement (.attSave slot) := fun s =>
  show WithinO (partsMask (List.append commandParts [.att, .reg ATT_STATUS, .reg ATT_EVENTS])) s (execAttSave slot s) from
    execAttSave_within (Sub.of touchMasks10.2.2.2.2.2.2.1) (Within.refl _ s)

theorem Touches.attSaveStepDone (flashOk : Bool) : Touches.Statement (.attSaveStepDone flashOk) := fun s =>
  show WithinO (partsMask (List.append commandParts [.att, .reg ATT_STATUS, .reg ATT_EVENTS, .reg ATT_SEQ_LO, .reg ATT_SEQ_HI, .reg ATT_JRNL, .reg ATT_USED])) s (execAttSaveStepDone flashOk s) from
    execAttSaveStepDone_within (Sub.of touchMasks10.2.2.2.2.2.2.2.1) (Within.refl _ s)

theorem Touches.posChange (m_ : Fin 8) (fwd : Bool) : Touches.Statement (.posChange m_ fwd) := fun s =>
  show WithinO (partsMask (List.append (List.append compareParts auxTriggerParts) [.emits, .reg (MOT_ASTATUS 0), .reg (MOT_AEVENTS 0), .reg (MOT_AVEL 0), .reg (MOT_AFERR 0), .reg (MOT_HDOCNUM 0)])) s (execPosChange m_ fwd s) from
    execPosChange_within (Sub.of touchMasks10.2.2.2.2.2.2.2.2.1) (Within.refl _ s)

theorem Touches.encoderEdge (e : Fin 4) (a : Bool) (b : Bool) (i : Bool) : Touches.Statement (.encoderEdge e a b i) := fun s =>
  show WithinO (partsMask (List.append (List.append compareParts auxTriggerParts) [.emits, .reg (MOT_ASTATUS 0), .reg (MOT_AFERR 0), .reg (MOT_ECNT 0), .reg (MOT_EIDX 0), .reg (MOT_EERR 0), .reg (MOT_HDOCNUM 0)])) s (execEncoderEdge e a b i s) from
    execEncoderEdge_within (Sub.of touchMasks10.2.2.2.2.2.2.2.2.2) (Within.refl _ s)

theorem Touches.docSensorEdge (k : Fin 16) (level : Bool) (_runTime : Nat) (runPos : List Int) : Touches.Statement (.docSensorEdge k level _runTime runPos) := fun s =>
  show WithinO (partsMask ([.agenda, .shd, .mot, .reg MOT_EVENTS, .reg MOT_ADMSTAT, .reg MOT_DSSTATE, .reg (MOT_ASTATUS 0), .reg (MOT_AEVENTS 0), .reg (MOT_AVEL 0)])) s (execDocSensorEdge k level _runTime runPos s) from
    execDocSensorEdge_within (Sub.of touchMasks11.1) (Within.refl _ s)

theorem Touches.admissionGrant : Touches.Statement .admissionGrant := fun s =>
  show WithinO (partsMask ([.agenda, .pmc, .mot, .reg MOT_ADMSTAT])) s (execAdmissionGrant s) from
    execAdmissionGrant_within (Sub.of touchMasks11.2.1) (Within.refl _ s)

theorem Touches.releasePulseEnd : Touches.Statement .releasePulseEnd := fun s =>
  show WithinO (partsMask ([.mot])) s (execReleasePulseEnd s) from
    execReleasePulseEnd_within (Sub.of touchMasks11.2.2.1) (Within.refl _ s)

theorem Touches.motHdocWrite (h_ : Fin 16) (v : Word) : Touches.Statement (.motHdocWrite h_ v) := fun s =>
  show WithinO (partsMask ([.agenda, .pmc, .mot, .reg (MOT_HDOC 0)])) s (execMotHdocWrite h_ v s) from
    execMotHdocWrite_within (Sub.of touchMasks11.2.2.2.1) (Within.refl _ s)

theorem Touches.fillEval : Touches.Statement .fillEval := fun s =>
  show WithinO (partsMask (List.append limpParts [.reg MOT_STATUS, .reg MOT_FILL, .reg MOT_EVENTS, .reg (MOT_AEVENTS 0)])) s (execFillEval s) from
    execFillEval_within (Sub.of touchMasks11.2.2.2.2.1) (Within.refl _ s)

theorem Touches.axisAtRest (m_ : Fin 8) : Touches.Statement (.axisAtRest m_) := fun s =>
  show WithinO (partsMask (List.append limpParts [.reg MOT_STATUS, .reg (MOT_AEVENTS 0), .reg (MOT_AVEL 0)])) s (execAxisAtRest m_ s) from
    execAxisAtRest_within (Sub.of touchMasks11.2.2.2.2.2.1) (Within.refl _ s)

theorem Touches.backupMoveDone (m_ : Fin 8) : Touches.Statement (.backupMoveDone m_) := fun s =>
  show WithinO (partsMask ([.agenda, .mot, .reg (MOT_ASTATUS 0), .reg (MOT_AEVENTS 0), .reg (MOT_AVEL 0)])) s (execBackupMoveDone m_ s) from
    execBackupMoveDone_within (Sub.of touchMasks11.2.2.2.2.2.2.1) (Within.refl _ s)

theorem Touches.runupDone (m_ : Fin 8) : Touches.Statement (.runupDone m_) := fun s =>
  show WithinO (partsMask ([.agenda, .mot, .reg (MOT_ASTATUS 0), .reg (MOT_AVEL 0)])) s (execRunupDone m_ s) from
    execRunupDone_within (Sub.of touchMasks11.2.2.2.2.2.2.2.1) (Within.refl _ s)

theorem Touches.holdTimeout : Touches.Statement .holdTimeout := fun s =>
  show WithinO (partsMask (List.append messageParts [.reg MOT_EVENTS])) s (execHoldTimeout s) from
    execHoldTimeout_within (Sub.of touchMasks11.2.2.2.2.2.2.2.2.1) (Within.refl _ s)

theorem Touches.motProfile (slot : Nat) (bytes : List Byte) : Touches.Statement (.motProfile slot bytes) := fun s =>
  show WithinO (partsMask (List.append commandParts [.mot])) s (execMotProfile slot bytes s) from
    execMotProfile_within (Sub.of touchMasks11.2.2.2.2.2.2.2.2.2) (Within.refl _ s)

theorem Touches.motAcmdStart (m_ : Fin 8) : Touches.Statement (.motAcmdStart m_) := fun s =>
  show WithinO (partsMask ([.agenda, .pmc, .mot, .reg MOT_EVENTS, .reg (MOT_ASTATUS 0)])) s (execMotAcmdStart m_ s) from
    execMotAcmdStart_within (Sub.of touchMasks12.1) (Within.refl _ s)

theorem Touches.motAcmdStop (m_ : Fin 8) : Touches.Statement (.motAcmdStop m_) := fun s =>
  show WithinO (partsMask ([.agenda, .pmc, .mot, .reg (MOT_ASTATUS 0), .reg (MOT_AEVENTS 0)])) s (execMotAcmdStop m_ s) from
    execMotAcmdStop_within (Sub.of touchMasks12.2.1) (Within.refl _ s)

theorem Touches.motAcmdImmediateStop (m_ : Fin 8) : Touches.Statement (.motAcmdImmediateStop m_) := fun s =>
  show WithinO (partsMask (List.append limpParts [.reg MOT_STATUS, .reg (MOT_AEVENTS 0), .reg (MOT_AVEL 0)])) s (execMotAcmdImmediateStop m_ s) from
    execMotAcmdImmediateStop_within (Sub.of touchMasks12.2.2.1) (Within.refl _ s)

theorem Touches.axisFault (m_ : Fin 8) (drv : Bool) : Touches.Statement (.axisFault m_ drv) := fun s =>
  show WithinO (partsMask (List.append haltParts [.reg MOT_STATUS, .reg MOT_EVENTS, .reg (MOT_AEVENTS 0)])) s (execAxisFault m_ drv s) from
    execAxisFault_within (Sub.of touchMasks12.2.2.2.1) (Within.refl _ s)

theorem Touches.irefStandby (m_ : Fin 8) : Touches.Statement (.irefStandby m_) := fun s =>
  show WithinO (partsMask ([.mot])) s (execIrefStandby m_ s) from
    execIrefStandby_within (Sub.of touchMasks12.2.2.2.2.1) (Within.refl _ s)

theorem Touches.motPaceWrite (v : Word) : Touches.Statement (.motPaceWrite v) := fun s =>
  show WithinO (partsMask ([.agenda, .pmc, .reg MOT_PACE, .reg MOT_EVENTS])) s (execMotPaceWrite v s) from
    execMotPaceWrite_within (Sub.of touchMasks12.2.2.2.2.2.1) (Within.refl _ s)

theorem Touches.lampLoad (slot : Nat) (bytes : List Byte) : Touches.Statement (.lampLoad slot bytes) := fun s =>
  show WithinO (partsMask (List.append messageParts [.host, .lmp, .lnk, .reg (HEAD_BAND 0 0), .reg LMP_STATUS, .reg LMP_EVENTS, .reg LMP_VSET, .reg (LMP_SSTAT 0), .reg (LMP_SDRV 0 0)])) s (execLampLoad slot bytes s) from
    execLampLoad_within (Sub.of touchMasks12.2.2.2.2.2.2.1) (Within.refl _ s)

theorem Touches.lampLoadComplete : Touches.Statement .lampLoadComplete := fun s =>
  show WithinO (partsMask (List.append commandParts [.lmp, .reg LMP_STATUS])) s (execLampLoadComplete s) from
    execLampLoadComplete_within (Sub.of touchMasks12.2.2.2.2.2.2.2.1) (Within.refl _ s)

theorem Touches.driveRecompute : Touches.Statement .driveRecompute := fun s =>
  show WithinO (partsMask (List.append messageParts [.lmp, .lnk, .reg LMP_EVENTS])) s (execDriveRecompute s) from
    execDriveRecompute_within (Sub.of touchMasks12.2.2.2.2.2.2.2.2.1) (Within.refl _ s)

theorem Touches.lmpSbinWrite (k : Fin 16) (r : Fin 4) (v : Word) : Touches.Statement (.lmpSbinWrite k r v) := fun s =>
  show WithinO (partsMask ([.agenda, .pmc, .reg (LMP_SBIN0 0), .reg (LMP_SBIN1 0), .reg (LMP_SBIN2 0), .reg (LMP_SBIN3 0)])) s (execLmpSbinWrite k r v s) from
    execLmpSbinWrite_within (Sub.of touchMasks12.2.2.2.2.2.2.2.2.2) (Within.refl _ s)

theorem Touches.stringDueTimeout (k : Nat) : Touches.Statement (.stringDueTimeout k) := fun s =>
  show WithinO (partsMask ([.agenda, .lmp])) s (execStringDueTimeout k s) from
    execStringDueTimeout_within (Sub.of touchMasks13.1) (Within.refl _ s)

theorem Touches.diagLate (k : Nat) : Touches.Statement (.diagLate k) := fun s =>
  show WithinO (partsMask (List.append messageParts [.lmp, .reg LMP_EVENTS, .reg LMP_CNT])) s (execDiagLate k s) from
    execDiagLate_within (Sub.of touchMasks13.2.1) (Within.refl _ s)

theorem Touches.strobeEnd (k : Nat) : Touches.Statement (.strobeEnd k) := fun s =>
  show WithinO (partsMask ([.lmp])) s (execStrobeEnd k s) from
    execStrobeEnd_within (Sub.of touchMasks13.2.2.1) (Within.refl _ s)

theorem Touches.lstbFall : Touches.Statement .lstbFall := fun s =>
  show WithinO (partsMask ([.lmp])) s (execLstbFall s) from
    execLstbFall_within (Sub.of touchMasks13.2.2.2.1) (Within.refl _ s)

theorem Touches.lbandHoldEnd : Touches.Statement .lbandHoldEnd := fun s =>
  show WithinO (partsMask ([.lmp])) s (execLbandHoldEnd s) from
    execLbandHoldEnd_within (Sub.of touchMasks13.2.2.2.2.1) (Within.refl _ s)

theorem Touches.pulseDiagnosed (k : Nat) (meas : PulseMeas) : Touches.Statement (.pulseDiagnosed k meas) := fun s =>
  show WithinO (partsMask (List.append limpParts [.heads, .reg SYS_LIMP, .reg (HEAD_BAND 0 0), .reg LMP_EVENTS, .reg LMP_LAST, .reg (LMP_SSTAT 0), .reg (LMP_SMEAS 0), .reg (LMP_SDRV 0 0)])) s (execPulseDiagnosed k meas s) from
    execPulseDiagnosed_within (Sub.of touchMasks13.2.2.2.2.2.1) (Within.refl _ s)

theorem Touches.redistApply (k : Nat) : Touches.Statement (.redistApply k) := fun s =>
  show WithinO (partsMask ([.lmp, .reg (HEAD_BAND 0 0), .reg (LMP_SSTAT 0), .reg (LMP_SDRV 0 0)])) s (execRedistApply k s) from
    execRedistApply_within (Sub.of touchMasks13.2.2.2.2.2.2.1) (Within.refl _ s)

theorem Touches.redistSettleEnd (k : Nat) : Touches.Statement (.redistSettleEnd k) := fun s =>
  show WithinO (partsMask ([.lmp])) s (execRedistSettleEnd k s) from
    execRedistSettleEnd_within (Sub.of touchMasks13.2.2.2.2.2.2.2.1) (Within.refl _ s)

theorem Touches.servoPeriodEnd (vmeas : Nat) (irail : Nat) : Touches.Statement (.servoPeriodEnd vmeas irail) := fun s =>
  show WithinO (partsMask ([.agenda, .pmc, .lmp, .reg LMP_STATUS, .reg LMP_EVENTS, .reg LMP_VSET, .reg LMP_HMIN, .reg LMP_IRAIL])) s (execServoPeriodEnd vmeas irail s) from
    execServoPeriodEnd_within (Sub.of touchMasks13.2.2.2.2.2.2.2.2.1) (Within.refl _ s)

theorem Touches.railOkSet : Touches.Statement .railOkSet := fun s =>
  show WithinO (partsMask ([.agenda, .lmp, .reg LMP_STATUS])) s (execRailOkSet s) from
    execRailOkSet_within (Sub.of touchMasks13.2.2.2.2.2.2.2.2.2) (Within.refl _ s)

theorem Touches.railFault (kind : Fin 3) : Touches.Statement (.railFault kind) := fun s =>
  show WithinO (partsMask (List.append haltParts [.reg LMP_EVENTS, .reg LMP_LAST])) s (execRailFault kind s) from
    execRailFault_within (Sub.of touchMasks14.1) (Within.refl _ s)

theorem Touches.lmpCmdRestore (sat : BitVec 8) (str : BitVec 8) : Touches.Statement (.lmpCmdRestore sat str) := fun s =>
  show WithinO (partsMask ([.agenda, .pmc, .lmp, .reg LMP_CMDSTAT])) s (execLmpCmdRestore sat str s) from
    execLmpCmdRestore_within (Sub.of touchMasks14.2.1) (Within.refl _ s)

theorem Touches.lmpCmdRestoreAll : Touches.Statement .lmpCmdRestoreAll := fun s =>
  show WithinO (partsMask ([.agenda, .pmc, .lmp, .reg LMP_CMDSTAT])) s (execLmpCmdRestoreAll s) from
    execLmpCmdRestoreAll_within (Sub.of touchMasks14.2.2.1) (Within.refl _ s)

theorem Touches.lmpCmdLampTest : Touches.Statement .lmpCmdLampTest := fun s =>
  show WithinO (partsMask ([.agenda, .pmc, .lmp, .reg LMP_STATUS, .reg LMP_VSET, .reg LMP_CMDSTAT])) s (execLmpCmdLampTest s) from
    execLmpCmdLampTest_within (Sub.of touchMasks14.2.2.2.1) (Within.refl _ s)

theorem Touches.lampTestPulse (meas : PulseMeas) : Touches.Statement (.lampTestPulse meas) := fun s =>
  show WithinO (partsMask (List.append limpParts [.reg SYS_LIMP, .reg (HEAD_BAND 0 0), .reg LMP_EVENTS, .reg LMP_LAST, .reg (LMP_SSTAT 0), .reg (LMP_SMEAS 0), .reg (LMP_SDRV 0 0)])) s (execLampTestPulse meas s) from
    execLampTestPulse_within (Sub.of touchMasks14.2.2.2.2.1) (Within.refl _ s)

theorem Touches.dbCmdPi (v : Word) : Touches.Statement (.dbCmdPi v) := fun s =>
  show WithinO (partsMask (List.append messageParts [.host, .reg HOST_EVENTS, .reg HOST_ERRINFO, .reg (HOST_RHIDX 0)])) s (execDbCmdPi v s) from
    execDbCmdPi_within (Sub.of touchMasks14.2.2.2.2.2.1) (Within.refl _ s)

theorem Touches.dbCplCi (v : Word) : Touches.Statement (.dbCplCi v) := fun s =>
  show WithinO (partsMask (List.append messageParts [.host, .reg HOST_EVENTS, .reg HOST_ERRINFO, .reg (HOST_RHIDX 0)])) s (execDbCplCi v s) from
    execDbCplCi_within (Sub.of touchMasks14.2.2.2.2.2.2.1) (Within.refl _ s)

theorem Touches.dbEvtCi (v : Word) : Touches.Statement (.dbEvtCi v) := fun s =>
  show WithinO (partsMask (List.append messageParts [.host, .reg HOST_EVENTS, .reg HOST_ERRINFO, .reg (HOST_RHIDX 0)])) s (execDbEvtCi v s) from
    execDbEvtCi_within (Sub.of touchMasks14.2.2.2.2.2.2.2.1) (Within.refl _ s)

theorem Touches.dbImgPi (h_ : Fin 16) (v : Word) : Touches.Statement (.dbImgPi h_ v) := fun s =>
  show WithinO (partsMask (List.append messageParts [.host, .reg HOST_EVENTS, .reg HOST_ERRINFO, .reg (HOST_RHIDX 0)])) s (execDbImgPi h_ v s) from
    execDbImgPi_within (Sub.of touchMasks14.2.2.2.2.2.2.2.2.1) (Within.refl _ s)

theorem Touches.hostRctlWrite (r : Fin 19) (v : Word) : Touches.Statement (.hostRctlWrite r v) := fun s =>
  show WithinO (partsMask (List.append commandParts [.reg HOST_EVENTS, .reg (HOST_RCTL 0), .reg (HOST_RSTAT 0), .reg (HOST_RHIDX 0)])) s (execHostRctlWrite r v s) from
    execHostRctlWrite_within (Sub.of touchMasks14.2.2.2.2.2.2.2.2.2) (Within.refl _ s)

theorem Touches.ringIdle (r : Fin 19) : Touches.Statement (.ringIdle r) := fun s =>
  show WithinO (partsMask ([.reg (HOST_RSTAT 0)])) s (execRingIdle r s) from
    execRingIdle_within (Sub.of touchMasks15.1) (Within.refl _ s)

theorem Touches.cmdFetchDone (d : List Byte) : Touches.Statement (.cmdFetchDone d) := fun s =>
  show WithinO (partsMask (List.append commandParts [.reg (HOST_RSTAT 0)])) s (execCmdFetchDone d s) from
    execCmdFetchDone_within (Sub.of touchMasks15.2.1) (Within.refl _ s)

theorem Touches.ringFetchError (r : Fin 19) : Touches.Statement (.ringFetchError r) := fun s =>
  show WithinO (partsMask (List.append messageParts [.host, .reg HOST_EVENTS, .reg HOST_ERRINFO, .reg (HOST_RCTL 0), .reg (HOST_RSTAT 0)])) s (execRingFetchError r s) from
    execRingFetchError_within (Sub.of touchMasks15.2.2.1) (Within.refl _ s)

theorem Touches.cmdDataReadError (slot : Nat) : Touches.Statement (.cmdDataReadError slot) := fun s =>
  show WithinO (partsMask (List.append commandParts [.pipe, .reg HOST_EVENTS, .reg HOST_ERRINFO, .reg PIPE_STATUS])) s (execCmdDataReadError slot s) from
    execCmdDataReadError_within (Sub.of touchMasks15.2.2.2.1) (Within.refl _ s)

theorem Touches.nop (slot : Nat) : Touches.Statement (.nop slot) := fun s =>
  show WithinO (partsMask (commandParts)) s (execNop slot s) from
    execNop_within (Sub.of touchMasks15.2.2.2.2.1) (Within.refl _ s)

theorem Touches.skipDoc (slot : Nat) : Touches.Statement (.skipDoc slot) := fun s =>
  show WithinO (partsMask (commandParts)) s (execSkipDoc slot s) from
    execSkipDoc_within (Sub.of touchMasks15.2.2.2.2.2.1) (Within.refl _ s)

theorem Touches.skipDocDone (slot : Nat) : Touches.Statement (.skipDocDone slot) := fun s =>
  show WithinO (partsMask (commandParts)) s (execSkipDocDone slot s) from
    execSkipDocDone_within (Sub.of touchMasks15.2.2.2.2.2.2.1) (Within.refl _ s)

theorem Touches.completionWrite : Touches.Statement .completionWrite := fun s =>
  show WithinO (partsMask (List.append commandParts [.emits, .reg HOST_EVENTS, .reg (HOST_RSTAT 0)])) s (execCompletionWrite s) from
    execCompletionWrite_within (Sub.of touchMasks15.2.2.2.2.2.2.2.1) (Within.refl _ s)

theorem Touches.packetDeliver (h_ : Fin 16) (buf : BufDesc) (ecc : CelEcc) : Touches.Statement (.packetDeliver h_ buf ecc) := fun s =>
  show WithinO (partsMask (List.append limpParts [.draws, .emits, .host, .reg SYS_LIMP, .reg (HOST_RSTAT 0), .reg CEL_EVENTS, .reg CEL_CE, .reg CEL_UE, .reg CEL_ERRADDR_LO, .reg CEL_ERRADDR_HI])) s (execPacketDeliver h_ buf ecc s) from
    execPacketDeliver_within (Sub.of touchMasks15.2.2.2.2.2.2.2.2.1) (Within.refl _ s)

theorem Touches.msixSignal (src : Fin 22) : Touches.Statement (.msixSignal src) := fun s =>
  show WithinO (partsMask ([.emits, .host, .reg (MSIX_PBA 0)])) s (execMsixSignal src s) from
    execMsixSignal_within (Sub.of touchMasks15.2.2.2.2.2.2.2.2.2) (Within.refl _ s)

theorem Touches.msixUnmask (vec : Fin 64) : Touches.Statement (.msixUnmask vec) := fun s =>
  show WithinO (partsMask ([.agenda, .emits, .pmc, .reg (MSIX_CTRL 0), .reg (MSIX_PBA 0)])) s (execMsixUnmask vec s) from
    execMsixUnmask_within (Sub.of touchMasks16.1) (Within.refl _ s)

theorem Touches.landingDmaPop : Touches.Statement .landingDmaPop := fun s =>
  show WithinO (partsMask (List.append commandParts [.emits, .lnd, .reg (HOST_RSTAT 0)])) s (execLandingDmaPop s) from
    execLandingDmaPop_within (Sub.of touchMasks16.2.1) (Within.refl _ s)

theorem Touches.lndDataLoRead (ms : Master) : Touches.Statement (.lndDataLoRead ms) := fun s =>
  show WithinO (partsMask (List.append readParts [.shadows, .lnd])) s (execLndDataLoRead ms s) from
    execLndDataLoRead_within (Sub.of touchMasks16.2.2.1) (Within.refl _ s)

theorem Touches.lndDataHiRead (ms : Master) : Touches.Statement (.lndDataHiRead ms) := fun s =>
  show WithinO (partsMask (List.append readParts [.shadows, .lnd])) s (execLndDataHiRead ms s) from
    execLndDataHiRead_within (Sub.of touchMasks16.2.2.2.1) (Within.refl _ s)

theorem Touches.lndDrop : Touches.Statement .lndDrop := fun s =>
  show WithinO (partsMask ([.agenda, .lnd, .pmc])) s (execLndDrop s) from
    execLndDrop_within (Sub.of touchMasks16.2.2.2.2.1) (Within.refl _ s)

theorem Touches.lndFlush : Touches.Statement .lndFlush := fun s =>
  show WithinO (partsMask ([.agenda, .lnd, .pmc, .reg LND_EVENTS, .reg (LND_LOST 0), .reg LND_FLUSHCNT, .reg LND_FLUSHT_LO, .reg LND_FLUSHT_HI])) s (execLndFlush s) from
    execLndFlush_within (Sub.of touchMasks16.2.2.2.2.2.1) (Within.refl _ s)

theorem Touches.lndCtlWrite (v : Word) : Touches.Statement (.lndCtlWrite v) := fun s =>
  show WithinO (partsMask ([.agenda, .pmc, .reg LND_CTL, .reg LND_EVENTS])) s (execLndCtlWrite v s) from
    execLndCtlWrite_within (Sub.of touchMasks16.2.2.2.2.2.2.1) (Within.refl _ s)

theorem Touches.auxCvctlWrite (c : Fin 4) (v : Word) : Touches.Statement (.auxCvctlWrite c v) := fun s =>
  show WithinO (partsMask (List.append (List.append messageParts auxTriggerParts) [.reg AUX_DROPS, .reg (AUX_CVCTL 0)])) s (execAuxCvctlWrite c v s) from
    execAuxCvctlWrite_within (Sub.of touchMasks16.2.2.2.2.2.2.2.1) (Within.refl _ s)

theorem Touches.auxSwtrig (c : Fin 4) : Touches.Statement (.auxSwtrig c) := fun s =>
  show WithinO (partsMask (List.append auxTriggerParts [.agenda, .pmc])) s (execAuxSwtrig c s) from
    execAuxSwtrig_within (Sub.of touchMasks16.2.2.2.2.2.2.2.2.1) (Within.refl _ s)

theorem Touches.auxTimerTrigger (c : Fin 4) : Touches.Statement (.auxTimerTrigger c) := fun s =>
  show WithinO (partsMask (List.append auxTriggerParts [.agenda])) s (execAuxTimerTrigger c s) from
    execAuxTimerTrigger_within (Sub.of touchMasks16.2.2.2.2.2.2.2.2.2) (Within.refl _ s)

theorem Touches.auxInjWrite (c : Fin 2) (v : Word) : Touches.Statement (.auxInjWrite c v) := fun s =>
  show WithinO (partsMask (List.append auxTriggerParts [.agenda, .pmc])) s (execAuxInjWrite c v s) from
    execAuxInjWrite_within (Sub.of touchMasks17.1) (Within.refl _ s)

theorem Touches.fcConversionDone (c : Fin 2) (raw : Int) : Touches.Statement (.fcConversionDone c raw) := fun s =>
  show WithinO (partsMask (List.append (List.append messageParts auxTriggerParts) [.reg AUX_DROPS, .reg (AUX_RES_LO 0 0), .reg (AUX_RES_HI 0 0), .reg (AUX_TS_LO 0 0), .reg (AUX_TS_HI 0 0), .reg (AUX_IRES_LO 0 0), .reg (AUX_IRES_HI 0 0), .reg (AUX_ITS_LO 0 0), .reg (AUX_ITS_HI 0 0), .reg (AUX_WC_STAT 0)])) s (execFcConversionDone c raw s) from
    execFcConversionDone_within (Sub.of touchMasks17.2.1) (Within.refl _ s)

theorem Touches.pcOutput (c : Fin 2) (raw : Int) : Touches.Statement (.pcOutput c raw) := fun s =>
  show WithinO (partsMask (List.append (List.append messageParts auxTriggerParts) [.reg AUX_DROPS, .reg (AUX_RES_LO 0 0), .reg (AUX_RES_HI 0 0), .reg (AUX_TS_LO 0 0), .reg (AUX_TS_HI 0 0), .reg (AUX_IRES_LO 0 0), .reg (AUX_IRES_HI 0 0), .reg (AUX_ITS_LO 0 0), .reg (AUX_ITS_HI 0 0), .reg (AUX_WC_STAT 0)])) s (execPcOutput c raw s) from
    execPcOutput_within (Sub.of touchMasks17.2.2.1) (Within.refl _ s)

theorem Touches.streamMsgTimeout (c : Fin 4) : Touches.Statement (.streamMsgTimeout c) := fun s =>
  show WithinO (partsMask (List.append messageParts [.aux, .reg AUX_EVENTS, .reg AUX_DROPS])) s (execStreamMsgTimeout c s) from
    execStreamMsgTimeout_within (Sub.of touchMasks17.2.2.2.1) (Within.refl _ s)

theorem Touches.refSettled (c : Fin 4) : Touches.Statement (.refSettled c) := fun s =>
  show WithinO (partsMask ([.agenda, .reg AUX_STATUS])) s (execRefSettled c s) from
    execRefSettled_within (Sub.of touchMasks17.2.2.2.2.1) (Within.refl _ s)

theorem Touches.refFault (c : Fin 4) : Touches.Statement (.refFault c) := fun s =>
  show WithinO (partsMask (List.append messageParts [.aux, .reg AUX_STATUS, .reg AUX_EVENTS, .reg AUX_CALSTAT, .reg AUX_DROPS])) s (execRefFault c s) from
    execRefFault_within (Sub.of touchMasks17.2.2.2.2.2.1) (Within.refl _ s)

theorem Touches.auxCalPeriod : Touches.Statement .auxCalPeriod := fun s =>
  show WithinO (partsMask (List.append (List.append messageParts auxTriggerParts) [.reg AUX_DROPS])) s (execAuxCalPeriod s) from
    execAuxCalPeriod_within (Sub.of touchMasks17.2.2.2.2.2.2.1) (Within.refl _ s)

theorem Touches.auxCalcmd (v : Word) : Touches.Statement (.auxCalcmd v) := fun s =>
  show WithinO (partsMask (List.append (List.append messageParts auxTriggerParts) [.reg AUX_DROPS])) s (execAuxCalcmd v s) from
    execAuxCalcmd_within (Sub.of touchMasks17.2.2.2.2.2.2.2.1) (Within.refl _ s)

theorem Touches.auxCalRangeDone (c : Fin 4) (off : Int) (gain : Int) : Touches.Statement (.auxCalRangeDone c off gain) := fun s =>
  show WithinO (partsMask (List.append (List.append messageParts auxTriggerParts) [.reg AUX_DROPS, .reg (AUX_TRIM 0 0)])) s (execAuxCalRangeDone c off gain s) from
    execAuxCalRangeDone_within (Sub.of touchMasks17.2.2.2.2.2.2.2.2.1) (Within.refl _ s)

theorem Touches.auxConvFault (c : Fin 4) : Touches.Statement (.auxConvFault c) := fun s =>
  show WithinO (partsMask (List.append limpParts [.aux, .reg SYS_LIMP, .reg AUX_STATUS, .reg AUX_EVENTS, .reg AUX_CALSTAT, .reg AUX_DROPS])) s (execAuxConvFault c s) from
    execAuxConvFault_within (Sub.of touchMasks17.2.2.2.2.2.2.2.2.2) (Within.refl _ s)

theorem Touches.auxMigrate (c : Fin 4) : Touches.Statement (.auxMigrate c) := fun s =>
  show WithinO (partsMask ([.agenda, .aux, .reg AUX_STATUS, .reg AUX_CALSTAT, .reg (AUX_EXC 0)])) s (execAuxMigrate c s) from
    execAuxMigrate_within (Sub.of touchMasks18.1) (Within.refl _ s)

theorem Touches.auxExcWrite (n : Fin 4) (v : Word) : Touches.Statement (.auxExcWrite n v) := fun s =>
  show WithinO (partsMask ([.agenda, .pmc, .reg AUX_EVENTS, .reg (AUX_EXC 0)])) s (execAuxExcWrite n v s) from
    execAuxExcWrite_within (Sub.of touchMasks18.2.1) (Within.refl _ s)

theorem Touches.auxResLoRead (ms : Master) (off : Nat) : Touches.Statement (.auxResLoRead ms off) := fun s =>
  show WithinO (partsMask (List.append readParts [.shadows, .aux])) s (execAuxResLoRead ms off s) from
    execAuxResLoRead_within (Sub.of touchMasks18.2.2.1) (Within.refl _ s)

theorem Touches.recSignalChange (smp : BitVec 64) : Touches.Statement (.recSignalChange smp) := fun s =>
  show WithinO (partsMask (sampleParts)) s (execRecSignalChange smp s) from
    execRecSignalChange_within (Sub.of touchMasks18.2.2.2.1) (Within.refl _ s)

theorem Touches.recArm : Touches.Statement .recArm := fun s =>
  show WithinO (partsMask (List.append messageParts [.reg REC_STATUS, .reg REC_EVENTS])) s (execRecArm s) from
    execRecArm_within (Sub.of touchMasks18.2.2.2.2.1) (Within.refl _ s)

theorem Touches.recDisarm : Touches.Statement .recDisarm := fun s =>
  show WithinO (partsMask (List.append messageParts [.reg REC_STATUS, .reg REC_EVENTS, .reg REC_DEAD_CAP])) s (execRecDisarm s) from
    execRecDisarm_within (Sub.of touchMasks18.2.2.2.2.2.1) (Within.refl _ s)

theorem Touches.recHostTrig : Touches.Statement .recHostTrig := fun s =>
  show WithinO (partsMask ([.agenda, .pmc, .recd])) s (execRecHostTrig s) from
    execRecHostTrig_within (Sub.of touchMasks18.2.2.2.2.2.2.1) (Within.refl _ s)

theorem Touches.recCopy : Touches.Statement .recCopy := fun s =>
  show WithinO (partsMask ([.agenda, .pmc, .reg REC_STATUS, .reg REC_EVENTS])) s (execRecCopy s) from
    execRecCopy_within (Sub.of touchMasks18.2.2.2.2.2.2.2.1) (Within.refl _ s)

theorem Touches.recClearEnd : Touches.Statement .recClearEnd := fun s =>
  show WithinO (partsMask ([.recd, .reg REC_STATUS, .reg REC_INFO, .reg REC_LOST, .reg REC_DEAD_ARM])) s (execRecClearEnd s) from
    execRecClearEnd_within (Sub.of touchMasks18.2.2.2.2.2.2.2.2.1) (Within.refl _ s)

theorem Touches.recCopyDone : Touches.Statement .recCopyDone := fun s =>
  show WithinO (partsMask (List.append messageParts [.emits, .reg REC_STATUS, .reg REC_EVENTS])) s (execRecCopyDone s) from
    execRecCopyDone_within (Sub.of touchMasks18.2.2.2.2.2.2.2.2.2) (Within.refl _ s)

theorem Touches.recRd0Read (ms : Master) : Touches.Statement (.recRd0Read ms) := fun s =>
  show WithinO (partsMask (List.append readParts [.recd, .reg REC_EVENTS])) s (execRecRd0Read ms s) from
    execRecRd0Read_within (Sub.of touchMasks19.1) (Within.refl _ s)

theorem Touches.recRd3Read (ms : Master) : Touches.Statement (.recRd3Read ms) := fun s =>
  show WithinO (partsMask (List.append readParts [.reg REC_EVENTS, .reg REC_RDIDX])) s (execRecRd3Read ms s) from
    execRecRd3Read_within (Sub.of touchMasks19.2.1) (Within.refl _ s)

theorem Touches.superframeSend : Touches.Statement .superframeSend := fun s =>
  show WithinO (partsMask (List.append compareParts [.emits, .reg HWY_MSTAT])) s (execSuperframeSend s) from
    execSuperframeSend_within (Sub.of touchMasks19.2.2.1) (Within.refl _ s)

theorem Touches.superframeRx (port : Fin 2) (bytes : List Byte) : Touches.Statement (.superframeRx port bytes) := fun s =>
  show WithinO (partsMask (List.append (List.append compareParts limpParts) [.time, .draws, .emits, .start, .att, .reg SYS_STARTS, .reg SYS_STARTSTAT, .reg CLK_STATUS, .reg CLK_TIME_ERR, .reg CLK_STEER, .reg ATT_EVENTS, .reg HWY_STATUS, .reg HWY_ERRCNT, .reg HWY_MSTAT, .reg (HWY_MRX 0)])) s (execSuperframeRx port bytes s) from
    execSuperframeRx_within (Sub.of touchMasks19.2.2.2.1) (Within.refl _ s)

theorem Touches.tokenRx (a : BitVec 8) (b : BitVec 8) : Touches.Statement (.tokenRx a b) := fun s =>
  show WithinO (partsMask ([.agenda, .emits, .hwy])) s (execTokenRx a b s) from
    execTokenRx_within (Sub.of touchMasks19.2.2.2.2.1) (Within.refl _ s)

theorem Touches.replicaStep : Touches.Statement .replicaStep := fun s =>
  show WithinO (partsMask (List.append triggerParts [.hwy])) s (execReplicaStep s) from
    execReplicaStep_within (Sub.of touchMasks19.2.2.2.2.2.1) (Within.refl _ s)

theorem Touches.hwyMsgSend (v : Word) : Touches.Statement (.hwyMsgSend v) := fun s =>
  show WithinO (partsMask ([.agenda, .pmc, .hwy, .reg HWY_MCTL, .reg HWY_MSTAT])) s (execHwyMsgSend v s) from
    execHwyMsgSend_within (Sub.of touchMasks19.2.2.2.2.2.2.1) (Within.refl _ s)

theorem Touches.enumerationDone (index : Nat) (n : Nat) (err : Nat) (udly : Nat) (ddly : Nat) : Touches.Statement (.enumerationDone index n err udly ddly) := fun s =>
  show WithinO (partsMask ([.hwy, .reg SYS_LIMP, .reg CLK_STATUS, .reg HWY_STATUS, .reg HWY_EVENTS, .reg HWY_LINK])) s (execEnumerationDone index n err udly ddly s) from
    execEnumerationDone_within (Sub.of touchMasks19.2.2.2.2.2.2.2.1) (Within.refl _ s)

theorem Touches.hwyBreak (port : Fin 2) : Touches.Statement (.hwyBreak port) := fun s =>
  show WithinO (partsMask (List.append limpParts [.hwy, .reg SYS_LIMP, .reg CLK_STATUS, .reg HWY_STATUS, .reg HWY_EVENTS])) s (execHwyBreak port s) from
    execHwyBreak_within (Sub.of touchMasks19.2.2.2.2.2.2.2.2.1) (Within.refl _ s)

theorem Touches.foldComplete : Touches.Statement .foldComplete := fun s =>
  show WithinO (partsMask (List.append messageParts [.hwy, .reg CLK_STATUS, .reg HWY_STATUS])) s (execFoldComplete s) from
    execFoldComplete_within (Sub.of touchMasks19.2.2.2.2.2.2.2.2.2) (Within.refl _ s)

theorem Touches.hwyCutOff : Touches.Statement .hwyCutOff := fun s =>
  show WithinO (partsMask (List.append haltParts [.reg HWY_EVENTS])) s (execHwyCutOff s) from
    execHwyCutOff_within (Sub.of touchMasks20.1) (Within.refl _ s)

theorem Touches.hwyRejoin : Touches.Statement .hwyRejoin := fun s =>
  show WithinO (partsMask ([.agenda, .emits, .pmc, .hwy, .reg HWY_EVENTS])) s (execHwyRejoin s) from
    execHwyRejoin_within (Sub.of touchMasks20.2.1) (Within.refl _ s)

theorem Touches.hwyCtlWrite (v : Word) : Touches.Statement (.hwyCtlWrite v) := fun s =>
  show WithinO (partsMask ([.agenda, .pmc, .hwy, .reg CLK_STATUS, .reg HWY_CTL, .reg HWY_STATUS, .reg HWY_EVENTS, .reg HWY_MSTAT])) s (execHwyCtlWrite v s) from
    execHwyCtlWrite_within (Sub.of touchMasks20.2.2.1) (Within.refl _ s)

theorem Touches.linkCycleEnd (frames : List (List Byte)) : Touches.Statement (.linkCycleEnd frames) := fun s =>
  show WithinO (partsMask (List.append limpParts [.draws, .emits, .lnk, .reg SYS_LIMP, .reg (HEAD_BAND 0 0), .reg LMP_EVENTS, .reg LMP_LAST, .reg (LMP_SSTAT 0), .reg (LMP_SMEAS 0), .reg (LMP_SDRV 0 0), .reg LNK_STATUS, .reg LNK_EVENTS, .reg LNK_CHK, .reg LNK_ERRCNT])) s (execLinkCycleEnd frames s) from
    execLinkCycleEnd_within (Sub.of touchMasks20.2.2.2.1) (Within.refl _ s)

theorem Touches.linkSizingDone (count : Option Nat) : Touches.Statement (.linkSizingDone count) := fun s =>
  show WithinO (partsMask (List.append limpParts [.emits, .lnk, .reg SYS_LIMP, .reg LMP_EVENTS, .reg LNK_STATUS, .reg LNK_EVENTS, .reg LNK_CHK])) s (execLinkSizingDone count s) from
    execLinkSizingDone_within (Sub.of touchMasks20.2.2.2.2.1) (Within.refl _ s)

theorem Touches.lnkResize : Touches.Statement .lnkResize := fun s =>
  show WithinO (partsMask ([.agenda, .pmc, .lnk, .reg LNK_STATUS])) s (execLnkResize s) from
    execLnkResize_within (Sub.of touchMasks20.2.2.2.2.2.1) (Within.refl _ s)

theorem Touches.pmcSnap : Touches.Statement .pmcSnap := fun s =>
  show WithinO (partsMask ([.agenda, .pmc])) s (execPmcSnap s) from
    execPmcSnap_within (Sub.of touchMasks20.2.2.2.2.2.2.1) (Within.refl _ s)

theorem Touches.pmcFreeze (b : Bool) : Touches.Statement (.pmcFreeze b) := fun s =>
  show WithinO (partsMask ([.agenda, .pmc, .reg PMC_CTL])) s (execPmcFreeze b s) from
    execPmcFreeze_within (Sub.of touchMasks20.2.2.2.2.2.2.2.1) (Within.refl _ s)

theorem Touches.pmcClr : Touches.Statement .pmcClr := fun s =>
  show WithinO (partsMask ([.agenda, .pmc])) s (execPmcClr s) from
    execPmcClr_within (Sub.of touchMasks20.2.2.2.2.2.2.2.2.1) (Within.refl _ s)

theorem Touches.pmcLoadLow (k : Fin 9) (v : Word) : Touches.Statement (.pmcLoadLow k v) := fun s =>
  show WithinO (partsMask ([.agenda, .pmc])) s (execPmcLoadLow k v s) from
    execPmcLoadLow_within (Sub.of touchMasks20.2.2.2.2.2.2.2.2.2) (Within.refl _ s)

theorem Touches.pmcLoadHigh (k : Fin 9) (v : Word) : Touches.Statement (.pmcLoadHigh k v) := fun s =>
  show WithinO (partsMask ([.agenda, .pmc])) s (execPmcLoadHigh k v s) from
    execPmcLoadHigh_within (Sub.of touchMasks21.1) (Within.refl _ s)

theorem Touches.pmcOverflow (k : Fin 8) : Touches.Statement (.pmcOverflow k) := fun s =>
  show WithinO (partsMask (List.append messageParts [.reg PMC_OVF])) s (execPmcOverflow k s) from
    execPmcOverflow_within (Sub.of touchMasks21.2.1) (Within.refl _ s)

theorem Touches.jtagExtest (on : Bool) : Touches.Statement (.jtagExtest on) := fun s =>
  show WithinO (partsMask (resetParts)) s (execJtagExtest on s) from
    execJtagExtest_within (Sub.of touchMasks21.2.2.1) (Within.refl _ s)

theorem Touches.tmodeHigh (on : Bool) : Touches.Statement (.tmodeHigh on) := fun s =>
  show WithinO (partsMask (resetParts)) s (execTmodeHigh on s) from
    execTmodeHigh_within (Sub.of touchMasks21.2.2.2.1) (Within.refl _ s)

theorem Touches.porConditionsMet : Touches.Statement .porConditionsMet := fun s =>
  show WithinO (partsMask ([.pwr])) s (execPorConditionsMet s) from
    execPorConditionsMet_within (Sub.of touchMasks21.2.2.2.2.1) (Within.refl _ s)

theorem Touches.trstNLow : Touches.Statement .trstNLow := fun s =>
  show WithinO (partsMask ([.pwr])) s (execTrstNLow s) from
    execTrstNLow_within (Sub.of touchMasks21.2.2.2.2.2.1) (Within.refl _ s)

theorem Touches.perstRelease : Touches.Statement .perstRelease := fun s =>
  show WithinO (partsMask ([.host])) s (execPerstRelease s) from
    execPerstRelease_within (Sub.of touchMasks21.2.2.2.2.2.2.1) (Within.refl _ s)

theorem Touches.hwySymbolLock (port : Fin 2) : Touches.Statement (.hwySymbolLock port) := fun s =>
  show WithinO (partsMask ([.emits, .hwy])) s (execHwySymbolLock port s) from
    execHwySymbolLock_within (Sub.of touchMasks21.2.2.2.2.2.2.2.1) (Within.refl _ s)

theorem Touches.railOkClear : Touches.Statement .railOkClear := fun s =>
  show WithinO (partsMask ([.agenda, .shd, .lmp, .reg LMP_STATUS])) s (execRailOkClear s) from
    execRailOkClear_within (Sub.of touchMasks21.2.2.2.2.2.2.2.2.1) (Within.refl _ s)

theorem Touches.recMaskedTrigger (smp : BitVec 64) : Touches.Statement (.recMaskedTrigger smp) := fun s =>
  show WithinO (partsMask (sampleParts)) s (execRecMaskedTrigger smp s) from
    execRecMaskedTrigger_within (Sub.of touchMasks21.2.2.2.2.2.2.2.2.2) (Within.refl _ s)

end Sys2Proof.Laws
end

