-- ==== Sys2Proof/WellFormed.lean ====
section
/-! DEFINITION. Which commands are well formed: operands that the block's interface can carry at all (R9, R28, R347 for
offsets and BARs; R352, R360 for slots and descriptors; R299 for strings; R461 for superframes). The
meanings are total and take ill-formed operands too; this is the range in which the sender's commands lie. -/

namespace Sys2Proof

/-- A byte offset of BAR 0: a multiple of 4 within 256 KiB (R9, R347). -/
def offWf (off : Nat) : Bool := off % 4 == 0 && decide (off < 0x40000)

/-- One of the BARs (R347). -/
def barWf (bar : Nat) : Bool := [0, 2, 4].contains bar

/-- A slot of the CMD ring (R352, R365). -/
def slotWf (slot : Nat) : Bool := decide (slot < 0x10000)

/-- A string, 16 SAT + STR (R299). -/
def strWf (k : Nat) : Bool := decide (k < 4096)

/-- The command's operands lie in their ranges. -/
def Instr.wf (c : Instr) : Bool :=
  match c with
  | .regWrite _ off _ => offWf off
  | .badAccess _ bar off => barWf bar && decide (off < 0x40000)
  | .rootStoppedAccess bar _ off _ => barWf bar && offWf off
  | .pairLowRead _ off => offWf off
  | .pairHighRead _ off => offWf off && off != 0
  | .warn _ v => decide (v < 0x10000)
  | .warnClear v => decide (v < 0x10000)
  | .startStepDone step _ => step.val != 0
  | .linkUp w v => [1, 2, 4, 8].contains w && decide (1 ≤ v) && decide (v ≤ 4)
  | .bandLineRecordStore _ xs => xs.all fun x => decide (x.code < 0x10000)
  | .coefLoad slot => slotWf slot
  | .coefCommit slot => slotWf slot
  | .coefRead slot => slotWf slot
  | .calRun slot => slotWf slot
  | .darkTrackUpdate _ _ xs => xs.all fun x => decide (x.code < 0x10000)
  | .attSave slot => slotWf slot
  | .docSensorEdge _ _ _ p => p.length == 8
  | .motProfile slot _ => slotWf slot
  | .lampLoad slot _ => slotWf slot
  | .stringDueTimeout k => strWf k
  | .diagLate k => strWf k
  | .strobeEnd k => strWf k
  | .pulseDiagnosed k _ => strWf k
  | .redistApply k => strWf k
  | .redistSettleEnd k => strWf k
  | .cmdFetchDone d => d.length == 64
  | .cmdDataReadError slot => slotWf slot
  | .nop slot => slotWf slot
  | .skipDoc slot => slotWf slot
  | .skipDocDone slot => slotWf slot
  | .packetDeliver _ buf _ => decide (buf.addr < 2 ^ 64) && decide (buf.len < 2 ^ 32) && decide (buf.flags < 256)
  | .auxResLoRead _ off => offWf off
  | .superframeRx _ b => decide (86 ≤ b.length)
  | .enumerationDone i n _ u d => decide (i < 16) && decide (n ≤ 16) && decide (u < 256) && decide (d < 256)
  | .headTrigstatRead _ | .tapOvrRead _ | .pipeEccCeRead | .pipeEccUeRead | .pipeClipRead _ | .lndLostRead _
  | .lndFlushcntRead | .motAdmstatRead | .motEerrRead _ | .lmpCntRead | .auxDropsRead | .auxWcStatRead _ | .recRejRead
  | .hwyErrcntRead | .lnkErrcntRead | .celCeRead | .celUeRead | .powerOnResetRelease _ _ | .reset _
  | .railOvervoltage _ | .bandgapCheck _ | .dieTempCheck _ | .pantryEpoch _ | .pwrBudgetWrite _ _ | .rootLock
  | .atticBackgroundCheck _ | .sysModereq _ | .startCold | .startWarm | .heldStartBegin | .wake | .selftest _
  | .selftestDone _ _ | .sysLock | .sysLimpCelClear | .fwWrite | .fwWriteDone _ | .fwSwap | .fwSwapReady _
  | .fwSwapExecute | .fwSwapCancel | .revertWindowEnd | .housekeeperFault | .hkPauseEnd | .linkDown | .perst
  | .busMasterEnable _ | .clockFault _ | .xsyncEdge _ | .headOnline _ | .headSettleDone _ | .headWarmupDone _
  | .headOffline _ | .headStopDone _ | .headCommit _ | .headSwtrig _ | .headTimerTrigger _ | .headGeometryWrite _ _ _
  | .triggerFire _ | .exposureEnd _ | .tapPhaseActivate _ | .readoutEnd _ | .busyWindowClose _ | .headConnFault _
  | .cmAverageDone _ _ _ | .tapFixedWrite _ _ _ | .tapLiveWrite _ _ _ | .slcCmwinWrite _ _ | .rotationStep _
  | .guestHandover _ | .sliceCalRunEnd _ _ | .guestHandback _ _ | .overlapTimeout _ | .sliceFault _ _ | .guestStandin _
  | .sliceFaultReport _ | .slcCmdRun _ _ | .slcCmdReinstate _ _ | .packetTimeout _ | .scrubPass _ | .laneFault _
  | .spareLaneTakeover _ | .laneFaultReport _ | .spareLaneFault _ | .stagingGrant | .commitCopyStart | .commitCopyEnd | .coefFetchDone _ _
  | .calRunTrigger _ | .calRunMeasureEnd _ | .calRunComplete _ | .gapSearchTimeout _ | .whiteTrackDue _ _
  | .attSaveStepDone _ | .posChange _ _ | .encoderEdge _ _ _ _ | .admissionGrant | .releasePulseEnd | .motHdocWrite _ _
  | .fillEval | .axisAtRest _ | .backupMoveDone _ | .runupDone _ | .holdTimeout | .motAcmdStart _ | .motAcmdStop _
  | .motAcmdImmediateStop _ | .axisFault _ _ | .irefStandby _ | .motPaceWrite _ | .lampLoadComplete | .driveRecompute
  | .lmpSbinWrite _ _ _ | .lstbFall | .lbandHoldEnd | .servoPeriodEnd _ _ | .railOkSet | .railFault _
  | .lmpCmdRestore _ _ | .lmpCmdRestoreAll | .lmpCmdLampTest | .lampTestPulse _ | .dbCmdPi _ | .dbCplCi _ | .dbEvtCi _
  | .dbImgPi _ _ | .hostRctlWrite _ _ | .ringIdle _ | .ringFetchError _ | .completionWrite | .msixSignal _
  | .msixUnmask _ | .landingDmaPop | .lndDataLoRead _ | .lndDataHiRead _ | .lndDrop | .lndFlush | .lndCtlWrite _
  | .auxCvctlWrite _ _ | .auxSwtrig _ | .auxTimerTrigger _ | .auxInjWrite _ _ | .fcConversionDone _ _ | .pcOutput _ _
  | .streamMsgTimeout _ | .refSettled _ | .refFault _ | .auxCalPeriod | .auxCalcmd _ | .auxCalRangeDone _ _ _
  | .auxConvFault _ | .auxMigrate _ | .auxExcWrite _ _ | .recSignalChange _ | .recArm | .recDisarm | .recHostTrig
  | .recCopy | .recClearEnd | .recCopyDone | .recRd0Read _ | .recRd3Read _ | .superframeSend | .tokenRx _ _
  | .replicaStep | .hwyMsgSend _ | .hwyBreak _ | .foldComplete | .hwyCutOff | .hwyRejoin | .hwyCtlWrite _
  | .linkCycleEnd _ | .linkSizingDone _ | .lnkResize | .pmcSnap | .pmcFreeze _ | .pmcClr | .pmcLoadLow _ _
  | .pmcLoadHigh _ _ | .pmcOverflow _ | .jtagExtest _ | .tmodeHigh _ | .porConditionsMet | .trstNLow | .perstRelease
  | .hwySymbolLock _ | .railOkClear | .recMaskedTrigger _ => true

end Sys2Proof
end

