-- ==== Sys2Proof/Tests/Slice0.lean ====
section
/-! SUPPORT. Small tests of the model, and for every statement with hypotheses a state and operands that meet them all. -/

open Sys2Proof Sys2Proof.Machine

namespace Sys2Proof.Tests

set_option linter.unusedVariables false
set_option Elab.async false

/-- READY, root locked -/
def up : State := setFlag { State.reset with time := 1000, mode := { State.reset.mode with mode := .ready } } CLK_STATUS_ROOT_LOCK true

def gp (g : Nat) (f : GroupSt → GroupSt) (b : State) : State := setGroup g (f (getGroup b g)) b

def hd (g : Nat) (f : HeadSt → HeadSt) (b : State) : State := setHead g (f (getHead b g)) b

def tp (g : Nat) (f : TapSt → TapSt) (b : State) : State := setTap g (f (getTap b g)) b

def ax (g : Nat) (f : AxisSt → AxisSt) (b : State) : State := setAxis g (f (getAxis b g)) b

def fs (l : List (Fld × Nat)) (b : State) : State := fsets b l

def md (m : Mode) (b : State) : State := { b with mode := { b.mode with mode := m } }

/-- a calibration run's measurements, all good -/
def goodMeas : SliceMeas := ⟨[4096 * 512, 4096 * 512], [2 ^ 24 + 4096 * 512, 2 ^ 24 + 4096 * 512], (List.range 32).map fun i : Nat => 4096 * 512 + (1024 + 2048 * Int.ofNat i - 4096) * 512⟩

/-- a band-line of band 0 at stage st -/
def ln (st : Stage) : BandLine := { band := 0, line := 7, pos := 0, time := 500, period := 60000, doc := 0, flags := 0, exposure := 600, hctl := 0, bgo := 0x4000, thr := 0, gen := none, unfit := false, noRecord := false, stage := st, fireAt := 504, expEnd := 900, readAt := 600, readLast := 900 }

/-- one head of one tap, ONLINE: tap 8h -/
def hd1 (h : Nat) (b : State) : State := fs [(HEAD_STATUS_STATE h, 2), (HEAD_TAPS_FIRST_TAP h, 8 * h), (HEAD_TAPS_LAST_TAP h, 8 * h), (HEAD_READ_PPT h, 4), (HEAD_READ_DARK h, 2), (HEAD_READ_DUMMY h, 1), (HEAD_CLK_DIV h, 2)] b

def ci (slot op : Nat) (desc : List Nat) : CmdEntry := ⟨slot, op, false, false, bytesOf desc⟩

def wc (l : List CmdEntry) (b : State) : State := { b with host := { b.host with cmds := l } }

def rn (h kind : Nat) : RunSt := { head := h, kind := kind, slot := 3, bands := 1, d1Band := 0, f := 2, p1 := 60000, p2 := 0, gap := false, sat := 0, str := 255, stage := .measuring, point := 0, line := 0, band := 0, trial := 0, phi0 := [], acc := [], cnt := [], bad := [], failing := 0, code := 0x50, todo := [], started := 0 }

def wr (l : List RunSt) (b : State) : State := { b with shd := { b.shd with runs := l } }

def wstage (q : Option Staged) (b : State) : State := { b with pipe := { b.pipe with stage := q } }

/-- A gain block of head h with four entries and a valid CRC -/
def coefBlock (h : Nat) : List Byte :=
  let hd := bytesOf [0x43, 0x46, 0x42, 0x31, 2, h, 0, 0, 4, 0, 0, 0] ++ List.replicate 16 0
  let es := bytesOf [1, 2, 3, 4, 5, 6, 7, 8]
  hd ++ leBytes (crc32 (hd ++ es)) 4 ++ es

/-- CAL_RUN of a dark run of head 3, band 0, P1 = 2^24 -/
def calDesc : List Nat := [0, 0, 0, 0, 0, 0, 0, 0, 1, 3, 1, 0, 2, 0, 0, 255, 0, 0, 0, 1]

def whiteRun : RunSt := { rn 3 2 with band := 8, acc := (List.range 4).map (fun p => (p, (16 * 16000 * 16 : Int))), cnt := (List.range 4).map fun p => (p, 16) }

def phaseRun : RunSt := { rn 3 3 with trial := 2904, acc := (List.range 3).flatMap fun sw => (List.range 7).map fun i => (256 * (sw * 7 + i) + 24, if 0 < i ∧ i < 6 then (100000 : Int) else 5) }

/-- head h has one band of exposure 600 in force -/
def band1 (h : Nat) (b : State) : State :=
  let b := fs [(HEAD_TRIG_NBANDS h, 1), (HEAD_BAND_EXPOSURE h 0, 600), (HEAD_CTL_READ_MODE h, 0)] b
  activateAll b [HEAD_TRIG h, HEAD_BAND h 0]

/-- A profile block of axis 5: one segment of V_END, END_KIND and DIST -/
def profile (v kind dist : Nat) : List Byte :=
  let hd := bytesOf [0x4D, 0x50, 0x46, 0x31, 5, 1] ++ List.replicate 22 0
  let es := leBytes v 4 ++ leBytes 1000 4 ++ leBytes 1000 4 ++ leBytes dist 4 ++ bytesOf [kind, 0] ++ List.replicate 6 0
  hd ++ leBytes (crc32 (hd ++ es)) 4 ++ es

def le (sat str head bands sib : Nat) : LampEntry := ⟨sat, str, head, bands, sib, List.replicate 8 4096⟩

def we (l : List LampEntry) (b : State) : State := { b with lmp := { b.lmp with entries := l } }

def sg (k : Nat) (f : StrSt → StrSt) (b : State) : State := setStr k (f (getStr b k)) b

/-- A lamp target block of one local string -/
def lampBlock (str : Nat) : List Byte :=
  let hd := bytesOf [0x4C, 0x54, 0x42, 0x31, 1, 0, 0, 0] ++ List.replicate 20 0
  let es := bytesOf [0, str, 3, 1, 0, 0, 0, 0] ++ List.replicate 16 1
  hd ++ leBytes (crc32 (hd ++ es)) 4 ++ es

/-- ring r enabled with 64 entries, HIDX at n -/
def ring (r n : Nat) (b : State) : State := fs [(HOST_RCTL_EN r, 1), (HOST_RCTL_LOG2N r, 6), (HOST_RSTAT_DIDX r, 0), (HOST_RHIDX_HIDX r, n)] b

/-- Bus Master Enable, the link up -/
def bus (b : State) : State := fs [(HOST_STATUS_BME, 1), (HOST_STATUS_LINK_UP, 1)] b

/-- A descriptor of 64 bytes -/
def dsc (l : List Nat) : List Byte := bytesOf (l ++ List.replicate (64 - l.length) 0)

def ho (f : HostSt → HostSt) (b : State) : State := { b with host := f b.host }

def lrec (doc n : Nat) : LineRec := ⟨doc, 0, List.replicate n 7⟩

def pk (h : Nat) (docs : List Nat) : Packet := ⟨h, docs.map fun d => lrec d 60, 0⟩

def cpl0 (slot : Nat) : Cpl := ⟨5, slot, 0, 0, true, 0, 77, false⟩

def ld (f : LndSt → LndSt) (b : State) : State := { b with lnd := f b.lnd }

def mg (cls src n : Nat) : Msg := ⟨cls, src, 0x80, 55, (List.range n).map (BitVec.ofNat 64)⟩

def pm (f : PmcSt → PmcSt) (b : State) : State := { b with pmc := f b.pmc }

def cv (c : Nat) (f : CvSt → CvSt) (b : State) : State := setCv c (f (getCv b c)) b

/-- the recorder in state n, on a sample tick -/
def rc (n : Nat) (f : RecSt → RecSt) (b : State) : State := { fs [(REC_STATUS_STATE, n)] { b with recd := f b.recd } with time := 8000 }

def re (x : BitVec 64) (t : Nat) : RecEntry := { st := x, time := t }

def hw (f : HwySt → HwySt) (b : State) : State := { fs [(HWY_CTL_EN, 1)] b with hwy := f b.hwy }

def lk (f : LnkSt → LnkSt) (b : State) : State := { b with lnk := f b.lnk }

/-- A superframe of HOP, FLAGS and MTIME -/
def sfb (hop flags mtime : Nat) : List Byte := sfSeal (bytesOf [9, hop, flags] ++ leBytes mtime 8 ++ List.replicate 48 0 ++ leBytes 0x4000 2 ++ leBytes 77 2 ++ leBytes 0x5000 2 ++ slotBytes slotNone)

def pw (f : PwrSt → PwrSt) (b : State) : State := { b with pwr := f b.pwr }

def st (f : StartSt → StartSt) (b : State) : State := { b with start := f b.start }

def pmeas : PantryMeas := ⟨5000000, 3000000000, 90000, List.replicate 8 1000, List.replicate 8 100, List.replicate 8 50⟩

def fwm (f : FwSt → FwSt) (b : State) : State := { b with fw := f b.fw }

/-- every head OFFLINE -/
def quiet (b : State) : State := forN 16 (fun h s => fs [(HEAD_STATUS_STATE h, 0)] s) b

/-- a head that passes every check of a start -/
def fit (h : Nat) (b : State) : State :=
  let b := fs [(HEAD_TAPS_FIRST_TAP h, 8 * h), (HEAD_TAPS_LAST_TAP h, 8 * h), (HEAD_READ_PPT h, 16), (HEAD_READ_DARK h, 2), (HEAD_CLK_DIV h, 6), (HEAD_CLK_CLK2X h, 0),
    (HEAD_TRIG_NBANDS h, 1), (HEAD_PITCH_PITCH h, 256), (HEAD_BAND_EXPOSURE h 0, 600), (HEAD_TIMER_PERIOD h, 60000), (HEAD_SP_SP_WIDTH h, 2), (HEAD_SP_SP_SETUP h, 1), (HEAD_SP_SP_HOLD h, 1), (HEAD_SP_READ_DELAY h, 2)] b
  activateAll b [HEAD_TRIG h, HEAD_PITCH h, HEAD_BAND h 0, HEAD_TIMER h]

/-- head h owns its tap alone -/
def own (h : Nat) (b : State) : State := fs [(HEAD_STATUS_STATE h, 2)] (fit h (quiet b))

/-- Every entry of a list of pairs is below b. -/
def below (b : Nat) (t : Tbl Nat) : Bool := t.all fun p => decide (p.2 < b)

/-- The invariant from what can be evaluated. -/
theorem invOf {s : State} (h : (tablesWf s && decide (s.time < 2 ^ 64) && decide (s.pmc.cyc < 2 ^ 64) && below (2 ^ 48) s.pmc.cnt &&
    below (2 ^ 32) s.pmc.buf) = true) : Inv s := by
  simp only [Bool.and_eq_true, decide_eq_true_eq, below, List.all_eq_true] at h
  exact ⟨h.1.1.1.1, h.1.1.1.2, h.1.1.2, h.1.2, h.2⟩

theorem wit_RegisterWriteFollowsAccessCodes :
    (∃ (s : State) (byHk : Bool) (off : Nat) (r : RegRow) (v : Word), Inv s ∧ rowOf off = some r ∧
      ((byHk = false → hostMay s off = true)) ∧
      ((byHk = true → rootRuns s = true ∧ s.mode.mode ≠ .sleep ∧ s.mode.mode ≠ .off)) ∧ ownRow off = false ∧ writeDiscarded
      off v.toNat = false ∧ rbaseLocked s off = false ∧ indexIn 8 MOT_ACTL off = none ∧ (off ≠ SYS_STARTSTAT)) ∧
    (∃ (s : State) (off : Nat) (v : Word), hostMay s off = false) :=
  ⟨⟨up, false, HEAD_TIMER 3, rowMasks (HEAD_TIMER 3), 0xFFFFFFFF, invOf (by decide +kernel), by decide +kernel⟩,
  ⟨md .off up, HEAD_TIMER 3, 0xFFFFFFFF, by decide +kernel⟩⟩

theorem wit_PairHalvesComeFromOneValue :
    (∃ (s : State) (ms : Master) (off : Nat) (v : Nat), rootRuns s = true ∧ pairRead s ms off = some v ∧ latchedTime s ms off
      = none) ∧
    (∃ (s : State) (ms : Master) (lo : Nat) (v : Nat) (high : Nat), rootRuns s = true ∧ isResult lo = false ∧ pairRead s ms
      lo = some v ∧ (shadowOf s ms = some ⟨lo, high⟩)) ∧
    (∃ (s : State) (ms : Master) (lo : Nat) (v : Nat), rootRuns s = true ∧ isResult lo = false ∧ pairRead s ms lo = some v ∧
      (((shadowOf s ms).all fun sh => decide (sh.low ≠ lo)) = true) ∧ latchedTime s ms lo = none) :=
  ⟨⟨up, .hostBar0, CLK_TIME_LO, (up).time, by decide +kernel⟩,
  ⟨{ up with shadow0 := some ⟨CLK_TIME_LO, 7⟩ }, .hostBar0, CLK_TIME_LO, ({ up with shadow0 := some ⟨CLK_TIME_LO, 7⟩ }).time,
    7, by decide +kernel⟩,
  ⟨up, .hostBar0, CLK_TIME_LO, (up).time, by decide +kernel⟩⟩

theorem wit_AccessesWithoutARegisterOrAClock :
    (∃ (s : State) (read : Bool) (bar : Nat) (off : Nat), Inv s ∧ rootRuns s = true ∧ (s.mode.mode ≠ .off) ∧
      ((bar = 2 → s.mode.mode ≠ .sleep)) ∧ ((bar ≠ 2 → read = true))) ∧
    (∃ (s : State) (bar : Nat) (off : Nat), (bar ≠ 2)) ∧
    (∃ (s : State) (off : Nat) (v : Word), rootRuns s = false ∧ (s.mode.mode ≠ .off)) ∧
    (∃ (s : State) (v : Word), rootRuns s = false ∧ (s.mode.mode = .halt) ∧ (v.toNat % 4 ≠ 0)) ∧
    (∃ (s : State) (off : Nat) (v : Word), rootRuns s = false ∧ (s.mode.mode ≠ .off) ∧ msixOff off = false ∧
      ((off = SYS_CMD → s.mode.mode ≠ .halt ∨ v.toNat % 4 = 0))) :=
  ⟨⟨up, true, 0, 6, invOf (by decide +kernel), by decide +kernel⟩,
  ⟨up, 0, 6, by decide +kernel⟩,
  ⟨fs [(CLK_STATUS_ROOT_LOCK, 0)] up, PWR_VMON, 0, by decide +kernel⟩,
  ⟨fs [(CLK_STATUS_ROOT_LOCK, 0)] (md .halt up), 1, by decide +kernel⟩,
  ⟨fs [(CLK_STATUS_ROOT_LOCK, 0)] (md .halt up), PWR_VMON, 0xFFFFFFFF, by decide +kernel⟩⟩

theorem wit_HeadsStartAndStop :
    (∃ (s : State) (h : Fin 16), Inv s ∧ (hostMay s (HEAD_CTL h) = true) ∧ headState s h = 0 ∧ (s.mode.mode ≠ .halt) ∧
      startError s h = 0) ∧
    (∃ (s : State) (h : Fin 16), Inv s ∧ (hostMay s (HEAD_CTL h) = true) ∧ headState s h = 0 ∧
      ((s.mode.mode = .halt ∨ startError s h ≠ 0))) ∧
    (∃ (s : State) (h : Fin 16), Inv s ∧ headState s h = 1 ∧ ((getHead s h).warm = false) ∧ ((getHead s h).settleAt ≤ s.time)
      ∧ ((getHead s h).wipeAt ≤ s.time)) ∧
    (∃ (s : State) (h : Fin 16), Inv s ∧ headState s h = 1 ∧ ((getHead s h).warm = true)) ∧
    (∃ (s : State) (h : Fin 16), Inv s ∧ (hostMay s (HEAD_CTL h) = true) ∧ headState s h = 1) ∧
    (∃ (s : State) (h : Fin 16), Inv s ∧ (hostMay s (HEAD_CTL h) = true) ∧ headState s h = 2) ∧
    (∃ (s : State) (h : Fin 16), headState s h = 3 ∧ headBusy s h = false ∧ ((getHead s h).lines = []) ∧ Inv s) :=
  ⟨⟨fit 3 (quiet up), 3, invOf (by decide +kernel), by decide +kernel⟩,
  ⟨fs [(HEAD_READ_PPT 3, 15)] (fit 3 (quiet up)), 3, invOf (by decide +kernel), by decide +kernel⟩,
  ⟨hd 3 (fun x => { x with settleAt := 900 }) (fs [(HEAD_STATUS_STATE 3, 1), (HEAD_CTL_WARMUP 3, 0)] (fit 3 (quiet up))), 3,
    invOf (by decide +kernel), by decide +kernel, by decide +kernel, by decide +kernel, by decide +kernel⟩,
  ⟨hd 3 (fun x => { x with warm := true }) (fs [(HEAD_STATUS_STATE 3, 1)] (fit 3 (quiet up))), 3, invOf (by decide +kernel),
    by decide +kernel⟩,
  ⟨(fs [(HEAD_STATUS_STATE 3, 1), (HEAD_STATUS_CFG_ERR 3, 5)] (fit 3 (quiet up))), 3, invOf (by decide +kernel),
    by decide +kernel⟩,
  ⟨own 3 up, 3, invOf (by decide +kernel), by decide +kernel⟩,
  ⟨ho (fun x => { x with openPkt := [pk 3 [1], pk 2 [1]] }) (fs [(HEAD_STATUS_STATE 3, 3)] (own 3 up)), 3, by decide +kernel,
    by decide +kernel, by decide +kernel, invOf (by decide +kernel)⟩⟩

theorem wit_BandSetAndGeometryChangeByRule :
    (∃ (s : State) (h : Fin 16), Inv s ∧ (hostMay s (HEAD_CTL h) = true) ∧ headState s h = 0 ∧ (s.bandTick ≠ s.time)) ∧
    (∃ (s : State) (h : Fin 16), Inv s ∧ (hostMay s (HEAD_CTL h) = true) ∧ (headState s h ≠ 0) ∧
      (flag s (HEAD_CTL_COMMIT h) = false)) ∧
    (∃ (s : State) (h : Fin 16) (r : GeomReg) (v : Word), Inv s ∧ (hostMay s (geomOff h r) = true) ∧ headState s h = 0) ∧
    (∃ (s : State) (h : Fin 16) (r : GeomReg) (v : Word), Inv s ∧ (hostMay s (geomOff h r) = true) ∧ (headState s h ≠ 0)) :=
  ⟨⟨{ quiet up with bandTick := 0 }, 3, invOf (by decide +kernel), by decide +kernel⟩,
  ⟨fs [(HEAD_CTL_COMMIT 3, 0)] (own 3 up), 3, invOf (by decide +kernel), by decide +kernel⟩,
  ⟨quiet up, 3, .clk, 0xFFFFFFFF, invOf (by decide +kernel), by decide +kernel⟩,
  ⟨own 3 up, 3, .clk, 0xFFFFFFFF, invOf (by decide +kernel), by decide +kernel⟩⟩

theorem wit_TriggerCausesAreAcceptedOrCounted :
    (∃ (s : State) (h : Fin 16) (c : Instr), Inv s ∧
      ((c = .headSwtrig h ∧ hostMay s (HEAD_CTL h) = true ∧ fget s (HEAD_TRIG_TRIG_SRC h) = 3 ∨ c = .headTimerTrigger h ∧ fget s (HEAD_TRIG_TRIG_SRC h) = 2 ∧ (getHead s h).timerAt ≤ s.time))
      ∧ headState s h = 2 ∧ sourceOpen s h = true ∧ (((getHead s h).seenB0 = true ∨ fget s (HEAD_STATUS_BAND h) = 0))) ∧
    (∃ (s : State) (h : Fin 16) (c : Instr), Inv s ∧
      ((c = .headSwtrig h ∧ hostMay s (HEAD_CTL h) = true ∧ fget s (HEAD_TRIG_TRIG_SRC h) = 3 ∨ c = .headTimerTrigger h ∧ fget s (HEAD_TRIG_TRIG_SRC h) = 2 ∧ (getHead s h).timerAt ≤ s.time))
      ∧ headState s h = 2 ∧ sourceOpen s h = true ∧ (((getHead s h).seenB0 = true ∨ fget s (HEAD_STATUS_BAND h) = 0))) ∧
    (∃ (s : State) (h : Fin 16), Inv s ∧ (hostMay s (HEAD_CTL h) = true) ∧ (fget s (HEAD_TRIG_TRIG_SRC h) = 3) ∧ headState s
      h = 1 ∧ sourceOpen s h = true) ∧
    (∃ (s : State) (h : Fin 16), (fget s (HEAD_TRIG_TRIG_SRC h) ≠ 3)) :=
  ⟨⟨fs [(HEAD_TRIG_TRIG_SRC 3, 3), (HEAD_STATUS_BAND 3, 0)] (own 3 up), 3, .headSwtrig 3, invOf (by decide +kernel),
    by decide +kernel⟩,
  ⟨hd 3 (fun x => { x with timerAt := 900, numbered := true }) (fs [(HEAD_TRIG_TRIG_SRC 3, 2), (HEAD_STATUS_BAND 3, 0)]
    (own 3 up)), 3, .headTimerTrigger 3, invOf (by decide +kernel), by decide +kernel⟩,
  ⟨fs [(HEAD_TRIG_TRIG_SRC 3, 3), (HEAD_STATUS_STATE 3, 1)] (own 3 up), 3, invOf (by decide +kernel), by decide +kernel⟩,
  ⟨fs [(HEAD_TRIG_TRIG_SRC 3, 1)] (own 3 up), 3, by decide +kernel⟩⟩

theorem wit_BandLineMovesFromTriggerToLanes :
    (∃ (s : State) (h : Fin 16) (l : BandLine), Inv s ∧
      (((getHead s h).lines.find? fun l => decide (l.stage = .accepted) && decide (l.fireAt ≤ s.time)) = some l)) ∧
    (∃ (s : State) (h : Fin 16) (l : BandLine), Inv s ∧
      (((getHead s h).lines.find? fun l => decide (l.stage = .exposing) && decide (l.expEnd ≤ s.time)) = some l)) ∧
    (∃ (s : State) (h : Fin 16) (l : BandLine), Inv s ∧ (((getHead s h).pgaAt.all fun u => decide (s.time < u)) = true) ∧
      (((getHead s h).lines.find? fun l => decide (l.stage = .reading) && decide (turnaround s h l.readLast ≤ s.time)) = some l)) ∧
    (∃ (s : State) (h : Fin 16) (b : Busy), Inv s ∧ (((getHead s h).busy.find? fun b => decide (b.closes ≤ s.time)) = some b)
      ∧ headState s h = 2) ∧
    (∃ (s : State) (h : Fin 16) (u : Nat), Inv s ∧ ((getHead s h).phaseAt = some u) ∧ (u ≤ s.time) ∧ runOf s h = none) :=
  ⟨⟨hd 3 (fun x => { x with lines := [ln .accepted] }) (own 3 up), 3, ln .accepted, invOf (by decide +kernel),
    by decide +kernel⟩,
  ⟨hd 3 (fun x => { x with lines := [ln .exposing] }) (fs [(HEAD_CTL_READ_MODE 3, 0)] (own 3 up)), 3, ln .exposing, invOf
    (by decide +kernel), by decide +kernel⟩,
  ⟨hd 3 (fun x => { x with lines := [ln .reading] }) (own 3 { up with time := up.time + 1000 }), 3, ln .reading, invOf
    (by decide +kernel), by decide +kernel⟩,
  ⟨hd 3 (fun x => { x with busy := [⟨100, 900, 800⟩] }) (own 3 up), 3, ⟨100, 900, 800⟩, invOf (by decide +kernel),
    by decide +kernel⟩,
  ⟨tp 24 (fun x => { x with phasePend := some 800 }) (hd 3 (fun x => { x with phaseAt := some 900 }) (own 3 up)), 3, 900,
    invOf (by decide +kernel), by decide +kernel⟩⟩

theorem wit_ConnectionFaultIsReportedAndActedOn :
    (∃ (s : State) (t : Fin 256) (h : Fin 16), Inv s ∧ (tapOwner s t = some h.val) ∧
      (flag s (SLC_CMWIN_CM_EN (t / 16)) = true) ∧ (headState s h ≠ 1)) ∧
    (∃ (s : State) (t : Fin 256) (h : Fin 16), Inv s ∧ (tapOwner s t = some h.val) ∧
      (flag s (SLC_CMWIN_CM_EN (t / 16)) = true) ∧ headState s h = 1) :=
  ⟨⟨fs [(SLC_CMWIN_CM_EN 1, 1), (HEAD_CTL_CONN_ACT 3, 1), (HEAD_CONN_VALID 3, 0)] (own 3 up), 24, 3, invOf
    (by decide +kernel), by decide +kernel⟩,
  ⟨fs [(SLC_CMWIN_CM_EN 1, 1), (HEAD_STATUS_STATE 3, 1)] (own 3 up), 24, 3, invOf (by decide +kernel), by decide +kernel⟩⟩

theorem wit_TapRegistersChangeByRule :
    (∃ (s : State) (t : Fin 256) (h : Nat) (mv : Nat) (last : Nat), Inv s ∧ tapOwner s t = some h) ∧
    (∃ (s : State) (t : Fin 256) (clamp : Bool) (v : Word), Inv s ∧ let off := if clamp then TAP_CLAMP t else TAP_CTL t;
      hostMay s off = true) ∧
    (∃ (s : State) (t : Fin 256) (pga : Bool) (v : Word), Inv s ∧ let off := if pga then TAP_PGA t else TAP_PHASE t; hostMay
      s off = true) ∧
    (∃ (s : State) (g : Fin 16) (v : Word), Inv s ∧ (hostMay s (SLC_CMWIN g) = true)) :=
  ⟨⟨fs [(SLC_CMWIN_CM_EN 1, 1), (SLC_CMWIN_CM_LO 1, 500), (SLC_CMWIN_CM_HI 1, 4000)] (own 3 up), 24, 3, 1000, 1800, invOf
    (by decide +kernel), by decide +kernel⟩,
  ⟨own 3 up, 24, true, 0xFFFFFFFF, invOf (by decide +kernel), by decide +kernel⟩,
  ⟨own 3 up, 24, true, 0xFFFFFFFF, invOf (by decide +kernel), by decide +kernel⟩,
  ⟨own 3 up, 1, 0, invOf (by decide +kernel), by decide +kernel⟩⟩

theorem wit_RotationStepStartsAVisit :
    (∃ (s : State) (g : Fin 16), Inv s ∧ rotates s g = true ∧ ((stepDue s g = true ∨ (getGroup s g).stepPend = true)) ∧
      (fget s (SLC_GSTATE_PHASE g) = 0) ∧ heldByRun s g = false ∧ flag s PWR_STATUS_BG_OK = true) ∧
    (∃ (s : State) (g : Fin 16), Inv s ∧ rotates s g = true ∧ ((stepDue s g = true ∨ (getGroup s g).stepPend = true)) ∧
      (fget s (SLC_GSTATE_PHASE g) = 0) ∧ heldByRun s g = false ∧ flag s PWR_STATUS_BG_OK = false) ∧
    (∃ (s : State) (g : Fin 16), Inv s ∧ rotates s g = true ∧ stepDue s g = true ∧
      ((fget s (SLC_GSTATE_PHASE g) ≠ 0 ∨ heldByRun s g = true))) ∧
    (∃ (s : State) (g : Fin 16) (h : Nat), Inv s ∧ (fget s (SLC_GSTATE_PHASE g) = 1) ∧ (fget s (SLC_GSTATE_VISIT g) < 16) ∧
      (tapOwner s (16 * g + fget s (SLC_GSTATE_VISIT g)) = some h) ∧ atBoundary s h = true) :=
  ⟨⟨fs [(SLC_CTL_ROT_EN, 1), (PWR_STATUS_BG_OK, 1), (SLC_SUSP_SUSP, 0), (SLC_GSTATE_PHASE 0, 0)] { up with time := 0 }, 0,
    invOf (by decide +kernel), by decide +kernel, by decide +kernel, by decide +kernel, by decide +kernel, by decide +kernel⟩,
  ⟨fs [(SLC_CTL_ROT_EN, 1), (PWR_STATUS_BG_OK, 0), (SLC_SUSP_SUSP, 0), (SLC_GSTATE_PHASE 0, 0)] { up with time := 0 }, 0,
    invOf (by decide +kernel), by decide +kernel⟩,
  ⟨fs [(SLC_CTL_ROT_EN, 1), (SLC_SUSP_SUSP, 0), (SLC_GSTATE_PHASE 0, 2)] { up with time := 0 }, 0, invOf (by decide +kernel),
    by decide +kernel⟩,
  ⟨fs [(SLC_GSTATE_PHASE 3, 1), (SLC_GSTATE_VISIT 3, 5), (HEAD_STATUS_STATE 0, 2), (HEAD_TAPS_FIRST_TAP 0, 0),
    (HEAD_TAPS_LAST_TAP 0, 255)] up, 3, 0, invOf (by decide +kernel), by decide +kernel, by decide +kernel,
    by decide +kernel, by decide +kernel⟩⟩

theorem wit_SliceRunsAndOverlapsAreJudged :
    (∃ (s : State) (g : Fin 16) (m : SliceMeas), Inv s ∧ (fget s (SLC_GSTATE_PHASE g) = 2) ∧ ((getGroup s g).running < 17) ∧
      ((getGroup s g).runEnd ≤ s.time) ∧ ((runResult m).1 = 0x40) ∧
      (tblWf (fun _ => ({} : Trims)) (getGroup s g).trims = true)) ∧
    (∃ (s : State) (g : Fin 16) (m : SliceMeas), Inv s ∧ (fget s (SLC_GSTATE_PHASE g) = 2) ∧ ((getGroup s g).running < 17) ∧
      ((getGroup s g).runEnd ≤ s.time) ∧ ((runResult m).1 ≠ 0x40)) ∧
    (∃ (s : State) (g : Fin 16) (m : SliceMeas), Inv s ∧ (fget s (SLC_GSTATE_PHASE g) ≠ 2) ∧ ((getGroup s g).cmdSlice < 17) ∧
      ((getGroup s g).cmdEnd ≤ s.time)) ∧
    (∃ (s : State) (g : Fin 16) (f : ResidualFit), Inv s ∧ (fget s (SLC_GSTATE_PHASE g) = 4) ∧ (4 ≤ (getGroup s g).overlap) ∧
      ((getGroup s g).running < 16) ∧ fitErrors f = 0 ∧ (8192 ≤ f.span) ∧
      (fget s (SLC_GSTATE_GUEST_TAP g) = (getGroup s g).running) ∧
      (tblWf (fun _ => ({} : Residual)) (getGroup s g).resid = true)) ∧
    (∃ (s : State) (g : Fin 16) (f : ResidualFit), Inv s ∧ (fget s (SLC_GSTATE_PHASE g) = 4) ∧ (4 ≤ (getGroup s g).overlap) ∧
      ((getGroup s g).running < 16) ∧ (fitErrors f ≠ 0) ∧ (nget (getGroup s g).fails (getGroup s g).running < 2)) ∧
    (∃ (s : State) (g : Fin 16), Inv s ∧ ((fget s (SLC_GSTATE_PHASE g) = 3 ∨ fget s (SLC_GSTATE_PHASE g) = 4)) ∧
      ((getGroup s g).overlap < 4) ∧ ((getGroup s g).running < 16) ∧ ((getGroup s g).runEnd + 9600000 ≤ s.time) ∧
      ((∀ h, tapOwner s (16 * g + (getGroup s g).running) = some h → atBoundary s h = true))) :=
  ⟨⟨gp 3 (fun x => { x with running := 5, runEnd := 0 }) (fs [(SLC_GSTATE_PHASE 3, 2), (SLC_GSTATE_GUEST_TAP 3, 5)] up), 3,
    goodMeas, invOf (by decide +kernel), by decide +kernel, by decide +kernel, by decide +kernel, by decide +kernel,
    by decide +kernel⟩,
  ⟨gp 3 (fun x => { x with running := 5, runEnd := 0 }) (fs [(SLC_GSTATE_PHASE 3, 2), (SLC_GSTATE_GUEST_TAP 3, 5)] up), 3,
    ⟨[0, 0], [0, 0], []⟩, invOf (by decide +kernel), by decide +kernel, by decide +kernel, by decide +kernel,
    by decide +kernel⟩,
  ⟨gp 3 (fun x => { x with cmdSlice := 5, cmdEnd := 0, reinstate := true }) (fs [(SLC_GSTATE_PHASE 3, 0)] up), 3, goodMeas,
    invOf (by decide +kernel), by decide +kernel⟩,
  ⟨gp 3 (fun x => { x with running := 5, overlap := 4 }) (fs [(SLC_GSTATE_PHASE 3, 4), (SLC_GSTATE_GUEST_TAP 3, 5)] up), 3,
    ⟨8192, 10, 101, 101⟩, invOf (by decide +kernel), by decide +kernel, by decide +kernel, by decide +kernel,
    by decide +kernel, by decide +kernel, by decide +kernel, by decide +kernel⟩,
  ⟨gp 3 (fun x => { x with running := 5, overlap := 4 }) (fs [(SLC_GSTATE_PHASE 3, 4), (SLC_GSTATE_GUEST_TAP 3, 5)] up), 3,
    ⟨8192, 64 * 512 + 1, 103, 101⟩, invOf (by decide +kernel), by decide +kernel⟩,
  ⟨gp 3 (fun x => { x with running := 5, overlap := 3 }) (fs [(SLC_GSTATE_PHASE 3, 4), (SLC_GSTATE_GUEST_TAP 3, 5)]
    { up with time := 9600000 }), 3, invOf (by decide +kernel), by decide +kernel⟩⟩

theorem wit_SliceFaultIsCoveredByTheGuest :
    (∃ (s : State) (g : Fin 16) (i : Fin 17) (h : Nat), Inv s ∧ (i.val < 16) ∧ (tapOwner s (16 * g + i) = some h) ∧
      (bget (getGroup s g).failed i = false) ∧ (bget (getGroup s g).failed 16 = false) ∧ ((getGroup s g).committed = false) ∧
      (fget s (SLC_GSTATE_GUEST_TAP g) = 16)) ∧
    (∃ (s : State) (g : Fin 16) (r : FaultRep), Inv s ∧ (r.slice < 16) ∧
      ((getGroup s g).report.find? (fun r => !r.served && decide (r.due ≤ s.time)) = some r)) ∧
    (∃ (s : State) (g : Fin 16) (r : FaultRep), Inv s ∧
      ((getGroup s g).report.find? (fun r => r.served && !replacedInFlight s (16 * g + r.slice)) = some r) ∧ (r.lines = [])) :=
  ⟨⟨fs [(SLC_GSTATE_GUEST_TAP 3, 16), (HEAD_STATUS_STATE 0, 2), (HEAD_TAPS_FIRST_TAP 0, 0), (HEAD_TAPS_LAST_TAP 0, 255)] up,
    3, 5, 0, invOf (by decide +kernel), by decide +kernel⟩,
  ⟨gp 3 (fun x => { x with report := [⟨5, 1, [], false, 10⟩] }) up, 3, ⟨5, 1, [], false, 10⟩, invOf (by decide +kernel),
    by decide +kernel⟩,
  ⟨gp 3 (fun x => { x with report := [⟨5, 1, [], true, 10⟩] }) up, 3, ⟨5, 1, [], true, 10⟩, invOf (by decide +kernel),
    by decide +kernel⟩⟩

theorem wit_SliceCommandsAreAnswered :
    (∃ (s : State) (g : Fin 16) (i : Fin 32) (c : Instr), ((c = .slcCmdRun g i ∨ c = .slcCmdReinstate g i)) ∧ Inv s ∧ hostMay
      s SLC_CMD = true ∧ flag s SLC_CMDSTAT_BUSY = true) ∧
    (∃ (s : State) (g : Fin 16) (i : Fin 32) (c : Instr), ((c = .slcCmdRun g i ∨ c = .slcCmdReinstate g i)) ∧ Inv s ∧ hostMay
      s SLC_CMD = true ∧ flag s SLC_CMDSTAT_BUSY = true) ∧
    (∃ (s : State) (g : Fin 16) (i : Fin 32) (c : Instr), Inv s ∧ hostMay s SLC_CMD = true ∧ flag s SLC_CMDSTAT_BUSY = false
      ∧
      ((c = .slcCmdRun g i ∧ (17 ≤ i.val ∨ isParked s g i = false ∨ bitOf (fget s SLC_SUSP_SUSP) g = false ∧ flag s SLC_CTL_ROT_EN = true) ∨ c = .slcCmdReinstate g i ∧ (17 ≤ i.val ∨ isParked s g i = false ∨ s.mode.mode ≠ .service)))) ∧
    (∃ (s : State) (g : Fin 16) (i : Fin 32) (c : Instr), Inv s ∧ hostMay s SLC_CMD = true ∧ flag s SLC_CMDSTAT_BUSY = false
      ∧
      ((c = .slcCmdRun g i ∧ (17 ≤ i.val ∨ isParked s g i = false ∨ bitOf (fget s SLC_SUSP_SUSP) g = false ∧ flag s SLC_CTL_ROT_EN = true) ∨ c = .slcCmdReinstate g i ∧ (17 ≤ i.val ∨ isParked s g i = false ∨ s.mode.mode ≠ .service)))) ∧
    (∃ (s : State) (g : Fin 16) (i : Fin 32) (c : Instr), Inv s ∧ hostMay s SLC_CMD = true ∧ flag s SLC_CMDSTAT_BUSY = false
      ∧ (i.val < 16) ∧ isParked s g i = true ∧
      ((c = .slcCmdRun g i ∧ flag s SLC_CTL_ROT_EN = false ∧ (getGroup s g).running = 17 ∨ c = .slcCmdReinstate g i ∧ s.mode.mode = .service ∧ bget (getGroup s g).failed i = true))) ∧
    (∃ (s : State) (g : Fin 16) (i : Fin 32) (c : Instr), Inv s ∧ hostMay s SLC_CMD = true ∧ flag s SLC_CMDSTAT_BUSY = false
      ∧ (i.val < 16) ∧ isParked s g i = true ∧
      ((c = .slcCmdRun g i ∧ flag s SLC_CTL_ROT_EN = false ∧ (getGroup s g).running = 17 ∨ c = .slcCmdReinstate g i ∧ s.mode.mode = .service ∧ bget (getGroup s g).failed i = true))) :=
  ⟨⟨fs [(SLC_CMDSTAT_BUSY, 1)] up, 3, 5, .slcCmdRun 3 5, by decide +kernel, invOf (by decide +kernel), by decide +kernel⟩,
  ⟨fs [(SLC_CMDSTAT_BUSY, 1)] up, 3, 5, .slcCmdReinstate 3 5, by decide +kernel, invOf (by decide +kernel),
    by decide +kernel⟩,
  ⟨fs [(SLC_CMDSTAT_BUSY, 0)] up, 3, 17, .slcCmdRun 3 17, invOf (by decide +kernel), by decide +kernel⟩,
  ⟨fs [(SLC_CMDSTAT_BUSY, 0)] up, 3, 16, .slcCmdReinstate 3 16, invOf (by decide +kernel), by decide +kernel⟩,
  ⟨fs [(SLC_CMDSTAT_BUSY, 0), (SLC_CTL_ROT_EN, 0)] up, 3, 15, .slcCmdRun 3 15, invOf (by decide +kernel), by decide +kernel⟩,
  ⟨gp 3 (fun x => { x with failed := [(5, true)] }) (md .service (fs [(SLC_CMDSTAT_BUSY, 0), (PWR_STATUS_BG_OK, 1)] up)), 3,
    5, .slcCmdReinstate 3 5, invOf (by decide +kernel), by decide +kernel⟩⟩

theorem wit_BandLineRecordReachesAPacket :
    (∃ (s : State) (h : Fin 16) (xs : List Sample) (l : BandLine), Inv s ∧
      ((getHead s h).lines.find? (fun l => decide (l.stage = .lanes)) = some l) ∧ headState s h = 2) ∧
    (∃ (s : State) (h : Fin 16) (xs : List Sample) (l : BandLine), Inv s ∧
      ((getHead s h).lines.find? (fun l => decide (l.stage = .lanes)) = some l) ∧ headState s h = 2 ∧ l.noRecord = false ∧
      l.drop = false ∧ (s.host.skips = []) ∧ let ps := corrected s h l xs;
      let w := binned l.hctl (ps.map fun p => if p.pix.dead then 0 else vOf s (headBand h l.band) l.hctl p.c);
      let pay := payload l.hctl l.thr w; (fillBytes s + 32 + pay.length ≤ lineArea s)) ∧
    (∃ (s : State) (h : Fin 16) (p : Packet), openPacket s h = some p ∧ (p.recs ≠ []) ∧
      (fget s (HOST_RPKTCTL_PKT_TO (3 + h)) ≠ 0) ∧ (p.since + 600 * fget s (HOST_RPKTCTL_PKT_TO (3 + h)) ≤ s.time)) :=
  ⟨⟨hd 3 (fun x => { x with lines := [ln .lanes, ln .sensor] }) (hd1 3 up), 3, [], ln .lanes, invOf (by decide +kernel),
    by decide +kernel⟩,
  ⟨hd 3 (fun x => { x with lines := [ln .lanes, ln .sensor] }) (hd1 3 up), 3, List.replicate 6 ⟨5000, false⟩, ln .lanes,
    invOf (by decide +kernel), by decide +kernel, by decide +kernel, by decide +kernel, by decide +kernel, by decide +kernel,
    by decide +kernel⟩,
  ⟨fs [(HOST_RPKTCTL_PKT_TO 6, 1)] { up with host := { up.host with openPkt := [⟨3, [⟨3, 4, []⟩], 0⟩] } }, 3, ⟨3, [⟨3, 4,
    []⟩], 0⟩, by decide +kernel⟩⟩

theorem wit_RowAndLaneErrorsAreHandled :
    (∃ (s : State) (f : ScrubFind), Inv s ∧ flag s PIPE_CTL_SCRUB_EN = true ∧ f.ue = false) ∧
    (∃ (s : State) (f : ScrubFind), Inv s ∧ flag s PIPE_CTL_SCRUB_EN = true ∧ f.ue = true) ∧
    (∃ (s : State) (l : Fin 34) (sp : Nat), Inv s ∧ (l.val < 32) ∧ (bitOf (fget s PIPE_LANEFAIL_FAIL) l = false) ∧ freeSpare
      s = some sp) ∧
    (∃ (s : State) (l : Fin 34), Inv s ∧ (l.val < 32) ∧ (bitOf (fget s PIPE_LANEFAIL_FAIL) l = false) ∧ freeSpare s = none) ∧
    (∃ (s : State) (l : Fin 34) (r : LaneRep), Inv s ∧
      (s.pipe.laneRep.find? (fun r => r.lane == l.val && !r.served && decide (r.time + 1200 ≤ s.time)) = some r)) ∧
    (∃ (s : State) (l : Fin 34) (r : LaneRep),
      (s.pipe.laneRep.find? (fun r => r.lane == l.val && r.served && !deadInFlight s r.serves) = some r) ∧ (r.lines = [])) ∧
    (∃ (s : State) (sp : Fin 2), Inv s ∧ (spareLane s sp = 0x3F) ∧ (bitOf (fget s PIPE_LANEMAP_SP_FAIL) sp = false)) :=
  ⟨⟨fs [(PIPE_CTL_SCRUB_EN, 1)] up, ⟨16, 4095, false⟩, invOf (by decide +kernel), by decide +kernel, by decide +kernel⟩,
  ⟨fs [(PIPE_CTL_SCRUB_EN, 1)] up, ⟨16, 4095, true⟩, invOf (by decide +kernel), by decide +kernel, by decide +kernel⟩,
  ⟨fs [(PIPE_LANEFAIL_FAIL, 2), (PIPE_LANEMAP_SP0_LANE, 0x3F), (PIPE_LANEMAP_SP_FAIL, 0)] up, 31, 0, invOf
    (by decide +kernel), by decide +kernel⟩,
  ⟨fs [(PIPE_LANEFAIL_FAIL, 2), (PIPE_LANEMAP_SP0_LANE, 1), (PIPE_LANEMAP_SP1_LANE, 0x3F), (PIPE_LANEMAP_SP_FAIL, 2)] (md
    .scan up), 31, invOf (by decide +kernel), by decide +kernel⟩,
  ⟨hd 3 (fun x => { x with lines := [{ ln .lanes with dead := [(5, 10, 2 ^ 64)] }, ln .sensor] })
    { up with time := 1200, pipe := { up.pipe with laneRep := [⟨33, 5, 0, false, []⟩] } }, 33, ⟨33, 5, 0, false, []⟩, invOf
    (by decide +kernel), by decide +kernel⟩,
  ⟨{ up with pipe := { up.pipe with laneRep := [⟨33, 5, 0, true, []⟩] } }, 33, ⟨33, 5, 0, true, []⟩, by decide +kernel⟩,
  ⟨fs [(PIPE_LANEMAP_SP1_LANE, 0x3F), (PIPE_LANEMAP_SP_FAIL, 1)] up, 1, invOf (by decide +kernel), by decide +kernel⟩⟩

theorem wit_CoefficientsAreStagedAndCommitted :
    (∃ (s : State) (slot : Nat) (c : CmdEntry), cmdOf s slot 1 = some c ∧ s.pipe.stage = none) ∧
    (∃ (s : State) (slot : Nat) (c : CmdEntry), Inv s ∧ s.pipe.stage = none ∧ (nextRequest s = some (.load slot)) ∧ cmdOf s
      slot 1 = some c) ∧
    (∃ (s : State) (b : List Byte) (q : Staged) (slot : Nat) (c : CmdEntry), Inv s ∧ s.pipe.stage = some q ∧ fget s
      PIPE_STATUS_STAGE = 1 ∧ q.slot = some slot ∧ (s.host.cmds.find? (fun c => decide (c.slot = slot)) = some c) ∧
      (blockStatus s b ≠ 0)) ∧
    (∃ (s : State) (b : List Byte) (q : Staged) (slot : Nat) (c : CmdEntry), Inv s ∧ s.pipe.stage = some q ∧ fget s
      PIPE_STATUS_STAGE = 1 ∧ q.slot = some slot ∧ (s.host.cmds.find? (fun c => decide (c.slot = slot)) = some c) ∧ q.commit
      = false ∧ blockStatus s b = 0) ∧
    (∃ (s : State) (slot : Nat) (c : CmdEntry), Inv s ∧ cmdOf s slot 2 = some c ∧
      (s.host.cmds.find? (fun c => decide (c.slot = slot)) = some c)) ∧
    (∃ (s : State) (q : Staged), Inv s ∧ s.pipe.stage = some q ∧ copyMay s = true ∧ (q.geom = geomOf s q.head)) ∧
    (∃ (s : State) (q : Staged) (slot : Nat) (c : CmdEntry), Inv s ∧ s.pipe.stage = some q ∧ copyMay s = true ∧
      (q.geom ≠ geomOf s q.head) ∧ q.slot = some slot ∧ (s.host.cmds.find? (fun c => decide (c.slot = slot)) = some c)) ∧
    (∃ (s : State) (q : Staged), Inv s ∧ s.pipe.stage = some q ∧ fget s PIPE_STATUS_STAGE = 3 ∧ q.kind = 2 ∧ (q.head < 16) ∧
      (q.band < 8) ∧ (fget s (HEAD_READ_PPT q.head) ≤ 2048)) ∧
    (∃ (s : State) (slot : Nat) (c : CmdEntry), cmdOf s slot 3 = some c ∧
      (s.host.cmds.find? (fun c => decide (c.slot = slot)) = some c)) :=
  ⟨⟨wc [ci 9 1 []] up, 9, ci 9 1 [], by decide +kernel⟩,
  ⟨wc [ci 9 1 []] { up with pipe := { up.pipe with reqs := [.load 9] } }, 9, ci 9 1 [], invOf (by decide +kernel),
    by decide +kernel⟩,
  ⟨wc [ci 9 1 []] (wstage (some ⟨0, 0, 0, [], (0, 0, 0), some 9, false, false⟩) (fs [(PIPE_STATUS_STAGE, 1)] up)), [], ⟨0, 0,
    0, [], (0, 0, 0), some 9, false, false⟩, 9, ci 9 1 [], invOf (by decide +kernel), by decide +kernel⟩,
  ⟨wc [ci 9 1 []] (wstage (some ⟨0, 0, 0, [], (0, 0, 0), some 9, false, false⟩) (hd1 3 (fs [(PIPE_STATUS_STAGE, 1)] up))),
    coefBlock 3, ⟨0, 0, 0, [], (0, 0, 0), some 9, false, false⟩, 9, ci 9 1 [], invOf (by decide +kernel), by decide +kernel⟩,
  ⟨wc [ci 9 2 [0, 0, 0, 0, 0, 0, 0, 0, 2, 3, 0]] (wstage (some ⟨2, 3, 0, [], (0, 0, 0), none, false, false⟩)
    (fs [(PIPE_STATUS_STAGE, 2)] up)), 9, ci 9 2 [0, 0, 0, 0, 0, 0, 0, 0, 2, 3, 0], invOf (by decide +kernel),
    by decide +kernel, by decide +kernel⟩,
  ⟨wstage (some ⟨2, 3, 0, [], (24, 24, 4), none, true, false⟩) (hd1 3 (fs [(PIPE_STATUS_STAGE, 2)] up)), ⟨2, 3, 0, [], (24,
    24, 4), none, true, false⟩, invOf (by decide +kernel), by decide +kernel⟩,
  ⟨wc [ci 9 2 []] (wstage (some ⟨2, 3, 0, [], (24, 24, 5), some 9, true, false⟩) (hd1 3 (fs [(PIPE_STATUS_STAGE, 2)] up))),
    ⟨2, 3, 0, [], (24, 24, 5), some 9, true, false⟩, 9, ci 9 2 [], invOf (by decide +kernel), by decide +kernel⟩,
  ⟨wstage (some ⟨2, 3, 1, [0x4000, 0x5000, 1, 2, 3], (24, 24, 4), none, true, false⟩) (hd1 3
    (fs [(PIPE_STATUS_STAGE, 3)] up)), ⟨2, 3, 1, [0x4000, 0x5000, 1, 2, 3], (24, 24, 4), none, true, false⟩, invOf
    (by decide +kernel), by decide +kernel⟩,
  ⟨wc [ci 9 3 (List.replicate 16 0 ++ [39, 0, 0, 0, 2, 3, 0])] (hd1 3 up), 9, ci 9 3 (List.replicate 16 0 ++
    [39, 0, 0, 0, 2, 3, 0]), by decide +kernel, by decide +kernel⟩⟩

theorem wit_CalibrationRunsAreDrivenAndJudged :
    (∃ (s : State) (slot : Nat) (c : CmdEntry), Inv s ∧ cmdOf s slot 4 = some c ∧
      (s.host.cmds.find? (fun c => decide (c.slot = slot)) = some c) ∧ ((s.shd.runs.any fun q => q.slot == slot) = false) ∧
      (runError s (runOfDesc s c) ≠ 0)) ∧
    (∃ (s : State) (slot : Nat) (h : Fin 16) (c : CmdEntry), Inv s ∧ cmdOf s slot 4 = some c ∧
      ((s.shd.runs.any fun q => q.slot == slot) = false) ∧ (runError s (runOfDesc s c) = 0) ∧ ((runOfDesc s c).head = h) ∧
      ((runOfDesc s c).gap = false)) ∧
    (∃ (s : State) (h : Fin 16) (r : RunSt) (r2 : RunSt) (b : Nat) (tag : Nat) (pt : Nat), Inv s ∧ runOf s h = some r ∧
      runDrives s h = true ∧ (r.band ≠ 8) ∧ headState s h = 2 ∧ kindError s r = 0 ∧ (runPlan s r = some (b, tag, pt, r2)) ∧
      isOverrun s h = false) ∧
    (∃ (s : State) (h : Fin 16) (r : RunSt) (c : Instr), Inv s ∧ runOf s h = some r ∧ (r.stage = .measuring) ∧
      ((c = .calRunTrigger h ∧ r.gap = false ∧ r.band ≠ 8 ∧ headState s h = 2 ∧ kindError s r ≠ 0 ∨ c = .gapSearchTimeout h ∧ r.gap = true ∧ s.shd.deferAt = none ∧ r.started + searchTicks ≤ s.time))) ∧
    (∃ (s : State) (h : Fin 16) (r : RunSt) (c : Instr), Inv s ∧ runOf s h = some r ∧ (r.stage = .measuring) ∧
      ((c = .calRunTrigger h ∧ r.gap = false ∧ r.band ≠ 8 ∧ headState s h = 2 ∧ kindError s r ≠ 0 ∨ c = .gapSearchTimeout h ∧ r.gap = true ∧ s.shd.deferAt = none ∧ r.started + searchTicks ≤ s.time))) ∧
    (∃ (s : State) (h : Fin 16) (r : RunSt) (c : CmdEntry), Inv s ∧ runOf s h = some r ∧ (r.stage = .ended) ∧
      (s.host.cmds.find? (fun c => decide (c.slot = r.slot)) = some c)) ∧
    (∃ (s : State) (h : Fin 16) (r : RunSt), Inv s ∧ runOf s h = some r ∧ (r.stage = .measuring) ∧ r.band = 8 ∧ r.kind = 1 ∧
      (((getHead s h).lines.any fun l => l.tag != 0) = false)) ∧
    (∃ (s : State) (h : Fin 16) (r : RunSt), Inv s ∧ runOf s h = some r ∧ (r.stage = .measuring) ∧ r.band = 8 ∧ r.kind = 2 ∧
      (((getHead s h).lines.any fun l => l.tag != 0) = false)) ∧
    (∃ (s : State) (h : Fin 16) (r : RunSt), Inv s ∧ runOf s h = some r ∧ (r.stage = .measuring) ∧ r.kind = 3 ∧
      (3 * phPoints s h ≤ r.trial) ∧ (((getHead s h).lines.any fun l => l.tag != 0) = false)) ∧
    (∃ (s : State) (h : Fin 16) (r : RunSt), Inv s ∧ runOf s h = some r ∧ (r.stage = .measuring) ∧ r.band = 8 ∧ r.kind = 4 ∧
      (((getHead s h).lines.any fun l => l.tag != 0) = false)) :=
  ⟨⟨wc [ci 9 4 (List.replicate 64 0)] up, 9, ci 9 4 (List.replicate 64 0), invOf (by decide +kernel), by decide +kernel⟩,
  ⟨md .calibrate (wc [ci 9 4 calDesc] (band1 3 (hd1 3 up))), 9, 3, ci 9 4 calDesc, invOf (by decide +kernel),
    by decide +kernel⟩,
  ⟨md .calibrate (wr [rn 3 1] (band1 3 (hd1 3 up))), 3, rn 3 1, { rn 3 1 with line := 1 }, 0, 0, 0, invOf
    (by decide +kernel), by decide +kernel⟩,
  ⟨md .calibrate (wr [rn 3 4] (hd1 3 up)), 3, rn 3 4, .calRunTrigger 3, invOf (by decide +kernel), by decide +kernel⟩,
  ⟨md .scan (wr [{ rn 3 3 with gap := true }] { hd1 3 up with time := 6000000000 }), 3, { rn 3 3 with gap := true },
    .gapSearchTimeout 3, invOf (by decide +kernel), by decide +kernel⟩,
  ⟨wc [ci 3 4 []] (md .calibrate (wr [{ rn 3 1 with stage := .ended, code := 0x59 }] (hd1 3 up))), 3,
    { rn 3 1 with stage := .ended, code := 0x59 }, ci 3 4 [], invOf (by decide +kernel), by decide +kernel⟩,
  ⟨md .calibrate (wr [{ rn 3 1 with band := 8 }] (hd1 3 up)), 3, { rn 3 1 with band := 8 }, invOf (by decide +kernel),
    by decide +kernel, by decide +kernel, by decide +kernel, by decide +kernel, by decide +kernel⟩,
  ⟨md .calibrate (wr [{ rn 3 2 with band := 8 }] (hd1 3 up)), 3, { rn 3 2 with band := 8 }, invOf (by decide +kernel),
    by decide +kernel, by decide +kernel, by decide +kernel, by decide +kernel, by decide +kernel⟩,
  ⟨fs [(SHD_HPHS_STEP 3, 8), (SHD_HPHS_SPAN 3, 3)] (md .calibrate (wr [{ rn 3 3 with trial := 2904 }] (hd1 3 up))), 3,
    { rn 3 3 with trial := 2904 }, invOf (by decide +kernel), by decide +kernel⟩,
  ⟨md .calibrate (wr [{ rn 3 4 with band := 8 }] (hd1 3 up)), 3, { rn 3 4 with band := 8 }, invOf (by decide +kernel),
    by decide +kernel, by decide +kernel, by decide +kernel, by decide +kernel, by decide +kernel⟩⟩

theorem wit_BackgroundTrackingUpdates :
    (∃ (s : State) (t : Fin 256) (b : Fin 8) (h : Nat) (xs : List Sample) (l : BandLine), Inv s ∧ tapOwner s t = some h ∧
      (flag s (SHD_HTRK_TRK_EN h) = true) ∧ (fget s (HEAD_READ_DARK h) ≠ 0) ∧ (l.stage = .lanes) ∧
      ((((getHead s h).lines.filter fun l => l.band == b.val && (l.stage == .reading || l.stage == .lanes) && decide (l.readAt + fget s (HEAD_READ_DARK h) * pixTicks s h ≤ s.time)).getLast?) = some l)
      ∧ let dark := fget s (HEAD_READ_DARK h); let q := t.val - fget s (HEAD_TAPS_FIRST_TAP h);
      let ys := List.replicate (q * tapSamples s h) ⟨0, false⟩ ++ xs.take dark;
      let good := (((List.range dark).map fun k => pixOf s h l ys t q k).filter fun p => !p.ovr && !p.dead).map fun p => p.code;
      (good ≠ [])) ∧
    (∃ (s : State) (h : Fin 16) (b : Fin 8), Inv s ∧ (wMin s h ≤ nget s.shd.incl (headBand h b))) :=
  ⟨⟨hd 3 (fun x => { x with lines := [ln .lanes] }) (fs [(SHD_HTRK_TRK_EN 3, 1), (SHD_HTRK_K 3, 1), (SHD_HTRK_TRK_LIM 3, 100)]
    (hd1 3 up)), 24, 0, 3, [⟨5000, false⟩, ⟨4100, false⟩], ln .lanes, invOf (by decide +kernel), by decide +kernel,
    by decide +kernel, by decide +kernel, by decide +kernel, by decide +kernel, by decide +kernel⟩,
  ⟨{ hd1 3 up with shd := { up.shd with incl := [(24, 65535)] } }, 3, 0, invOf (by decide +kernel), by decide +kernel⟩⟩

theorem wit_AtticSaveRunsItsSteps :
    (∃ (s : State) (slot : Nat) (c : CmdEntry), Inv s ∧ cmdOf s slot 7 = some c ∧ s.att.step = 0 ∧ (s.att.slot ≠ some slot)) ∧
    (∃ (s : State) (slot : Nat) (c : CmdEntry), Inv s ∧ cmdOf s slot 7 = some c ∧ (s.att.step ≠ 0) ∧ (s.att.slot ≠ some slot)
      ∧ (s.host.cmds.find? (fun c => decide (c.slot = slot)) = some c)) ∧
    (∃ (s : State), Inv s ∧ modeIn s saveModes = true ∧ s.fw.paused = false ∧ (1 ≤ s.att.step) ∧ (s.att.step ≤ 6) ∧
      ((s.att.step = 1 → recsFit s s.att.snap = true))) ∧
    (∃ (s : State), Inv s ∧ modeIn s saveModes = true ∧ s.fw.paused = false ∧ s.att.step = 7 ∧ (s.att.late = [])) ∧
    (∃ (s : State), Inv s ∧ modeIn s saveModes = true ∧ s.fw.paused = false ∧ (2 ≤ s.att.step) ∧ (s.att.step ≤ 6) ∧
      (s.att.late = [])) ∧
    (∃ (s : State), Inv s ∧ modeIn s saveModes = true ∧ s.start.warm = true ∧
      ((fget s ATT_STATUS_SOURCE = 1 ∨ fget s ATT_STATUS_SOURCE = 2))) :=
  ⟨⟨wc [ci 9 7 []] up, 9, ci 9 7 [], invOf (by decide +kernel), by decide +kernel⟩,
  ⟨wc [ci 9 7 []] { up with att := { up.att with step := 3 } }, 9, ci 9 7 [], invOf (by decide +kernel), by decide +kernel⟩,
  ⟨{ fs [(ATT_FLASH_MBIT, 1)] up with att := { up.att with step := 1, bankB := { up.att.bankB with commit := [1] } } }, invOf
    (by decide +kernel), by decide +kernel⟩,
  ⟨{ up with att := { up.att with step := 7 } }, invOf (by decide +kernel), by decide +kernel⟩,
  ⟨{ up with att := { up.att with step := 2 } }, invOf (by decide +kernel), by decide +kernel⟩,
  ⟨fs [(ATT_STATUS_SOURCE, 1)] { up with start := { up.start with warm := true } }, invOf (by decide +kernel),
    by decide +kernel⟩⟩

theorem wit_PositionFollowsStepsOrCounts :
    (∃ (s : State) (m : Fin 8) (fwd : Bool), Inv s ∧ axisMoving s m = true ∧ ((getAxis s m).enPin = true) ∧
      ((getAxis s m).readyAt ≤ s.time)) ∧
    (∃ (s : State) (e : Fin 4) (a : Bool) (b : Bool) (i : Bool) (fwd : Bool), Inv s ∧ (flag s (MOT_ECTL_EN e) = true) ∧
      let x := tget (fun _ => ({} : EncSt)) s.mot.encs e; (x.a.xor a ≠ x.b.xor b) ∧ (encCount s e (x.a != a) a b = some fwd)) ∧
    (∃ (s : State) (e : Fin 4) (a : Bool) (b : Bool) (i : Bool), Inv s ∧ (flag s (MOT_ECTL_EN e) = true) ∧
      let x := tget (fun _ => ({} : EncSt)) s.mot.encs e; (x.a ≠ a) ∧ (x.b ≠ b)) :=
  ⟨⟨ax 5 (fun x => { x with enPin := true, pos := 2 ^ 48 - 1 }) (fs [(MOT_ASTATUS_STATE 5, 2)] up), 5, true, invOf
    (by decide +kernel), by decide +kernel⟩,
  ⟨fs [(MOT_ECTL_EN 2, 1), (MOT_ECTL_DEC 2, 2), (MOT_ECTL_INV 2, 0), (MOT_ACTL_BIND 5, 1), (MOT_ACTL_ENC 5, 2),
    (MOT_ECTL_IDX_EN 2, 1)] up, 2, true, false, true, true, invOf (by decide +kernel), by decide +kernel, by decide +kernel,
    by decide +kernel⟩,
  ⟨fs [(MOT_ECTL_EN 2, 1)] up, 2, true, true, false, invOf (by decide +kernel), by decide +kernel, by decide +kernel,
    by decide +kernel⟩⟩

theorem wit_SensorsAndAdmission :
    (∃ (s : State) (k : Fin 16) (level : Bool) (u : Nat) (p : List Int), Inv s ∧
      (bitOf (fget s MOT_DSSTATE_COVERED) k ≠ level)) ∧
    (∃ (s : State), Inv s ∧ admMay s = true) ∧
    (∃ (s : State), (s.mot.relEnd ≠ 0) ∧ (s.mot.relEnd ≤ s.time)) ∧
    (∃ (s : State) (h : Fin 16) (v : Word), Inv s ∧ (hostMay s (MOT_HDOC h) = true)) :=
  ⟨⟨fs [(MOT_DSSTATE_COVERED, 0xFFFF), (MOT_CTL_PACE_MODE, 2), (MOT_ADM_FEED_DS, 15)] up, 15, false, 5, [], invOf
    (by decide +kernel), by decide +kernel⟩,
  ⟨fs [(MOT_CTL_PACE_MODE, 2), (MOT_PANTRY_REFUSE, 0), (MOT_ADMKIB_ADM_KIB, 5), (MOT_ADMMARGIN_MARGIN_KIB, 0)]
    { up with mot := { up.mot with admReq := true } }, invOf (by decide +kernel), by decide +kernel⟩,
  ⟨{ up with mot := { up.mot with relEnd := 600, relOut := [(3, true)] } }, by decide +kernel⟩,
  ⟨{ fs [(MOT_HDOC_DOC_EN 3, 1)] up with mot := { up.mot with docs := [(3, { cur := some ⟨5, none⟩ })] } }, 3, 0x4000_0000,
    invOf (by decide +kernel), by decide +kernel⟩⟩

theorem wit_PaceFollowsTheFill :
    (∃ (s : State), Inv s ∧ hwyFollower s = false ∧ (fget s MOT_STATUS_PSTATE < 2)) ∧
    (∃ (s : State), Inv s ∧ (s.mode.mode = .hold) ∧ (s.mot.holdAt + 600000 * max 1 (fget s MOT_HOLDTO_TIMEOUT) ≤ s.time)) ∧
    (∃ (s : State) (v : Word), Inv s ∧ hostMay s MOT_PACE = true) :=
  ⟨⟨fs [(MOT_CTL_PACE_MODE, 1), (MOT_PACE_HOLD, 80), (MOT_PACE_FOLLOW, 50), (MOT_STATUS_PSTATE, 0)] up, invOf
    (by decide +kernel), by decide +kernel⟩,
  ⟨fs [(MOT_HOLDTO_TIMEOUT, 0)] { md .hold up with time := 600000 }, invOf (by decide +kernel), by decide +kernel⟩,
  ⟨up, 0x00315A32, invOf (by decide +kernel), by decide +kernel⟩⟩

theorem wit_AxisComesToRestByRule :
    (∃ (s : State) (m : Fin 8), Inv s ∧ axisMoving s m = true ∧ (fget s (MOT_ASTATUS_MOVE m) ≠ 1) ∧
      (fget s (MOT_ASTATUS_MOVE m) ≠ 2) ∧ (fget s MOT_STATUS_PSTATE ≠ 2)) ∧
    (∃ (s : State) (m : Fin 8), Inv s ∧ (fget s (MOT_ASTATUS_MOVE m) = 1) ∧ ((getAxis s m).moveLeft = 0) ∧
      ((getAxis s m).takeUp = 0) ∧ (s.mode.mode = .hold)) ∧
    (∃ (s : State) (m : Fin 8), Inv s ∧ (fget s (MOT_ASTATUS_MOVE m) = 2) ∧ ((getAxis s m).moveLeft = 0)) ∧
    (∃ (s : State) (m : Fin 8), Inv s ∧ (flag s (MOT_ACTL_EN m) = true) ∧ (flag s (MOT_ASTATUS_REST m) = true) ∧
      ((getAxis s m).lastMove + 6000000 * fget s (MOT_AIREF_STBY_DLY m) ≤ s.time)) :=
  ⟨⟨ax 5 (fun x => { x with segs := [⟨0, 1, 1, 1, 0, 0⟩] }) (fs
    [(MOT_ASTATUS_STATE 5, 2), (MOT_ASTATUS_MOVE 5, 3), (MOT_STATUS_PSTATE, 0)] up), 5, invOf (by decide +kernel),
    by decide +kernel⟩,
  ⟨fs [(MOT_ASTATUS_STATE 5, 2), (MOT_ASTATUS_MOVE 5, 1)] (md .hold up), 5, invOf (by decide +kernel), by decide +kernel⟩,
  ⟨ax 5 (fun x => { x with segs := [⟨0, 1, 1, 1, 0, 0⟩] }) (fs [(MOT_ASTATUS_STATE 5, 2), (MOT_ASTATUS_MOVE 5, 2)] up), 5,
    invOf (by decide +kernel), by decide +kernel⟩,
  ⟨fs [(MOT_ACTL_EN 5, 1), (MOT_ASTATUS_REST 5, 1), (MOT_AIREF_STBY_DLY 5, 0)] up, 5, invOf (by decide +kernel),
    by decide +kernel⟩⟩

theorem wit_ProfilesStartAndStop :
    (∃ (s : State) (slot : Nat) (b : List Byte) (c : CmdEntry), Inv s ∧ cmdOf s slot 6 = some c ∧
      (s.host.cmds.find? (fun c => decide (c.slot = slot)) = some c)) ∧
    (∃ (s : State) (m : Fin 8), Inv s ∧ (hostMay s (MOT_ACMD m) = true)) ∧
    (∃ (s : State) (m : Fin 8), Inv s ∧ (hostMay s (MOT_ACMD m) = true) ∧ axisMoving s m = true) ∧
    (∃ (s : State) (m : Fin 8), Inv s ∧ (hostMay s (MOT_ACMD m) = true) ∧ axisMoving s m = true ∧
      (fget s MOT_STATUS_PSTATE ≠ 2)) ∧
    (∃ (s : State) (m : Fin 8) (drv : Bool), Inv s ∧ ((drv = true ∨ followFails s m = true)) ∧ (s.mode.mode ≠ .off) ∧
      (s.mode.mode ≠ .halt)) :=
  ⟨⟨wc [ci 9 6 []] up, 9, [], ci 9 6 [], invOf (by decide +kernel), by decide +kernel, by decide +kernel⟩,
  ⟨ax 5 (fun x => { x with loaded := [⟨-5, 1, 1, 1, 0, 0⟩] }) (fs [(MOT_ASTATUS_STATE 5, 1), (MOT_ACTL_EN 5, 1)]
    (md .scan up)), 5, invOf (by decide +kernel), by decide +kernel⟩,
  ⟨fs [(MOT_ASTATUS_STATE 5, 2)] up, 5, invOf (by decide +kernel), by decide +kernel⟩,
  ⟨ax 5 (fun x => { x with segs := [⟨-5, 1, 1, 1, 0, 0⟩] }) (fs [(MOT_ASTATUS_STATE 5, 2), (MOT_STATUS_PSTATE, 1)] up), 5,
    invOf (by decide +kernel), by decide +kernel⟩,
  ⟨fs [(MOT_ACTL_FE_ACT 5, 1)] up, 5, true, invOf (by decide +kernel), by decide +kernel⟩⟩

theorem wit_AxisEnableWritesAct :
    (∃ (s : State) (m : Fin 8) (v : Word), Inv s ∧ (hostMay s (MOT_ACTL m) = true) ∧ (flag s (MOT_ACTL_EN m) = false) ∧
      v.getLsbD 31 = true ∧ (s.mode.mode ≠ .halt)) ∧
    (∃ (s : State) (m : Fin 8) (v : Word), Inv s ∧ (hostMay s (MOT_ACTL m) = true) ∧ (flag s (MOT_ACTL_EN m) = true)) ∧
    (∃ (s : State) (m : Fin 8) (v : Word), Inv s ∧ (hostMay s (MOT_ACTL m) = true) ∧ (s.mode.mode = .halt)) :=
  ⟨⟨fs [(MOT_ACTL_EN 5, 0)] up, 5, 0xFFFFFFFF, invOf (by decide +kernel), by decide +kernel⟩,
  ⟨fs [(MOT_ACTL_EN 5, 1)] up, 5, 0x7FFFFFFF, invOf (by decide +kernel), by decide +kernel⟩,
  ⟨md .halt up, 5, 0xFFFFFFFF, invOf (by decide +kernel), by decide +kernel⟩⟩

theorem wit_LampBlockTakesEffect :
    (∃ (s : State) (slot : Nat) (b : List Byte) (c : CmdEntry), Inv s ∧ cmdOf s slot 5 = some c ∧
      (s.host.cmds.find? (fun c => decide (c.slot = slot)) = some c) ∧ ((s.lmp.load.any fun p => p.1 == slot) = false) ∧
      (fget s LNK_STATUS_STATE ≠ 1)) ∧
    (∃ (s : State) (slot : Nat) (n : Nat) (c : CmdEntry), Inv s ∧ (s.lmp.load = [(slot, n)]) ∧ satsPending s = false ∧
      (s.host.cmds.find? (fun c => decide (c.slot = slot)) = some c)) ∧
    (∃ (s : State), Inv s ∧ hkRuns s = true ∧ ((s.lmp.entries.map fun e => strKey e.sat e.str).Nodup)) ∧
    (∃ (s : State) (k : Fin 16) (r : Fin 4) (v : Word), Inv s ∧ (hostMay s (sbinOff k r) = true)) :=
  ⟨⟨wc [ci 9 5 []] (fs [(LNK_STATUS_STATE, 0)] up), 9, lampBlock 5, ci 9 5 [], invOf (by decide +kernel), by decide +kernel⟩,
  ⟨wc [ci 9 5 []] { up with lmp := { up.lmp with load := [(9, 1)] } }, 9, 1, ci 9 5 [], invOf (by decide +kernel),
    by decide +kernel⟩,
  ⟨we [le 0 5 3 3 1, le 0 6 3 1 1, le 1 2 0 1 0] up, invOf (by decide +kernel), by decide +kernel⟩,
  ⟨up, 15, 3, 0xFFFFFFFF, invOf (by decide +kernel), by decide +kernel⟩⟩

theorem wit_LampPulsesAreDiagnosed :
    (∃ (s : State) (k : Nat) (q : Nat × Nat × Nat × Nat × Nat × Bool), ((getStr s k).strobe = some q) ∧
      (q.1 + q.2.1 ≤ s.time)) ∧
    (∃ (s : State) (u : Nat), s.lmp.hold = some u ∧ (u ≤ s.time)) ∧
    (∃ (s : State) (k : Nat), ((getStr s k).scount ≠ 0) ∧ ((getStr s k).due = none) ∧
      ((getStr s k).firstShort + 60000 * max 1 (fget s LMP_DIAG_DUE_T) ≤ s.time)) ∧
    (∃ (s : State) (k : Nat) (u : Nat), Inv s ∧ ((getStr s k).due = some u) ∧ (u + 600000 ≤ s.time) ∧
      ((getStr s k).late = false)) ∧
    (∃ (s : State) (k : Nat) (m : PulseMeas) (q : Nat × Nat × Nat × Nat × Nat × Bool) (e : LampEntry), Inv s ∧
      ((getStr s k).toDiag = some q) ∧ (q.1 + 192 ≤ s.time) ∧ (k < 16) ∧ entryOf s k = some e ∧ isDropped s e = false) :=
  ⟨⟨sg 5 (fun x => { x with strobe := some (100, 500, 3, 3, 0, false) }) up, 5, (100, 500, 3, 3, 0, false), by decide +kernel⟩,
  ⟨fs [(LMP_CTL_BUS_HEAD, 3)] (hd 3 (fun x => { x with lines := [{ ln .accepted with band := 5 }] })
    { up with lmp := { up.lmp with hold := some 1000 } }), 1000, by decide +kernel, by decide +kernel⟩,
  ⟨sg 5 (fun x => { x with scount := 1 }) (fs [(LMP_DIAG_DUE_T, 1)] { up with time := 60000 }), 5, by decide +kernel⟩,
  ⟨sg 5 (fun x => { x with due := some 0 }) { up with time := 600000 }, 5, 0, invOf (by decide +kernel), by decide +kernel⟩,
  ⟨we [le 0 5 3 3 1, le 0 6 3 1 1] (sg 5
    (fun x => { x with toDiag := some (100, 500, 512, 3, 0, false), scount := 2, drop := 0 })
    (fs [(LMP_DIAG_OPEN_PCT, 50)] up)), 5, ⟨0, 0, 0⟩, (100, 500, 512, 3, 0, false), le 0 5 3 3 1, invOf (by decide +kernel),
    by decide +kernel, by decide +kernel, by decide +kernel, by decide +kernel, by decide +kernel⟩⟩

theorem wit_LampRailIsServed :
    (∃ (s : State) (v : Nat) (i : Nat) (x : Nat × Nat × Nat), Inv s ∧ flag s LMP_STATUS_RAIL_ON = true ∧ leastSample s.lmp.hr
      = some x) ∧
    (∃ (s : State), Inv s ∧ flag s LMP_STATUS_RAIL_ON = true) ∧
    (∃ (s : State), Inv s ∧ flag s LMP_STATUS_RAIL_ON = true ∧ flag s LMP_STATUS_RAIL_OK = true) ∧
    (∃ (s : State) (k : Fin 3), Inv s ∧ flag s LMP_STATUS_RAIL_ON = true ∧ (s.mode.mode ≠ .off) ∧ (s.mode.mode ≠ .halt) ∧
      ((k = 2 → s.lmp.railSince ≠ 0 ∧ s.lmp.railSince + 600000 ≤ s.time ∧ flag s LMP_STATUS_RAIL_OK = false))) :=
  ⟨⟨{ fs [(LMP_STATUS_RAIL_ON, 1)] up with lmp := { up.lmp with hr := [(300, 0, 5), (100, 1, 6), (100, 0, 7)] } }, 24000, 500,
    (100, 1, 6), invOf (by decide +kernel), by decide +kernel⟩,
  ⟨fs [(LMP_STATUS_RAIL_ON, 1)] up, invOf (by decide +kernel), by decide +kernel⟩,
  ⟨fs [(LMP_STATUS_RAIL_ON, 1), (LMP_STATUS_RAIL_OK, 1)] (wr [rn 3 4] up), invOf (by decide +kernel), by decide +kernel⟩,
  ⟨fs [(LMP_STATUS_RAIL_ON, 1)] up, 0, invOf (by decide +kernel), by decide +kernel⟩⟩

theorem wit_LampCommandsAct :
    (∃ (s : State) (k : Nat) (e : LampEntry) (r : Redist), entryOf s k = some e ∧ (r ∈ s.lmp.redist) ∧ (r.key = k) ∧
      r.applied = false ∧ (r.time + 12000 ≤ s.time)) ∧
    (∃ (s : State) (sat : BitVec 8) (str : BitVec 8), Inv s ∧ hostMay s LMP_CMD = true) ∧
    (∃ (s : State), Inv s ∧ hostMay s LMP_CMD = true) ∧
    (∃ (s : State), Inv s ∧ hostMay s LMP_CMD = true ∧ flag s LMP_CMDSTAT_BUSY = false) ∧
    (∃ (s : State) (m : PulseMeas) (k : Nat) (rest : List Nat), Inv s ∧ (s.mode.mode = .ready) ∧ (s.lmp.test = k :: rest) ∧
      (judge s (binOf s k) ((binOf s k).iref : Nat) m = .good)) :=
  ⟨⟨we [le 0 5 3 3 1, le 0 6 3 1 1, le 0 7 3 1 1] (sg 6
    (fun x => { x with rise := [(0, ⟨5, 6, false⟩)], riseAt := some 12000 })
    { up with time := 12000, lmp := { up.lmp with redist := [⟨5, 3, 0, 0, false⟩, ⟨5, 3, 1, 1, false⟩] } }), 5, le 0 5 3 3 1,
    ⟨5, 3, 0, 0, false⟩, by decide +kernel⟩,
  ⟨up, 0, 5, invOf (by decide +kernel), by decide +kernel⟩,
  ⟨we [le 0 5 3 3 1, le 0 5 2 3 1, le 200 7 3 3 1] (sg 5 (fun x => { x with drop := 1 })
    (sg 3207 (fun x => { x with drop := 2 }) up)), invOf (by decide +kernel), by decide +kernel⟩,
  ⟨fs [(LMP_CMDSTAT_BUSY, 0)] (md .scan up), invOf (by decide +kernel), by decide +kernel, by decide +kernel⟩,
  ⟨{ up with lmp := { up.lmp with test := [5, 6], testPulses := 14 } }, ⟨2000000, 1000000, 7⟩, 5, [6], invOf
    (by decide +kernel), by decide +kernel⟩⟩

theorem wit_DoorbellsAreTakenOrReported :
    (∃ (s : State) (v : Word) (h : Fin 16) (c : Instr) (r : Nat),
      ((c, r) ∈ [(Instr.dbCmdPi v, 0), (Instr.dbCplCi v, 1), (Instr.dbEvtCi v, 2), (Instr.dbImgPi h v, 3 + h.val)]) ∧
      rootRuns s = true ∧ (s.mode.mode ≠ .off) ∧ (s.mode.mode ≠ .sleep)) ∧
    (∃ (s : State) (v : Word) (h : Fin 16) (c : Instr) (r : Nat),
      ((c, r) ∈ [(Instr.dbCmdPi v, 0), (Instr.dbCplCi v, 1), (Instr.dbEvtCi v, 2), (Instr.dbImgPi h v, 3 + h.val)]) ∧
      rootRuns s = true ∧ (s.mode.mode ≠ .off) ∧ (s.mode.mode ≠ .sleep)) ∧
    (∃ (s : State) (v : Word) (h : Fin 16) (c : Instr) (r : Nat),
      ((c, r) ∈ [(Instr.dbCmdPi v, 0), (Instr.dbCplCi v, 1), (Instr.dbEvtCi v, 2), (Instr.dbImgPi h v, 3 + h.val)]) ∧
      rootRuns s = true ∧ (s.mode.mode ≠ .off) ∧ (s.mode.mode ≠ .sleep)) ∧
    (∃ (s : State) (v : Word) (h : Fin 16) (c : Instr) (r : Nat),
      ((c, r) ∈ [(Instr.dbCmdPi v, 0), (Instr.dbCplCi v, 1), (Instr.dbEvtCi v, 2), (Instr.dbImgPi h v, 3 + h.val)]) ∧
      rootRuns s = true ∧ (s.mode.mode ≠ .off) ∧ (s.mode.mode ≠ .sleep)) ∧
    (∃ (s : State) (v : Word) (h : Fin 16) (c : Instr),
      (c ∈ [Instr.dbCmdPi v, Instr.dbCplCi v, Instr.dbEvtCi v, Instr.dbImgPi h v]) ∧
      ((s.mode.mode = .off ∨ s.mode.mode = .sleep ∨ rootRuns s = false))) :=
  ⟨⟨ring 0 0 up, 5, 3, .dbCmdPi 5, 0, by decide +kernel, by decide +kernel, by decide +kernel, by decide +kernel⟩,
  ⟨fs [(HOST_RSTAT_DIDX 1, 9)] (ring 1 3 up), 5, 3, .dbCplCi 5, 1, by decide +kernel, by decide +kernel, by decide +kernel,
    by decide +kernel⟩,
  ⟨fs [(HOST_EVENTS_DB_ERR, 0)] (ring 2 3 up), 65, 3, .dbEvtCi 65, 2, by decide +kernel, by decide +kernel,
    by decide +kernel, by decide +kernel⟩,
  ⟨ring 6 3 up, 64, 3, .dbImgPi 3 64, 6, by decide +kernel, by decide +kernel, by decide +kernel, by decide +kernel⟩,
  ⟨md .sleep up, 65, 3, .dbImgPi 3 65, by decide +kernel⟩⟩

theorem wit_RingControlFollowsItsRules :
    (∃ (s : State) (r : Fin 19) (v : Word), (hostMay s (HOST_RCTL r) = true) ∧ rctlBreaks s r v.toNat = true) ∧
    (∃ (s : State) (r : Fin 19) (v : Word), (hostMay s (HOST_RCTL r) = true) ∧ rctlBreaks s r v.toNat = false) ∧
    (∃ (s : State) (r : Fin 19), ringOn s r = false) ∧
    (∃ (s : State) (r : Fin 19), entryPosted s r = true ∧ (r.val ≠ 1) ∧ (r.val ≠ 2) ∧ busOn s = true) :=
  ⟨⟨ring 5 3 up, 5, 0x80070000, by decide +kernel⟩,
  ⟨ring 1 0 (fs [(HOST_RCTL_EN 5, 0), (HOST_RSTAT_IDLE 5, 1), (HOST_RSTAT_DIDX 5, 9), (HOST_RSTAT_ERR 5, 1)] up), 5,
    0x80070000, by decide +kernel⟩,
  ⟨fs [(HOST_RCTL_EN 5, 0)] up, 5, by decide +kernel⟩,
  ⟨bus (ring 5 4 up), 5, by decide +kernel⟩⟩

theorem wit_CommandsAreTakenAndCompleted :
    (∃ (s : State) (d : List Byte), entryPosted s 0 = true ∧ busOn s = true ∧ (inProgress s < 64) ∧ d.length = 64 ∧
      let c : CmdEntry := ⟨didx s 0 % ringN s 0, byteAt d 0, bitOf (byteAt d 1) 0, bitOf (byteAt d 1) 1, d⟩; mayStart s c =
      true) ∧
    (∃ (s : State) (slot : Nat) (c : CmdEntry), cmdOf s slot 0 = some c) ∧
    (∃ (s : State) (slot : Nat) (c : CmdEntry) (q : Staged), cmdOf s slot 1 = some c ∧ fget s PIPE_STATUS_STAGE = 1 ∧
      s.pipe.stage = some q ∧ q.slot = some slot) ∧
    (∃ (s : State) (slot : Nat) (c : CmdEntry), ((cmdOf s slot 5 = some c ∨ cmdOf s slot 6 = some c)) ∧
      ((s.lmp.load.any fun p => p.1 == slot) = false)) ∧
    (∃ (s : State) (c : Cpl) (l : List Cpl), (s.host.cplq = c :: l) ∧ slotFree s 1 = true ∧ busOn s = true) ∧
    (∃ (s : State), slotFree s 1 = false ∧ ringOn s 1 = true ∧ (s.host.unmet ≠ 0)) :=
  ⟨⟨bus (ring 0 4 up), dsc [0], by decide +kernel, by decide +kernel, by decide +kernel, by decide +kernel, by decide +kernel⟩,
  ⟨wc [ci 9 0 []] up, 9, ci 9 0 [], by decide +kernel⟩,
  ⟨wc [ci 9 1 []] (wstage (some ⟨1, 3, 0, [], (0, 0, 0), some 9, false, false⟩) (fs [(PIPE_STATUS_STAGE, 1)] up)), 9, ci 9 1
    [], ⟨1, 3, 0, [], (0, 0, 0), some 9, false, false⟩, by decide +kernel⟩,
  ⟨wc [ci 9 6 []] up, 9, ci 9 6 [], by decide +kernel⟩,
  ⟨ho (fun x => { x with cplq := [cpl0 9, cpl0 4] }) (bus (ring 1 0 up)), cpl0 9, [cpl0 4], by decide +kernel⟩,
  ⟨ho (fun x => { x with cplq := [cpl0 9], unmet := 1 }) (fs [(HOST_RSTAT_DIDX 1, 64)] (ring 1 0 up)), by decide +kernel⟩⟩

theorem wit_PacketsAreDeliveredOrSkipped :
    (∃ (s : State) (h : Fin 16) (b : BufDesc) (e : CelEcc) (p : Packet),
      ((s.host.closed.find? fun p => decide (p.head = h.val)) = some p) ∧ (entryPosted s (3 + h.val) = true) ∧ busOn s =
      true) ∧
    (∃ (s : State) (h : Fin 16) (b : BufDesc) (a : Nat) (p : Packet),
      ((s.host.closed.find? fun p => decide (p.head = h.val)) = some p) ∧ (entryPosted s (3 + h.val) = true) ∧ busOn s = true
      ∧ bufInvalid b = false ∧ (p.size ≤ b.len)) ∧
    (∃ (s : State) (h : Fin 16) (b : BufDesc) (a : Nat) (p : Packet),
      ((s.host.closed.find? fun p => decide (p.head = h.val)) = some p) ∧ (entryPosted s (3 + h.val) = true) ∧ busOn s = true
      ∧ bufInvalid b = false ∧ (p.size ≤ b.len)) ∧
    (∃ (s : State) (slot : Nat) (c : CmdEntry), cmdOf s slot 8 = some c ∧
      ((s.host.skips.any fun k => k.slot == slot) = false) ∧ ((s.host.skips.any fun k => k.head == byteAt c.desc 8) = false)) ∧
    (∃ (s : State) (slot : Nat) (k : Skip) (c : CmdEntry), ((s.host.skips.find? fun k => decide (k.slot = slot)) = some k) ∧
      (s.host.cmds.find? (fun c => decide (c.slot = slot)) = some c) ∧ inCapture s k.head k.doc = false ∧ lineOnWay s k.head
      k.doc = false) :=
  ⟨⟨ho (fun x => { x with closed := [pk 2 [1], pk 3 [4, 5]] }) (bus (ring 6 4 up)), 3, ⟨0x1000, 0x100, 1⟩, .clean, pk 3 [4,
    5], by decide +kernel, by decide +kernel, by decide +kernel⟩,
  ⟨ho (fun x => { x with closed := [pk 2 [1], pk 3 [4, 5]] }) (bus (ring 6 4 up)), 3, ⟨0x1000, 0x100, 1⟩, 0x123456789, pk 3
    [4, 5], by decide +kernel⟩,
  ⟨ho (fun x => { x with closed := [pk 2 [1], pk 3 [4, 5]] }) (bus (ring 6 4 up)), 3, ⟨0x1000, 0x100, 1⟩, 0x123456789, pk 3
    [4, 5], by decide +kernel⟩,
  ⟨wc [ci 9 8 [8, 0, 0, 0, 0, 0, 0, 0, 3, 0, 0, 0, 0, 0, 0, 0]] (fs [(MOT_HDOC_DOC_EN 3, 0)] up), 9, ci 9 8 [8, 0, 0, 0, 0,
    0, 0, 0, 3, 0, 0, 0, 0, 0, 0, 0], by decide +kernel, by decide +kernel, by decide +kernel⟩,
  ⟨ho (fun x => { x with skips := [⟨9, 3, 5, 2⟩, ⟨10, 3, 5, 4⟩] }) (wc [ci 9 8 [], ci 10 8 []] up), 10, ⟨10, 3, 5, 4⟩, ci 10
    8 [], by decide +kernel⟩⟩

theorem wit_InterruptsAreSignalled :
    (∃ (s : State) (k : Fin 22), maySignal s k = true) ∧
    (∃ (s : State) (k : Fin 64), (s.mode.mode ≠ .off)) :=
  ⟨⟨ho (fun x => { x with isr := [(3, true), (5, true), (7, true)] }) (bus
    (fs [(HOST_ISRC_EN 3, 1), (HOST_ISRC_EN 5, 1), (HOST_ISRC_EN 7, 1), (HOST_ISRC_VEC 3, 9), (HOST_ISRC_VEC 5, 9), (HOST_ISRC_VEC 7, 8), (HOST_ISRC_HOLDOFF 5, 20), (MSIX_CTRL_MASK 9, 0)] up)),
    3, by decide +kernel⟩,
  ⟨bus (setRaw up (MSIX_PBA 1) 0x3), 33, by decide +kernel⟩⟩

theorem wit_LinkComesAndGoes :
    (∃ (s : State), flag s HOST_STATUS_LINK_UP = true) ∧
    (∃ (s : State) (w : Nat) (r : Nat), (s.mode.mode ≠ .off) ∧ s.host.perst = false ∧
      ((s.mode.mode = .coldStart → rootRuns s = true)) ∧ (w ∈ [1, 2, 4, 8]) ∧ (r ∈ [1, 2, 3, 4])) ∧
    (∃ (s : State) (b : Bool), flag s HOST_STATUS_LINK_UP = true) :=
  ⟨⟨bus (md .scan up), by decide +kernel⟩,
  ⟨ho (fun x => { x with perst := false }) up, 4, 3, by decide +kernel⟩,
  ⟨bus up, false, by decide +kernel⟩⟩

theorem wit_LandingIsDrainedAndControlled :
    (∃ (s : State) (d : DoneMsg), dmaMayPop s = true ∧ lndNext s = some d) ∧
    (∃ (s : State) (p : PortMsg), portReads s .hostBar0 = true ∧ s.lnd.port = some p) ∧
    (∃ (s : State), portReads s .hostBar0 = true ∧ s.lnd.port = none ∧ lndNext s = none) ∧
    (∃ (s : State) (d : DoneMsg), portReads s .hostBar0 = true ∧ s.lnd.port = none ∧ lndNext s = some d) ∧
    (∃ (s : State) (p : PortMsg) (h : Nat), portReads s .hostBar0 = true ∧ s.lnd.port = some p ∧
      (s.shadow0 = some ⟨LND_DATA_LO, h⟩)) ∧
    (∃ (s : State) (p : PortMsg), portReads s .hostBar0 = true ∧ s.lnd.port = some p ∧ s.shadow0 = none) ∧
    (∃ (s : State) (m : Master) (c : Instr), (c ∈ [Instr.lndDataLoRead m, Instr.lndDataHiRead m]) ∧ portReads s m = false) ∧
    (∃ (s : State) (m : Master) (c : Instr), (c ∈ [Instr.lndDataLoRead m, Instr.lndDataHiRead m]) ∧ portReads s m = false) ∧
    (∃ (s : State), hostMay s LND_CMD = true) ∧
    (∃ (s : State), hostMay s LND_CMD = true ∧ (s.time < 2 ^ 64)) ∧
    (∃ (s : State) (v : Word), hostMay s LND_CTL = true) :=
  ⟨⟨ld (fun x => { x with queue := [⟨mg 2 3 4, 7, 5⟩, ⟨mg 1 3 2, 8, 6⟩] }) (bus (ring 2 0 (fs [(LND_CTL_DMA_EN, 1)] up))), ⟨mg
    1 3 2, 8, 6⟩, by decide +kernel⟩,
  ⟨ld (fun x => { x with port := some ⟨mg 1 3 2, 8, 3⟩ }) (fs [(LND_CTL_DMA_EN, 0)] up), ⟨mg 1 3 2, 8, 3⟩, by decide +kernel⟩,
  ⟨(fs [(LND_CTL_DMA_EN, 0)] up), by decide +kernel⟩,
  ⟨ld (fun x => { x with queue := [⟨mg 2 3 4, 7, 5⟩, ⟨mg 1 3 2, 8, 6⟩] }) (fs [(LND_CTL_DMA_EN, 0)] up), ⟨mg 1 3 2, 8, 6⟩,
    by decide +kernel⟩,
  ⟨ld (fun x => { x with port := some ⟨mg 1 3 2, 8, 2⟩ })
    { fs [(LND_CTL_DMA_EN, 0)] up with shadow0 := some ⟨LND_DATA_LO, 99⟩ }, ⟨mg 1 3 2, 8, 2⟩, 99, by decide +kernel⟩,
  ⟨ld (fun x => { x with port := some ⟨mg 1 3 2, 8, 0⟩ }) (fs [(LND_CTL_DMA_EN, 0)] up), ⟨mg 1 3 2, 8, 0⟩, by decide +kernel⟩,
  ⟨up, .housekeeper, .lndDataLoRead .housekeeper, by decide +kernel⟩,
  ⟨(fs [(LND_CTL_DMA_EN, 1)] up), .hostBar0, .lndDataHiRead .hostBar0, by decide +kernel⟩,
  ⟨ld (fun x => { x with port := some ⟨mg 1 3 2, 8, 3⟩ }) up, by decide +kernel⟩,
  ⟨ld (fun x =>
    { x with port := some ⟨mg 1 3 2, 8, 3⟩, queue := [⟨mg 2 3 4, 7, 5⟩, ⟨mg 1 3 2, 8, 6⟩], opened := [⟨mg 2 3 2, 9, 1, false⟩, ⟨mg 2 4 2, 9, 1, true⟩, ⟨mg 0 5 2, 9, 1, false⟩] })
    up, by decide +kernel⟩,
  ⟨ld (fun x => { x with port := some ⟨mg 1 3 2, 8, 3⟩ }) up, 1, by decide +kernel⟩⟩

theorem wit_CountersAreServed :
    (∃ (s : State), hostMay s PMC_CTL = true) ∧
    (∃ (s : State) (b : Bool), hostMay s PMC_CTL = true) ∧
    (∃ (s : State), hostMay s PMC_CTL = true) ∧
    (∃ (s : State) (k : Fin 9) (v : Word), (hostMay s (pmcLowOff k) = true)) ∧
    (∃ (s : State) (k : Fin 9) (v : Word), (hostMay s (pmcLowOff k + 4) = true)) ∧
    (∃ (s : State) (k : Fin 8) (x : Nat × Nat), ((s.pmc.wrapped.find? fun p => decide (p.1 = k.val)) = some x)) :=
  ⟨⟨pm (fun x => { x with cyc := 77, cnt := [(3, 5)] }) up, by decide +kernel⟩,
  ⟨pm (fun x => { x with cyc := 77, cnt := [(3, 5)] }) up, true, by decide +kernel⟩,
  ⟨pm (fun x => { x with cyc := 77, cnt := [(3, 5)] }) up, by decide +kernel⟩,
  ⟨up, 8, 0xFFFFFFFF, by decide +kernel⟩,
  ⟨pm (fun x => { x with buf := [(8, 3)] }) up, 8, 0xFFFFFFFF, by decide +kernel⟩,
  ⟨pm (fun x => { x with wrapped := [(2, 5), (3, 6)] }) (fs [(PMC_OVFEN_OVFEN, 8)] up), 3, (3, 6), by decide +kernel⟩⟩

theorem wit_AuxPassesAreTriggered :
    (∃ (s : State) (c : Fin 4) (v : Word), (hostMay s (AUX_CVCTL c) = true) ∧ auxRuns s = true) ∧
    (∃ (s : State) (c : Fin 4) (i : Instr), (i ∈ [Instr.auxSwtrig c, Instr.auxTimerTrigger c]) ∧
      (hostMay s (AUX_CVCTL c) = true) ∧ ((i = .auxSwtrig c → fget s (AUX_CVCTL_TRIG c) = 3)) ∧
      ((i = .auxTimerTrigger c → fget s (AUX_CVCTL_TRIG c) = 1 ∧ (getCv s c).enAt < s.time ∧ (s.time - (getCv s c).enAt) % (600 * max 1 (fget s (AUX_CVCTL_PERIOD c))) = 0))
      ∧ auxRuns s = true ∧ (flag s (AUX_CVCTL_EN c) = true) ∧ auxBit s AUX_STATUS_FAULT c = false) ∧
    (∃ (s : State) (c : Fin 4) (i : Instr), (i ∈ [Instr.auxSwtrig c, Instr.auxTimerTrigger c]) ∧
      (hostMay s (AUX_CVCTL c) = true) ∧ ((i = .auxSwtrig c → fget s (AUX_CVCTL_TRIG c) = 3)) ∧
      ((i = .auxTimerTrigger c → fget s (AUX_CVCTL_TRIG c) = 1 ∧ (getCv s c).enAt < s.time ∧ (s.time - (getCv s c).enAt) % (600 * max 1 (fget s (AUX_CVCTL_PERIOD c))) = 0))
      ∧ auxRuns s = true ∧ (flag s (AUX_CVCTL_EN c) = true) ∧ auxBit s AUX_STATUS_FAULT c = false) ∧
    (∃ (s : State) (c : Fin 2) (v : Word), (hostMay s (AUX_INJ c) = true) ∧ auxRuns s = true) :=
  ⟨⟨fs [(AUX_CVCTL_EN 2, 0), (AUX_CVCTL_REFSEL 2, 0)] up, 2, 0xFFFFFFFF, by decide +kernel, by decide +kernel⟩,
  ⟨fs [(AUX_CVCTL_TRIG 2, 3), (AUX_CVCTL_EN 2, 1), (AUX_STATUS_FAULT, 0), (AUX_CVCTL_LAST 2, 3)] up, 2, .auxSwtrig 2,
    by decide +kernel, by decide +kernel, by decide +kernel, by decide +kernel, by decide +kernel, by decide +kernel,
    by decide +kernel⟩,
  ⟨cv 1 (fun x => { x with enAt := 5 })
    { fs [(AUX_CVCTL_TRIG 1, 1), (AUX_CVCTL_EN 1, 1), (AUX_STATUS_FAULT, 0), (AUX_CVCTL_PERIOD 1, 2)] up with time := 6005 },
    1, .auxTimerTrigger 1, by decide +kernel, by decide +kernel, by decide +kernel, by decide +kernel, by decide +kernel,
    by decide +kernel, by decide +kernel⟩,
  ⟨up, 1, 0x12345678, by decide +kernel, by decide +kernel⟩⟩

theorem wit_AuxResultsAreDelivered :
    (∃ (s : State) (c : Fin 2) (x : Int) (o : Fin 4) (e : Fin 16), ((getCv s c).cur = some (.entry o e)) ∧ auxRuns s = true ∧
      auxBit s AUX_STATUS_FAULT c = false) ∧
    (∃ (s : State) (c : Fin 2) (o : Fin 2) (x : Int) (w : Nat), ((getCv s c).cur = some (.inj o w)) ∧ auxRuns s = true ∧
      auxBit s AUX_STATUS_FAULT c = false) ∧
    (∃ (s : State) (c : Fin 2) (x : Int) (o : Fin 4) (e : Fin 16), ((getCv s (c + 2)).cur = some (.entry o e)) ∧ auxRuns s =
      true ∧ (auxBit s AUX_STATUS_FAULT (c + 2) = false)) ∧
    (∃ (s : State) (c : Fin 4), ((getCv s c).stream ≠ []) ∧ ((getCv s c).streamAt + 600000 ≤ s.time)) ∧
    (∃ (s : State) (m : Master) (c : Fin 4) (e : Fin 16), (mayRead s m (AUX_RES_LO c e) = true)) :=
  ⟨⟨cv 1 (fun x => { x with pass := true, cur := some (.entry 1 2), entry := 2, seq := [(0, 0), (0, 0), (0x0C040000, 0)] })
    (fs [(AUX_STATUS_FAULT, 0), (AUX_TRIM_GC 1 2, 32768)] up), 1, 1234, 1, 2, by decide +kernel, by decide +kernel,
    by decide +kernel⟩,
  ⟨cv 1 (fun x => { x with cur := some (.inj 1 0x0F001400) }) (fs [(AUX_STATUS_FAULT, 0), (AUX_TRIM_GC 1 5, 32768)] up), 1,
    1, 1234, 0x0F001400, by decide +kernel, by decide +kernel, by decide +kernel⟩,
  ⟨cv 2 (fun x => { x with pass := true, cur := some (.entry 2 0), seq := [(0x0C040000, 0x02000001)] })
    { fs [(AUX_STATUS_FAULT, 0), (AUX_STATUS_REF_SETTLED, 15), (AUX_TRIM_GC 2 2, 32768)] up with time := 1000000 }, 0, -99,
    2, 0, by decide +kernel, by decide +kernel, by decide +kernel⟩,
  ⟨cv 2 (fun x => { x with stream := [1, 2, 3] }) { up with time := 600000 }, 2, by decide +kernel⟩,
  ⟨up, .housekeeper, 2, 5, by decide +kernel⟩⟩

theorem wit_AuxReferencesAndFaults :
    (∃ (s : State) (c : Fin 4), (s.mode.mode ≠ .off) ∧ (s.mode.mode ≠ .sleep)) ∧
    (∃ (s : State) (c : Fin 4), (s.mode.mode ≠ .off) ∧ (s.mode.mode ≠ .sleep) ∧
      ((auxBit s AUX_STATUS_REF_SETTLED c = true ∨ (getCv s c).refAt + 6000000 ≤ s.time))) ∧
    (∃ (s : State), (fget s AUX_CTL_CALPER ≠ 0) ∧ auxRuns s = true) ∧
    (∃ (s : State) (v : Word), hostMay s AUX_CALCMD = true ∧ bitOf v.toNat 8 = true ∧ auxRuns s = true) ∧
    (∃ (s : State) (c : Fin 4) (off : Int) (gain : Int) (r : Fin 8) (e : Nat), ((getCv s c).calRange = some r.val) ∧
      ((getCv s c).calEnd = some e) ∧ (e ≤ s.time)) ∧
    (∃ (s : State) (c : Fin 4), auxBit s AUX_STATUS_FAULT c = false ∧ auxRuns s = true) ∧
    (∃ (s : State) (c : Fin 4), auxBit s AUX_STATUS_FAULT c = true ∧ auxBit s AUX_STATUS_MIGR c = false ∧
      (auxBit s AUX_STATUS_FAULT (twin c) = false) ∧ auxRuns s = true) ∧
    (∃ (s : State) (n : Fin 4) (v : Word), (hostMay s (AUX_EXC n) = true)) :=
  ⟨⟨up, 2, by decide +kernel⟩,
  ⟨cv 2 (fun x => { x with calRange := some 3 }) (fs [(AUX_STATUS_REF_SETTLED, 4)] up), 2, by decide +kernel⟩,
  ⟨fs [(AUX_CTL_CALPER, 2), (PWR_STATUS_LEVEL, 1)] up, by decide +kernel⟩,
  ⟨fs [(AUX_STATUS_FAULT, 4)] up, 0x102, by decide +kernel, by decide +kernel, by decide +kernel⟩,
  ⟨cv 1 (fun x => { x with calRange := some 3, calEnd := some 500 }) up, 1, 100, 24700, 3, 500, by decide +kernel,
    by decide +kernel, by decide +kernel⟩,
  ⟨cv 2 (fun x => { x with calRange := some 7, cur := some (.entry 2 1) }) (fs [(AUX_STATUS_FAULT, 0)] up), 2,
    by decide +kernel⟩,
  ⟨cv 1 (fun x => { x with inj := [(1, 7), (1, 9)] }) (fs [(AUX_STATUS_FAULT, 2), (AUX_STATUS_MIGR, 0)] up), 1,
    by decide +kernel⟩,
  ⟨fs [(AUX_EXC_OWNER 2, 0), (AUX_EXC_LVL 2, 3)] up, 2, 0x28000000, by decide +kernel⟩⟩

theorem wit_RecorderTakesSamples :
    (∃ (s : State) (x : BitVec 64) (c : Instr), (c ∈ [Instr.recSignalChange x, Instr.recMaskedTrigger x]) ∧ recSamples s =
      true ∧ recState s = 2 ∧ (0 < s.recd.causes + b2n (recSampleCause s.recd x))) ∧
    (∃ (s : State) (x : BitVec 64) (c : Instr), (c ∈ [Instr.recSignalChange x, Instr.recMaskedTrigger x]) ∧ recSamples s =
      true ∧ recState s = 2 ∧ (0 < s.recd.causes + b2n (recSampleCause s.recd x))) ∧
    (∃ (s : State) (x : BitVec 64) (c : Instr), (c ∈ [Instr.recSignalChange x, Instr.recMaskedTrigger x]) ∧ recSamples s =
      true ∧ recState s = 2 ∧ s.recd.causes = 0 ∧ recSampleCause s.recd x = false ∧ s.recd.armOwed = false) ∧
    (∃ (s : State) (x : BitVec 64) (c : Instr), (c ∈ [Instr.recSignalChange x, Instr.recMaskedTrigger x]) ∧ recSamples s =
      true ∧ recState s = 2 ∧ s.recd.causes = 0 ∧ recSampleCause s.recd x = false ∧ s.recd.armOwed = false) ∧
    (∃ (s : State) (x : BitVec 64) (c : Instr), (c ∈ [Instr.recSignalChange x, Instr.recMaskedTrigger x]) ∧ recSamples s =
      true ∧ recState s = 3 ∧ recMerge s x = none) ∧
    (∃ (s : State) (x : BitVec 64) (c : Instr), (c ∈ [Instr.recSignalChange x, Instr.recMaskedTrigger x]) ∧ recSamples s =
      true ∧ (recState s ∈ [1, 4, 5]) ∧ (0 < s.recd.causes + b2n (recSampleCause s.recd x))) :=
  ⟨⟨rc 2 (fun x => { x with causes := 1, span := 0x100005, mem := [re 4 100] }) up, 5, .recSignalChange 5, by decide +kernel,
    by decide +kernel, by decide +kernel, by decide +kernel⟩,
  ⟨rc 2 (fun x => { x with trig := 0x80000000, span := 0x100000, armOwed := true }) up, 5, .recMaskedTrigger 5,
    by decide +kernel, by decide +kernel, by decide +kernel, by decide +kernel⟩,
  ⟨rc 2 (fun x => { x with span := 0x20005, mem := [re 4 100, re 6 200] }) up, 5, .recSignalChange 5, by decide +kernel,
    by decide +kernel, by decide +kernel, by decide +kernel, by decide +kernel, by decide +kernel⟩,
  ⟨rc 2 (fun x => { x with span := 0x90005, mask := 1, prev := 4, mem := [re 4 100, re 6 200] }) up, 5, .recMaskedTrigger 5,
    by decide +kernel, by decide +kernel, by decide +kernel, by decide +kernel, by decide +kernel, by decide +kernel⟩,
  ⟨rc 3 (fun x => { x with post := 3, postEff := 4, span := 4 }) up, 4, .recSignalChange 4, by decide +kernel,
    by decide +kernel, by decide +kernel, by decide +kernel⟩,
  ⟨rc 4 (fun x => { x with causes := 2 }) up, 4, .recSignalChange 4, by decide +kernel⟩⟩

theorem wit_RecorderIsCommanded :
    (∃ (s : State), hostMay s REC_CMD = true) ∧
    (∃ (s : State), hostMay s REC_CMD = true) ∧
    (∃ (s : State), hostMay s REC_CMD = true) ∧
    (∃ (s : State), hostMay s REC_CMD = true) ∧
    (∃ (s : State), recState s = 1) ∧
    (∃ (s : State), recState s = 5 ∧ busOn s = true) ∧
    (∃ (s : State) (m : Master), (mayRead s m (REC_RD 0) = true)) ∧
    (∃ (s : State) (m : Master), (mayRead s m (REC_RD 3) = true)) :=
  ⟨⟨rc 4 id up, by decide +kernel⟩,
  ⟨rc 2 (fun x => { x with causes := 2 }) up, by decide +kernel⟩,
  ⟨rc 2 id up, by decide +kernel⟩,
  ⟨rc 4 id up, by decide +kernel⟩,
  ⟨rc 1 (fun x => { x with mem := [re 4 100] }) up, by decide +kernel⟩,
  ⟨bus (rc 5 (fun x => { x with mem := [re 4 100] }) up), by decide +kernel⟩,
  ⟨fs [(REC_RDIDX_IDX, 1)] (rc 4 (fun x => { x with mem := [re 4 100, re 6 200] }) up), .housekeeper, by decide +kernel⟩,
  ⟨fs [(REC_RDIDX_IDX, 16383)] (rc 4 (fun x => { x with latch := [(2, List.replicate 16 7)] }) up), .housekeeper,
    by decide +kernel⟩⟩

theorem wit_CausesAndSuperframesAreShared :
    (∃ (s : State) (f : Bool) (h : Fin 16), flag s CLK_CTL_XSYNC_EN = true ∧ (flag s CLK_CTL_XSYNC_EDGE = f) ∧ rootRuns s =
      true ∧ (s.mode.mode ≠ .sleep) ∧ s.hwy.joined = false ∧ (fget s (HEAD_TRIG_TRIG_SRC h) = 1) ∧ headState s h = 2 ∧
      sourceOpen s h = true ∧ (((getHead s h).seenB0 = true ∨ fget s (HEAD_STATUS_BAND h) = 0))) ∧
    (∃ (s : State) (f : Bool), flag s CLK_CTL_XSYNC_EN = true ∧ (flag s CLK_CTL_XSYNC_EDGE = f) ∧ rootRuns s = true ∧
      (s.mode.mode ≠ .sleep) ∧ hwyMaster s = true) ∧
    (∃ (s : State), hwyRuns s = true ∧ hwyMaster s = true ∧ s.time % 600 = 0) ∧
    (∃ (s : State) (a : BitVec 8) (b : BitVec 8), hwyRuns s = true ∧ hwyFollower s = true) ∧
    (∃ (s : State) (q : TokStep), (s.hwy.steps = [q]) ∧ (q.cause + 150 ≤ s.time) ∧ q.xsync = false) ∧
    (∃ (s : State) (p : Fin 2) (b : List Byte), hwyRuns s = true ∧ s.hwy.joined = true ∧ sfGood b = false) ∧
    (∃ (s : State) (p : Fin 2) (b : List Byte), hwyRuns s = true ∧ hwyFollower s = true ∧ sfGood b = true ∧
      (fget s HWY_STATUS_LANE = p.val) ∧ s.hwy.folding = false ∧ s.hwy.timeLoad = false ∧ (bitOf (byteAt b 3) 4 = false)) ∧
    (∃ (s : State) (b : List Byte), hwyRuns s = true ∧ hwyMaster s = true ∧ sfGood b = true ∧ flag s HWY_STATUS_FOLDED =
      false ∧ (bitOf (byteAt b 3) 4 = false)) :=
  ⟨⟨hd 3 (fun x => { x with seenB0 := true }) (fs
    [(CLK_CTL_XSYNC_EN, 1), (CLK_CTL_XSYNC_EDGE, 1), (HEAD_TRIG_TRIG_SRC 3, 1), (HEAD_STATUS_STATE 3, 2)] (md .scan up)),
    true, 3, by decide +kernel⟩,
  ⟨hw (fun x => { x with joined := true }) (fs [(CLK_CTL_XSYNC_EN, 1), (CLK_CTL_XSYNC_EDGE, 1), (HWY_STATUS_MASTER, 1)] up),
    true, by decide +kernel, by decide +kernel, by decide +kernel, by decide +kernel, by decide +kernel⟩,
  ⟨hw (fun x => { x with joined := true, seq := 255 }) (fs [(HWY_STATUS_MASTER, 1)] { up with time := 1200 }),
    by decide +kernel, by decide +kernel, by decide +kernel⟩,
  ⟨hw (fun x => { x with joined := true }) (fs [(HWY_STATUS_MASTER, 0), (HWY_CTL_AXMASK, 8)] up), 0x70, 0x10,
    by decide +kernel, by decide +kernel⟩,
  ⟨hw (fun x => { x with joined := true, steps := [⟨500, 3, false, false⟩], repl := [(3, 0)] }) (fs [(HWY_STATUS_MASTER, 0)]
    up), ⟨500, 3, false, false⟩, by decide +kernel⟩,
  ⟨hw (fun x => { x with joined := true }) up, 1, [], by decide +kernel⟩,
  ⟨hw (fun x => { x with joined := true }) (fs [(HWY_STATUS_MASTER, 0), (HWY_STATUS_LANE, 1)] up), 1, sfb 3 0x80
    ((hw (fun x => { x with joined := true }) (fs [(HWY_STATUS_MASTER, 0), (HWY_STATUS_LANE, 1)] up)).time - 41),
    by decide +kernel, by decide +kernel, by decide +kernel, by decide +kernel, by decide +kernel, by decide +kernel,
    by decide +kernel⟩,
  ⟨hw (fun x => { x with joined := true, allSeen := true }) (fs [(HWY_STATUS_MASTER, 1), (HWY_STATUS_FOLDED, 0)] up), sfb 3
    0x20
    ((hw (fun x => { x with joined := true, allSeen := true }) (fs [(HWY_STATUS_MASTER, 1), (HWY_STATUS_FOLDED, 0)] up)).time
    - 40), by decide +kernel⟩⟩

theorem wit_RingIsFormedAndBroken :
    (∃ (s : State) (v : Word), hostMay s HWY_CTL = true) ∧
    (∃ (s : State) (v : Word), hostMay s HWY_MCTL = true) ∧
    (∃ (s : State) (i : Nat) (n : Nat) (u : Nat) (d : Nat), hwyRuns s = true ∧
      ((flag s HWY_STATUS_MASTER = true → s.hwy.enuming = true)) ∧ (i < n) ∧ (n ≤ 16) ∧
      (flag s HWY_STATUS_MASTER = true ↔ i = 0) ∧ (u ≤ 48) ∧ (d ≤ 48) ∧ (s.mode.mode ≠ .warmStart)) ∧
    (∃ (s : State) (i : Nat) (n : Nat) (e : Nat) (u : Nat) (d : Nat), hwyRuns s = true ∧
      ((flag s HWY_STATUS_MASTER = true → s.hwy.enuming = true)) ∧ (e ∈ [1, 2, 3, 4, 5])) ∧
    (∃ (s : State) (p : Fin 2), hwyRuns s = true ∧ bget s.hwy.broken p = false ∧ s.hwy.joined = true) ∧
    (∃ (s : State), s.hwy.folding = true) ∧
    (∃ (s : State), isCutOff s = true) ∧
    (∃ (s : State), hostMay s HWY_CMD = true) ∧
    (∃ (s : State) (p : Fin 2), hwyRuns s = true) :=
  ⟨⟨fs [(HWY_CTL_EN, 0)] (md .ready (forN 16 (fun h s => fs [(HEAD_STATUS_STATE h, 0)] s) up)), 0x800000FF, by decide +kernel⟩,
  ⟨fs [(HWY_MSTAT_TX_BUSY, 0)] up, 0x11F, by decide +kernel⟩,
  ⟨hw (fun x => { x with joined := false }) (fs [(HWY_STATUS_MASTER, 0)] up), 15, 16, 48, 0, by decide +kernel⟩,
  ⟨hw (fun x => { x with joined := true, enuming := true }) (fs [(HWY_STATUS_MASTER, 1)] up), 0, 1, 5, 48, 0,
    by decide +kernel⟩,
  ⟨hw (fun x => { x with joined := true }) (fs [(HWY_STATUS_FOLDED, 0)] up), 1, by decide +kernel⟩,
  ⟨hw (fun x => { x with joined := true, folding := true, hops := [(0, 3), (1, 2)], lost := [(3, 5, 6)] }) (fs
    [(HWY_STATUS_FOLDED, 1), (HWY_STATUS_MASTER, 0)] up), by decide +kernel⟩,
  ⟨hw (fun x => { x with joined := true, lastSf := some 0 }) (fs [(HWY_STATUS_MASTER, 0)] { up with time := 150000 }),
    by decide +kernel⟩,
  ⟨hw (fun x => { x with joined := true }) (fs [(HWY_STATUS_MASTER, 1)] (md .scan up)), by decide +kernel⟩,
  ⟨hw id up, 1, by decide +kernel⟩⟩

theorem wit_LampLinkRunsItsCycles :
    (∃ (s : State) (c : Option Nat), flag s LNK_CTL_EN = true ∧ fget s LNK_STATUS_STATE = 1 ∧ sizedN s c = none) ∧
    (∃ (s : State) (c : Option Nat) (n : Nat), flag s LNK_CTL_EN = true ∧ fget s LNK_STATUS_STATE = 1 ∧ sizedN s c = some n) ∧
    (∃ (s : State) (l : List (List Byte)), flag s LNK_CTL_EN = true ∧ (2 ≤ fget s LNK_STATUS_STATE) ∧ (s.mode.mode ≠ .off) ∧
      (s.mode.mode ≠ .sleep) ∧ oneWire s = false ∧ (s.lnk.streak < 7) ∧ fget s LNK_STATUS_STATE = 3) ∧
    (∃ (s : State) (l : List (List Byte)), flag s LNK_CTL_EN = true ∧ fget s LNK_STATUS_STATE = 3 ∧ (s.mode.mode ≠ .off) ∧
      (s.mode.mode ≠ .sleep) ∧ oneWire s = false ∧ s.lnk.streak = 7 ∧ (0 < chainN s) ∧ ((getSat s 1).sent ≠ 255) ∧
      (frameGood s (l.getD 0 []) = false)) ∧
    (∃ (s : State), hostMay s LNK_CMD = true) :=
  ⟨⟨fs [(LNK_CTL_EN, 1), (LNK_STATUS_STATE, 1), (LNK_CTL_MODE, 0)] up, some 257, by decide +kernel⟩,
  ⟨fs [(LNK_CTL_EN, 1), (LNK_STATUS_STATE, 1), (LNK_CTL_MODE, 0)] up, some 1024, 4, by decide +kernel⟩,
  ⟨lk (fun x => { x with sats := [(1, { sent := 0, sentPage := 0 }), (2, { sent := 0 })], known := true }) (fs
    [(LNK_CTL_EN, 1), (LNK_STATUS_STATE, 3), (LNK_CTL_MODE, 0), (LNK_STATUS_N, 2)] up), [frameOf
    (fs [(LNK_CTL_MODE, 0)] (lk (fun x => { x with sats := [(1, { sent := 0, sentPage := 0 }), (2, { sent := 0 })], known := true }) (fs [(LNK_CTL_EN, 1), (LNK_STATUS_STATE, 3), (LNK_CTL_MODE, 0), (LNK_STATUS_N, 2)] up)))
    0 0 [], frameOf
    (fs [(LNK_CTL_MODE, 0)] (lk (fun x => { x with sats := [(1, { sent := 0, sentPage := 0 }), (2, { sent := 0 })], known := true }) (fs [(LNK_CTL_EN, 1), (LNK_STATUS_STATE, 3), (LNK_CTL_MODE, 0), (LNK_STATUS_N, 2)] up)))
    0 0 []], by decide +kernel, by decide +kernel, by decide +kernel, by decide +kernel, by decide +kernel,
    by decide +kernel, by decide +kernel⟩,
  ⟨lk (fun x => { x with sats := [(1, { sent := 0, sentPage := 0 }), (2, { sent := 0 })], known := true, streak := 7 }) (fs
    [(LNK_CTL_EN, 1), (LNK_STATUS_STATE, 3), (LNK_CTL_MODE, 0), (LNK_STATUS_N, 2)] up), [[], []], by decide +kernel⟩,
  ⟨fs [(LNK_CTL_EN, 1)] (md .hold up), by decide +kernel⟩⟩

theorem wit_PowerComesAndGoes :
    (∃ (s : State), (s.mode.mode = .off) ∧ s.pwr.extest = false ∧ s.pwr.tmode = false ∧ s.pwr.heldOff = false) ∧
    (∃ (s : State) (v : Word), Inv s ∧ (s.mode.mode = .off) ∧ s.pwr.por = true ∧ s.pwr.extest = false ∧ s.pwr.tmode = false) ∧
    (∃ (s : State) (v : Word) (l : List (Fin 8)), (s.mode.mode = .off) ∧ s.pwr.por = true ∧ s.pwr.extest = false ∧
      s.pwr.tmode = false ∧ (l ≠ [])) ∧
    (∃ (s : State) (c : ResetCause), Inv s ∧ ((c.uv ≠ 0 ∨ c.pin = true))) ∧
    (∃ (s : State) (i : Instr), (i ∈ [Instr.jtagExtest true, Instr.tmodeHigh true])) ∧
    (∃ (s : State) (i : Instr), (i ∈ [Instr.jtagExtest true, Instr.tmodeHigh true])) ∧
    (∃ (s : State), (s.mode.mode = .coldStart) ∧ stepRuns s 2 = true ∧ rootRuns s = false) :=
  ⟨⟨pw (fun x => { x with por := false }) (md .off up), by decide +kernel⟩,
  ⟨pw (fun x => { x with por := true }) (md .off up), 0xFFFF, invOf (by decide +kernel), by decide +kernel⟩,
  ⟨pw (fun x => { x with por := true }) (md .off up), 0x0100, [0], by decide +kernel⟩,
  ⟨bus (md .scan up), ⟨5, true⟩, invOf (by decide +kernel), by decide +kernel⟩,
  ⟨md .scan up, .tmodeHigh true, by decide +kernel⟩,
  ⟨md .scan up, .jtagExtest true, by decide +kernel⟩,
  ⟨st (fun x => { x with begun := [(2, 7)] }) (fs [(CLK_STATUS_ROOT_LOCK, 0)] (md .coldStart up)), by decide +kernel⟩⟩

theorem wit_SuppliesAndClocksAreWatched :
    (∃ (s : State) (r : BitVec 10) (v : Nat), (s.mode.mode ≠ .off) ∧ ((r ≠ 0 ∨ v < 10 * fget s PWR_VMON_WARN_PCT))) ∧
    (∃ (s : State) (v : Nat), flag s PWR_STATUS_WARN = true ∧ (s.mode.mode ≠ .off) ∧
      (10 * (fget s PWR_VMON_WARN_PCT + fget s PWR_VMON_HYST_PCT) ≤ v)) ∧
    (∃ (s : State) (k : Fin 10), (s.mode.mode ≠ .off)) ∧
    (∃ (s : State) (b : Bool), (s.mode.mode ≠ .off)) ∧
    (∃ (s : State) (c : Int), (s.mode.mode ≠ .off)) ∧
    (∃ (s : State) (c : ClockFault), (s.mode.mode ≠ .off) ∧ (flag s (clockPresent c) = true)) :=
  ⟨⟨fs [(PWR_STATUS_WARN, 0), (PWR_VMON_WARN_PCT, 80)] (md .scan up), 5, 900, by decide +kernel⟩,
  ⟨fs [(PWR_STATUS_WARN, 1), (PWR_VMON_WARN_PCT, 80), (PWR_VMON_HYST_PCT, 5)] (md .scan up), 850, by decide +kernel⟩,
  ⟨(fs [(SYS_FAULT_VALID, 0)] (md .scan up)), 7, by decide +kernel⟩,
  ⟨(fs [(PWR_STATUS_BG_OK, 1)] (md .scan up)), false, by decide +kernel⟩,
  ⟨(fs [(PWR_STATUS_TJ_HIGH, 0)] (md .scan up)), 150, by decide +kernel⟩,
  ⟨fs [(CLK_STATUS_REF_OK, 1)] (md .scan (setRaw up CLK_EVENTS 0)), .refLost, by decide +kernel⟩⟩

theorem wit_PantryKeepsTheBudget :
    (∃ (s : State) (p : Bool) (v : Word), (hostMay s (if p then PWR_PEAK else PWR_AVG) = true)) ∧
    (∃ (s : State) (x : PantryMeas), s.time % 600000 = 0 ∧ flag s PWR_CTL_PANTRY_EN = true ∧ modeIn s planModes = true ∧
      rootRuns s = true) ∧
    (∃ (s : State) (x : PantryMeas), s.time % 600000 = 0 ∧ flag s PWR_CTL_PANTRY_EN = true ∧ (s.mode.mode = .halt) ∧ rootRuns
      s = true) ∧
    (∃ (s : State) (x : PantryMeas), s.time % 600000 = 0 ∧ ((∃ u, s.pwr.avgAt = some u ∧ u < s.time))) :=
  ⟨⟨up, true, 0xFFFFFFFF, by decide +kernel⟩,
  ⟨pw (fun x => { x with avg := 1000, peak := 1000 }) (fs
    [(PWR_CTL_PANTRY_EN, 1), (PWR_STATUS_LEVEL, 2), (PWR_STATUS_WARN, 0)] { up with time := 600000 }), pmeas,
    by decide +kernel, by decide +kernel, by decide +kernel, by decide +kernel⟩,
  ⟨(fs [(PWR_CTL_PANTRY_EN, 1), (PWR_STATUS_LEVEL, 5)] { md .halt up with time := 600000 }), pmeas, by decide +kernel⟩,
  ⟨pw (fun x => { x with avgAt := some 0 }) { fs [(PWR_CTL_PANTRY_EN, 1), (PWR_STATUS_WARN, 0)] up with time := 600000 },
    pmeas, by decide +kernel⟩⟩

theorem wit_ModesChangeByRequest :
    (∃ (s : State) (v : Word) (m : Mode), hostMay s SYS_MODEREQ = true ∧ (modeOf (bitsOf v.toNat 3 0) = some m)) ∧
    (∃ (s : State) (v : Word), hostMay s SYS_MODEREQ = true ∧ (modeOf (bitsOf v.toNat 3 0) = none)) ∧
    (∃ (s : State) (w : Bool), Inv s ∧ hostMay s SYS_CMD = true ∧ (s.mode.mode = .halt) ∧ rootRuns s = true) ∧
    (∃ (s : State) (i : Instr), (i ∈ [Instr.startCold, Instr.startWarm]) ∧ (s.mode.mode = .halt) ∧ rootRuns s = false) ∧
    (∃ (s : State), (s.mode.mode = .halt) ∧ s.mode.heldStart = true ∧ rootRuns s = false) ∧
    (∃ (s : State), hostMay s SYS_CMD = true ∧ (s.mode.mode = .sleep)) ∧
    (∃ (s : State) (i : Instr), hostMay s SYS_CMD = true ∧ (i ∈ [Instr.startCold, Instr.startWarm, Instr.wake]) ∧
      ((i = .wake → s.mode.mode ≠ .sleep)) ∧ ((i ≠ .wake → s.mode.mode ≠ .halt))) ∧
    (∃ (s : State) (i : Instr), hostMay s SYS_CMD = true ∧ (i ∈ [Instr.startCold, Instr.startWarm, Instr.wake]) ∧
      ((i = .wake → s.mode.mode ≠ .sleep)) ∧ ((i ≠ .wake → s.mode.mode ≠ .halt))) :=
  ⟨⟨md .ready up, 5, .scan, by decide +kernel⟩,
  ⟨md .ready up, 0xFFFFFFFF, by decide +kernel⟩,
  ⟨md .halt up, true, invOf (by decide +kernel), by decide +kernel⟩,
  ⟨fs [(CLK_STATUS_ROOT_LOCK, 0)] (md .halt up), .startWarm, by decide +kernel⟩,
  ⟨{ fs [(CLK_STATUS_ROOT_LOCK, 0)] (md .halt up) with mode := { up.mode with mode := .halt, heldStart := true } },
    by decide +kernel⟩,
  ⟨md .sleep up, by decide +kernel⟩,
  ⟨md .scan up, .wake, by decide +kernel⟩,
  ⟨md .scan up, .startCold, by decide +kernel⟩⟩

theorem wit_StartsRunTheirSteps :
    (∃ (s : State) (k : Fin 17) (r : StepReport), starting s = true ∧ stepRuns s k = true ∧ flag s PWR_STATUS_WARN = false ∧
      failCode s k r = 0 ∧ stepMayEnd s k = true ∧
      ((k.val = 14 → s.start.warm = false → sourceLost (r.pairs.map fun p => p.1) s = false))) ∧
    (∃ (s : State) (k : Fin 17) (r : StepReport), Inv s ∧ starting s = true ∧ stepRuns s k = true ∧ flag s PWR_STATUS_WARN =
      false ∧ (failCode s k r ≠ 0)) ∧
    (∃ (s : State) (r : StepReport), (s.mode.mode = .coldStart) ∧ stepRuns s 14 = true ∧ flag s PWR_STATUS_WARN = false ∧
      stepMayEnd s 14 = true ∧ s.start.warm = false ∧ (sourceLost (r.pairs.map fun p => p.1) s = true)) ∧
    (∃ (s : State) (v : Word), hostMay s SYS_STARTSTAT = true) :=
  ⟨⟨st (fun x => { x with on := true, warm := true, begun := [(4, 7)] }) (fs [(PWR_STATUS_WARN, 0)] (md .warmStart up)), 4,
    {}, by decide +kernel⟩,
  ⟨st (fun x => { x with on := true, warm := true, begun := [(6, 7)] }) (fs [(PWR_STATUS_WARN, 0), (SYS_STARTS_FAILS, 0)]
    (md .warmStart up)), 6, { failed := true }, invOf (by decide +kernel), by decide +kernel⟩,
  ⟨{ st (fun x => { x with on := true, warm := false, begun := [(14, 7)] }) (fs [(PWR_STATUS_WARN, 0), (SYS_FAULT_VALID, 0), (LNK_CTL_EN, 0)] (md .coldStart up)) with att := { up.att with bankA := {}, bankB := {}, fuses := ⟨[], [], false, false⟩ } },
    {}, by decide +kernel⟩,
  ⟨fs [(SYS_STARTSTAT_VALID, 1), (SYS_STARTSTAT_CODE, 7)] up, 0x80000000, by decide +kernel⟩⟩

theorem wit_SelfTestsAndFirmware :
    (∃ (s : State) (v : BitVec 4), hostMay s SYS_CMD = true) ∧
    (∃ (s : State) (v : BitVec 4) (r : DiagReport), flag s SYS_DIAG_BUSY = true) ∧
    (∃ (s : State), hostMay s SYS_LOCK = true) ∧
    (∃ (s : State), hostMay s SYS_LIMP = true) ∧
    (∃ (s : State) (i : Instr), (i ∈ [Instr.fwWrite, Instr.fwSwap]) ∧ hostMay s SYS_FWCMD = true) ∧
    (∃ (s : State) (i : Instr), (i ∈ [Instr.fwWrite, Instr.fwSwap]) ∧ hostMay s SYS_FWCMD = true) ∧
    (∃ (s : State) (r : FwReport), s.fw.op = 1 ∧ ((r.readOk = true → r.valid = true → activeSeq s < r.seq → s.att.step = 0))) ∧
    (∃ (s : State) (r : FwReport), s.fw.op = 2 ∧ flag s SYS_FWSTAT_SWAP_PEND = false) ∧
    (∃ (s : State), flag s SYS_FWSTAT_SWAP_PEND = true ∧ docGap s = true) ∧
    (∃ (s : State), flag s SYS_FWSTAT_SWAP_PEND = true ∧ docGap s = false) ∧
    (∃ (s : State), hostMay s SYS_FWCMD = true) ∧
    (∃ (s : State), Inv s ∧ (s.mode.mode ≠ .off)) ∧
    (∃ (s : State), s.fw.paused = true) :=
  ⟨⟨fs [(SYS_DIAG_BUSY, 0)] (md .diagnose up), 0xF, by decide +kernel⟩,
  ⟨{ fs [(SYS_DIAG_BUSY, 1)] (md .diagnose up) with mode := { up.mode with mode := .diagnose, tests := 0x1F } }, 0xD, ⟨[],
    [], []⟩, by decide +kernel⟩,
  ⟨up, by decide +kernel⟩,
  ⟨fs [(SYS_LIMP_CEL, 1), (SYS_LIMP_LNK, 1)] up, by decide +kernel⟩,
  ⟨fs [(SYS_FWSTAT_BUSY, 0)] up, .fwSwap, by decide +kernel⟩,
  ⟨fs [(SYS_FWSTAT_BUSY, 1)] up, .fwWrite, by decide +kernel⟩,
  ⟨fwm (fun x => { x with op := 1, seqA := 7, seqB := 6 }) (fs [(SYS_FWSTAT_ACTIVE, 0)] up), ⟨true, 8, 5, true, true⟩,
    by decide +kernel, by decide +kernel⟩,
  ⟨fwm (fun x => { x with op := 2 }) (fs [(SYS_FWSTAT_SWAP_PEND, 0)] up), ⟨true, 7, 5, false, false⟩, by decide +kernel⟩,
  ⟨fwm (fun x => { x with op := 2 }) (fs [(SYS_FWSTAT_SWAP_PEND, 1)] (md .ready up)), by decide +kernel⟩,
  ⟨setDoc 3 { getDoc up 3 with cur := some (0, none) } (fwm (fun x => { x with op := 2 })
    (fs [(SYS_FWSTAT_SWAP_PEND, 1), (MOT_HDOC_DOC_EN 3, 1)] (md .scan up))), by decide +kernel⟩,
  ⟨fwm (fun x => { x with op := 2 }) up, by decide +kernel⟩,
  ⟨fwm (fun x => { x with window := true }) (md .scan up), invOf (by decide +kernel), by decide +kernel⟩,
  ⟨fwm (fun x => { x with paused := true }) up, by decide +kernel⟩⟩

theorem wit_UnitsAreLeftAloneByEachOther :
    (∃ (s : State) (h : Fin 16) (k : Fin 16) (r : GeomReg) (v : Word) (c : Instr), (k ≠ h) ∧
      (c ∈ [Instr.headOnline h, Instr.headSettleDone h, Instr.headWarmupDone h, Instr.headOffline h, Instr.headStopDone h, Instr.headCommit h, Instr.headSwtrig h, Instr.headTimerTrigger h, Instr.headGeometryWrite h r v, Instr.triggerFire h, Instr.exposureEnd h, Instr.tapPhaseActivate h, Instr.readoutEnd h, Instr.busyWindowClose h])) ∧
    (∃ (s : State) (g : Fin 16) (k : Fin 16) (m : SliceMeas) (f : ResidualFit) (i : Fin 17) (c : Instr), (k ≠ g) ∧
      (c ∈ [Instr.rotationStep g, Instr.guestHandover g, Instr.sliceCalRunEnd g m, Instr.guestHandback g f, Instr.overlapTimeout g, Instr.sliceFault g i, Instr.guestStandin g, Instr.sliceFaultReport g])) ∧
    (∃ (s : State) (m : Fin 8) (k : Fin 8) (c : Instr), (k ≠ m) ∧
      (c ∈ [Instr.motAcmdStart m, Instr.motAcmdStop m, Instr.irefStandby m])) :=
  ⟨⟨fit 3 (quiet up), 3, 5, .clk, 7, .headOnline 3, by decide +kernel⟩,
  ⟨own 3 up, 1, 2, goodMeas, ⟨9000, 0, 1, 1⟩, 8, .rotationStep 1, by decide +kernel⟩,
  ⟨up, 3, 5, .motAcmdStart 3, by decide +kernel⟩⟩

theorem wit_ReadClearsRcFields : Inv up ∧ ∀ off ∈ [HEAD_TRIGSTAT 15, TAP_OVR 255, PIPE_ECC_CE, PIPE_ECC_UE, PIPE_CLIP 15, LND_LOST 3,
    LND_FLUSHCNT, MOT_ADMSTAT, MOT_EERR 3, LMP_CNT, AUX_DROPS, AUX_WC_STAT 15, REC_REJ, HWY_ERRCNT, LNK_ERRCNT, CEL_CE, CEL_UE],
    hostMay up off = true :=
  ⟨invOf (by decide +kernel), by decide +kernel⟩

theorem wit_WritesThatAreShutOutDoNothing : ∃ (c : Instr) (off : Nat) (s : State), hostWrite c = some off ∧ hostMay s off = false :=
  ⟨.headOnline 3, HEAD_CTL 3, md .off up, by decide +kernel⟩

theorem wit_AnEmptyQueueLetsTimePass :
    (∃ s : State, s.pending = [] ∧ dueNow s ≠ []) ∧
    (∃ s : State, s.pending = [] ∧ dueNow s = [] ∧ (s.mode.mode = .off ∨ rootRuns s = false)) ∧
    (∃ s : State, s.pending = [] ∧ dueNow s = [] ∧ s.mode.mode ≠ .off ∧ rootRuns s = true) :=
  ⟨⟨schedule up 1000 .lstbFall, by decide +kernel⟩, ⟨State.reset, by decide +kernel⟩, ⟨up, by decide +kernel⟩⟩

theorem wit_EveryStepKeepsTheInvariant : Inv (own 3 up) := invOf (by decide +kernel)

/-! Ill-formed operands, one term for each check of Instr.wf. -/

theorem test_illformed_refused : ∀ c ∈ ([.regWrite false 2 0, .regWrite false 0x40000 0, .badAccess true 3 0, .badAccess true 0 0x40000,
    .rootStoppedAccess 1 true 0 0, .rootStoppedAccess 0 true 6 0, .pairLowRead .hostBar0 1, .pairHighRead .hostBar0 0,
    .pairHighRead .hostBar0 6, .warn 0 0x10000, .warnClear 0x10000, .startStepDone 0 {}, .linkUp 3 1, .linkUp 4 0,
    .linkUp 4 5, .bandLineRecordStore 0 [⟨0x10000, false⟩], .coefLoad 0x10000, .coefCommit 0x10000, .coefRead 0x10000, .calRun 0x10000,
    .darkTrackUpdate 0 0 [⟨0x10000, false⟩], .attSave 0x10000, .docSensorEdge 0 true 0 [0], .motProfile 0x10000 [],
    .lampLoad 0x10000 [], .stringDueTimeout 4096, .diagLate 4096, .strobeEnd 4096, .pulseDiagnosed 4096 ⟨0, 0, 0⟩, .redistApply 4096,
    .redistSettleEnd 4096, .cmdFetchDone (List.replicate 63 0), .cmdDataReadError 0x10000, .nop 0x10000, .skipDoc 0x10000,
    .skipDocDone 0x10000, .packetDeliver 0 ⟨2 ^ 64, 0, 0⟩ .clean, .packetDeliver 0 ⟨0, 2 ^ 32, 0⟩ .clean, .packetDeliver 0 ⟨0, 0, 256⟩ .clean,
    .auxResLoRead .hostBar0 2, .superframeRx 0 (List.replicate 85 0), .enumerationDone 16 4 0 0 0, .enumerationDone 0 17 0 0 0,
    .enumerationDone 0 4 0 256 0, .enumerationDone 0 4 0 0 256] : List Instr), c.wf = false := by
  decide +kernel

theorem test_wellformed_taken : ∀ c ∈ ([.regWrite false 0x3FFFC 0, .badAccess true 4 6, .pairHighRead .hostBar0 4, .warn 1 0xFFFF, .linkUp 8 4,
    .bandLineRecordStore 0 [⟨0xFFFF, true⟩], .coefLoad 0xFFFF, .stringDueTimeout 4095, .cmdFetchDone (List.replicate 64 0)] : List Instr),
    c.wf = true := by
  decide +kernel

/-! Values that the spec's worked examples give. -/

/-- The state after a command. -/
def after (c : Instr) (s : State) : State :=
  match exec c s with
  | .next t => t
  | _ => s

/-- The identification example of spec/00. -/
theorem test_identification : reg State.reset SYS_ID = 0x725600B0 := by decide +kernel

/-- Head H0 of the cheque transport (spec/03): PPT 160, DARK 8, DIV 5, taps T0 to T3. -/
def cheque : State :=
  fs [(HEAD_STATUS_STATE 0, 2), (HEAD_TAPS_LAST_TAP 0, 3), (HEAD_READ_PPT 0, 160), (HEAD_READ_DARK 0, 8), (HEAD_CLK_DIV 0, 5),
    (TAP_CLAMP_CLAMP 2, 64)] up

/-- The busy window of that head at tick 1,000, by hand from R65 and R68: the anchor is 1,020, READ_DELAY is 2 pixel periods of 30 ticks,
168 pixel periods follow, and the window closes 2 later, at 6,180: within the example's bound of 5,520 ticks. -/
theorem test_busy_window : ((getHead (after (.triggerFire 0)
    (hd 0 (fun x => { x with lines := [{ ln .accepted with exposure := 2400 }] }) cheque)) 0).busy.map fun b => b.closes - b.opens) = [5180] := by
  decide +kernel

/-- The phases of the example in spec/04, in eighths of a root period. -/
theorem test_phase : phaseOf 0x5603 = 691 ∧ phaseOf 0x001F0406 = 5990 := by decide

/-- The coefficients of the pixel in the example of spec/06. -/
def onePixel : State := setD1 4133 14 (setD0 36901 212 (setG 36901 0x4800 cheque))

/-- That example at full speed and in the ramp: a16, then c, then the 8-bit output. -/
theorem test_pixel : a16Of onePixel 2 2 37 56 0xFF02 23812 40210 = 574287 ∧ cOf onePixel 2 2 37 0xFE001400 574287 = 49962 ∧
    a16Of onePixel 2 2 37 56 0xFF02 95250 40227 = 574292 ∧ cOf onePixel 2 2 37 0xFE001400 574292 = 49963 ∧
    payload 0xFF02 0 [vOf onePixel 2 0xFF02 49963] = bytesOf [195, 0, 0, 0, 0, 0, 0, 0] := by
  decide +kernel

/-- The place of a coefficient in the second example of spec/06. -/
theorem test_store_entry : storeEntry 22 1 800 = 363296 := by decide

/-- The packet example of spec/11, item 5: bytes 4 to 7 of the record, its FLAGS and its document. -/
theorem test_record_header : (recordBytes 1 { ln .lanes with band := 2, doc := 57, flags := 4 } true 3 (List.replicate 1280 0)).take 12 =
    bytesOf [0x9F, 0x00, 0x06, 0x14, 7, 0, 0, 0, 0x39, 0x00, 0x04, 0x00] := by
  decide +kernel

/-- The header word of the message in the example of spec/12, and its low half as the port gives it. -/
theorem test_message_header : msgHeader ⟨1, 0x0E, 0xA0, 0, [2, 0, 0]⟩ 0x12 false = 0x0012A0000E0000A5 ∧
    (after (.lndDataLoRead .hostBar0) (ld (fun x => { x with queue := [⟨⟨1, 0x0E, 0xA0, 0, [2, 0, 0]⟩, 0x12, 900⟩] }) up)).rdata = 0x0E0000A5 := by
  decide +kernel

/-- The carry example of spec/18: the low read, and the high reads after it and without it. -/
theorem test_counter_halves :
    (after (.pairLowRead .hostBar0 (pmcLowOff 3)) (pm (fun x => { x with cnt := [(3, 0x1FFFFFFF0)] }) up)).rdata = 0xFFFFFFF0 ∧
    (after (.pairLowRead .hostBar0 (pmcLowOff 3)) (pm (fun x => { x with cnt := [(3, 0x1FFFFFFF0)] }) up)).shadow0 = some ⟨pmcLowOff 3, 1⟩ ∧
    (after (.pairHighRead .hostBar0 (pmcLowOff 3 + 4))
      { pm (fun x => { x with cnt := [(3, 0x20000012B)] }) up with shadow0 := some ⟨pmcLowOff 3, 1⟩ }).rdata = 1 ∧
    (after (.pairHighRead .hostBar0 (pmcLowOff 3 + 4)) (pm (fun x => { x with cnt := [(3, 0x20000012B)] }) up)).rdata = 2 := by
  decide +kernel

/-- String LS0 of the example of spec/10, its temperature at 34.2 degrees. -/
def sink0 : State :=
  setStr 0 { tf := 171 / 5 } (fs [(LMP_SBIN0_IREF 0, 500), (LMP_SBIN1_FLUX 0, 0x119A), (LMP_SBIN1_VF 0, 5800), (LMP_SBIN2_KT 0, 65236),
    (LMP_SBIN2_KV 0, 64936), (LMP_SBIN3_RD 0, 8000), (LMP_SBIN3_VALID 0, 1)] up)

/-- Items 2, 3, 6 and 9 of that example: the temperature, the code of LS0, the widths of LS2 before and of LS3 after the drop. -/
theorem test_drive_law : tempOf (binOf sink0 0) 5532 234 = 171 / 5 ∧ (driveOf sink0 0 8 2048).code = 239 ∧
    strobeWidth (driveOf sink0 2 9 41) 3600 = 144 ∧ strobeWidth (raisedDrive sink0 3 (driveOf sink0 3 9 41) 2) 3600 = 288 := by
  decide +kernel

/-- The line area of a 2 GiB Cellar (the admission example of spec/09). -/
theorem test_line_area : lineArea (fs [(CEL_STATUS_DENS, 0)] up) = 1774656625 := by decide +kernel

/-- A state with n documents of 18,450 KiB admitted and one more asked for (that example). -/
def admitted (n : Nat) : State :=
  { fs [(CEL_STATUS_DENS, 0), (MOT_ADMKIB_ADM_KIB, 18450), (MOT_ADMMARGIN_MARGIN_KIB, 16384), (MOT_CTL_PACE_MODE, 2)] up with
    mot := { up.mot with admReq := true, resv := List.replicate n ⟨1024 * 18450, [], []⟩ } }

/-- The 93rd document is granted, the 94th waits (that example). -/
theorem test_admission : (after .admissionGrant (admitted 92)).mot.admReq = false ∧ (after .admissionGrant (admitted 93)).mot.admReq = true := by
  decide +kernel

/-- The forecast of the example of spec/16: 8,618.8 uJ, of which 2,318.8 for the paced feeds. -/
def shed : State :=
  pw (fun x => { x with avg := 8000 }) (fs [(PWR_SHEDC_BG_UJ, 200), (PWR_SHEDC_ROT_UJ, 160)] up)

/-- Items 2 to 4 of that example: level 5 with KP = 28,828. -/
theorem test_shed_level : (nextLevel shed ⟨43094 / 5, 0, 11594 / 5⟩).1 = 5 ∧ kpOf shed ⟨43094 / 5, 0, 11594 / 5⟩ = 28828 := by
  decide +kernel

/-- The check value of CRC-32/ISO-HDLC over the digits 1 to 9. -/
theorem test_crc32 : crc32 (bytesOf [0x31, 0x32, 0x33, 0x34, 0x35, 0x36, 0x37, 0x38, 0x39]) = 0xCBF43926 := by decide +kernel

/-- No word spells a command: the table gives no bits. -/
theorem test_no_words : decodeTableWord 32 0xFFFFFFFF = none ∧ up.withFetchWord 32 0xFFFFFFFF = up := by decide +kernel

end Sys2Proof.Tests
end

section
/-! Reset, reads that clear and writes by access code: what the operations that every register access shares leave, and the
statements of spec/00 that rest on them. -/

namespace Sys2Proof.Machine

/-! Bits of 32-bit words. -/

theorem testBit_not32 (m : Nat) {i : Nat} (h : i < 32) : (0xFFFFFFFF ^^^ m).testBit i = !m.testBit i := by
  rw [show (0xFFFFFFFF : Nat) = 2 ^ 32 - 1 from rfl, Nat.testBit_xor, Nat.testBit_two_pow_sub_one]
  simp [h]

theorem ofNat_raw (s : State) (off : Nat) : BitVec.ofNat 32 (raw s off) = reg s off := BitVec.ofNat_toNat 32 (reg s off)

/-! The rows of the register map. -/

/-- The masks of a row name each bit for one kind of write only (R12). -/
def RegRow.masksApart (r : RegRow) : Bool :=
  ((r.rw ||| r.rwl) &&& (r.w1c ||| r.w1s) == 0) && (r.w1c &&& r.w1s == 0)

theorem mem_allRows_of_rowOf {off : Nat} {r : RegRow} (h : rowOf off = some r) : r ∈ allRows := by
  have hr : r ∈ rowsAt off := List.mem_of_find?_eq_some h
  unfold rowsAt at hr
  unfold allRows
  simp only [List.mem_append]
  split at hr <;> simp_all only [or_true, true_or, List.not_mem_nil]

theorem allRows_masksApart : ∀ r ∈ allRows, r.masksApart = true := by decide +kernel

theorem rowMasks_of_rowOf {off : Nat} {r : RegRow} (h : rowOf off = some r) : rowMasks off = r := by
  rw [rowMasks, h, Option.getD_some]

/-- A bit that a write takes as it is, is no bit that a 1 clears or sets. -/
theorem RegRow.not_w1_of_writable {r : RegRow} (h : r.masksApart = true) {i : Nat} (k : r.rw.testBit i = true ∨ r.rwl.testBit i = true) :
    r.w1c.testBit i = false ∧ r.w1s.testBit i = false := by
  simp only [RegRow.masksApart, Bool.and_eq_true, beq_iff_eq] at h
  have e := congrArg (Nat.testBit · i) h.1
  simp only [Nat.testBit_and, Nat.testBit_or, Nat.zero_testBit, Bool.and_eq_false_iff, Bool.or_eq_false_iff] at e
  rcases e with e | e
  · rcases k with k | k
    · rw [k] at e; exact absurd e.1 (by decide)
    · rw [k] at e; exact absurd e.2 (by decide)
  · exact e

theorem RegRow.not_w1s_of_w1c {r : RegRow} (h : r.masksApart = true) {i : Nat} (k : r.w1c.testBit i = true) :
    r.w1s.testBit i = false := by
  simp only [RegRow.masksApart, Bool.and_eq_true, beq_iff_eq] at h
  have e := congrArg (Nat.testBit · i) h.2
  simpa [Nat.testBit_and, k] using e

theorem clearOf_of_row {m off b : Nat} (h : rowIdx off = b) (k : m.testBit (32 + b) = false := by decide)
    (k' : m.testBit 31 = false := by decide) : clearOf m off = true := by
  rw [clearOf, h, k, k']
  rfl

theorem ne_of_rowIdx {a b x y : Nat} (ha : rowIdx a = x) (hb : rowIdx b = y) (h : x ≠ y := by decide) : a ≠ b :=
  fun e => h (ha.symm.trans ((congrArg rowIdx e).trans hb))

/-! Reset. -/

theorem reg_reset (off : Nat) : reg State.reset off = regReset off := rfl

theorem regReset_of_rowOf {off : Nat} {r : RegRow} (h : rowOf off = some r) : regReset off = BitVec.ofNat 32 r.reset := by
  rw [regReset, h]

/-! A state with an event counted, and host writes that the mode shuts out. -/

theorem hostMay_counted {s u : State} (h : Counted s u) (off : Nat) : hostMay u off = hostMay s off := by
  obtain ⟨p, g, rfl⟩ := h
  rfl

theorem reg_counted {s u : State} (h : Counted s u) (off : Nat) : reg u off = reg s off := by
  obtain ⟨p, g, rfl⟩ := h
  rfl

theorem raw_counted {s u : State} (h : Counted s u) (off : Nat) : raw u off = raw s off := by
  obtain ⟨p, g, rfl⟩ := h
  rfl

theorem flag_counted {s u : State} (h : Counted s u) (f : Fld) : flag u f = flag s f := by
  rw [flag, flag, fget, fget, raw_counted h]

theorem mode_counted {s u : State} (h : Counted s u) : u.mode = s.mode := by
  obtain ⟨p, g, rfl⟩ := h
  rfl

theorem fw_counted {s u : State} (h : Counted s u) : u.fw = s.fw := by
  obtain ⟨p, g, rfl⟩ := h
  rfl

theorem modeIn_counted {s u : State} (h : Counted s u) (l : List Mode) : modeIn u l = modeIn s l := by
  obtain ⟨p, g, rfl⟩ := h
  rfl

/-- The state with a host write to off counted (R548). -/
def writeCounted (off : Nat) (s : State) : State := pmcEvents 0x11 { priv := some 0, mst := some 0, bar0 := some off } 1 s

theorem onWrite_of_shut {s : State} {off : Nat} (f : State → State) (h : hostMay s off = false) :
    onWrite off f s = writeCounted off s := by
  have hc : hostMay (writeCounted off s) off = false := (hostMay_counted (pmcEvents_counted _ _ _ s) off).trans h
  exact if_neg (ne_true_of_eq_false hc)

theorem onWriteThen_of_shut {s : State} {off : Nat} (f : State → State) (h : hostMay s off = false) :
    onWriteThen off f s = writeCounted off s := by
  unfold onWriteThen
  rw [h]
  rfl

/-- Every command that writes a register for the host goes through one of the two gates of host writes. -/
theorem exec_of_hostWrite {c : Instr} {off : Nat} (h : hostWrite c = some off) :
    ∃ f, (∀ s, exec c s = ok (onWrite off f s)) ∨ ∀ s, exec c s = ok (onWriteThen off f s) := by
  cases c with
  | regWrite byHk o v =>
    cases byHk with
    | true => cases h
    | false => cases h; exact ⟨_, .inl fun _ => rfl⟩
  | pmcSnap => cases h; exact ⟨_, .inr fun _ => rfl⟩
  | pmcFreeze b => cases h; exact ⟨_, .inr fun _ => rfl⟩
  | _ => cases h <;> exact ⟨_, .inl fun _ => rfl⟩

theorem writeCounted_onlyTouches (off : Nat) (s : State) : onlyTouches [.pmc, .agenda] s (writeCounted off s) :=
  (pmcEvents_within (Sub.of (by decide)) (Within.refl _ s)).only

/-! Reads of registers with RC fields. -/

theorem plainRead_of_hostMay {s : State} {off : Nat} (h : hostMay s off = true) : plainRead s off = raw s off := by
  rw [plainRead, h]
  rfl

/-- A word with some of its bits cleared, as the model writes it and as a word of 32 bits. -/
theorem ofNat_clear (w : Word) (m : Nat) :
    BitVec.ofNat 32 (w.toNat &&& (0xFFFFFFFF ^^^ m)) = w &&& ~~~ BitVec.ofNat 32 m := by
  apply BitVec.eq_of_getLsbD_eq
  intro i h
  simp only [BitVec.getLsbD_ofNat, BitVec.getLsbD_and, BitVec.getLsbD_not, Nat.testBit_and, testBit_not32 m h, h, decide_true,
    Bool.true_and]
  rfl

theorem rcRead_of_hostMay {s : State} {off : Nat} (h : hostMay s off = true) :
    ∃ u, Counted u (rcRead off s) ∧ u.rdata = reg s off ∧ reg u off = reg s off &&& ~~~ BitVec.ofNat 32 (rowMasks off).rc := by
  let v : Word := BitVec.ofNat 32 (plainRead s off)
  refine ⟨setRaw { s with rdata := v } off (plainRead s off &&& (0xFFFFFFFF ^^^ (rowMasks off).rc)), ?_, ?_, ?_⟩
  · have hm : hostMay { s with rdata := v } off = true := h
    unfold rcRead
    dsimp only
    rw [if_pos hm]
    exact pmcEvents_counted _ _ _ _
  · show v = _
    rw [← ofNat_raw, ← plainRead_of_hostMay h]
  · rw [reg_setRaw, plainRead_of_hostMay h]
    exact ofNat_clear (reg s off) _

theorem readsAndClears_of_rcRead {c : Instr} {off : Nat} (h : ∀ s, exec c s = ok (rcRead off s)) : ReadsAndClears c off := by
  intro s _ hm
  obtain ⟨u, ⟨p, g, e⟩, hdata, hreg⟩ := rcRead_of_hostMay hm
  exact ⟨_, h s, by rw [e]; exact hdata, by rw [e]; exact hreg⟩

/-! Writes by access code. -/

/-- The bits that a plain write of off takes (R12, R15); FREEZE of PMC_CTL has a command of its own. -/
def writeMask (s : State) (off : Nat) : Nat :=
  (if off = PMC_CTL then 0x80000000 else (rowMasks off).rw) ||| (if flag s SYS_LOCK_LOCK then 0 else (rowMasks off).rwl)

theorem written_testBit (s : State) (off v : Nat) {i : Nat} (h : i < 32) :
    (written s off v).testBit i =
      (((if (writeMask s off).testBit i then v.testBit i else (raw s off).testBit i) &&
          !(v.testBit i && (rowMasks off).w1c.testBit i)) || (v.testBit i && (rowMasks off).w1s.testBit i)) := by
  have e : written s off v = ((((raw s off &&& (0xFFFFFFFF ^^^ writeMask s off)) ||| (v &&& writeMask s off)) &&&
      (0xFFFFFFFF ^^^ (v &&& (rowMasks off).w1c))) ||| (v &&& (rowMasks off).w1s)) := rfl
  rw [e]
  simp only [Nat.testBit_or, Nat.testBit_and, testBit_not32 _ h]
  cases (writeMask s off).testBit i <;> simp

theorem writeMask_testBit (s : State) {off : Nat} {r : RegRow} (h : rowOf off = some r) {i : Nat} (hp : off = PMC_CTL → i = 31) :
    (writeMask s off).testBit i = (r.rw.testBit i || (r.rwl.testBit i && !flag s SYS_LOCK_LOCK)) := by
  have hw : (if off = PMC_CTL then 0x80000000 else (rowMasks off).rw).testBit i = r.rw.testBit i := by
    split
    · next e =>
      subst e
      obtain rfl := hp rfl
      have hr : r = rowMasks PMC_CTL := (rowMasks_of_rowOf h).symm
      subst hr
      decide
    · rw [rowMasks_of_rowOf h]
  rw [writeMask, Nat.testBit_or, hw, rowMasks_of_rowOf h]
  cases flag s SYS_LOCK_LOCK <;> simp

/-- A stored write follows the access code of each bit (R12, R15). -/
theorem written_follows_accessCodes (s : State) {off : Nat} {r : RegRow} (h : rowOf off = some r) (v : Nat) {i : Nat} (hi : i < 32)
    (hp : off = PMC_CTL → i = 31) :
    (written s off v).testBit i =
      if r.rw.testBit i || (r.rwl.testBit i && !flag s SYS_LOCK_LOCK) then v.testBit i
      else if r.w1c.testBit i then (raw s off).testBit i && !v.testBit i
      else if r.w1s.testBit i then (raw s off).testBit i || v.testBit i
      else (raw s off).testBit i := by
  have ha := allRows_masksApart r (mem_allRows_of_rowOf h)
  rw [written_testBit s off v hi, writeMask_testBit s h hp, rowMasks_of_rowOf h]
  by_cases hw : (r.rw.testBit i || (r.rwl.testBit i && !flag s SYS_LOCK_LOCK)) = true
  · have hb : r.rw.testBit i = true ∨ r.rwl.testBit i = true := by
      simp only [Bool.or_eq_true, Bool.and_eq_true] at hw
      exact hw.imp_right And.left
    obtain ⟨hc, hs⟩ := RegRow.not_w1_of_writable ha hb
    simp [hw, hc, hs]
  · simp only [hw]
    by_cases hc : r.w1c.testBit i = true
    · have hs := RegRow.not_w1s_of_w1c ha hc
      simp [hc, hs]
    · simp only [hc]
      cases r.w1s.testBit i <;> simp

/-! The register that a plain write leaves. -/

theorem eq_of_indexIn {n : Nat} {f : Nat → Nat} {off k : Nat} (h : indexIn n f off = some k) : off = f k := by
  simpa using List.find?_some h

theorem row_of_comparator {off k : Nat}
    (h : (indexIn 16 AUX_WC_CTL off <|> indexIn 16 AUX_WC_LO off <|> indexIn 16 AUX_WC_HI off) = some k) :
    rowIdx off ∈ [261, 262, 263] := by
  simp only [Option.orElse_eq_orElse, Option.orElse_eq_or, Option.or_eq_some_iff] at h
  rcases h with h | ⟨-, h | ⟨-, h⟩⟩
  · rw [eq_of_indexIn h, AUX_WC_CTL_row]; decide
  · rw [eq_of_indexIn h, AUX_WC_LO_row]; decide
  · rw [eq_of_indexIn h, AUX_WC_HI_row]; decide

/-- Writing a register of a comparator stores the write; besides it only AUX_WC_STAT changes. -/
theorem reg_writeWc (k v : Nat) (s : State) {off : Nat} (h : rowIdx off ∈ [261, 262, 263]) :
    reg (writeWc k off v s) off = BitVec.ofNat 32 (written s off v) := by
  have hne : AUX_WC_STAT k ≠ off := by
    intro e
    rw [← e, AUX_WC_STAT_row] at h
    revert h
    decide
  have hset (u : State) (f : Fld) (x : Nat) (hf : f.off = AUX_WC_STAT k) : reg (fset u f x) off = reg u off :=
    reg_setRaw_other _ (by rw [hf]; exact hne)
  unfold writeWc
  dsimp only
  split
  · rw [hset _ _ _ rfl, hset _ _ _ rfl, reg_setRaw]
  · rw [hset _ _ _ rfl, reg_setRaw]

/-- What a stored write makes the units do leaves the register itself, SYS_STARTSTAT aside. -/
theorem reg_writeFollow {off : Nat} (old s : State) (h : off ≠ SYS_STARTSTAT) : reg (writeFollow off old s) off = reg s off := by
  unfold writeFollow
  split
  · next e =>
    subst e
    have hw : Within 0x1100000000000000000000000000000000000000000000000000000200001 s
        (railFollow (lbandFollow (if flag s LMP_CTL_BUS_EN then s else { s with lmp := { s.lmp with lstb := false } }))) := by
      refine railFollow_within (Sub.refl _) (lbandFollow_within (Sub.of (by decide)) ?_)
      split
      · exact Within.refl _ s
      · exact Within.set_lmp (by decide) (Within.refl _ s)
    exact hw.reg (clearOf_of_row LMP_CTL_row)
  split
  · next e =>
    subst e
    unfold whenS
    split
    · exact (admRequest_within (Sub.refl _) (Within.refl _ s)).reg (clearOf_of_row MOT_CTL_row)
    · rfl
  split
  · next e =>
    subst e
    unfold whenS
    split
    · exact reg_setRaw_other _ (by decide)
    · rfl
  split
  · next e =>
    subst e
    unfold whenS
    split
    · exact reg_setRaw_other _ (by decide)
    · rfl
  split
  · next k e =>
    unfold whenS
    split
    · refine reg_setRaw_other _ ?_
      rw [eq_of_indexIn e]
      exact ne_of_rowIdx (HEAD_CONN_row k) (HEAD_EVENTS_row k)
    · rfl
  · rfl

/-- A plain write stores what the access codes of its register make of it. -/
theorem reg_regWriteEffect {s : State} {off : Nat} {r : RegRow} (v : Nat) (hr : rowOf off = some r) (hown : ownRow off = false)
    (hdis : writeDiscarded off v = false) (hlock : rbaseLocked s off = false) (hact : indexIn 8 MOT_ACTL off = none)
    (hst : off ≠ SYS_STARTSTAT) : reg (regWriteEffect off v s) off = BitVec.ofNat 32 (written s off v) := by
  unfold regWriteEffect
  rw [hown, hdis, hlock, hact, hr]
  simp only [Bool.or_self, Bool.false_eq_true, if_false, Option.bind_none, Option.isNone_some]
  split
  · next k e => exact reg_writeWc k v s (row_of_comparator e)
  · rw [reg_writeFollow _ _ hst, reg_setRaw]

end Sys2Proof.Machine

/-! The obligations. -/

open Sys2Proof Sys2Proof.Machine

/-- Settles O59: every table is empty, and an empty register table reads the reset value of its row. -/
theorem resetLeavesEveryRegisterAtItsValue : Obligations.ResetLeavesEveryRegisterAtItsValue :=
  ⟨rfl, by decide, rfl, rfl, rfl, rfl, fun off _ h => (reg_reset off).trans (regReset_of_rowOf h)⟩

/-- Settles O53: every such command is a host write, and a gate that is shut only counts it. -/
theorem writesThatAreShutOutDoNothing : Obligations.WritesThatAreShutOutDoNothing := by
  intro c off s hc hm
  obtain ⟨f, hf | hf⟩ := exec_of_hostWrite hc
  · exact ⟨_, hf s, by rw [onWrite_of_shut f hm]; exact writeCounted_onlyTouches off s⟩
  · exact ⟨_, hf s, by rw [onWriteThen_of_shut f hm]; exact writeCounted_onlyTouches off s⟩

/-- Settles O2: each of these commands is the one operation that reads a register and clears its RC fields. -/
theorem readClearsRcFields : Obligations.ReadClearsRcFields := by
  unfold Obligations.ReadClearsRcFields
  refine ⟨fun _ => ?_, fun _ => ?_, ?_, ?_, fun _ => ?_, fun _ => ?_, ?_, ?_, fun _ => ?_, ?_, ?_, fun _ => ?_, ?_, ?_, ?_, ?_, ?_⟩
  all_goals exact readsAndClears_of_rcRead fun _ => rfl

/-- Settles O1: a write that its master may make reaches the stored register on the state with the write counted. -/
theorem registerWriteFollowsAccessCodes : Obligations.RegisterWriteFollowsAccessCodes := by
  refine ⟨fun s byHk off r v _ hr hhost hhk hown hdis hlock hact hst => ?_, fun s off v hm => ?_⟩
  · have key : ∃ u, Counted s u ∧ exec (.regWrite byHk off v) s = .next (regWriteEffect off v.toNat u) := by
      cases byHk with
      | true =>
        obtain ⟨hroot, hsleep, hoff⟩ := hhk rfl
        refine ⟨_, pmcEvents_counted 0x11 { priv := some 2, mst := some 1, bar0 := some off } 1 s, ?_⟩
        have e : (!rootRuns s || modeIs s .sleep || modeIs s .off) = false := by simp [hroot, hsleep, hoff]
        show execRegWrite true off v s = _
        rw [execRegWrite, if_pos rfl, e]
        rfl
      | false =>
        obtain ⟨p, g, e, -⟩ := onWrite_eq (regWriteEffect off v.toNat) (hhost rfl)
        exact ⟨_, ⟨p, g, rfl⟩, congrArg ok e⟩
    obtain ⟨u, ⟨p, g, rfl⟩, e⟩ := key
    refine ⟨_, e, fun i hi hp => ?_⟩
    have hreg := reg_regWriteEffect (s := { s with pmc := p, agenda := g }) v.toNat hr hown hdis hlock hact hst
    rw [hreg, BitVec.getLsbD_ofNat, decide_eq_true hi, Bool.true_and]
    exact written_follows_accessCodes s hr v.toNat hi hp
  · refine ⟨_, rfl, fun o => ?_⟩
    show reg (onWrite off _ s) o = _
    rw [onWrite_of_shut _ hm]
    exact reg_counted (pmcEvents_counted _ _ _ s) o
end

section
/-! The modes, a start, the firmware slots and the self-tests: what their operations leave, and the statement of spec/17 that rests
on them. -/

namespace Sys2Proof.Machine

/-! One field after a write of another, and what lies outside the set of parts that an operation may change. -/

/-- Fields without a common bit: in two registers, or one above the other. -/
abbrev Fld.Apart (f g : Fld) : Prop := f.off ≠ g.off ∨ f.hi < 32 ∧ (f.hi < g.lo ∨ g.hi < f.lo)

theorem flag_fset {s : State} {f : Fld} (x : Nat) (h : f.hi < 32 := by decide) :
    flag (fset s f x) f = (x % 2 ^ (f.hi + 1 - f.lo) == 1) := by
  rw [flag, fget_fset x h]

theorem flag_fset_other {s : State} {f g : Fld} (x : Nat) (h : f.Apart g) :
    flag (fset s f x) g = flag s g := by
  rw [flag, fget_fset_other x h, flag]

theorem fget_setFlag_other {s : State} {f g : Fld} (b : Bool) (h : f.Apart g) :
    fget (setFlag s f b) g = fget s g :=
  fget_fset_other _ h

theorem flag_setFlag_other {s : State} {f g : Fld} (b : Bool) (h : f.Apart g) :
    flag (setFlag s f b) g = flag s g :=
  flag_fset_other _ h

theorem fget_fsets_other {s : State} {g : Fld} {l : List (Fld × Nat)} (h : ∀ f ∈ l.map Prod.fst, f.Apart g) :
    fget (fsets s l) g = fget s g := by
  induction l generalizing s with
  | nil => rfl
  | cons p r ih =>
    rw [List.map_cons, List.forall_mem_cons] at h
    exact (ih h.2).trans (fget_fset_other _ h.1)

theorem Inv.fsets {s : State} (i : Inv s) (l : List (Fld × Nat)) : Inv (fsets s l) :=
  foldl_keeps (P := Inv) (fun _ p h => h.fset p.1 p.2) i

theorem flag_of_regs_eq {s t : State} (h : t.regs = s.regs) (f : Fld) : flag t f = flag s f := by
  rw [flag, flag, fget, fget, raw, raw, h]

theorem Within.mode_eq {m : Nat} {s t : State} (h : Within m s t) (c : m.testBit 8 = false := by decide) : t.mode = s.mode :=
  h.parts .mode (by simp [Part.outside, Part.bit, c])

theorem Within.fw_eq {m : Nat} {s t : State} (h : Within m s t) (c : m.testBit 10 = false := by decide) : t.fw = s.fw :=
  h.parts .fw (by simp [Part.outside, Part.bit, c])

/-- An event bit and its message leave the fields of every register but that of the event and those of the Landing. -/
theorem fget_report_other {s : State} {f : Fld} (g : Fld) (cls : Nat) (items : List Nat)
    (c : clearOf 0x88000000000000000001001801 g.off = true) (h : f.off ≠ g.off := by decide) :
    fget (report cls f items s) g = fget s g := by
  unfold report
  rw [(raise_within (Sub.refl _) (Within.refl _ _)).fget c, fget_setFlag_other _ (.inl h)]

theorem Inv.report {s : State} (i : Inv s) (cls : Nat) (f : Fld) (items : List Nat) : Inv (report cls f items s) :=
  (report_within (m := 0x88000000000000000081001801) (Sub.of (by decide)) (.all (by decide)) (Within.refl _ s)).inv i

@[simp] theorem report_mode (cls : Nat) (f : Fld) (items : List Nat) (s : State) : (report cls f items s).mode = s.mode :=
  (raise_within (Sub.refl _) (Within.refl _ (setFlag s f true))).mode_eq

@[simp] theorem report_fw (cls : Nat) (f : Fld) (items : List Nat) (s : State) : (report cls f items s).fw = s.fw :=
  (raise_within (Sub.refl _) (Within.refl _ (setFlag s f true))).fw_eq

/-! Host writes that the mode admits. -/

/-- A command that is a host write acts on the state with the write counted. -/
theorem exec_onWrite {c : Instr} {off : Nat} {f : State → State} {s : State} {P : State → Prop}
    (hc : exec c s = ok (onWrite off f s)) (hm : hostMay s off = true) (hP : ∀ u, Counted s u → P (f u)) :
    ∃ t, exec c s = .next t ∧ P t := by
  obtain ⟨p, g, e, -⟩ := onWrite_eq f hm
  exact ⟨_, hc.trans (congrArg ok e), hP _ ⟨p, g, rfl⟩⟩

theorem reqReject_flag (s : State) : flag (reqReject s) SYS_EVENTS_REQ_REJ = true := flag_setFlag true

theorem reqReject_raw_diag (s : State) : raw (reqReject s) SYS_DIAG = raw s SYS_DIAG := raw_setRaw_other _ (by decide)

/-! Modes. -/

theorem setMode_mode (m : Mode) (cause : Nat) (s : State) : (setMode m cause s).mode.mode = m := by
  rw [setMode, report_mode]

theorem enterMode_mode (m : Mode) (cause : Nat) (s : State) : (enterMode m cause s).mode.mode = m := by
  unfold enterMode
  dsimp only
  rw [(afterMode_within (Sub.refl _) (Within.refl _ _)).mode_eq]
  split
  · exact setMode_mode m cause s
  · exact setMode_mode m cause s

/-- A cause of HALT leaves the device in HALT, unless it is off (R519). -/
theorem haltCause_mode {s : State} (code src : Nat) (h : s.mode.mode ≠ .off) : (haltCause code src s).mode.mode = .halt := by
  unfold haltCause
  split
  · next e =>
    simp only [Bool.or_eq_true, decide_eq_true_eq] at e
    exact e.resolve_left h
  · exact enterMode_mode _ _ _

/-! Self-tests (R521). -/

/-- The number whose bits below n are those of g. -/
def sumBits (n : Nat) (g : Nat → Bool) : Nat := (List.range n).foldl (fun a k => if g k then a + 2 ^ k else a) 0

theorem bitOf_eq_testBit (v i : Nat) : bitOf v i = v.testBit i := by
  rw [Nat.testBit_eq_decide_div_mod_eq]
  rfl

theorem sumBits_succ (n : Nat) (g : Nat → Bool) : sumBits (n + 1) g = if g n then sumBits n g + 2 ^ n else sumBits n g := by
  rw [sumBits, List.range_succ, List.foldl_append]
  rfl

theorem sumBits_lt (n : Nat) (g : Nat → Bool) : sumBits n g < 2 ^ n := by
  induction n with
  | zero => exact Nat.one_pos
  | succ n ih =>
    rw [sumBits_succ, Nat.pow_succ]
    split <;> omega

theorem testBit_sumBits {n k : Nat} (g : Nat → Bool) (h : k < n) : (sumBits n g).testBit k = g k := by
  induction n with
  | zero => exact absurd h (Nat.not_lt_zero k)
  | succ n ih =>
    have hlt := sumBits_lt n g
    rw [sumBits_succ]
    rcases Nat.lt_succ_iff_lt_or_eq.1 h with hk | rfl
    · split
      · rw [Nat.add_comm, Nat.testBit_two_pow_add_gt hk, ih hk]
      · exact ih hk
    · have ht := Nat.testBit_lt_two_pow hlt
      split
      · next e => rw [Nat.add_comm, Nat.testBit_two_pow_add_eq, ht, e]; rfl
      · next e => rw [ht]; exact (eq_false_of_ne_true e).symm

/-- The state in which the tests v have begun: SYS_DIAG shows BUSY and no result, and test 3 is not run while a packet is stored. -/
def beginTests (v : BitVec 4) (s : State) : State :=
  { setRaw s SYS_DIAG 0x80000000 with mode := { s.mode with tests := v.toNat + 16 * b2n (decide (fillBytes s ≠ 0)) } }

theorem fget_beginTests (v : BitVec 4) (s : State) {f : Fld} (h : f.off = SYS_DIAG) :
    fget (beginTests v s) f = bitsOf 0x80000000 f.hi f.lo := by
  have hv : raw (setRaw s SYS_DIAG 0x80000000) SYS_DIAG = 0x80000000 := raw_setRaw SYS_DIAG 0x80000000
  show bitsOf (raw (setRaw s SYS_DIAG 0x80000000) f.off) f.hi f.lo = _
  rw [h, hv]

/-- The verdicts of the self-tests stand in SYS_DIAG, and the event is set. -/
theorem diag_of_done (s : State) (p q : Nat) (items : List Nat) {t : State}
    (e : t = report 2 SYS_EVENTS_DIAG_DONE items (fsets s [(SYS_DIAG_BUSY, 0), (SYS_DIAG_PASS, p), (SYS_DIAG_FAIL, q)])) :
    flag t SYS_DIAG_BUSY = false ∧ flag t SYS_EVENTS_DIAG_DONE = true ∧ fget t SYS_DIAG_PASS = p % 16 ∧
      fget t SYS_DIAG_FAIL = q % 16 := by
  have hc : clearOf 0x88000000000000000001001801 SYS_DIAG = true := clearOf_of_row SYS_DIAG_row
  have hev : clearOf 0x88000000000000000001001801 SYS_EVENTS_DIAG_DONE.off = true := clearOf_of_row SYS_EVENTS_DIAG_DONE_row
  subst e
  simp only [fsets, List.foldl_cons, List.foldl_nil]
  refine ⟨?_, flag_report (f := SYS_EVENTS_DIAG_DONE) _ _ hev, ?_, ?_⟩
  · rw [flag, fget_report_other SYS_DIAG_BUSY _ _ hc, fget_fset_other _ (by decide), fget_fset_other _ (by decide), fget_fset]
    rfl
  · rw [fget_report_other SYS_DIAG_PASS _ _ hc, fget_fset_other _ (by decide), fget_fset]
    rfl
  · rw [fget_report_other SYS_DIAG_FAIL _ _ hc, fget_fset]
    rfl

/-! Firmware (R536 to R538). -/

/-- The state with other firmware slots. -/
def setFw (x : FwSt) (s : State) : State := { s with fw := x }

@[simp] theorem setFw_time (x : FwSt) (s : State) : (setFw x s).time = s.time := rfl
@[simp] theorem fget_setFw (x : FwSt) (s : State) (f : Fld) : fget (setFw x s) f = fget s f := rfl
@[simp] theorem flag_setFw (x : FwSt) (s : State) (f : Fld) : flag (setFw x s) f = flag s f := rfl

/-- The event bit of a firmware command that ends with a code. -/
def fwEvent (code : Nat) : Fld := if code = 0 then SYS_EVENTS_FW_DONE else SYS_EVENTS_FW_FAIL

theorem fwEvent_off (code : Nat) : (fwEvent code).off = SYS_EVENTS := by
  unfold fwEvent
  split <;> rfl

theorem fwEnds_eq (code : Nat) (s : State) : fwEnds code s =
    setFlag (fset (fset (fset (setFw { s.fw with op := 0 } s) SYS_FWSTAT_BUSY 0) SYS_FWSTAT_SWAP_PEND 0) SYS_FWSTAT_CODE code)
      (fwEvent code) true := rfl

@[simp] theorem fwEnds_fw (code : Nat) (s : State) : (fwEnds code s).fw = { s.fw with op := 0 } := rfl
@[simp] theorem fwEnds_time (code : Nat) (s : State) : (fwEnds code s).time = s.time := rfl

theorem fwEnds_event (code : Nat) (s : State) : flag (fwEnds code s) (fwEvent code) = true := by
  rw [fwEnds_eq]
  exact flag_setFlag true (by unfold fwEvent; split <;> decide)

theorem fwEnds_fails {code : Nat} (h : code ≠ 0) (s : State) : flag (fwEnds code s) SYS_EVENTS_FW_FAIL = true := by
  have e := fwEnds_event code s
  rwa [fwEvent, if_neg h] at e

/-- The fields of SYS_FWSTAT after a firmware command has ended; the event bit lies in another register. -/
theorem fget_fwEnds (code : Nat) (s : State) {f : Fld} (h : f.off = SYS_FWSTAT) : fget (fwEnds code s) f =
    fget (fset (fset (fset s SYS_FWSTAT_BUSY 0) SYS_FWSTAT_SWAP_PEND 0) SYS_FWSTAT_CODE code) f := by
  rw [fwEnds_eq, fget_setFlag_other _ (.inl (by rw [fwEvent_off, h]; decide))]
  rfl

@[simp] theorem fwEnds_code (code : Nat) (s : State) : fget (fwEnds code s) SYS_FWSTAT_CODE = code % 256 := by
  rw [fget_fwEnds _ _ rfl, fget_fset]
  rfl

@[simp] theorem fwEnds_busy (code : Nat) (s : State) : flag (fwEnds code s) SYS_FWSTAT_BUSY = false := by
  rw [flag, fget_fwEnds _ _ rfl, fget_fset_other _ (by decide), fget_fset_other _ (by decide), fget_fset]
  rfl

@[simp] theorem fwEnds_swapPend (code : Nat) (s : State) : flag (fwEnds code s) SYS_FWSTAT_SWAP_PEND = false := by
  rw [flag, fget_fwEnds _ _ rfl, fget_fset_other _ (by decide), fget_fset]
  rfl

@[simp] theorem fwEnds_active (code : Nat) (s : State) : flag (fwEnds code s) SYS_FWSTAT_ACTIVE = flag s SYS_FWSTAT_ACTIVE := by
  rw [flag, fget_fwEnds _ _ rfl, fget_fset_other _ (by decide), fget_fset_other _ (by decide), fget_fset_other _ (by decide), flag]

/-- A firmware command begins, is not permitted, or is discarded (R535, R538). -/
theorem fwBegin_spec (op : Nat) (s : State) :
    if flag s SYS_FWSTAT_BUSY then flag (fwBegin op s) SYS_EVENTS_REQ_REJ = true ∧ (fwBegin op s).fw = s.fw
    else if modeIn s upModes = false then fget (fwBegin op s) SYS_FWSTAT_CODE = 4 ∧ flag (fwBegin op s) SYS_EVENTS_FW_FAIL = true
    else flag (fwBegin op s) SYS_FWSTAT_BUSY = true ∧ (fwBegin op s).fw.op = op := by
  unfold fwBegin
  by_cases hb : flag s SYS_FWSTAT_BUSY = true
  · simp only [hb, if_true]
    exact ⟨reqReject_flag s, rfl⟩
  · by_cases hm : modeIn s upModes = false
    · simp only [hb, hm, if_true, Bool.not_false, Bool.false_eq_true, if_false]
      exact ⟨fwEnds_code 4 s, fwEnds_fails (by decide) s⟩
    · have hm' : modeIn s upModes = true := eq_true_of_ne_false hm
      simp only [hb, hm', Bool.not_true, Bool.false_eq_true, if_false, reduceCtorEq]
      exact ⟨flag_setFlag true, rfl⟩

/-- The inactive slot takes an image; the active slot stands. -/
theorem putInactive_slots (valid : Bool) (seq version : Nat) (s : State) :
    if activeB s then (putInactive valid seq version s).fw = { s.fw with validA := valid, seqA := seq, verA := version }
    else (putInactive valid seq version s).fw = { s.fw with validB := valid, seqB := seq, verB := version } := by
  unfold putInactive
  split <;> rfl

theorem putInactive_regs (valid : Bool) (seq version : Nat) (s : State) : (putInactive valid seq version s).regs = s.regs := by
  unfold putInactive
  split <;> rfl

@[simp] theorem putInactive_mode (valid : Bool) (seq version : Nat) (s : State) : (putInactive valid seq version s).mode = s.mode := by
  unfold putInactive
  split <;> rfl

@[simp] theorem putInactive_op (valid : Bool) (seq version : Nat) (s : State) :
    (putInactive valid seq version s).fw.op = s.fw.op := by
  unfold putInactive
  split <;> rfl

@[simp] theorem putInactive_window (valid : Bool) (seq version : Nat) (s : State) :
    (putInactive valid seq version s).fw.window = s.fw.window := by
  unfold putInactive
  split <;> rfl

theorem swapSlots_time (s : State) : (swapSlots s).time = s.time := rfl

theorem swapSlots_active (s : State) : flag (swapSlots s) SYS_FWSTAT_ACTIVE = !activeB s := by
  unfold swapSlots
  simp only [fsets, List.foldl_cons, List.foldl_nil]
  rw [flag_fset_other _ (by decide), flag_fset]
  cases activeB s <;> rfl

@[simp] theorem hkPause_fw (d : Nat) (s : State) : (hkPause d s).fw = { s.fw with paused := true } := rfl
@[simp] theorem hkPause_mode (d : Nat) (s : State) : (hkPause d s).mode = s.mode := rfl
@[simp] theorem hkPause_time (d : Nat) (s : State) : (hkPause d s).time = s.time := rfl
@[simp] theorem hkPause_agenda (d : Nat) (s : State) : (hkPause d s).agenda = s.agenda ++ [(s.time + d, .hkPauseEnd)] := rfl
@[simp] theorem fget_hkPause (d : Nat) (s : State) (f : Fld) : fget (hkPause d s) f = fget s f := rfl
@[simp] theorem flag_hkPause (d : Nat) (s : State) (f : Fld) : flag (hkPause d s) f = flag s f := rfl

theorem mem_agenda_schedule (s : State) (n : Nat) (c : Instr) : (n, c) ∈ (schedule s n c).agenda :=
  List.mem_append_right _ (List.mem_singleton.2 rfl)

theorem mem_agenda_schedule_of_mem {s : State} {p : Nat × Instr} (h : p ∈ s.agenda) (n : Nat) (c : Instr) :
    p ∈ (schedule s n c).agenda :=
  List.mem_append_left _ h

theorem mem_agenda_cancel_of_ne {s : State} {p : Nat × Instr} (h : p ∈ s.agenda) {c : Instr} (hne : p.2 ≠ c) :
    p ∈ (cancel s c).agenda :=
  List.mem_filter.2 ⟨h, decide_eq_true hne⟩

/-- The slots as a swap is reverted (R538): exchanged again, the new image given up, and the window closed. -/
def revertSlots (s : State) : State := putInactive false 0 0 (setFw { s.fw with window := false } (swapSlots s))

theorem fwRevert_eq (s : State) : fwRevert s = hkPause 7200000
    (cancel (cancel (report 0 SYS_EVENTS_FW_REVERT [] (fset (revertSlots s) SYS_FWSTAT_CODE 6)) .hkPauseEnd) .revertWindowEnd) := rfl

theorem revertSlots_active (s : State) : flag (revertSlots s) SYS_FWSTAT_ACTIVE = !activeB s := by
  rw [revertSlots, flag_of_regs_eq (putInactive_regs _ _ _ _), flag_setFw, swapSlots_active]

theorem revertSlots_mode (s : State) : (revertSlots s).mode = s.mode := putInactive_mode _ _ _ _

theorem revertSlots_window (s : State) : (revertSlots s).fw.window = false := putInactive_window _ _ _ _

end Sys2Proof.Machine
end

section
/-! The record of a failed start (R526): what a start leaves of the registers (R16), and that SYS_STARTSTAT keeps the step and the
code of the failure while the next start begins. -/

namespace Sys2Proof.Machine

/-! The registers as a start leaves them. -/

/-- Rewriting the entries of a canonical table whose keys lie above k leaves k alone. -/
theorem tget_rewrite_below {α : Type} [DecidableEq α] {d : Nat → α} (f : Nat → α → α) {t a : Tbl α} {lo k : Nat}
    (w : tblWfFrom d lo t = true) (hk : k < lo) : tget d (t.foldl (fun a p => tset d a p.1 (f p.1 p.2)) a) k = tget d a k := by
  induction t generalizing a lo with
  | nil => rfl
  | cons p r ih =>
    simp only [tblWfFrom, Bool.and_eq_true, decide_eq_true_eq] at w
    rw [List.foldl_cons, ih w.2 (by omega), tget_tset_other (by omega)]

/-- Rewriting every entry of a canonical table: each key reads rewritten, where the default is its own rewriting. -/
theorem tget_rewrite {α : Type} [DecidableEq α] {d : Nat → α} (f : Nat → α → α) {t a : Tbl α} {lo k : Nat}
    (w : tblWfFrom d lo t = true) (ha : tget d a k = d k) (hd : f k (d k) = d k) :
    tget d (t.foldl (fun a p => tset d a p.1 (f p.1 p.2)) a) k = f k (tget d t k) := by
  induction t generalizing a lo with
  | nil => rw [List.foldl_nil, ha]; exact hd.symm
  | cons p r ih =>
    obtain ⟨j, v⟩ := p
    simp only [tblWfFrom, Bool.and_eq_true] at w
    rw [List.foldl_cons]
    by_cases hj : j = k
    · subst hj
      rw [tget_rewrite_below f w.2 (Nat.lt_succ_self j), tget_tset]
      simp [tget]
    · rw [ih w.2 (by rw [tget_tset_other (Ne.symm hj), ha])]
      simp [tget, hj]

/-- A word that takes the bits of m from v and the others from x. -/
def mixed (m v x : Nat) : Nat := (v &&& m) ||| (x &&& (0xFFFFFFFF ^^^ m))

theorem mixed_testBit (m v x : Nat) {i : Nat} (h : i < 32) :
    (mixed m v x).testBit i = if m.testBit i then v.testBit i else x.testBit i := by
  rw [mixed, Nat.testBit_or, Nat.testBit_and, Nat.testBit_and, testBit_not32 m h]
  cases m.testBit i <;> simp

theorem ofNat_mixed_self (m : Nat) (w : Word) : BitVec.ofNat 32 (mixed m w.toNat w.toNat) = w := by
  apply BitVec.eq_of_getLsbD_eq
  intro i h
  rw [BitVec.getLsbD_ofNat, mixed_testBit m _ _ h, ite_self, decide_eq_true h, Bool.true_and]
  rfl

/-- A start keeps the bits of its mask and gives the others their reset values (R16). -/
theorem tget_startTable {t : Tbl Word} (warm : Bool) (w : tblWf regReset t = true) (off : Nat) :
    tget regReset (startTable warm t) off =
      BitVec.ofNat 32 (mixed (startMask warm off) (tget regReset t off).toNat (regReset off).toNat) :=
  tget_rewrite (fun off v => BitVec.ofNat 32 (mixed (startMask warm off) v.toNat (regReset off).toNat)) w rfl
    (ofNat_mixed_self _ _)

/-- The registers of the aux block and of the recorder, which a start sets before all others. -/
def startEarlyParts : Nat := 0x400904418400000000000000000000000000000000000000000000000000000000000001800001

/-- A field of which every bit is kept through a start reads as before. -/
theorem fget_startReset {s : State} (i : Inv s) (warm : Bool) {f : Fld} (hf : f.hi < 32)
    (hc : clearOf startEarlyParts f.off = true)
    (hm : ∀ k, k < f.hi + 1 - f.lo → (startMask warm f.off).testBit (f.lo + k) = true) :
    fget (startReset warm s) f = fget s f := by
  have hw : Within startEarlyParts s (recStart warm (auxStart s)) :=
    recStart_within (Sub.of (by decide)) (auxStart_within (Sub.of (by decide)) (Within.refl _ s))
  have hreg : reg (startReset warm s) f.off =
      BitVec.ofNat 32 (mixed (startMask warm f.off) (raw (recStart warm (auxStart s)) f.off) (regReset f.off).toNat) :=
    tget_startTable warm (hw.inv i).regs f.off
  rw [hw.raw hc] at hreg
  unfold fget
  apply Nat.eq_of_testBit_eq
  intro k
  rw [bitsOf_testBit, bitsOf_testBit]
  by_cases hk : k < f.hi + 1 - f.lo
  · have hraw : raw (startReset warm s) f.off = (reg (startReset warm s) f.off).toNat := rfl
    have hi : f.lo + k < 32 := by omega
    rw [hraw, hreg, BitVec.toNat_ofNat, Nat.testBit_mod_two_pow, mixed_testBit _ _ _ hi, hm k hk, if_pos rfl, decide_eq_true hi,
      Bool.true_and]
  · rw [decide_eq_false hk, Bool.false_and, Bool.false_and]

/-! SYS_STARTSTAT while a start begins. -/

/-- What the steps of a start may change as they begin. -/
def stepBeginParts : Nat := 0x40000000000000000000000000000000000000000000000000008000006000220

theorem clearOf_startstat {m : Nat} {f : Fld} (hf : f.off = SYS_STARTSTAT) (k : m.testBit 39 = false := by decide)
    (k' : m.testBit 31 = false := by decide) : clearOf m f.off = true := by
  rw [hf]
  exact clearOf_of_row SYS_STARTSTAT_row k k'

/-- Of SYS_STARTSTAT the steps that begin write STEP only. -/
theorem fget_stepsFollow (s : State) {f : Fld} (hf : f.off = SYS_STARTSTAT) (hlo : 12 < f.lo) :
    fget (stepsFollow s) f = fget s f := by
  unfold stepsFollow
  extract_lets u
  have hu : Within stepBeginParts s u := by
    refine foldl_within (fun _ _ h => foldl_within (fun _ _ h => ?_) h) (Within.refl _ s)
    split
    · exact h
    split
    · exact markDone_within (Sub.of (by decide)) h
    · exact stepBegin_within (Sub.refl _) h
  have he : fget u f = fget s f := hu.fget (clearOf_startstat hf)
  clear_value u
  split
  · rw [fget_fset_other _ (.inr ⟨by decide, .inl hlo⟩), he]
  · exact he

/-- A start that begins keeps the record of the failure (R16, R526). -/
theorem fget_beginStart {s : State} (i : Inv s) (warm : Bool) (cause : Nat) {f : Fld} (hf : f.off = SYS_STARTSTAT) (hhi : f.hi < 32)
    (hlo : 12 < f.lo) (hm : ∀ k, k < f.hi + 1 - f.lo → (startMask warm SYS_STARTSTAT).testBit (f.lo + k) = true) :
    fget (beginStart warm cause s) f = fget s f := by
  have hreset : fget (startReset warm s) f = fget s f :=
    fget_startReset i warm hhi (clearOf_startstat hf) (by rwa [hf])
  have hcount : fget (countRetired (startReset warm s)) f = fget s f :=
    ((countRetired_within (Sub.refl _) (Within.refl _ _)).fget (clearOf_startstat hf)).trans hreset
  unfold beginStart
  extract_lets old a b c d e g v
  have hb : fget b f = fget a f := by
    refine fget_fsets_other fun q hq => ?_
    simp only [List.map_cons, List.map_nil, List.mem_cons, List.not_mem_nil, or_false] at hq
    rcases hq with rfl | rfl | rfl | rfl | rfl
    · exact .inl (by rw [hf]; decide)
    · exact .inl (by rw [hf]; decide)
    · exact .inl (by rw [hf]; decide)
    · exact .inr ⟨by decide, .inl (Nat.lt_of_le_of_lt (by decide) hlo)⟩
    · exact .inr ⟨by decide, .inl hlo⟩
  have hc : fget c f = fget b f := by
    simp only [c]
    split
    · exact fget_fset_other _ (.inl (by rw [hf]; decide))
    · exact fget_fset_other _ (.inl (by rw [hf]; decide))
  have hv : fget v f = fget c f := by
    simp only [v]
    split
    · exact (laneAgain_within (Sub.refl _) (Within.refl _ g)).fget (clearOf_startstat hf)
    · rfl
  calc fget (stepsFollow (enterMode (if warm then .warmStart else .coldStart) cause v)) f
      = fget (enterMode (if warm then .warmStart else .coldStart) cause v) f := fget_stepsFollow _ hf hlo
    _ = fget v f := (enterMode_within (Sub.refl _) (Within.refl _ v)).fget (clearOf_startstat hf)
    _ = fget s f := hv.trans (hc.trans (hb.trans hcount))

/-- A failed step stands in SYS_STARTSTAT with its code, whether the device starts again or halts (R526). -/
theorem startFailed_recorded {s : State} (i : Inv s) (n : Nat) {code : Nat} (hcode : code < 256) :
    flag (startFailed n code s) SYS_STARTSTAT_VALID = true ∧ fget (startFailed n code s) SYS_STARTSTAT_CODE = code := by
  unfold startFailed
  extract_lets again a b
  have hc : clearOf 0x88000000000000000001001801 SYS_STARTSTAT = true := clearOf_of_row SYS_STARTSTAT_row
  have hvalid : fget b SYS_STARTSTAT_VALID = 1 := by
    simp only [b, a, fsets, List.foldl_cons, List.foldl_nil]
    rw [fget_report_other SYS_STARTSTAT_VALID _ _ hc, fget_fset_other _ (by decide), fget_fset_other _ (by decide),
      fget_fset_other _ (by decide), fget_fset_other _ (by decide), fget_fset]
    rfl
  have hval : fget b SYS_STARTSTAT_CODE = code := by
    simp only [b, a, fsets, List.foldl_cons, List.foldl_nil]
    rw [fget_report_other SYS_STARTSTAT_CODE _ _ hc, fget_fset_other _ (by decide), fget_fset]
    exact Nat.mod_eq_of_lt hcode
  have ib : Inv b := (i.fsets _).report _ _ _
  have keep (f : Fld) (hf : f.off = SYS_STARTSTAT) (hhi : f.hi < 32) (hlo : 12 < f.lo)
      (hm : ∀ k, k < f.hi + 1 - f.lo → (startMask false SYS_STARTSTAT).testBit (f.lo + k) = true) :
      fget (if again then haltCause haltStart 0 b else beginStart false code b) f = fget b f := by
    split
    · exact (haltCause_within (Sub.refl _) (Within.refl _ b)).fget (clearOf_startstat hf)
    · exact fget_beginStart ib false code hf hhi hlo hm
  constructor
  · rw [flag, keep SYS_STARTSTAT_VALID rfl (by decide) (by decide) (by decide), hvalid]
    rfl
  · rw [keep SYS_STARTSTAT_CODE rfl (by decide) (by decide) (by decide), hval]

end Sys2Proof.Machine
end

section
/-! Self-tests, locks, firmware commands and the Housekeeper (spec/17, R521, R531, R535 to R539): one lemma for each command of the
statement. -/

namespace Sys2Proof.Machine

/-! Self-tests and locks. -/

theorem selftest_spec (v : BitVec 4) {s : State} (hm : hostMay s SYS_CMD = true) :
    ∃ t, exec (.selftest v) s = .next t ∧
      if s.mode.mode = .diagnose ∧ flag s SYS_DIAG_BUSY = false then
        flag t SYS_DIAG_BUSY = true ∧ fget t SYS_DIAG_PASS = 0 ∧ fget t SYS_DIAG_FAIL = 0
      else flag t SYS_EVENTS_REQ_REJ = true ∧ t.mode = s.mode ∧ raw t SYS_DIAG = raw s SYS_DIAG := by
  refine exec_onWrite (f := fun u => if modeIs u .diagnose && !flag u SYS_DIAG_BUSY then beginTests v u else reqReject u) rfl hm
    fun u hu => ?_
  rw [← mode_counted hu, ← flag_counted hu, ← raw_counted hu]
  by_cases h : u.mode.mode = .diagnose ∧ flag u SYS_DIAG_BUSY = false
  · have hb : (modeIs u .diagnose && !flag u SYS_DIAG_BUSY) = true := by simpa using h
    rw [if_pos h, if_pos hb, flag, fget_beginTests v u rfl, fget_beginTests v u rfl, fget_beginTests v u rfl]
    exact ⟨rfl, rfl, rfl⟩
  · have hb : ¬ (modeIs u .diagnose && !flag u SYS_DIAG_BUSY) = true := by simpa using h
    rw [if_neg h, if_neg hb]
    exact ⟨reqReject_flag u, rfl, reqReject_raw_diag u⟩

theorem selftestDone_spec (v : BitVec 4) (r : DiagReport) {s : State} (h : flag s SYS_DIAG_BUSY = true) :
    ∃ t, exec (.selftestDone v r) s = .next t ∧ flag t SYS_DIAG_BUSY = false ∧ flag t SYS_EVENTS_DIAG_DONE = true ∧
      (∀ k, k < 4 → bitOf (fget t SYS_DIAG_PASS) k = (bitOf s.mode.tests k && v.getLsbD k && !(k == 3 && bitOf s.mode.tests 4))) ∧
      (∀ k, k < 4 → bitOf (fget t SYS_DIAG_FAIL) k = (bitOf s.mode.tests k && !(v.getLsbD k && !(k == 3 && bitOf s.mode.tests 4)))) := by
  let good (k : Nat) : Bool := bitOf s.mode.tests k && bitOf v.toNat k && !(k == 3 && bitOf s.mode.tests 4)
  let bad (k : Nat) : Bool := bitOf s.mode.tests k && !good k
  have hbad (k : Nat) : bad k = (bitOf s.mode.tests k && !(bitOf v.toNat k && !(k == 3 && bitOf s.mode.tests 4))) := by
    simp only [bad, good]
    cases bitOf s.mode.tests k <;> rfl
  have hv (k : Nat) : bitOf v.toNat k = v.getLsbD k := bitOf_eq_testBit _ _
  have hbits (g : Nat → Bool) (k : Nat) (hk : k < 4) : bitOf (sumBits 4 g % 16) k = g k := by
    rw [Nat.mod_eq_of_lt (b := 16) (sumBits_lt 4 g), bitOf_eq_testBit, testBit_sumBits g hk]
  have e : ∃ u items, exec (.selftestDone v r) s = ok (report 2 SYS_EVENTS_DIAG_DONE items
      (fsets u [(SYS_DIAG_BUSY, 0), (SYS_DIAG_PASS, sumBits 4 good), (SYS_DIAG_FAIL, sumBits 4 bad)])) :=
    ⟨_, _, if_neg (by rw [h]; decide)⟩
  obtain ⟨u, items, e⟩ := e
  obtain ⟨hbusy, hdone, hpass, hfail⟩ := diag_of_done u (sumBits 4 good) (sumBits 4 bad) items rfl
  refine ⟨_, e, hbusy, hdone, fun k hk => ?_, fun k hk => ?_⟩
  · rw [hpass, hbits good k hk, ← hv]
  · rw [hfail, hbits bad k hk, hbad, hv]

theorem sysLock_spec {s : State} (hm : hostMay s SYS_LOCK = true) :
    ∃ t, exec .sysLock s = .next t ∧ flag t SYS_LOCK_LOCK = true :=
  exec_onWrite rfl hm fun _ _ => flag_setFlag true

theorem sysLimpCelClear_spec {s : State} (hm : hostMay s SYS_LIMP = true) :
    ∃ t, exec .sysLimpCelClear s = .next t ∧ flag t SYS_LIMP_CEL = false ∧ flag t SYS_LIMP_LNK = flag s SYS_LIMP_LNK := by
  refine exec_onWrite rfl hm fun u hu => ⟨flag_setFlag false, ?_⟩
  rw [flag_setFlag_other false (by decide), flag_counted hu]

/-! Firmware. -/

theorem fwBegin_command_spec (i : Instr) {s : State} (hi : i ∈ [Instr.fwWrite, Instr.fwSwap]) (hm : hostMay s SYS_FWCMD = true) :
    ∃ t, exec i s = .next t ∧
      if flag s SYS_FWSTAT_BUSY then flag t SYS_EVENTS_REQ_REJ = true ∧ t.fw = s.fw
      else if modeIn s upModes = false then fget t SYS_FWSTAT_CODE = 4 ∧ flag t SYS_EVENTS_FW_FAIL = true
      else flag t SYS_FWSTAT_BUSY = true ∧ t.fw.op = (if i = .fwWrite then 1 else 2) := by
  simp only [List.mem_cons, List.not_mem_nil, or_false] at hi
  rcases hi with rfl | rfl
  · refine exec_onWrite (f := fwBegin 1) rfl hm fun u hu => ?_
    rw [← flag_counted hu, ← modeIn_counted hu, ← fw_counted hu, if_pos (rfl : Instr.fwWrite = .fwWrite)]
    exact fwBegin_spec 1 u
  · refine exec_onWrite (f := fwBegin 2) rfl hm fun u hu => ?_
    rw [← flag_counted hu, ← modeIn_counted hu, ← fw_counted hu, if_neg (nofun : Instr.fwSwap ≠ .fwWrite)]
    exact fwBegin_spec 2 u

/-- The code with which the write of an image ends (R536). -/
def fwWriteCode (r : FwReport) (s : State) : Nat :=
  if !r.readOk then 8 else if !r.valid then 1 else if r.seq ≤ activeSeq s then 2 else if !r.flashOk then 3 else 0

/-- What the inactive slot holds as the write of an image ends: nothing new before the flash is written (R536). -/
def fwWriteSlots (r : FwReport) (s : State) : State :=
  match fwWriteCode r s with
  | 0 => putInactive true r.seq r.version s
  | 3 => putInactive false 0 0 s
  | _ => s

theorem execFwWriteDone_eq {r : FwReport} {s : State} (hop : s.fw.op = 1)
    (hw : r.readOk = true → r.valid = true → activeSeq s < r.seq → s.att.step = 0) :
    exec (.fwWriteDone r) s = .next (fwEnds (fwWriteCode r s) (fwWriteSlots r s)) := by
  show execFwWriteDone r s = _
  unfold execFwWriteDone fwWriteSlots fwWriteCode
  rw [if_neg (not_not_intro hop)]
  by_cases hr : r.readOk = true
  · by_cases hv : r.valid = true
    · by_cases hq : r.seq ≤ activeSeq s
      · simp [hr, hv, hq]
      · have ha := hw hr hv (Nat.lt_of_not_le hq)
        by_cases hf : r.flashOk = true <;> simp [hr, hv, hq, ha, hf]
    · simp [hr, hv]
  · simp [hr]

theorem fwWriteSlots_cases (r : FwReport) (s : State) :
    fwWriteSlots r s = s ∨ ∃ valid seq version, fwWriteSlots r s = putInactive valid seq version s := by
  unfold fwWriteSlots
  split
  · exact .inr ⟨_, _, _, rfl⟩
  · exact .inr ⟨_, _, _, rfl⟩
  · exact .inl rfl

/-- The write of an image leaves the active slot. -/
theorem fwWriteSlots_active (r : FwReport) (s : State) :
    if activeB s then (fwWriteSlots r s).fw.seqB = s.fw.seqB ∧ (fwWriteSlots r s).fw.validB = s.fw.validB
    else (fwWriteSlots r s).fw.seqA = s.fw.seqA ∧ (fwWriteSlots r s).fw.validA = s.fw.validA := by
  rcases fwWriteSlots_cases r s with e | ⟨valid, seq, version, e⟩
  · rw [e]
    split <;> exact ⟨rfl, rfl⟩
  · have hp := putInactive_slots valid seq version s
    rw [e]
    split
    · next h => rw [if_pos h] at hp; rw [hp]; exact ⟨rfl, rfl⟩
    · next h => rw [if_neg h] at hp; rw [hp]; exact ⟨rfl, rfl⟩

theorem fwWriteDone_spec (r : FwReport) {s : State} (hop : s.fw.op = 1)
    (hw : r.readOk = true → r.valid = true → activeSeq s < r.seq → s.att.step = 0) :
    ∃ t, exec (.fwWriteDone r) s = .next t ∧ flag t SYS_FWSTAT_BUSY = false ∧ fget t SYS_FWSTAT_CODE = fwWriteCode r s ∧ t.fw.op = 0 ∧
      (if fwWriteCode r s = 0 then flag t SYS_EVENTS_FW_DONE = true ∧
          (if activeB s then t.fw.seqA = r.seq ∧ t.fw.validA = true else t.fw.seqB = r.seq ∧ t.fw.validB = true)
        else flag t SYS_EVENTS_FW_FAIL = true) ∧
      (if activeB s then t.fw.seqB = s.fw.seqB ∧ t.fw.validB = s.fw.validB else t.fw.seqA = s.fw.seqA ∧ t.fw.validA = s.fw.validA) := by
  have hlt : fwWriteCode r s < 256 := by
    unfold fwWriteCode
    repeat' split
    all_goals decide
  refine ⟨_, execFwWriteDone_eq hop hw, fwEnds_busy _ _, ?_, rfl, ?_, fwWriteSlots_active r s⟩
  · rw [fwEnds_code, Nat.mod_eq_of_lt hlt]
  · split
    · next h0 =>
      refine ⟨?_, ?_⟩
      · rw [h0]
        exact fwEnds_event 0 _
      · rw [fwEnds_fw, fwWriteSlots, h0]
        unfold putInactive
        split <;> exact ⟨rfl, rfl⟩
    · next h0 => exact fwEnds_fails h0 _

theorem fwSwapReady_spec (r : FwReport) {s : State} (hop : s.fw.op = 2) (hp : flag s SYS_FWSTAT_SWAP_PEND = false) :
    ∃ t, exec (.fwSwapReady r) s = .next t ∧
      if r.valid then flag t SYS_FWSTAT_SWAP_PEND = true ∧ t.fw.op = 2
      else fget t SYS_FWSTAT_CODE = 5 ∧ t.fw.op = 0 ∧ flag t SYS_EVENTS_FW_FAIL = true := by
  have e : exec (.fwSwapReady r) s = if !r.valid then ok (fwEnds 5 s)
      else ok (setFlag (putInactive true r.seq r.version s) SYS_FWSTAT_SWAP_PEND true) :=
    if_neg (by simp [hop, hp])
  rw [e]
  cases r.valid with
  | true => exact ⟨_, rfl, flag_setFlag true, (putInactive_op _ _ _ s).trans hop⟩
  | false => exact ⟨_, rfl, fwEnds_code 5 s, rfl, fwEnds_fails (by decide) s⟩

theorem fwSwapExecute_spec {s : State} (hp : flag s SYS_FWSTAT_SWAP_PEND = true) (hg : docGap s = true) :
    ∃ t, exec .fwSwapExecute s = .next t ∧ flag t SYS_FWSTAT_ACTIVE = !activeB s ∧ fget t SYS_FWSTAT_CODE = 0 ∧
      flag t SYS_FWSTAT_SWAP_PEND = false ∧ t.fw.paused = true ∧ t.fw.window = true ∧
      (s.time + 1200000, .hkPauseEnd) ∈ t.agenda ∧ (s.time + 600000000, .revertWindowEnd) ∈ t.agenda := by
  let u := fwEnds 0 (swapSlots s)
  let w := setFw { u.fw with window := true } u
  have e : exec .fwSwapExecute s =
      ok (schedule (cancel (hkPause 1200000 w) .revertWindowEnd) ((hkPause 1200000 w).time + 600000000) .revertWindowEnd) :=
    if_pos (by rw [hp, hg]; rfl)
  have ht : w.time = s.time := (setFw_time _ _).trans ((fwEnds_time _ _).trans (swapSlots_time s))
  rw [hkPause_time, ht] at e
  refine ⟨_, e, ?_, ?_, ?_, rfl, rfl, ?_, mem_agenda_schedule _ _ _⟩
  · rw [flag_schedule, flag_cancel, flag_hkPause, flag_setFw, fwEnds_active, swapSlots_active]
  · rw [fget_schedule, fget_cancel, fget_hkPause, fget_setFw, fwEnds_code]
  · rw [flag_schedule, flag_cancel, flag_hkPause, flag_setFw, fwEnds_swapPend]
  · have hmem : (s.time + 1200000, Instr.hkPauseEnd) ∈ (hkPause 1200000 w).agenda := by
      rw [hkPause_agenda, ht]
      exact List.mem_append_right _ (List.mem_singleton.2 rfl)
    exact mem_agenda_schedule_of_mem (mem_agenda_cancel_of_ne hmem (by simp)) _ _

theorem fwSwapExecute_waits {s : State} (hg : docGap s = false) : exec .fwSwapExecute s = .next s :=
  if_neg (by simp [hg])

theorem fwSwapCancel_spec {s : State} (hm : hostMay s SYS_FWCMD = true) :
    ∃ t, exec .fwSwapCancel s = .next t ∧
      if s.fw.op = 2 then fget t SYS_FWSTAT_CODE = 7 ∧ t.fw.op = 0 ∧ flag t SYS_FWSTAT_SWAP_PEND = false
      else flag t SYS_EVENTS_REQ_REJ = true ∧ t.fw = s.fw := by
  refine exec_onWrite rfl hm fun u hu => ?_
  rw [← fw_counted hu]
  split
  · exact ⟨fwEnds_code 7 _, rfl, fwEnds_swapPend 7 _⟩
  · exact ⟨reqReject_flag _, rfl⟩

/-! The Housekeeper (R23, R531, R538). -/

/-- The previous image runs again, with code 6 and a pause, in the mode that stands (R538). -/
theorem fwRevert_spec (s : State) :
    (fwRevert s).mode = s.mode ∧ flag (fwRevert s) SYS_FWSTAT_ACTIVE = !activeB s ∧ fget (fwRevert s) SYS_FWSTAT_CODE = 6 ∧
      flag (fwRevert s) SYS_EVENTS_FW_REVERT = true ∧ (fwRevert s).fw.paused = true ∧ (fwRevert s).fw.window = false := by
  have hc : clearOf 0x88000000000000000001001801 SYS_FWSTAT = true := clearOf_of_row SYS_FWSTAT_row
  have hev : clearOf 0x88000000000000000001001801 SYS_EVENTS_FW_REVERT.off = true := clearOf_of_row SYS_EVENTS_FW_REVERT_row
  rw [fwRevert_eq]
  simp only [hkPause_mode, hkPause_fw, flag_hkPause, fget_hkPause, flag_cancel, fget_cancel, cancel_mode, cancel_fw, report_mode,
    report_fw, fset_mode, fset_fw]
  refine ⟨revertSlots_mode s, ?_, ?_, flag_report 0 [] hev, trivial, revertSlots_window s⟩
  · rw [flag, fget_report_other SYS_FWSTAT_ACTIVE _ _ hc, fget_fset_other _ (by decide)]
    exact revertSlots_active s
  · rw [fget_report_other SYS_FWSTAT_CODE _ _ hc, fget_fset]
    rfl

theorem housekeeperFault_spec {s : State} (i : Inv s) (hoff : s.mode.mode ≠ .off) :
    ∃ t, exec .housekeeperFault s = .next t ∧
      if starting s = true then flag t SYS_STARTSTAT_VALID = true ∧ fget t SYS_STARTSTAT_CODE = 9
      else if s.fw.window = true then t.mode = s.mode ∧ flag t SYS_FWSTAT_ACTIVE = !activeB s ∧ fget t SYS_FWSTAT_CODE = 6 ∧
        flag t SYS_EVENTS_FW_REVERT = true ∧ t.fw.paused = true ∧ t.fw.window = false
      else t.mode.mode = .halt := by
  show ∃ t, execHousekeeperFault s = _ ∧ _
  unfold execHousekeeperFault
  rw [if_neg (by simp [hoff])]
  by_cases hs : starting s = true
  · rw [if_pos hs]
    simp only [hs, if_true]
    split
    · exact ⟨_, rfl, startFailed_recorded i _ (by decide)⟩
    · exact ⟨_, rfl, startFailed_recorded i _ (by decide)⟩
  · rw [if_neg hs]
    simp only [hs]
    by_cases hw : s.fw.window = true
    · simp only [hw, if_true]
      exact ⟨_, rfl, fwRevert_spec s⟩
    · simp only [hw]
      exact ⟨_, rfl, haltCause_mode _ _ hoff⟩

theorem hkPauseEnd_spec {s : State} (h : s.fw.paused = true) : ∃ t, exec .hkPauseEnd s = .next t ∧ t.fw.paused = false := by
  refine ⟨_, if_pos h, ?_⟩
  rw [(deferredSave_within (Sub.refl _) (Within.refl _ _)).fw_eq]

end Sys2Proof.Machine

open Sys2Proof Sys2Proof.Machine

/-- Settles O52: the lemmas above, one for each command. -/
theorem selfTestsAndFirmware : Obligations.SelfTestsAndFirmware :=
  ⟨fun _ v h => selftest_spec v h, fun _ v r h => selftestDone_spec v r h, fun _ h => sysLock_spec h, fun _ h => sysLimpCelClear_spec h,
    fun _ i hi h => fwBegin_command_spec i hi h, fun _ r hop hw => fwWriteDone_spec r hop hw, fun _ r hop hp => fwSwapReady_spec r hop hp,
    fun _ hp hg => fwSwapExecute_spec hp hg, fun _ _ hg => ⟨_, fwSwapExecute_waits hg, rfl⟩, fun _ h => fwSwapCancel_spec h,
    fun _ => ⟨_, rfl, rfl⟩, fun _ i h => housekeeperFault_spec i h, fun _ h => hkPauseEnd_spec h⟩
end

section
/-! Writes of MOT_ACTL: what the store of the register leaves, what follows it where EN changes, and the statement of spec/09 that
rests on them. -/

namespace Sys2Proof.Machine

/-! A field of a register after a store of the whole register. -/

theorem fget_setRaw {s : State} {f : Fld} (v : Nat) (h : f.hi < 32 := by decide) :
    fget (setRaw s f.off v) f = bitsOf v f.hi f.lo := by
  rw [fget, raw_setRaw]
  apply Nat.eq_of_testBit_eq
  intro i
  rw [bitsOf_testBit, bitsOf_testBit, Nat.testBit_mod_two_pow]
  by_cases hi : i < f.hi + 1 - f.lo
  · simp [show f.lo + i < 32 by omega]
  · simp [hi]

/-- A field of RW bits takes the bits of the write, whatever SYS_LOCK says (R12, R15). -/
theorem bitsOf_written {s : State} {off : Nat} {r : RegRow} (hr : rowOf off = some r) (hp : off ≠ PMC_CTL) (v : Nat) {hi lo : Nat}
    (h : hi < 32) (hw : ∀ i, i < hi + 1 - lo → r.rw.testBit (lo + i) = true) :
    bitsOf (written s off v) hi lo = bitsOf v hi lo := by
  apply Nat.eq_of_testBit_eq
  intro i
  rw [bitsOf_testBit, bitsOf_testBit]
  by_cases hi' : i < hi + 1 - lo
  · rw [written_follows_accessCodes s hr v (by omega) (absurd · hp), hw i hi', Bool.true_or, if_pos rfl]
  · simp [hi']

/-! MOT_ACTL in the register map. -/

theorem rowOf_MOT_ACTL (m : Fin 8) : ∃ r, rowOf (MOT_ACTL m) = some r ∧ r.rw = 0x81F3FF00 := by
  have h : ∀ m : Fin 8, (rowOf (MOT_ACTL m)).map RegRow.rw = some 0x81F3FF00 := by decide
  exact Option.map_eq_some_iff.1 (h m)

/-- EN shares no bit with BIND, ENC and EN_DLY, nor ENC with BIND. -/
theorem MOT_ACTL_apart (m : Fin 8) : (MOT_ACTL_EN m).Apart (MOT_ACTL_BIND m) ∧ (MOT_ACTL_EN m).Apart (MOT_ACTL_ENC m) ∧
    (MOT_ACTL_EN m).Apart (MOT_ACTL_EN_DLY m) ∧ (MOT_ACTL_ENC m).Apart (MOT_ACTL_BIND m) := by
  decide +revert

/-- MOVE and REST share no bit with STATE. -/
theorem MOT_ASTATUS_apart (m : Fin 8) :
    (MOT_ASTATUS_MOVE m).Apart (MOT_ASTATUS_STATE m) ∧ (MOT_ASTATUS_REST m).Apart (MOT_ASTATUS_STATE m) := by
  decide +revert

/-- MOT_ACTL has no command of its own, and no rule discards its write. -/
theorem regWriteEffect_MOT_ACTL (m : Fin 8) (v : Nat) (s : State) : regWriteEffect (MOT_ACTL m) v s = writeActl m v s := by
  have hown : ∀ m : Fin 8, ownRow (MOT_ACTL m) = false := by decide +kernel
  have hvmon : ∀ m : Fin 8, MOT_ACTL m ≠ PWR_VMON ∧ MOT_ACTL m ≠ LMP_RAIL := by decide
  have hbase : ∀ m : Fin 8, (indexIn 19 HOST_RBASE_LO (MOT_ACTL m) <|> indexIn 19 HOST_RBASE_HI (MOT_ACTL m)) = none := by decide
  have hidx : ∀ m : Fin 8, (indexIn 8 MOT_ACTL (MOT_ACTL m)).bind (finOf 8) = some m := by decide
  have hdis : writeDiscarded (MOT_ACTL m) v = false := by
    rw [writeDiscarded, if_neg (hvmon m).1, if_neg (hvmon m).2]
  have hlock : rbaseLocked s (MOT_ACTL m) = false := by
    rw [rbaseLocked, hbase m]
  rw [regWriteEffect, hown m, hdis, hlock, hidx m]
  rfl

/-! The store: BIND and ENC stay while EN is 1, and in HALT EN stays 0 (R33, R263). -/

/-- The state with v stored in MOT_ACTL, BIND and ENC kept while EN is 1. -/
def storeBits (m : Fin 8) (v : Nat) (s : State) : State :=
  let u := setRaw s (MOT_ACTL m) (written s (MOT_ACTL m) v)
  if flag s (MOT_ACTL_EN m) then
    fsets u [(MOT_ACTL_BIND m, fget s (MOT_ACTL_BIND m)), (MOT_ACTL_ENC m, fget s (MOT_ACTL_ENC m))]
  else u

/-- The state with v stored in MOT_ACTL as EN and the mode permit. -/
def storeActl (m : Fin 8) (v : Nat) (s : State) : State :=
  let u := storeBits m v s
  whenS (modeIs u .halt) (fun u => setFlag u (MOT_ACTL_EN m) false) u

/-- A new binding counts from 0: u with the counts of axis m cleared where BIND or ENC differs from s. -/
def countAnew (m : Fin 8) (s u : State) : State :=
  if (fget u (MOT_ACTL_BIND m), fget u (MOT_ACTL_ENC m)) = (fget s (MOT_ACTL_BIND m), fget s (MOT_ACTL_ENC m)) then u
  else setAxis m { getAxis u m with cmdSteps := 0, encCounts := 0 } u

theorem writeActl_eq (m : Fin 8) (v : Nat) (s : State) :
    writeActl m v s =
      let u := countAnew m s (storeActl m v s)
      if !flag s (MOT_ACTL_EN m) && flag u (MOT_ACTL_EN m) then axisEnable m u
      else if flag s (MOT_ACTL_EN m) && !flag u (MOT_ACTL_EN m) then axisDisable m u else u := rfl

@[simp] theorem fget_countAnew (m : Fin 8) (s u : State) (f : Fld) : fget (countAnew m s u) f = fget u f := by
  unfold countAnew
  split <;> rfl

@[simp] theorem flag_countAnew (m : Fin 8) (s u : State) (f : Fld) : flag (countAnew m s u) f = flag u f := by
  rw [flag, fget_countAnew, flag]

@[simp] theorem countAnew_time (m : Fin 8) (s u : State) : (countAnew m s u).time = u.time := by
  unfold countAnew
  split <;> rfl

/-- The store changes registers of the row of MOT_ACTL only, which is row 180 of the map: bit 32 + 180 of the set. -/
theorem storeBits_within (m : Fin 8) (v : Nat) (s : State) : Within (2 ^ 212) s (storeBits m v s) := by
  have hr : Reach (2 ^ 212) (MOT_ACTL m) := .of (MOT_ACTL_row m) (by decide)
  have hset := setRaw_within (v := written s (MOT_ACTL m) v) hr (Within.refl _ s)
  unfold storeBits
  split
  · exact fsets_within (List.forall_mem_cons.2 ⟨hr, List.forall_mem_cons.2 ⟨hr, List.forall_mem_nil _⟩⟩) hset
  · exact hset

theorem storeActl_within (m : Fin 8) (v : Nat) (s : State) : Within (2 ^ 212) s (storeActl m v s) := by
  have hr : Reach (2 ^ 212) (MOT_ACTL_EN m).off := .of (MOT_ACTL_EN_row m) (by decide)
  unfold storeActl
  exact whenS_within (fun _ h => setFlag_within hr h) (storeBits_within m v s)

@[simp] theorem storeActl_time (m : Fin 8) (v : Nat) (s : State) : (storeActl m v s).time = s.time :=
  (storeActl_within m v s).parts .time (by decide)

/-- The bits of MOT_ACTL but those of BIND and ENC take the write. -/
theorem fget_storeBits (m : Fin 8) (v : Nat) (s : State) {hi lo : Nat} (hhi : hi < 32 := by decide)
    (hw : ∀ i, i < hi + 1 - lo → (0x81F3FF00 : Nat).testBit (lo + i) = true := by decide) (hb : 22 < lo ∨ hi < 20 := by decide) :
    fget (storeBits m v s) ⟨MOT_ACTL m, hi, lo⟩ = bitsOf v hi lo := by
  obtain ⟨r, hr, hrw⟩ := rowOf_MOT_ACTL m
  have hp : MOT_ACTL m ≠ PMC_CTL := ne_of_rowIdx (MOT_ACTL_row m) PMC_CTL_row
  have hset : fget (setRaw s (MOT_ACTL m) (written s (MOT_ACTL m) v)) ⟨MOT_ACTL m, hi, lo⟩ = bitsOf v hi lo :=
    (fget_setRaw (f := ⟨MOT_ACTL m, hi, lo⟩) _ hhi).trans (bitsOf_written hr hp v hhi (hrw ▸ hw))
  have hbind : (MOT_ACTL_BIND m).Apart ⟨MOT_ACTL m, hi, lo⟩ := .inr (show 22 < 32 ∧ (22 < lo ∨ hi < 22) by omega)
  have henc : (MOT_ACTL_ENC m).Apart ⟨MOT_ACTL m, hi, lo⟩ := .inr (show 21 < 32 ∧ (21 < lo ∨ hi < 20) by omega)
  unfold storeBits
  split
  · rw [fget_fsets_other (by simp [hbind, henc]), hset]
  · exact hset

/-- EN takes bit 31 of the write, but in HALT (R33). -/
theorem flag_storeActl_EN (m : Fin 8) (v : Nat) (s : State) :
    flag (storeActl m v s) (MOT_ACTL_EN m) = (v.testBit 31 && !modeIs s .halt) := by
  have hen : flag (storeBits m v s) (MOT_ACTL_EN m) = v.testBit 31 := by
    rw [← bitOf_eq_testBit]
    exact congrArg (· == 1) (fget_storeBits m v s (hi := 31) (lo := 31))
  have hmode : modeIs (storeBits m v s) .halt = modeIs s .halt := by rw [modeIs, (storeBits_within m v s).mode_eq]
  unfold storeActl
  dsimp only
  rw [hmode]
  cases modeIs s .halt
  · exact hen.trans (Bool.and_true _).symm
  · exact (flag_setFlag false (by simp [MOT_ACTL_EN])).trans (Bool.and_false _).symm

/-- What HALT does to EN leaves the other fields. -/
theorem fget_storeActl (m : Fin 8) (v : Nat) (s : State) {f : Fld} (h : (MOT_ACTL_EN m).Apart f) :
    fget (storeActl m v s) f = fget (storeBits m v s) f := by
  unfold storeActl whenS
  dsimp only
  split
  · exact fget_setFlag_other false h
  · rfl

theorem fget_storeActl_EN_DLY (m : Fin 8) (v : Nat) (s : State) :
    fget (storeActl m v s) (MOT_ACTL_EN_DLY m) = bitsOf v 15 8 := by
  obtain ⟨-, -, hdly, -⟩ := MOT_ACTL_apart m
  exact (fget_storeActl m v s hdly).trans (fget_storeBits m v s (hi := 15) (lo := 8))

/-- BIND and ENC can be written only while EN is 0 (R263). -/
theorem storeActl_binding {m : Fin 8} (v : Nat) {s : State} (hon : flag s (MOT_ACTL_EN m) = true) :
    fget (storeActl m v s) (MOT_ACTL_BIND m) = fget s (MOT_ACTL_BIND m) ∧
      fget (storeActl m v s) (MOT_ACTL_ENC m) = fget s (MOT_ACTL_ENC m) := by
  obtain ⟨hbind, henc, -, hapart⟩ := MOT_ACTL_apart m
  rw [fget_storeActl m v s hbind, fget_storeActl m v s henc]
  simp only [storeBits, hon, if_true, fsets, List.foldl_cons, List.foldl_nil]
  constructor
  · rw [fget_fset_other _ hapart, fget_fset _ (show 22 < 32 by decide)]
    exact Nat.mod_eq_of_lt (bitsOf_lt _ _ _)
  · rw [fget_fset _ (show 21 < 32 by decide)]
    exact Nat.mod_eq_of_lt (bitsOf_lt _ _ _)

/-! The axis follows EN (R291 to R293). -/

/-- EN from 0 to 1: the axis is idle, its driver enabled with the run current, and steps go out EN_DLY us later. -/
theorem axisEnable_spec (m : Fin 8) (s : State) :
    fget (axisEnable m s) (MOT_ASTATUS_STATE m) = 1 ∧ (getAxis (axisEnable m s) m).enPin = true ∧
      (getAxis (axisEnable m s) m).readyAt = s.time + 600 * fget s (MOT_ACTL_EN_DLY m) ∧
      (getAxis (axisEnable m s) m).iref = fget s (MOT_AIREF_RUN_DUTY m) := by
  constructor
  · simp only [axisEnable, fget_schedule]
    exact fget_fset 1 (show 31 < 32 by decide)
  · simp [axisEnable]

/-- Only in the state STOPPING can a hold begin (R281). -/
theorem holdCheck_of_not_stopping {s : State} (h : fget s MOT_STATUS_PSTATE ≠ 2) : holdCheck s = s :=
  if_pos (.inl h)

/-- EN from 1 to 0: the axis is disabled and its driver off, without current. -/
theorem axisDisable_spec (m : Fin 8) {s : State} (h : fget s MOT_STATUS_PSTATE ≠ 2) :
    fget (axisDisable m s) (MOT_ASTATUS_STATE m) = 0 ∧ (getAxis (axisDisable m s) m).enPin = false ∧
      (getAxis (axisDisable m s) m).iref = 0 := by
  have hstop : fget (stopNow m s) MOT_STATUS_PSTATE = fget s MOT_STATUS_PSTATE :=
    (stopNow_within (Sub.refl _) (Within.refl _ s)).fget (clearOf_of_row MOT_STATUS_PSTATE_row)
  obtain ⟨hmove, hrest⟩ := MOT_ASTATUS_apart m
  have hne : ∀ hi lo, Fld.Apart ⟨MOT_ASTATUS m, hi, lo⟩ MOT_STATUS_PSTATE := fun _ _ =>
    .inl (ne_of_rowIdx (MOT_ASTATUS_row m) MOT_STATUS_row)
  unfold axisDisable
  dsimp only
  rw [holdCheck_of_not_stopping]
  · simp only [fsets, List.foldl_cons, List.foldl_nil]
    refine ⟨?_, by simp, by simp⟩
    rw [fget_fset_other _ hrest, fget_fset_other _ hmove, fget_fset _ (show 31 < 32 by decide)]
    rfl
  · rw [fget_fsets_other (by simpa using ⟨hne 31 30, hne 1 0, hne 29 29⟩)]
    simpa [hstop] using h

/-! The whole write. -/

/-- What follows the store leaves MOT_ACTL. -/
theorem fget_writeActl (m : Fin 8) (v : Nat) (s : State) {f : Fld} (hf : f.off = MOT_ACTL m) :
    fget (writeActl m v s) f = fget (storeActl m v s) f := by
  have hrow : rowIdx f.off = 180 := hf ▸ MOT_ACTL_row m
  rw [writeActl_eq]
  dsimp only
  split
  · rw [(axisEnable_within (Sub.refl _) (Within.refl _ _)).fget (clearOf_of_row hrow), fget_countAnew]
  · split
    · rw [(axisDisable_within (Sub.refl _) (Within.refl _ _)).fget (clearOf_of_row hrow), fget_countAnew]
    · exact fget_countAnew m s _ f

theorem flag_writeActl_EN (m : Fin 8) (v : Nat) (s : State) :
    flag (writeActl m v s) (MOT_ACTL_EN m) = (v.testBit 31 && !modeIs s .halt) := by
  rw [flag, fget_writeActl m v s rfl]
  exact flag_storeActl_EN m v s

theorem writeActl_enables {m : Fin 8} {v : Nat} {s : State} (hon : flag s (MOT_ACTL_EN m) = false) (hv : v.testBit 31 = true)
    (hm : s.mode.mode ≠ .halt) :
    fget (writeActl m v s) (MOT_ASTATUS_STATE m) = 1 ∧ (getAxis (writeActl m v s) m).enPin = true ∧
      (getAxis (writeActl m v s) m).readyAt = s.time + 600 * bitsOf v 15 8 ∧
      (getAxis (writeActl m v s) m).iref = fget s (MOT_AIREF_RUN_DUTY m) := by
  have hnow : flag (storeActl m v s) (MOT_ACTL_EN m) = true := by
    simp [flag_storeActl_EN, hv, hm]
  have hduty : fget (storeActl m v s) (MOT_AIREF_RUN_DUTY m) = fget s (MOT_AIREF_RUN_DUTY m) :=
    (storeActl_within m v s).fget (clearOf_of_row (MOT_AIREF_row m))
  have e : writeActl m v s = axisEnable m (countAnew m s (storeActl m v s)) := by
    rw [writeActl_eq]
    simp [hon, hnow]
  have h := axisEnable_spec m (countAnew m s (storeActl m v s))
  rwa [← e, countAnew_time, storeActl_time, fget_countAnew, fget_storeActl_EN_DLY, fget_countAnew, hduty] at h

theorem writeActl_disables {m : Fin 8} {v : Nat} {s : State} (hon : flag s (MOT_ACTL_EN m) = true) (hv : v.testBit 31 = false)
    (hp : fget s MOT_STATUS_PSTATE ≠ 2) :
    fget (writeActl m v s) (MOT_ASTATUS_STATE m) = 0 ∧ (getAxis (writeActl m v s) m).enPin = false ∧
      (getAxis (writeActl m v s) m).iref = 0 := by
  have hnow : flag (storeActl m v s) (MOT_ACTL_EN m) = false := by
    rw [flag_storeActl_EN, hv, Bool.false_and]
  have hpstate : fget (countAnew m s (storeActl m v s)) MOT_STATUS_PSTATE ≠ 2 := by
    rwa [fget_countAnew, (storeActl_within m v s).fget (clearOf_of_row MOT_STATUS_PSTATE_row)]
  have e : writeActl m v s = axisDisable m (countAnew m s (storeActl m v s)) := by
    rw [writeActl_eq]
    simp [hon, hnow]
  rw [e]
  exact axisDisable_spec m hpstate

/-- BIND and ENC stay while EN is 1 (R263). -/
theorem writeActl_binding {m : Fin 8} (v : Nat) {s : State} (hon : flag s (MOT_ACTL_EN m) = true) :
    fget (writeActl m v s) (MOT_ACTL_BIND m) = fget s (MOT_ACTL_BIND m) ∧
      fget (writeActl m v s) (MOT_ACTL_ENC m) = fget s (MOT_ACTL_ENC m) := by
  rw [fget_writeActl m v s rfl, fget_writeActl m v s rfl]
  exact storeActl_binding v hon

/-- A host write of MOT_ACTL that the mode admits is writeActl on the state with the write counted. -/
theorem exec_regWrite_MOT_ACTL {m : Fin 8} {v : Word} {s : State} {P : State → Prop} (hm : hostMay s (MOT_ACTL m) = true)
    (hP : ∀ p g, P (writeActl m v.toNat { s with pmc := p, agenda := g })) :
    ∃ t, exec (.regWrite false (MOT_ACTL m) v) s = .next t ∧ P t := by
  refine exec_onWrite rfl hm fun u ⟨p, g, hu⟩ => ?_
  rw [regWriteEffect_MOT_ACTL, hu]
  exact hP p g

end Sys2Proof.Machine

open Sys2Proof Sys2Proof.Machine

/-- Settles O26: the store of MOT_ACTL gives EN its value, and the axis follows where EN changes. -/
theorem axisEnableWritesAct : Obligations.AxisEnableWritesAct := by
  refine ⟨fun s m v _ hm hon hv hh => ?_, fun s m v _ hm hon => ?_, fun s m v _ hm hh => ?_⟩
  · refine exec_regWrite_MOT_ACTL hm fun p g => ?_
    refine ⟨?_, writeActl_enables hon hv hh⟩
    rw [flag_writeActl_EN, show v.toNat.testBit 31 = true from hv]
    simpa using hh
  · refine exec_regWrite_MOT_ACTL hm fun p g => ?_
    obtain ⟨hbind, henc⟩ := writeActl_binding (s := { s with pmc := p, agenda := g }) v.toNat hon
    refine ⟨hbind, henc, fun hv hp => ⟨?_, writeActl_disables hon hv hp⟩⟩
    rw [flag_writeActl_EN, show v.toNat.testBit 31 = false from hv, Bool.false_and]
  · refine exec_regWrite_MOT_ACTL hm fun p g => ?_
    rw [flag_writeActl_EN]
    simp [hh]
end

section
/-! The taps: who owns a tap, the common-mode average, writes of the fixed and of the live class, writes of a group's window, and
the statement of spec/04 that rests on them. -/

namespace Sys2Proof.Machine

/-! The owner of a tap, and registers that a tap's commands write. -/

/-- Who owns a tap is told by HEAD_STATUS and HEAD_TAPS alone (R57, R58). -/
theorem tapOwner_of_within {m : Nat} {s u : State} (h : Within m s u) (t : Nat) (hst : m.testBit (32 + 92) = false := by decide)
    (htp : m.testBit (32 + 94) = false := by decide) (hall : m.testBit 31 = false := by decide) :
    tapOwner u t = tapOwner s t := by
  have hstate (k : Nat) : headState u k = headState s k := h.fget (clearOf_of_row (HEAD_STATUS_STATE_row k) hst hall)
  have hrange (k : Nat) : inRange u k t = inRange s k t := by
    have hfirst : fget u (HEAD_TAPS_FIRST_TAP k) = fget s (HEAD_TAPS_FIRST_TAP k) :=
      h.fget (clearOf_of_row (HEAD_TAPS_FIRST_TAP_row k) htp hall)
    have hlast : fget u (HEAD_TAPS_LAST_TAP k) = fget s (HEAD_TAPS_LAST_TAP k) :=
      h.fget (clearOf_of_row (show rowIdx (HEAD_TAPS_LAST_TAP k).off = 94 from HEAD_TAPS_row k) htp hall)
    rw [inRange, hfirst, hlast, inRange]
  simp only [tapOwner, hstate, hrange]

theorem tapOwner_counted {s u : State} (h : Counted s u) (t : Nat) : tapOwner u t = tapOwner s t := by
  obtain ⟨p, g, rfl⟩ := h
  rfl

theorem reg_writeRw_counted {s u : State} (h : Counted s u) (off v : Nat) :
    reg (writeRw off v u) off = reg (writeRw off v s) off := by
  obtain ⟨p, g, rfl⟩ := h
  rfl

theorem active_counted {s u : State} (h : Counted s u) : u.active = s.active := by
  obtain ⟨p, g, rfl⟩ := h
  rfl

@[simp] theorem act_activate (s : State) (off : Nat) : act (activate s off) off = raw s off :=
  congrArg BitVec.toNat tget_tset

/-! The common-mode average (R113 to R118). -/

theorem fget_headOut (h : Nat) (s : State) {f : Fld} {b : Nat} (hrow : rowIdx f.off = b) (hb : 92 ≠ b := by decide) :
    fget (headOut h s) f = fget s f :=
  fget_setFlag_other _ (.inl (ne_of_rowIdx (HEAD_STATUS_CM_OUT_row h) hrow hb))

/-- The fields of a tap that its common-mode average writes. -/
theorem execCmAverageDone_spec {s : State} {t : Fin 256} {h : Nat} (mv last : Nat) (ho : tapOwner s t = some h) :
    ∃ u, execCmAverageDone t mv last s = .next u ∧ fget u (TAP_CM_CM_MV t) = mv % 2 ^ 12 ∧ flag u (TAP_CM_VALID t) = true ∧
      flag u (TAP_STATUS_CM_OUT t) = (flag s (SLC_CMWIN_CM_EN (t / 16)) &&
        !(decide (min 1800 (fget s (SLC_CMWIN_CM_LO (t / 16))) ≤ last) &&
          decide (last ≤ min 1800 (fget s (SLC_CMWIN_CM_HI (t / 16)))))) := by
  have hcm : (TAP_STATUS_CM_OUT t).off ≠ TAP_CM t := ne_of_rowIdx (TAP_STATUS_row t) (TAP_CM_row t)
  unfold execCmAverageDone
  rw [ho]
  refine ⟨_, rfl, ?_, ?_, ?_⟩
  · rw [fget_headOut h _ (TAP_CM_CM_MV_row t)]
    simp only [fsets, List.foldl_cons, List.foldl_nil]
    rw [fget_fset_other _ (.inl hcm), fget_fset_other _ (.inr (show 15 < 32 ∧ (15 < 0 ∨ 11 < 15) by decide)),
      fget_fset _ (show 11 < 32 by decide)]
    rfl
  · rw [flag, fget_headOut h _ (TAP_CM_VALID_row t)]
    simp only [fsets, List.foldl_cons, List.foldl_nil]
    rw [fget_fset_other _ (.inl hcm), fget_fset _ (show 15 < 32 by decide)]
    rfl
  · rw [flag, fget_headOut h _ (TAP_STATUS_CM_OUT_row t)]
    exact flag_setFlag _ (show 0 < 32 ∧ 0 ≤ 0 by decide)

/-! Writes of TAP_CTL and TAP_CLAMP (R122). -/

/-- TAP_EVENTS is neither of the registers of the fixed class. -/
theorem TAP_EVENTS_ne_fixed (t : Nat) (clamp : Bool) : TAP_EVENTS t ≠ if clamp then TAP_CLAMP t else TAP_CTL t := by
  cases clamp
  · exact ne_of_rowIdx (TAP_EVENTS_row t) (TAP_CTL_row t)
  · exact ne_of_rowIdx (TAP_EVENTS_row t) (TAP_CLAMP_row t)

/-! Writes of TAP_PHASE and TAP_PGA (R123). -/

/-- The register of the live class that a command names. -/
def liveOff (t : Nat) (pga : Bool) : Nat := if pga then TAP_PGA t else TAP_PHASE t

theorem liveOff_row (t : Nat) (pga : Bool) : rowIdx (liveOff t pga) = if pga then 110 else 108 := by
  cases pga
  · exact TAP_PHASE_row t
  · exact TAP_PGA_row t

/-- TAP_STATUS is neither of the registers of the live class. -/
theorem TAP_STATUS_ne_live (t : Nat) (pga : Bool) : TAP_STATUS t ≠ liveOff t pga :=
  ne_of_rowIdx (TAP_STATUS_row t) (liveOff_row t pga) (by cases pga <;> decide)

/-- A register of the live class stored, and the white tracking of the tap's heads restarted (R221). -/
def liveStore (t : Nat) (pga : Bool) (v : Nat) (s : State) : State := whiteRestartTap t (writeRw (liveOff t pga) v s)

/-- The store changes TAP_PHASE and TAP_PGA (rows 108 and 110), and what the restart changes. -/
theorem liveStore_within (t : Nat) (pga : Bool) (v : Nat) (s : State) :
    Within (0x40000000000000000000000000000000000000000080000 ||| 2 ^ 140 ||| 2 ^ 142) s (liveStore t pga v s) := by
  have hr : Reach (0x40000000000000000000000000000000000000000080000 ||| 2 ^ 140 ||| 2 ^ 142) (liveOff t pga) :=
    .ite (Sub.refl _) (.of (TAP_PGA_row t) (by decide)) (.of (TAP_PHASE_row t) (by decide))
  exact whiteRestartTap_within (Sub.of (by decide)) (writeRw_within hr (Within.refl _ s))

/-- The restart leaves the register that was stored. -/
theorem reg_liveStore (t : Nat) (pga : Bool) (v : Nat) (s : State) :
    reg (liveStore t pga v s) (liveOff t pga) = reg (writeRw (liveOff t pga) v s) (liveOff t pga) :=
  (whiteRestartTap_within (Sub.refl _) (Within.refl _ _)).reg (clearOf_of_row (liveOff_row t pga) (by cases pga <;> decide))

/-- What follows the store: for a tap with an owner the write waits, for another tap it is active. -/
def liveThen (t : Nat) (pga : Bool) (s : State) : State :=
  match tapOwner s t with
  | some _ =>
    let x := getTap s t
    setTap t (if pga then { x with pgaPend := some s.time } else { x with phasePend := some s.time })
      (setFlag s (TAP_STATUS_PEND t) true)
  | none => activate s (liveOff t pga)

theorem execTapLiveWrite_eq (t : Fin 256) (pga : Bool) (v : Word) (s : State) :
    execTapLiveWrite t pga v s = ok (onWrite (liveOff t pga) (fun s => liveThen t pga (liveStore t pga v.toNat s)) s) := rfl

/-! Writes of SLC_CMWIN (R114 to R116). -/

/-- What step i of a loop makes and every step keeps, holds for each i as the loop ends. -/
theorem forN_makes {P : Nat → State → Prop} {f : Nat → State → State} {n : Nat} (make : ∀ i s, P i (f i s))
    (keep : ∀ i j s, P i s → P i (f j s)) (s : State) {i : Nat} (hi : i < n) : P i (forN n f s) := by
  induction n with
  | zero => exact absurd hi (Nat.not_lt_zero i)
  | succ n ih =>
    have hs : forN (n + 1) f s = f n (forN n f s) := by
      rw [forN, forN, List.range_succ, List.foldl_append, List.foldl_cons, List.foldl_nil]
    rw [hs]
    rcases Nat.lt_succ_iff_lt_or_eq.1 hi with h | rfl
    · exact keep _ _ _ (ih h)
    · exact make _ _

/-- The window of group g stored, and the outside counts of its taps at 0. -/
def windowStore (g v : Nat) (s : State) : State :=
  forN 16 (fun i s => setTap (16 * g + i) { getTap s (16 * g + i) with outside := 0 } s) (writeRw (SLC_CMWIN g) v s)

/-- Every tap of group g is inside, and the heads show it. -/
def allInside (g : Nat) (s : State) : State :=
  forN 16 headOut (forN 16 (fun i s => setFlag s (TAP_STATUS_CM_OUT (16 * g + i)) false) s)

theorem execSlcCmwinWrite_eq (g : Fin 16) (v : Word) (s : State) :
    execSlcCmwinWrite g v s = ok (onWrite (SLC_CMWIN g) (fun s =>
      let u := windowStore g v.toNat s
      whenS (!flag u (SLC_CMWIN_CM_EN g)) (allInside g) u) s) := rfl

theorem reg_windowStore (g v : Nat) (s : State) (off : Nat) :
    reg (windowStore g v s) off = reg (writeRw (SLC_CMWIN g) v s) off := by
  unfold windowStore forN
  exact foldl_keeps (P := fun u => reg u off = reg (writeRw (SLC_CMWIN g) v s) off)
    (fun u i h => (reg_setTap u (16 * g + i) _ off).trans h) rfl

/-- A CM_OUT that is 0 stays 0 as that of any tap is cleared. -/
theorem flag_clear_CM_OUT (t k : Nat) {s : State} (h : flag s (TAP_STATUS_CM_OUT t) = false) :
    flag (setFlag s (TAP_STATUS_CM_OUT k) false) (TAP_STATUS_CM_OUT t) = false := by
  by_cases e : TAP_STATUS k = TAP_STATUS t
  · rw [TAP_STATUS_CM_OUT, e]
    exact flag_setFlag false (show 0 < 32 ∧ 0 ≤ 0 by decide)
  · exact (flag_setFlag_other false (.inl e)).trans h

theorem allInside_CM_OUT (g : Nat) (s : State) {i : Nat} (hi : i < 16) :
    flag (allInside g s) (TAP_STATUS_CM_OUT (16 * g + i)) = false := by
  have htaps := forN_makes (P := fun i u => flag u (TAP_STATUS_CM_OUT (16 * g + i)) = false)
    (fun _ _ => flag_setFlag false (show 0 < 32 ∧ 0 ≤ 0 by decide)) (fun _ _ _ => flag_clear_CM_OUT _ _) s hi
  unfold allInside
  refine foldl_keeps (P := fun u => flag u (TAP_STATUS_CM_OUT (16 * g + i)) = false) (fun u h hu => ?_) htaps
  rw [flag, fget_headOut h u (TAP_STATUS_CM_OUT_row _)]
  exact hu

/-- Only TAP_STATUS and HEAD_STATUS change, rows 111 and 92 of the map. -/
theorem reg_allInside (g : Nat) (s : State) (k : Nat) : reg (allInside g s) (SLC_CMWIN k) = reg s (SLC_CMWIN k) := by
  have hm : Within (2 ^ 143 ||| 2 ^ 124) s (allInside g s) :=
    forN_within (fun _ _ => headOut_within (Sub.of (by decide)))
      (forN_within (fun _ _ => setFlag_within (.of (TAP_STATUS_CM_OUT_row _) (by decide))) (Within.refl _ s))
  exact hm.reg (clearOf_of_row (SLC_CMWIN_row k))

end Sys2Proof.Machine

open Sys2Proof Sys2Proof.Machine

/-- Settles O10: the average and each of the three writes, by who owns the tap or by CM_EN of the window as written. -/
theorem tapRegistersChangeByRule : Obligations.TapRegistersChangeByRule := by
  refine ⟨fun s t h mv last _ ho => ?_, fun s t clamp v _ hm => ?_, fun s t pga v _ hm => ?_, fun s g v _ hm => ?_⟩
  · exact execCmAverageDone_spec mv last ho
  · refine exec_onWrite rfl hm fun u hu => ?_
    rw [tapOwner_counted hu]
    cases tapOwner s t with
    | none => exact reg_writeRw_counted hu _ v.toNat
    | some h =>
      exact ⟨flag_setFlag true (show 2 < 32 ∧ 2 ≤ 2 by decide),
        (reg_setRaw_other _ (TAP_EVENTS_ne_fixed t clamp)).trans (reg_counted hu _)⟩
  · refine exec_onWrite (execTapLiveWrite_eq t pga v s) hm fun u hu => ?_
    have hw := liveStore_within t pga v.toNat u
    have hreg := (reg_liveStore t pga v.toNat u).trans (reg_writeRw_counted hu _ v.toNat)
    have ho : tapOwner (liveStore t pga v.toNat u) t = tapOwner s t :=
      (tapOwner_of_within hw t).trans (tapOwner_counted hu t)
    unfold liveThen
    rw [ho]
    cases tapOwner s t with
    | none => exact ⟨hreg, act_activate _ _⟩
    | some h =>
      exact ⟨(reg_setRaw_other _ (TAP_STATUS_ne_live t pga)).trans hreg, flag_setFlag true (show 8 < 32 ∧ 8 ≤ 8 by decide),
        (hw.parts .active (by decide)).trans (active_counted hu)⟩
  · refine exec_onWrite (execSlcCmwinWrite_eq g v s) hm fun u hu => ?_
    have hreg : reg (windowStore g v.toNat u) (SLC_CMWIN g) = reg (writeRw (SLC_CMWIN g) v.toNat s) (SLC_CMWIN g) :=
      (reg_windowStore g v.toNat u _).trans (reg_writeRw_counted hu _ _)
    generalize windowStore g v.toNat u = w at hreg ⊢
    dsimp only [whenS]
    cases hen : flag w (SLC_CMWIN_CM_EN g) with
    | true => exact ⟨hreg, fun hoff => absurd (hen.symm.trans hoff) (by decide)⟩
    | false => exact ⟨(reg_allInside g w g).trans hreg, fun _ i => allInside_CM_OUT g w i.isLt⟩
end

section
/-! Slices: fields and parts of the state that their operations share, and rotation steps (spec/05, R139 to R144). -/

namespace Sys2Proof.Machine

/-! Fields whose register has an index. The side conditions here and below are explicit and closed by rfl: a default argument by a
tactic makes the elaboration of each use wait until everything above it has been checked. -/

/-- Fields of one register, one above the other. -/
theorem Fld.apart_of_bits {f g : Fld}
    (h : (decide (f.hi < 32) && (decide (f.hi < g.lo) || decide (g.hi < f.lo))) = true) : f.Apart g := by
  simp only [Bool.and_eq_true, Bool.or_eq_true, decide_eq_true_eq] at h
  exact .inr h

/-- Fields of registers in two rows of the map. -/
theorem Fld.apart_of_rows {f g : Fld} {a b : Nat} (hf : rowIdx f.off = a) (hg : rowIdx g.off = b) (h : (a == b) = false) :
    f.Apart g :=
  .inl (ne_of_rowIdx hf hg (ne_of_beq_false h))

/-- A field reads the value written to it, where that value fits. -/
theorem fget_fset_of_lt {s : State} {f : Fld} {x : Nat} (hx : x < 2 ^ (f.hi + 1 - f.lo))
    (h : decide (f.hi < 32) = true) : fget (fset s f x) f = x :=
  (fget_fset x (of_decide_eq_true h)).trans (Nat.mod_eq_of_lt hx)

/-! What an event that the counters see, and what lies outside the parts of an operation. -/

theorem Counted.regs {s u : State} (h : Counted s u) : u.regs = s.regs := by
  obtain ⟨p, g, rfl⟩ := h
  rfl

theorem Counted.groups {s u : State} (h : Counted s u) : u.groups = s.groups := by
  obtain ⟨p, g, rfl⟩ := h
  rfl

theorem Counted.time {s u : State} (h : Counted s u) : u.time = s.time := by
  obtain ⟨p, g, rfl⟩ := h
  rfl

theorem fget_of_regs_eq {s t : State} (h : t.regs = s.regs) (f : Fld) : fget t f = fget s f := by
  rw [fget, fget, raw, raw, h]

theorem getGroup_of_groups_eq {s t : State} (h : t.groups = s.groups) (g : Nat) : getGroup t g = getGroup s g := by
  rw [getGroup, getGroup, h]

theorem Within.time_eq {m : Nat} {s t : State} (h : Within m s t) (c : m.testBit 1 = false) : t.time = s.time :=
  h.parts .time (by simp [Part.outside, Part.bit, c])

theorem Within.getGroup_eq {m : Nat} {s t : State} (h : Within m s t) (g : Nat) (c : m.testBit 16 = false) :
    getGroup t g = getGroup s g :=
  getGroup_of_groups_eq (h.parts .groups (by simp [Part.outside, Part.bit, c])) g

/-- A field stands whose row is not among the parts. -/
theorem Within.fget_row {m b : Nat} {s t : State} (h : Within m s t) {f : Fld} (hrow : rowIdx f.off = b)
    (c : (m.testBit (32 + b) || m.testBit 31) = false) : Machine.fget t f = Machine.fget s f := by
  obtain ⟨hb, hall⟩ := Bool.or_eq_false_iff.1 c
  exact h.fget (clearOf_of_row hrow hb hall)

/-- A flag stands whose row is not among the parts. -/
theorem Within.flag_row {m b : Nat} {s t : State} (h : Within m s t) {f : Fld} (hrow : rowIdx f.off = b)
    (c : (m.testBit (32 + b) || m.testBit 31) = false) : Machine.flag t f = Machine.flag s f := by
  rw [Machine.flag, h.fget_row hrow c, Machine.flag]

theorem pmcEvent_counted (ev : Nat) (s : State) : Counted s (pmcEvent ev s) := pmcEvents_counted ev {} 1 s

@[simp] theorem fget_pmcEvent (ev : Nat) (s : State) (f : Fld) : fget (pmcEvent ev s) f = fget s f :=
  fget_of_regs_eq (pmcEvent_counted ev s).regs f

@[simp] theorem flag_pmcEvent (ev : Nat) (s : State) (f : Fld) : flag (pmcEvent ev s) f = flag s f :=
  flag_counted (pmcEvent_counted ev s) f

@[simp] theorem getGroup_pmcEvent (ev : Nat) (s : State) (g : Nat) : getGroup (pmcEvent ev s) g = getGroup s g :=
  getGroup_of_groups_eq (pmcEvent_counted ev s).groups g

@[simp] theorem pmcEvent_time (ev : Nat) (s : State) : (pmcEvent ev s).time = s.time := (pmcEvent_counted ev s).time

/-! A visit begins (R139 to R144). -/

/-- A run that starts in place stands in SLC_GSTATE, with its slice and its end (R135, R143). -/
theorem runInPlace_spec (g i : Nat) (s : State) :
    fget (runInPlace g i s) (SLC_GSTATE_PHASE g) = 2 ∧ (getGroup (runInPlace g i s) g).running = i ∧
      (getGroup (runInPlace g i s) g).runEnd = s.time + 1080000 := by
  refine ⟨?_, ?_, ?_⟩
  · rw [runInPlace, fget_setGroup]
    exact fget_fset_of_lt (show 2 < 8 by decide) rfl
  · rw [runInPlace, getGroup_setGroup]
  · rw [runInPlace, getGroup_setGroup]

/-- The state in which a visit that may run begins: no step is pending, FAILS shows the slice, and the visit is counted. -/
def visitOpened (g : Nat) (s : State) : State :=
  pmcEvent 0x28 (fset (setGroup g { getGroup s g with stepPend := false } s) (SLC_GSTATE_FAILS g)
    (nget (getGroup s g).fails (fget s (SLC_GSTATE_VISIT g))))

theorem visitOpened_time (g : Nat) (s : State) : (visitOpened g s).time = s.time := pmcEvent_time _ _

theorem visitOpened_guestTap (g : Nat) (s : State) :
    fget (visitOpened g s) (SLC_GSTATE_GUEST_TAP g) = fget s (SLC_GSTATE_GUEST_TAP g) := by
  rw [visitOpened, fget_pmcEvent, fget_fset_other _ (Fld.apart_of_bits rfl), fget_setGroup]

theorem visitOpened_within (g : Nat) (s : State) : Within (2 ^ 153 ||| 0x11001) s (visitOpened g s) :=
  pmcEvent_within (Sub.of (by decide)) (fset_within (.of (SLC_GSTATE_FAILS_row g) (by decide))
    (setGroup_within (Sub.of (by decide)) (Within.refl _ s)))

theorem visitOpened_owner (g t : Nat) (s : State) : tapOwner (visitOpened g s) t = tapOwner s t :=
  tapOwner_of_within (visitOpened_within g s) t rfl rfl rfl

theorem beginVisit_refused {g : Fin 16} {s : State} (hbg : flag s PWR_STATUS_BG_OK = false) :
    beginVisit g s = setFlag (setGroup g { getGroup s g with stepPend := false } s) SLC_EVENTS_PRECOND true := by
  unfold beginVisit
  rw [if_pos (by rw [flag_setGroup, hbg]; rfl)]

/-- What a visit to slice i does, by the head that owns the slice's tap: a run in place, or the wait for a band-line boundary. -/
def visitProceeds (g : Fin 16) (i : Nat) (s : State) : Option Nat → State
  | none => runInPlace g i s
  | some h =>
    if fget s (SLC_GSTATE_GUEST_TAP g) = i then runInPlace g i s
    else
      let u := fset s (SLC_GSTATE_PHASE g) 1
      if atBoundary u h then schedule u u.time (.guestHandover g) else u

theorem beginVisit_eq {g : Fin 16} {s : State} (hbg : flag s PWR_STATUS_BG_OK = true) :
    beginVisit g s = visitProceeds g (fget s (SLC_GSTATE_VISIT g)) (visitOpened g s)
      (if fget s (SLC_GSTATE_VISIT g) < 16 then tapOwner s (16 * g + fget s (SLC_GSTATE_VISIT g)) else none) := by
  unfold beginVisit
  rw [if_neg (by rw [flag_setGroup, hbg]; decide), getGroup_setGroup, ← visitOpened_owner g]
  rfl

/-- A visit that a head's tap holds up waits for the boundary; every other visit runs at once (R143, R144). -/
theorem visitProceeds_spec (g : Fin 16) (i : Nat) (s : State) (o : Option Nat) :
    let t := visitProceeds g i s o
    if o.isSome = true ∧ fget s (SLC_GSTATE_GUEST_TAP g) ≠ i then fget t (SLC_GSTATE_PHASE g) = 1
    else fget t (SLC_GSTATE_PHASE g) = 2 ∧ (getGroup t g).running = i ∧ (getGroup t g).runEnd = s.time + 1080000 := by
  cases o with
  | none => exact runInPlace_spec g i s
  | some h =>
    by_cases hi : fget s (SLC_GSTATE_GUEST_TAP g) = i
    · simp only [visitProceeds, hi, if_true, ne_eq, not_true, and_false, if_false]
      exact runInPlace_spec g i s
    · have hph : fget (fset s (SLC_GSTATE_PHASE g) 1) (SLC_GSTATE_PHASE g) = 1 := fget_fset_of_lt (show 1 < 8 by decide) rfl
      simp only [visitProceeds, hi, if_false, ne_eq, not_false_eq_true, and_true, Option.isSome_some, if_true]
      split
      · exact hph
      · exact hph

/-- A rotation step that may run begins a visit (R139, R140, R142). -/
theorem execRotationStep_begins {g : Fin 16} {s : State} (hr : rotates s g = true)
    (hd : stepDue s g = true ∨ (getGroup s g).stepPend = true) (hph : fget s (SLC_GSTATE_PHASE g) = 0)
    (hrun : heldByRun s g = false) : execRotationStep g s = ok (beginVisit g s) := by
  have hdue : (!stepDue s g && !(getGroup s g).stepPend) = false := by
    rcases hd with h | h <;> simp [h]
  simp [execRotationStep, hr, hdue, hph, hrun]

/-- A step that falls due during a visit, or while a run holds a head of the group, stays pending (R142). -/
theorem execRotationStep_pends {g : Fin 16} {s : State} (hr : rotates s g = true) (hd : stepDue s g = true)
    (h : fget s (SLC_GSTATE_PHASE g) ≠ 0 ∨ heldByRun s g = true) :
    execRotationStep g s = ok (setGroup g { getGroup s g with stepPend := true } s) := by
  simp [execRotationStep, hr, hd, h]

/-- At a boundary the guest takes the tap of the visited slice, whose run starts (R144 step 1). -/
theorem execGuestHandover_takes {g : Fin 16} {h : Nat} {s : State} (hph : fget s (SLC_GSTATE_PHASE g) = 1)
    (hv : fget s (SLC_GSTATE_VISIT g) < 16) (ho : tapOwner s (16 * g + fget s (SLC_GSTATE_VISIT g)) = some h)
    (hb : atBoundary s h = true) :
    execGuestHandover g s = ok (runInPlace g (fget s (SLC_GSTATE_VISIT g))
      (setFlag (fset s (SLC_GSTATE_GUEST_TAP g) (fget s (SLC_GSTATE_VISIT g)))
        (TAP_STATUS_GUEST (16 * g + fget s (SLC_GSTATE_VISIT g))) true)) := by
  unfold execGuestHandover
  rw [if_neg (by omega), ho]
  exact if_pos hb

/-- A run that starts changes PHASE only of the registers. -/
theorem fget_runInPlace (g i : Nat) (s : State) {f : Fld} (h : (SLC_GSTATE_PHASE g).Apart f) :
    fget (runInPlace g i s) f = fget s f := by
  rw [runInPlace, fget_setGroup, fget_fset_other _ h]

end Sys2Proof.Machine

open Sys2Proof Sys2Proof.Machine

/-- Settles O11: a step begins a visit, whose course the owner of the slice's tap decides, or it pends; the hand-over is a run whose
tap the guest has taken. -/
theorem rotationStepStartsAVisit : Obligations.RotationStepStartsAVisit := by
  refine ⟨fun s g _ hr hd hph hrun hbg => ?_, fun s g _ hr hd hph hrun hbg => ?_, fun s g _ hr hd h => ?_,
    fun s g h _ hph hv ho hb => ?_⟩
  · refine ⟨_, execRotationStep_begins hr hd hph hrun, ?_⟩
    have hspec := visitProceeds_spec g (fget s (SLC_GSTATE_VISIT g)) (visitOpened g s)
      (if fget s (SLC_GSTATE_VISIT g) < 16 then tapOwner s (16 * g + fget s (SLC_GSTATE_VISIT g)) else none)
    rw [← beginVisit_eq hbg, visitOpened_guestTap, visitOpened_time] at hspec
    by_cases hi : fget s (SLC_GSTATE_VISIT g) < 16
    · simpa [hi] using hspec
    · simpa [hi] using hspec
  · refine ⟨_, execRotationStep_begins hr hd hph hrun, ?_⟩
    rw [beginVisit_refused hbg]
    refine ⟨flag_setFlag true (by decide), ?_⟩
    rw [fget_setFlag_other _ (Fld.apart_of_rows SLC_EVENTS_PRECOND_row (SLC_GSTATE_PHASE_row g) rfl)]
    exact hph
  · exact ⟨_, execRotationStep_pends hr hd h, by rw [getGroup_setGroup], rfl⟩
  · refine ⟨_, execGuestHandover_takes hph hv ho hb, ?_⟩
    obtain ⟨hphase, hrunning, hend⟩ := runInPlace_spec g (fget s (SLC_GSTATE_VISIT g))
      (setFlag (fset s (SLC_GSTATE_GUEST_TAP g) (fget s (SLC_GSTATE_VISIT g)))
        (TAP_STATUS_GUEST (16 * g + fget s (SLC_GSTATE_VISIT g))) true)
    refine ⟨hphase, ?_, ?_, hrunning, hend⟩
    · rw [fget_runInPlace _ _ _ (Fld.apart_of_bits rfl),
        fget_setFlag_other _ (Fld.apart_of_rows (TAP_STATUS_GUEST_row _) (SLC_GSTATE_GUEST_TAP_row g) rfl)]
      exact fget_fset_of_lt (show _ < 32 by omega) rfl
    · rw [flag, fget_runInPlace _ _ _ (Fld.apart_of_rows (SLC_GSTATE_PHASE_row g) (TAP_STATUS_GUEST_row _) rfl)]
      exact flag_setFlag true (show 4 < 32 ∧ 4 ≤ 4 by decide)
end

section
/-! Writes of SLC_CMD: what each answer leaves, and the statement of spec/05 that rests on them (R139, R156). -/

namespace Sys2Proof.Machine

theorem cmdEnds_busy (code : Nat) (s : State) : flag (cmdEnds code s) SLC_CMDSTAT_BUSY = false :=
  (flag_fset_other code (Fld.apart_of_bits rfl)).trans (flag_setFlag (s := s) false (by decide))

theorem cmdEnds_code {code : Nat} (h : code < 256) (s : State) : fget (cmdEnds code s) SLC_CMDSTAT_CODE = code :=
  fget_fset_of_lt h rfl

/-- A write during a request is discarded. -/
theorem slcCmd_busy {g i : Nat} {reinst : Bool} {may : State → Bool} {s : State} (hb : flag s SLC_CMDSTAT_BUSY = true) :
    slcCmd g i reinst may s = setFlag s SLC_EVENTS_CMD_REJ true :=
  if_pos hb

/-- A request that may not run is refused. -/
theorem slcCmd_refused {g i : Nat} {reinst : Bool} {may : State → Bool} {s : State} (hb : flag s SLC_CMDSTAT_BUSY = false)
    (h : 17 ≤ i ∨ may s = false) : slcCmd g i reinst may s = cmdEnds 0x47 s := by
  have hno : (decide (17 ≤ i) || !may s) = true := by
    rcases h with h | h <;> simp [h]
  rw [slcCmd, hb, hno]
  rfl

/-- A request that may run begins its run, unless the band-gap monitor is out of range. -/
theorem slcCmd_accepted {g i : Nat} {reinst : Bool} {may : State → Bool} {s : State} (hb : flag s SLC_CMDSTAT_BUSY = false)
    (hi : i < 17) (h : may s = true) :
    let t := slcCmd g i reinst may s
    if flag s PWR_STATUS_BG_OK = true then
      flag t SLC_CMDSTAT_BUSY = true ∧ (getGroup t g).cmdSlice = i ∧ (getGroup t g).cmdEnd = s.time + 1080000
    else flag t SLC_CMDSTAT_BUSY = false ∧ fget t SLC_CMDSTAT_CODE = 0x45 ∧ flag t SLC_EVENTS_PRECOND = true := by
  have hmay : (decide (17 ≤ i) || !may s) = false := by simp [hi, h]
  unfold slcCmd
  rw [hb, hmay]
  cases flag s PWR_STATUS_BG_OK with
  | true => exact ⟨flag_setFlag true (by decide), by simp, by simp⟩
  | false =>
    refine ⟨(flag_setFlag_other true (by decide)).trans (cmdEnds_busy _ _), ?_, flag_setFlag true (by decide)⟩
    exact (fget_setFlag_other true (by decide)).trans (cmdEnds_code (by decide) s)

/-! The two requests. -/

/-- A run may be requested: rotation stands still, and the slice is parked and not in a run (R156 OP 1). -/
def mayRun (g i : Nat) (s : State) : Bool :=
  (bitOf (fget s SLC_SUSP_SUSP) g || !flag s SLC_CTL_ROT_EN) && isParked s g i && (getGroup s g).running != i
    && !(i == 16 && (fget s (SLC_GSTATE_GUEST_TAP g) != 16 || fget s (SLC_GSTATE_PHASE g) == 1))

/-- A reinstatement may be requested: in SERVICE, of a parked slice that is retired in the field or has failed (R156 OP 2). -/
def mayReinstate (g i : Nat) (s : State) : Bool :=
  modeIs s .service && isParked s g i
    && ((hasRetired s g && fget s (SLC_GRETIRE_SLICE g) == i && !flag s (SLC_GRETIRE_FACTORY g)) || bget (getGroup s g).failed i)

theorem exec_slcCmdRun (g : Fin 16) (i : Fin 32) (s : State) :
    exec (.slcCmdRun g i) s = ok (onWrite SLC_CMD (slcCmd g i false (mayRun g i)) s) := rfl

theorem exec_slcCmdReinstate (g : Fin 16) (i : Fin 32) (s : State) :
    exec (.slcCmdReinstate g i) s = ok (onWrite SLC_CMD (slcCmd g i true (mayReinstate g i)) s) := rfl

theorem mayRun_counted {s u : State} (h : Counted s u) (g i : Nat) : mayRun g i u = mayRun g i s := by
  obtain ⟨p, a, rfl⟩ := h
  rfl

theorem mayReinstate_counted {s u : State} (h : Counted s u) (g i : Nat) : mayReinstate g i u = mayReinstate g i s := by
  obtain ⟨p, a, rfl⟩ := h
  rfl

theorem mayRun_eq_false {g i : Nat} {s : State}
    (h : isParked s g i = false ∨ bitOf (fget s SLC_SUSP_SUSP) g = false ∧ flag s SLC_CTL_ROT_EN = true) :
    mayRun g i s = false := by
  rcases h with h | ⟨hsusp, hrot⟩
  · simp [mayRun, h]
  · simp [mayRun, hsusp, hrot]

theorem mayRun_eq_true {g i : Nat} {s : State} (hi : i < 16) (hp : isParked s g i = true) (hrot : flag s SLC_CTL_ROT_EN = false)
    (hrun : (getGroup s g).running = 17) : mayRun g i s = true := by
  have hguest : i ≠ 16 := by omega
  have hnot : 17 ≠ i := by omega
  simp [mayRun, hp, hrot, hrun, hguest, hnot]

theorem mayReinstate_eq_false {g i : Nat} {s : State} (h : isParked s g i = false ∨ s.mode.mode ≠ .service) :
    mayReinstate g i s = false := by
  rcases h with h | h <;> simp [mayReinstate, h]

theorem mayReinstate_eq_true {g i : Nat} {s : State} (hp : isParked s g i = true) (hm : s.mode.mode = .service)
    (hf : bget (getGroup s g).failed i = true) : mayReinstate g i s = true := by
  simp [mayReinstate, hp, hm, hf]

/-- A command that is a request, on a state in which no request is in progress, is refused where it may not run. -/
theorem request_refused {c : Instr} {g i : Nat} {reinst : Bool} {may : State → Bool} {s : State}
    (hc : exec c s = ok (onWrite SLC_CMD (slcCmd g i reinst may) s)) (hcount : ∀ u, Counted s u → may u = may s)
    (hm : hostMay s SLC_CMD = true) (hb : flag s SLC_CMDSTAT_BUSY = false) (h : 17 ≤ i ∨ may s = false) :
    ∃ t, exec c s = .next t ∧ flag t SLC_CMDSTAT_BUSY = false ∧ fget t SLC_CMDSTAT_CODE = 0x47 := by
  refine exec_onWrite hc hm fun u hu => ?_
  rw [slcCmd_refused ((flag_counted hu _).trans hb) (by rwa [hcount u hu])]
  exact ⟨cmdEnds_busy _ _, cmdEnds_code (by decide) u⟩

/-- A command that is a request, on a state in which no request is in progress, begins its run where it may. -/
theorem request_accepted {c : Instr} {g i : Nat} {reinst : Bool} {may : State → Bool} {s : State}
    (hc : exec c s = ok (onWrite SLC_CMD (slcCmd g i reinst may) s)) (hcount : ∀ u, Counted s u → may u = may s)
    (hm : hostMay s SLC_CMD = true) (hb : flag s SLC_CMDSTAT_BUSY = false) (hi : i < 17) (h : may s = true) :
    ∃ t, exec c s = .next t ∧
      if flag s PWR_STATUS_BG_OK = true then
        flag t SLC_CMDSTAT_BUSY = true ∧ (getGroup t g).cmdSlice = i ∧ (getGroup t g).cmdEnd = s.time + 1080000
      else flag t SLC_CMDSTAT_BUSY = false ∧ fget t SLC_CMDSTAT_CODE = 0x45 ∧ flag t SLC_EVENTS_PRECOND = true := by
  refine exec_onWrite hc hm fun u hu => ?_
  rw [← flag_counted hu, ← hu.time]
  exact slcCmd_accepted ((flag_counted hu _).trans hb) hi ((hcount u hu).trans h)

end Sys2Proof.Machine

open Sys2Proof Sys2Proof.Machine

/-- Settles O14: both commands are one request, which differs in what may run. -/
theorem sliceCommandsAreAnswered : Obligations.SliceCommandsAreAnswered := by
  refine ⟨fun s g i c hc _ hm hb => ?_, fun s g i c _ hm hb hc => ?_, fun s g i c _ hm hb hi hp hc => ?_⟩
  · have hreq : ∃ reinst may, exec c s = ok (onWrite SLC_CMD (slcCmd g i reinst may) s) := by
      rcases hc with rfl | rfl
      · exact ⟨_, _, exec_slcCmdRun g i s⟩
      · exact ⟨_, _, exec_slcCmdReinstate g i s⟩
    obtain ⟨reinst, may, hreq⟩ := hreq
    refine exec_onWrite hreq hm fun u hu => ?_
    have hbu : flag u SLC_CMDSTAT_BUSY = true := (flag_counted hu _).trans hb
    rw [slcCmd_busy hbu]
    exact ⟨flag_setFlag true (by decide), (flag_setFlag_other true (by decide)).trans hbu⟩
  · rcases hc with ⟨rfl, h⟩ | ⟨rfl, h⟩
    · exact request_refused (exec_slcCmdRun g i s) (fun _ hu => mayRun_counted hu g i) hm hb (h.imp_right mayRun_eq_false)
    · exact request_refused (exec_slcCmdReinstate g i s) (fun _ hu => mayReinstate_counted hu g i) hm hb
        (h.imp_right mayReinstate_eq_false)
  · rcases hc with ⟨rfl, hrot, hrun⟩ | ⟨rfl, hserv, hfail⟩
    · exact request_accepted (exec_slcCmdRun g i s) (fun _ hu => mayRun_counted hu g i) hm hb (Nat.lt_succ_of_lt hi)
        (mayRun_eq_true hi hp hrot hrun)
    · exact request_accepted (exec_slcCmdReinstate g i s) (fun _ hu => mayReinstate_counted hu g i) hm hb (Nat.lt_succ_of_lt hi)
        (mayReinstate_eq_true hp hserv hfail)
end

section
/-! What the operations on a group leave: its record, the fields of its registers, and who serves its taps (spec/05, R138 to R153). -/

namespace Sys2Proof.Machine

/-! Registers that decide the next visit. -/

theorem restPhase_of_within {m : Nat} {s u : State} (h : Within m s u) (g : Nat)
    (c : (m.testBit (32 + 118) || m.testBit 31) = false) : restPhase u g = restPhase s g := by
  rw [restPhase, h.fget_row SLC_SUSP_SUSP_row c, restPhase]

theorem nextVisit_of_within {m : Nat} {s u : State} (h : Within m s u) (g i : Nat)
    (c : (m.testBit (32 + 122) || m.testBit 31) = false) : nextVisit u g i = nextVisit s g i := by
  rw [nextVisit, h.flag_row (SLC_GRETIRE_VALID_row g) c, h.fget_row (SLC_GRETIRE_SLICE_row g) c, nextVisit]

theorem restPhase_lt (s : State) (g : Nat) : restPhase s g < 8 := by
  unfold restPhase
  split <;> decide

theorem nextVisit_lt (s : State) (g i : Nat) : nextVisit s g i < 32 := by
  have hskip (n : Nat) (b : Bool) (hn : n ≤ 16) : (if b = true then (if 16 ≤ n then 0 else n + 1) else n) < 32 := by
    split
    · split <;> omega
    · omega
  exact hskip _ _ (by split <;> omega)

/-! The record of a group. -/

@[simp] theorem getGroup_raise (cls src code : Nat) (items : List Nat) (s : State) (g : Nat) :
    getGroup (raise cls src code items s) g = getGroup s g :=
  (raise_within (Sub.refl _) (Within.refl _ s)).getGroup_eq g rfl

@[simp] theorem getGroup_fsets (s : State) (l : List (Fld × Nat)) (g : Nat) : getGroup (fsets s l) g = getGroup s g :=
  (fsets_within (m := 2 ^ 31) (fun _ _ => .all (by decide)) (Within.refl _ s)).getGroup_eq g rfl

@[simp] theorem getGroup_recordRetire (s : State) (g : Nat) : getGroup (recordRetire s) g = getGroup s g :=
  (recordRetire_within (Sub.refl _) (Within.refl _ s)).getGroup_eq g rfl

@[simp] theorem getGroup_releaseGuest (s : State) (g k : Nat) : getGroup (releaseGuest g s) k = getGroup s k :=
  (releaseGuest_within (Sub.refl _) (Within.refl _ s)).getGroup_eq k rfl

@[simp] theorem getGroup_slcFail (g i code count : Nat) (s : State) (k : Nat) :
    getGroup (slcFail g i code count s) k = getGroup s k :=
  (slcFail_within (Sub.refl _) (Within.refl _ s)).getGroup_eq k rfl

@[simp] theorem getGroup_clearFails (g i : Nat) (s : State) :
    getGroup (clearFails g i s) g = { getGroup s g with fails := nset (getGroup s g).fails i 0 } :=
  getGroup_setGroup _ _ _

@[simp] theorem getGroup_takeTrims (g i : Nat) (m : SliceMeas) (s : State) : getGroup (takeTrims g i m s) g =
    { getGroup s g with
      trims := tset (fun _ => {}) (getGroup s g).trims i (trimsOf m)
      passAt := nset (getGroup s g).passAt i s.time } := by
  rw [takeTrims, getGroup_pmcEvent, getGroup_setGroup]

@[simp] theorem getGroup_suspend (g : Nat) (s : State) :
    getGroup (suspend g s) g = { getGroup s g with running := 17, overlap := 0, stepPend := false } :=
  getGroup_setGroup _ _ _

@[simp] theorem getGroup_commitGuest (g i : Nat) (s : State) :
    getGroup (commitGuest g i s) g = { getGroup s g with committed := true } :=
  getGroup_setGroup _ _ _

@[simp] theorem getGroup_noteRetired (g i : Nat) (s : State) :
    getGroup (noteRetired g i s) g = { getGroup s g with failed := bset (getGroup s g).failed i true } := by
  rw [noteRetired, getGroup_recordRetire, getGroup_setGroup, getGroup_fsets]

/-- The record of a group with a slice failed that no guest covers (R153). -/
def markUncovered (x : GroupSt) (i : Nat) (tap : Option Nat) : GroupSt :=
  { x with failed := bset x.failed i true, uncovered := match tap with | some t => bset x.uncovered t true | none => x.uncovered }

theorem uncover_eq (g i : Nat) (tap : Option Nat) (s : State) : uncover g i tap s =
    limpCause SYS_LIMP_SLICE (report 0 SLC_EVENTS_UNCOVERED [g, i] (setGroup g (markUncovered (getGroup s g) i tap) s)) := rfl

/-- LIMP for a slice: the parts of limpCause, and SYS_LIMP, row 9 of the map. -/
theorem limpCause_slice_within (s : State) :
    Within (0x81100000200000000000000000000000000088000000000000001001381901 ||| 2 ^ 41) s (limpCause SYS_LIMP_SLICE s) :=
  limpCause_within (Sub.of (by decide)) (.of SYS_LIMP_SLICE_row (by decide)) (Within.refl _ s)

@[simp] theorem getGroup_report (cls : Nat) (f : Fld) (items : List Nat) (s : State) (g : Nat) :
    getGroup (report cls f items s) g = getGroup s g := by
  rw [report, getGroup_raise, getGroup_setFlag]

@[simp] theorem getGroup_uncover (g i : Nat) (tap : Option Nat) (s : State) :
    getGroup (uncover g i tap s) g = markUncovered (getGroup s g) i tap := by
  rw [uncover_eq, (limpCause_slice_within _).getGroup_eq _ rfl, getGroup_report, getGroup_setGroup]

/-- One more failure in a row is in the record of the group; the third begins the count anew (R150). -/
def failCounted (g i : Nat) (s : State) : State :=
  setGroup g { getGroup s g with
    fails := nset (getGroup s g).fails i (if 3 ≤ nget (getGroup s g).fails i + 1 then 0 else nget (getGroup s g).fails i + 1) } s

theorem countFail_eq (g i : Nat) (s : State) : (countFail g i s).1 =
    if fget s (SLC_GSTATE_VISIT g) == i then fset (failCounted g i s) (SLC_GSTATE_FAILS g) (min 2 (nget (getGroup s g).fails i + 1))
    else failCounted g i s :=
  rfl

@[simp] theorem getGroup_countFail (g i : Nat) (s : State) : getGroup (countFail g i s).1 g = { getGroup s g with
    fails := nset (getGroup s g).fails i
      (if 3 ≤ nget (getGroup s g).fails i + 1 then 0 else nget (getGroup s g).fails i + 1) } := by
  rw [countFail_eq]
  split
  · exact getGroup_setGroup _ _ _
  · exact getGroup_setGroup _ _ _

theorem countFail_third (g i : Nat) (s : State) : (countFail g i s).2 = decide (3 ≤ nget (getGroup s g).fails i + 1) := rfl

/-- A retirement, or a failure that no guest covers, leaves the results of the group's runs and the request in progress. -/
theorem retireByRuns_keeps (g i : Nat) (s : State) :
    let x := getGroup (retireByRuns g i s) g
    x.trims = (getGroup s g).trims ∧ x.resid = (getGroup s g).resid ∧ x.cmdSlice = (getGroup s g).cmdSlice := by
  unfold retireByRuns
  split
  · simp [markUncovered]
  · split <;> simp

/-! Fields of registers. -/

/-- Of SLC_GSTATE the count of failures changes FAILS only. -/
theorem fget_countFail (g i : Nat) (s : State) {f : Fld} (h : (SLC_GSTATE_FAILS g).Apart f) :
    fget (countFail g i s).1 f = fget s f := by
  rw [countFail_eq]
  split
  · exact fget_fset_other _ h
  · rfl

/-- What the retirement of a slice writes to the registers of the slices (R150). -/
def retiredFields (g i : Nat) (s : State) : List (Fld × Nat) :=
  [(SLC_GRETIRE_VALID g, 1), (SLC_GRETIRE_FACTORY g, 0), (SLC_GRETIRE_SLICE g, i),
    (SLC_STATUS_RETIRED, fget s SLC_STATUS_RETIRED + 1), (SLC_EVENTS_RETIRE, 1)]

/-- Besides those fields a retirement changes registers of the journal only. -/
theorem fget_noteRetired (g i : Nat) (s : State) {f : Fld}
    (hf : clearOf 0x4600000000000000000000000000000000000000000400000 f.off = true) :
    fget (noteRetired g i s) f = fget (fsets s (retiredFields g i s)) f := by
  rw [noteRetired, (recordRetire_within (Sub.refl _) (Within.refl _ _)).fget hf, fget_setGroup]
  rfl

theorem rowIdx_event {f : Fld} (hf : f.off = SLC_EVENTS) : rowIdx f.off = 117 := by
  rw [hf]
  exact SLC_EVENTS_row

/-- The bits of SLC_EVENTS but RETIRE stand as a slice is retired. -/
theorem fget_noteRetired_event (g i : Nat) (s : State) {f : Fld} (hf : f.off = SLC_EVENTS) (hlo : 0 < f.lo) :
    fget (noteRetired g i s) f = fget s f := by
  have hrow := rowIdx_event hf
  rw [fget_noteRetired g i s (clearOf_of_row hrow rfl rfl)]
  refine fget_fsets_other fun p hp => ?_
  simp only [retiredFields, List.map_cons, List.map_nil, List.mem_cons, List.not_mem_nil, or_false] at hp
  rcases hp with rfl | rfl | rfl | rfl | rfl
  · exact Fld.apart_of_rows (SLC_GRETIRE_VALID_row g) hrow rfl
  · exact Fld.apart_of_rows (SLC_GRETIRE_FACTORY_row g) hrow rfl
  · exact Fld.apart_of_rows (SLC_GRETIRE_SLICE_row g) hrow rfl
  · exact Fld.apart_of_rows SLC_STATUS_RETIRED_row hrow rfl
  · exact .inr ⟨by decide, .inl hlo⟩

/-- The bits of SLC_EVENTS above UNCOVERED stand as a failure is uncovered. -/
theorem fget_uncover_event (g i : Nat) (tap : Option Nat) (s : State) {f : Fld} (hf : f.off = SLC_EVENTS) (hlo : 2 < f.lo) :
    fget (uncover g i tap s) f = fget s f := by
  have hrow := rowIdx_event hf
  rw [uncover_eq, (limpCause_slice_within _).fget_row hrow rfl, report,
    (raise_within (Sub.refl _) (Within.refl _ _)).fget_row hrow rfl,
    fget_setFlag_other _ (.inr ⟨by decide, .inl hlo⟩), fget_setGroup]

/-- The bits of SLC_EVENTS above UNCOVERED stand as a slice is retired for its runs, or left uncovered. -/
theorem fget_retireByRuns_event (g i : Nat) (s : State) {f : Fld} (hf : f.off = SLC_EVENTS) (hlo : 2 < f.lo) :
    fget (retireByRuns g i s) f = fget s f := by
  have hrow := rowIdx_event hf
  have hraise : fget (raise 0 0xA 0x46 [g, i] (noteRetired g i s)) f = fget s f := by
    rw [(raise_within (Sub.refl _) (Within.refl _ _)).fget_row hrow rfl, fget_noteRetired_event g i s hf (by omega)]
  unfold retireByRuns
  split
  · exact fget_uncover_event g i _ s hf hlo
  · dsimp only
    rw [(suspend_within (Sub.refl _) (Within.refl _ _)).fget_row hrow rfl]
    split
    · rw [(commitGuest_within (Sub.refl _) (Within.refl _ _)).fget_row hrow rfl, hraise]
    · exact hraise

/-- What a failure reports: the code, the count and the slice in SLC_GLAST, and CAL_FAIL (R156). -/
theorem slcFail_spec {g i code : Nat} (count : Nat) (s : State) (hi : i < 32) (hcode : code < 256) :
    let t := slcFail g i code count s
    flag t SLC_EVENTS_CAL_FAIL = true ∧ fget t (SLC_GLAST_CODE g) = code ∧ fget t (SLC_GLAST_COUNT g) = count % 256 ∧
      fget t (SLC_GLAST_SLICE g) = i := by
  have hw := raise_within (m := 0x88000000000000000001001801) (cls := 2) (src := 0xA) (code := code) (items := [g, i, count])
    (Sub.refl _) (Within.refl _ (fsets s [(SLC_GLAST_CODE g, code), (SLC_GLAST_COUNT g, count), (SLC_GLAST_SLICE g, i),
      (SLC_EVENTS_CAL_FAIL, 1)]))
  have hev {f : Fld} (hf : rowIdx f.off = 124) : SLC_EVENTS_CAL_FAIL.Apart f := Fld.apart_of_rows SLC_EVENTS_CAL_FAIL_row hf rfl
  dsimp only [slcFail]
  simp only [flag_pmcEvent, fget_pmcEvent]
  rw [hw.flag_row SLC_EVENTS_CAL_FAIL_row rfl, hw.fget_row (SLC_GLAST_CODE_row g) rfl,
    hw.fget_row (SLC_GLAST_COUNT_row g) rfl, hw.fget_row (SLC_GLAST_SLICE_row g) rfl]
  simp only [fsets, List.foldl_cons, List.foldl_nil]
  refine ⟨flag_setFlag true (by decide), ?_, ?_, ?_⟩
  · rw [fget_fset_other _ (hev (SLC_GLAST_CODE_row g)), fget_fset_other _ (Fld.apart_of_bits rfl),
      fget_fset_other _ (Fld.apart_of_bits rfl)]
    exact fget_fset_of_lt hcode rfl
  · rw [fget_fset_other _ (hev (SLC_GLAST_COUNT_row g)), fget_fset_other _ (Fld.apart_of_bits rfl)]
    exact fget_fset _ (show 23 < 32 by decide)
  · rw [fget_fset_other _ (hev (SLC_GLAST_SLICE_row g))]
    exact fget_fset_of_lt hi rfl

/-! The guest leaves a tap, and a visit ends. -/

theorem releaseGuest_guestTap (g : Nat) (s : State) : fget (releaseGuest g s) (SLC_GSTATE_GUEST_TAP g) = 16 := by
  unfold releaseGuest
  dsimp only
  split
  · assumption
  · exact fget_fset_of_lt (show 16 < 32 by decide) rfl

/-- The tap that the guest leaves is no longer served by it. -/
theorem releaseGuest_GUEST {g i : Nat} {s : State} (h : fget s (SLC_GSTATE_GUEST_TAP g) = i) (hi : i ≠ 16) :
    flag (releaseGuest g s) (TAP_STATUS_GUEST (16 * g + i)) = false := by
  unfold releaseGuest
  rw [h, if_neg hi, flag_fset_other _ (Fld.apart_of_rows (SLC_GSTATE_GUEST_TAP_row g) (TAP_STATUS_GUEST_row _) rfl)]
  exact flag_setFlag false (show 4 < 32 ∧ 4 ≤ 4 by decide)

theorem releaseGuest_visit (g : Nat) (s : State) : fget (releaseGuest g s) (SLC_GSTATE_VISIT g) = fget s (SLC_GSTATE_VISIT g) := by
  unfold releaseGuest
  dsimp only
  split
  · rfl
  · rw [fget_fset_other _ (Fld.apart_of_bits rfl),
      fget_setFlag_other _ (Fld.apart_of_rows (TAP_STATUS_GUEST_row _) (SLC_GSTATE_VISIT_row g) rfl)]

/-- The state in which a visit has ended, before SLC_GSTATE shows it: no run, no overlap, and a step that waited falls due. -/
def visitClosed (g : Fin 16) (s : State) : State :=
  whenS (getGroup s g).stepPend (fun u => schedule u u.time (.rotationStep g))
    (setGroup g { getGroup s g with running := 17, overlap := 0 } s)

theorem endVisit_eq (g : Fin 16) (s : State) : endVisit g s = fsets (visitClosed g s)
    [(SLC_GSTATE_PHASE g, restPhase (visitClosed g s) g),
      (SLC_GSTATE_VISIT g, nextVisit (visitClosed g s) g (fget s (SLC_GSTATE_VISIT g))),
      (SLC_GSTATE_FAILS g,
        nget (getGroup (visitClosed g s) g).fails (nextVisit (visitClosed g s) g (fget s (SLC_GSTATE_VISIT g))))] := by
  have hg : finOf 16 (g : Nat) = some g := by simp [finOf]
  unfold endVisit
  rw [hg]
  rfl

theorem visitClosed_within (g : Fin 16) (s : State) : Within 0x10001 s (visitClosed g s) :=
  whenS_within (fun _ => schedule_within (Sub.of (by decide))) (setGroup_within (Sub.of (by decide)) (Within.refl _ s))

theorem getGroup_endVisit (g : Fin 16) (s : State) :
    getGroup (endVisit g s) g = { getGroup s g with running := 17, overlap := 0 } := by
  rw [endVisit_eq, getGroup_fsets, visitClosed, whenS]
  split
  · rw [getGroup_schedule, getGroup_setGroup]
  · rw [getGroup_setGroup]

/-- A visit that is over leaves the group at rest, before the next slice (R141). -/
theorem endVisit_spec (g : Fin 16) (s : State) :
    let t := endVisit g s
    fget t (SLC_GSTATE_PHASE g) = restPhase s g ∧ fget t (SLC_GSTATE_VISIT g) = nextVisit s g (fget s (SLC_GSTATE_VISIT g)) ∧
      fget t (SLC_GSTATE_GUEST_TAP g) = fget s (SLC_GSTATE_GUEST_TAP g) := by
  have hw := visitClosed_within g s
  rw [endVisit_eq, restPhase_of_within hw g rfl, nextVisit_of_within hw g _ rfl]
  simp only [fsets, List.foldl_cons, List.foldl_nil]
  refine ⟨?_, ?_, ?_⟩
  · rw [fget_fset_other _ (Fld.apart_of_bits rfl), fget_fset_other _ (Fld.apart_of_bits rfl)]
    exact fget_fset_of_lt (restPhase_lt s g) rfl
  · rw [fget_fset_other _ (Fld.apart_of_bits rfl)]
    exact fget_fset_of_lt (nextVisit_lt s g _) rfl
  · rw [fget_fset_other _ (Fld.apart_of_bits rfl), fget_fset_other _ (Fld.apart_of_bits rfl),
      fget_fset_other _ (Fld.apart_of_bits rfl)]
    exact hw.fget (clearOf_small (by decide))

/-- A field of another register than SLC_GSTATE stands as a visit ends. -/
theorem fget_endVisit (g : Fin 16) (s : State) {f : Fld} {b : Nat} (hf : rowIdx f.off = b) (hb : ((121 : Nat) == b) = false) :
    fget (endVisit g s) f = fget s f := by
  rw [endVisit_eq, fget_fsets_other, (visitClosed_within g s).fget (clearOf_small (by decide))]
  intro p hp
  simp only [List.map_cons, List.map_nil, List.mem_cons, List.not_mem_nil, or_false] at hp
  rcases hp with rfl | rfl | rfl
  · exact Fld.apart_of_rows (SLC_GSTATE_PHASE_row g) hf hb
  · exact Fld.apart_of_rows (SLC_GSTATE_VISIT_row g) hf hb
  · exact Fld.apart_of_rows (SLC_GSTATE_FAILS_row g) hf hb

end Sys2Proof.Machine
end

section
/-! Faults of slices: the retirement, the guest that takes the tap, the report, and the statement of spec/05 that rests on them
(R150 to R152). -/

namespace Sys2Proof.Machine

/-- The retirement list names the slice, and RETIRE is set (R150). -/
theorem noteRetired_spec {g i : Nat} (s : State) (hi : i < 32) :
    let t := noteRetired g i s
    flag t (SLC_GRETIRE_VALID g) = true ∧ fget t (SLC_GRETIRE_SLICE g) = i ∧ flag t SLC_EVENTS_RETIRE = true := by
  have hstat {f : Fld} (hf : rowIdx f.off = 122) : SLC_STATUS_RETIRED.Apart f := Fld.apart_of_rows SLC_STATUS_RETIRED_row hf rfl
  have hev {f : Fld} (hf : rowIdx f.off = 122) : SLC_EVENTS_RETIRE.Apart f := Fld.apart_of_rows SLC_EVENTS_RETIRE_row hf rfl
  dsimp only [flag]
  rw [fget_noteRetired g i s (clearOf_of_row (SLC_GRETIRE_VALID_row g) rfl rfl),
    fget_noteRetired g i s (clearOf_of_row (SLC_GRETIRE_SLICE_row g) rfl rfl),
    fget_noteRetired g i s (clearOf_of_row SLC_EVENTS_RETIRE_row rfl rfl)]
  simp only [retiredFields, fsets, List.foldl_cons, List.foldl_nil]
  refine ⟨?_, ?_, flag_setFlag true (by decide)⟩
  · have hvalid := SLC_GRETIRE_VALID_row g
    rw [fget_fset_other _ (hev hvalid), fget_fset_other _ (hstat hvalid), fget_fset_other _ (Fld.apart_of_bits rfl),
      fget_fset_other _ (Fld.apart_of_bits rfl)]
    exact flag_setFlag true (show 31 < 32 ∧ 31 ≤ 31 by decide)
  · have hslice := SLC_GRETIRE_SLICE_row g
    rw [fget_fset_other _ (hev hslice), fget_fset_other _ (hstat hslice)]
    exact fget_fset_of_lt hi rfl

theorem suspend_SUSP (g : Nat) (s : State) :
    fget (suspend g s) SLC_SUSP_SUSP = setBit (fget s SLC_SUSP_SUSP) g % 65536 := by
  dsimp only [suspend]
  rw [fget_setGroup, fget_fset_other _ (Fld.apart_of_rows (SLC_GSTATE_PHASE_row g) SLC_SUSP_SUSP_row rfl)]
  exact fget_fset _ (by decide)

/-- The guest is committed: GUEST_TAP names the tap, and the guest serves it where a head owns it (R150). -/
theorem commitGuest_spec {g i : Nat} (s : State) (hi : i < 32) :
    let t := commitGuest g i s
    fget t (SLC_GSTATE_GUEST_TAP g) = i ∧ flag t (TAP_STATUS_GUEST (16 * g + i)) = (tapOwner s (16 * g + i)).isSome ∧
      (getGroup t g).committed = true := by
  have howner : tapOwner (fset s (SLC_GSTATE_GUEST_TAP g) i) (16 * g + i) = tapOwner s (16 * g + i) :=
    tapOwner_of_within (m := 2 ^ 153) (fset_within (.of (SLC_GSTATE_GUEST_TAP_row g) (by decide)) (Within.refl _ s)) _ rfl rfl rfl
  refine ⟨?_, ?_, by rw [getGroup_commitGuest]⟩
  · dsimp only [commitGuest]
    rw [fget_setGroup, fget_setFlag_other _ (Fld.apart_of_rows (TAP_STATUS_GUEST_row _) (SLC_GSTATE_GUEST_TAP_row g) rfl)]
    exact fget_fset_of_lt hi rfl
  · dsimp only [commitGuest]
    rw [flag_setGroup, howner]
    exact flag_setFlag _ (show 4 < 32 ∧ 4 ≤ 4 by decide)

/-- A fault that an idle guest covers: the slice is retired, the rotation suspended, and the guest takes the tap from the first
pixel period 2 us later (R152). -/
theorem execSliceFault_covered {s : State} {g : Fin 16} {i : Fin 17} {h : Nat} (hi : i.val < 16)
    (ho : tapOwner s (16 * g + i) = some h) (hfail : bget (getGroup s g).failed i = false)
    (hguest : bget (getGroup s g).failed 16 = false) (hcom : (getGroup s g).committed = false)
    (hidle : fget s (SLC_GSTATE_GUEST_TAP g) = 16) :
    let due := edgeAt (pixTicks s h) (s.time + 1200)
    execSliceFault g i s = ok (schedule (replaceFrom (16 * g + i)
      (addReport g i due (suspend g (noteRetired g i (setFlag s SLC_EVENTS_FAULT true))))) due (.guestStandin g)) := by
  have hw : Within (2 ^ 149) s (setFlag s SLC_EVENTS_FAULT true) :=
    setFlag_within (.of SLC_EVENTS_FAULT_row (by decide)) (Within.refl _ s)
  have hne : ¬ i.val = 16 := by omega
  have hcur : ¬ 16 = i.val := by omega
  have htap : fget (setFlag s SLC_EVENTS_FAULT true) (SLC_GSTATE_GUEST_TAP g) = 16 :=
    (hw.fget_row (SLC_GSTATE_GUEST_TAP_row g) rfl).trans hidle
  have hpix : pixTicks (setFlag s SLC_EVENTS_FAULT true) h = pixTicks s h := by
    rw [pixTicks, hw.fget_row (HEAD_CLK_DIV_row h) rfl, pixTicks]
  have hstand : standinAt (setFlag s SLC_EVENTS_FAULT true) g h = edgeAt (pixTicks s h) (s.time + 1200) := by
    rw [standinAt, htap, hpix]
    rfl
  unfold execSliceFault
  dsimp only
  rw [if_neg (by rw [hfail]; decide), if_neg hne, if_neg (by rw [hcom, hguest]; decide),
    tapOwner_of_within hw _ rfl rfl rfl, ho, htap, ← hstand]
  exact if_neg hcur

/-- What the replacement of samples and the report's entry leave: every register. -/
theorem fget_faultCovered (g i t due : Nat) (s : State) (f : Fld) :
    fget (replaceFrom t (addReport g i due s)) f = fget s f :=
  (replaceFrom_within (m := 0x1c000) (Sub.of (by decide)) (addReport_within (Sub.of (by decide)) (Within.refl _ s))).fget
    (clearOf_small (by decide))

/-- The group's record with the stand-in of report r in service (R152). -/
def markServed (x : GroupSt) (r : FaultRep) : GroupSt :=
  { x with report := x.report.map fun q => if q = r then { q with served := true } else q }

/-- The state in which the guest serves the tap of a failed slice, its report marked (R152). -/
def standinTaken (g : Nat) (r : FaultRep) (s : State) : State :=
  commitGuest g r.slice (setGroup g (markServed (getGroup (releaseGuest g s) g) r) (releaseGuest g s))

theorem execGuestStandin_takes {g : Fin 16} {r : FaultRep} {s : State}
    (h : (getGroup s g).report.find? (fun r => !r.served && decide (r.due ≤ s.time)) = some r) :
    execGuestStandin g s = ok (schedule (replaceUntil (16 * g + r.slice) (standinTaken g r s))
      (replaceUntil (16 * g + r.slice) (standinTaken g r s)).time (.sliceFaultReport g)) := by
  unfold execGuestStandin
  dsimp only
  rw [h]
  rfl

theorem standinTaken_within (g : Nat) (r : FaultRep) (s : State) :
    Within 0x200800000000000000000000000000000010000 s (standinTaken g r s) :=
  commitGuest_within (Sub.of (by decide)) (setGroup_within (Sub.of (by decide))
    (releaseGuest_within (Sub.of (by decide)) (Within.refl _ s)))

theorem standinTaken_spec {g : Nat} {r : FaultRep} (s : State) (hr : r.slice < 32) :
    let t := standinTaken g r s
    fget t (SLC_GSTATE_GUEST_TAP g) = r.slice ∧
      flag t (TAP_STATUS_GUEST (16 * g + r.slice)) = (tapOwner s (16 * g + r.slice)).isSome ∧ (getGroup t g).committed = true := by
  have howner (x : GroupSt) : tapOwner (setGroup g x (releaseGuest g s)) (16 * g + r.slice) = tapOwner s (16 * g + r.slice) :=
    tapOwner_of_within (m := 0x200800000000000000000000000000000010000)
      (setGroup_within (Sub.of (by decide)) (releaseGuest_within (Sub.of (by decide)) (Within.refl _ s))) _ rfl rfl rfl
  have h := commitGuest_spec (g := g) (setGroup g (markServed (getGroup (releaseGuest g s) g) r) (releaseGuest g s)) hr
  rwa [howner] at h

/-- A report without affected band-lines names the group and the slice only (R152). -/
theorem execSliceFaultReport_unaffected {g : Fin 16} {r : FaultRep} {s : State}
    (h : (getGroup s g).report.find? (fun r => r.served && !replacedInFlight s (16 * g + r.slice)) = some r) (hl : r.lines = []) :
    execSliceFaultReport g s =
      ok (raiseAt r.time 0 0xA 0x81 [g.val, r.slice]
        (setGroup g { getGroup s g with report := (getGroup s g).report.erase r } s)) := by
  unfold execSliceFaultReport
  dsimp only
  rw [h]
  dsimp only
  rw [hl]
  rfl

end Sys2Proof.Machine

open Sys2Proof Sys2Proof.Machine

/-- Settles O13: the fault, the stand-in and the report, each by what its state has become. -/
theorem sliceFaultIsCoveredByTheGuest : Obligations.SliceFaultIsCoveredByTheGuest := by
  refine ⟨fun s g i h _ hi ho hfail hguest hcom hidle => ?_, fun s g r _ hr hfind => ?_, fun s g r _ hfind hl => ?_⟩
  · refine ⟨_, execSliceFault_covered hi ho hfail hguest hcom hidle, ?_⟩
    obtain ⟨hvalid, hslice, hretire⟩ := noteRetired_spec (g := g) (setFlag s SLC_EVENTS_FAULT true) (show i.val < 32 by omega)
    have hsusp := suspend_within (m := 0x240000000000000000000000000000000010000) (g := g) (Sub.refl _)
      (Within.refl _ (noteRetired g i (setFlag s SLC_EVENTS_FAULT true)))
    have hnoted := noteRetired_within (m := 0x4600000000430000000000000000000000000000000410000) (g := g) (i := i) (Sub.refl _)
      (Within.refl _ (setFlag s SLC_EVENTS_FAULT true))
    simp only [flag, fget_schedule, fget_faultCovered]
    refine ⟨?_, ?_, ?_, ?_, ?_, mem_agenda_schedule _ _ _⟩
    · rw [hsusp.fget_row SLC_EVENTS_FAULT_row rfl, fget_noteRetired_event g i _ rfl (by decide)]
      exact flag_setFlag true (by decide)
    · rw [hsusp.fget_row SLC_EVENTS_RETIRE_row rfl]
      exact hretire
    · rw [suspend_SUSP, hnoted.fget_row SLC_SUSP_SUSP_row rfl, fget_setFlag_other _ (by decide)]
    · rw [hsusp.fget_row (SLC_GRETIRE_VALID_row g) rfl]
      exact hvalid
    · rw [hsusp.fget_row (SLC_GRETIRE_SLICE_row g) rfl]
      exact hslice
  · refine ⟨_, execGuestStandin_takes hfind, ?_⟩
    have hw := replaceUntil_within (m := 0xc000) (t := 16 * g + r.slice) (Sub.refl _) (Within.refl _ (standinTaken g r s))
    obtain ⟨htap, hserves, hcom⟩ := standinTaken_spec (g := g) s (show r.slice < 32 by omega)
    rw [hw.time_eq rfl, (standinTaken_within g r s).time_eq rfl]
    refine ⟨?_, ?_, ?_, mem_agenda_schedule _ _ _⟩
    · rw [fget_schedule, hw.fget (clearOf_small (by decide))]
      exact htap
    · rw [flag_schedule, hw.flag (clearOf_small (by decide))]
      exact hserves
    · rw [getGroup_schedule, hw.getGroup_eq _ rfl]
      exact hcom
  · exact ⟨_, execSliceFaultReport_unaffected hfind hl, rfl⟩
end

section
/-! Ends of calibration runs and of overlaps, and the statement of spec/05 that rests on them
(R137, R138, R144 to R148, R150, R156). -/

namespace Sys2Proof.Machine

/-! A run of a visit that passes. -/

theorem takeTrims_within_refl (g i : Nat) (m : SliceMeas) (s : State) : Within 0x11001 s (takeTrims g i m s) :=
  takeTrims_within (Sub.refl _) (Within.refl _ s)

/-- A passing run of a slice whose tap the guest serves begins the wait for the overlap (R144). -/
theorem visitRunEnd_overlaps {g : Fin 16} {i : Nat} {m : SliceMeas} {s : State} (hm : (runResult m).1 = 0x40) (hi : i < 16)
    (ht : fget s (SLC_GSTATE_GUEST_TAP g) = i) :
    let u := takeTrims g i m s
    visitRunEnd g i m s = schedule (setGroup g { getGroup u g with overlap := 0 } (fset u (SLC_GSTATE_PHASE g) 3))
      (s.time + 9600000) (.overlapTimeout g) := by
  have hw := takeTrims_within_refl g i m s
  have htap : fget (takeTrims g i m s) (SLC_GSTATE_GUEST_TAP g) = i := (hw.fget (clearOf_small (by decide))).trans ht
  unfold visitRunEnd
  dsimp only
  rw [if_pos hm, if_pos ⟨hi, htap⟩, setGroup_time, fset_time, hw.time_eq rfl]

/-- Every other passing run ends its visit (R143). -/
theorem visitRunEnd_ends {g : Fin 16} {i : Nat} {m : SliceMeas} {s : State} (hm : (runResult m).1 = 0x40)
    (h : ¬ (i < 16 ∧ fget s (SLC_GSTATE_GUEST_TAP g) = i)) :
    visitRunEnd g i m s = endVisit g (clearFails g i (takeTrims g i m s)) := by
  have hw := takeTrims_within_refl g i m s
  have htap : fget (takeTrims g i m s) (SLC_GSTATE_GUEST_TAP g) = fget s (SLC_GSTATE_GUEST_TAP g) :=
    hw.fget (clearOf_small (by decide))
  unfold visitRunEnd
  dsimp only
  rw [if_pos hm, if_neg (by rwa [htap])]

/-! A failure of the slice of a visit: of its run, or of its overlap. -/

/-- After a failure that is not the third, the visit rests with the group's record x; a step that waited falls due. -/
def visitRests (g : Fin 16) (x : GroupSt) (s : State) : State :=
  whenS x.stepPend (fun u => schedule u u.time (.rotationStep g)) (setGroup g x (fset s (SLC_GSTATE_PHASE g) (restPhase s g)))

/-- What follows the report of a failure; overlap tells how many overlap band-lines the record then counts (R147, R150). -/
def visitFails (g : Fin 16) (i : Nat) (overlap : GroupSt → Nat) (s : State) : State :=
  let c := countFail g i s
  if c.2 then retireByRuns g i c.1
  else visitRests g { getGroup c.1 g with running := 17, overlap := overlap (getGroup c.1 g) } c.1

theorem visitRunEnd_fails {g : Fin 16} {i : Nat} {m : SliceMeas} {s : State} (hm : (runResult m).1 ≠ 0x40) :
    visitRunEnd g i m s = visitFails g i GroupSt.overlap (slcFail g i (runResult m).1 (runResult m).2 s) :=
  if_neg hm

@[simp] theorem getGroup_visitRests (g : Fin 16) (x : GroupSt) (s : State) : getGroup (visitRests g x s) g = x := by
  unfold visitRests whenS
  split <;> exact getGroup_setGroup _ _ _

theorem fget_visitRests (g : Fin 16) (x : GroupSt) (s : State) {f : Fld} (h : (SLC_GSTATE_PHASE g).Apart f) :
    fget (visitRests g x s) f = fget s f := by
  unfold visitRests whenS
  split <;> exact fget_fset_other _ h

/-- A failure keeps the trims, the residual sets, and the bits of SLC_EVENTS above UNCOVERED. -/
theorem visitFails_keeps (g : Fin 16) (i : Nat) (overlap : GroupSt → Nat) (s : State) :
    (getGroup (visitFails g i overlap s) g).trims = (getGroup s g).trims ∧
      (getGroup (visitFails g i overlap s) g).resid = (getGroup s g).resid ∧
      ∀ f : Fld, f.off = SLC_EVENTS → 2 < f.lo → fget (visitFails g i overlap s) f = fget s f := by
  have hcount {f : Fld} (hf : f.off = SLC_EVENTS) : fget (countFail g i s).1 f = fget s f :=
    fget_countFail g i s (Fld.apart_of_rows (SLC_GSTATE_FAILS_row g) (rowIdx_event hf) rfl)
  unfold visitFails
  dsimp only
  split
  · obtain ⟨htrims, hresid, -⟩ := retireByRuns_keeps g i (countFail g i s).1
    refine ⟨by rw [htrims, getGroup_countFail], by rw [hresid, getGroup_countFail], fun f hf hlo => ?_⟩
    rw [fget_retireByRuns_event _ _ _ hf hlo, hcount hf]
  · refine ⟨by rw [getGroup_visitRests, getGroup_countFail], by rw [getGroup_visitRests, getGroup_countFail], fun f hf _ => ?_⟩
    rw [fget_visitRests _ _ _ (Fld.apart_of_rows (SLC_GSTATE_PHASE_row g) (rowIdx_event hf) rfl), hcount hf]

/-- A failure that is not the third changes PHASE and FAILS only of the registers. -/
theorem fget_visitFails {g : Fin 16} {i : Nat} (overlap : GroupSt → Nat) {s : State} (h : nget (getGroup s g).fails i < 2) {f : Fld}
    (hp : (SLC_GSTATE_PHASE g).Apart f) (hf : (SLC_GSTATE_FAILS g).Apart f) :
    fget (visitFails g i overlap s) f = fget s f := by
  have hthird : ¬ (countFail g i s).2 = true := by
    rw [countFail_third]
    simpa using h
  unfold visitFails
  dsimp only
  rw [if_neg hthird, fget_visitRests _ _ _ hp, fget_countFail _ _ _ hf]

/-- The registers that report a failure lie outside what follows the report. -/
theorem fget_visitFails_GLAST (g : Fin 16) (i : Nat) (overlap : GroupSt → Nat) (s : State) {f : Fld} (hf : rowIdx f.off = 124) :
    fget (visitFails g i overlap s) f = fget s f := by
  have hcount : fget (countFail g i s).1 f = fget s f :=
    fget_countFail g i s (Fld.apart_of_rows (SLC_GSTATE_FAILS_row g) hf rfl)
  unfold visitFails
  dsimp only
  split
  · rw [(retireByRuns_within (Sub.refl _) (Within.refl _ _)).fget_row hf rfl, hcount]
  · rw [fget_visitRests _ _ _ (Fld.apart_of_rows (SLC_GSTATE_PHASE_row g) hf rfl), hcount]

/-- A failure of the slice of a visit, reported: what SLC_GLAST and SLC_EVENTS show, and that the results of the runs stay. -/
theorem failureReported {g : Fin 16} {i code : Nat} (count : Nat) (overlap : GroupSt → Nat) (s : State) (hi : i < 32)
    (hcode : code < 256) :
    let t := visitFails g i overlap (slcFail g i code count s)
    flag t SLC_EVENTS_CAL_FAIL = true ∧ fget t (SLC_GLAST_CODE g) = code ∧ fget t (SLC_GLAST_COUNT g) = count % 256 ∧
      fget t (SLC_GLAST_SLICE g) = i ∧ (getGroup t g).trims = (getGroup s g).trims ∧
      (getGroup t g).resid = (getGroup s g).resid := by
  obtain ⟨hfail, hlast, hcount, hslice⟩ := slcFail_spec (g := g) count s hi hcode
  obtain ⟨htrims, hresid, hevents⟩ := visitFails_keeps g i overlap (slcFail g i code count s)
  rw [getGroup_slcFail] at htrims hresid
  refine ⟨?_, ?_, ?_, ?_, htrims, hresid⟩
  · rw [flag, hevents SLC_EVENTS_CAL_FAIL rfl (by decide)]
    exact hfail
  · rw [fget_visitFails_GLAST _ _ _ _ (SLC_GLAST_CODE_row g), hlast]
  · rw [fget_visitFails_GLAST _ _ _ _ (SLC_GLAST_COUNT_row g), hcount]
  · rw [fget_visitFails_GLAST _ _ _ _ (SLC_GLAST_SLICE_row g), hslice]

/-- A reported failure that is not the third leaves every field of SLC_GSTATE but PHASE and FAILS. -/
theorem fget_failureReported {g : Fin 16} {i : Nat} (code count : Nat) (overlap : GroupSt → Nat) {s : State}
    (h : nget (getGroup s g).fails i < 2) {f : Fld} (hrow : rowIdx f.off = 121) (hp : (SLC_GSTATE_PHASE g).Apart f)
    (hf : (SLC_GSTATE_FAILS g).Apart f) : fget (visitFails g i overlap (slcFail g i code count s)) f = fget s f := by
  rw [fget_visitFails overlap (by rwa [getGroup_slcFail]) hp hf,
    (slcFail_within (Sub.refl _) (Within.refl _ s)).fget_row hrow rfl]

/-- The codes of failing runs are those of R156. -/
theorem runResult_lt (m : SliceMeas) : (runResult m).1 < 256 := by
  unfold runResult
  dsimp only
  repeat' split
  all_goals decide

/-! The end of a run that a command made (R156). -/

/-- What the result of such a run does once its request is over: it gives the slice its trims and reinstates it where that was
asked, or is reported and counted. -/
def cmdRunOutcome (g : Fin 16) (i : Nat) (m : SliceMeas) (reinst : Bool) (s : State) : State :=
  let r := runResult m
  if r.1 = 0x40 then
    let u := clearFails g i (takeTrims g i m s)
    if reinst then reinstate g i u else u
  else
    let u := slcFail g i r.1 r.2 s
    if bget (getGroup u g).failed i then u
    else
      let c := countFail g i u
      if c.2 then retireByRuns g i c.1 else c.1

theorem cmdRunEnd_eq (g : Fin 16) (i : Nat) (m : SliceMeas) (s : State) : cmdRunEnd g i m s =
    cmdRunOutcome g i m (getGroup s g).reinstate
      (cmdEnds (runResult m).1 (setGroup g { getGroup s g with cmdSlice := 17, reinstate := false } s)) := rfl

/-- The outcome leaves SLC_CMDSTAT, row 120 of the map. -/
theorem cmdRunOutcome_within (g : Fin 16) (i : Nat) (m : SliceMeas) (reinst : Bool) (s : State) :
    Within 0x81100000200004600000001670800000000088000000000000021001791901 s (cmdRunOutcome g i m reinst s) := by
  have hfail : Within 0x81100000200004600000001670800000000088000000000000021001791901 s
      (slcFail g i (runResult m).1 (runResult m).2 s) := slcFail_within (Sub.of (by decide)) (Within.refl _ s)
  have hpass : Within 0x81100000200004600000001670800000000088000000000000021001791901 s (clearFails g i (takeTrims g i m s)) :=
    clearFails_within (Sub.of (by decide)) (takeTrims_within (Sub.of (by decide)) (Within.refl _ s))
  unfold cmdRunOutcome
  dsimp only
  split
  · split
    · exact reinstate_within (Sub.of (by decide)) hpass
    · exact hpass
  · split
    · exact hfail
    · split
      · exact retireByRuns_within (Sub.of (by decide)) (countFail_within (Sub.of (by decide)) hfail)
      · exact countFail_within (Sub.of (by decide)) hfail

theorem getGroup_whenS {f : State → State} {g : Nat} (h : ∀ u, getGroup (f u) g = getGroup u g) (b : Bool) (s : State) :
    getGroup (whenS b f s) g = getGroup s g := by
  unfold whenS
  split
  · exact h s
  · rfl

/-- A reinstatement leaves the request of its group. -/
theorem reinstate_cmdSlice (g i : Nat) (s : State) : (getGroup (reinstate g i s) g).cmdSlice = (getGroup s g).cmdSlice := by
  unfold reinstate
  extract_lets x own u w v y
  have hu : (getGroup u g).cmdSlice = (getGroup s g).cmdSlice := by
    simp only [u, x, getGroup_clearFails, getGroup_setGroup]
  have hv : getGroup v g = getGroup u g := by
    simp only [v]
    split
    · rw [getGroup_recordRetire, getGroup_whenS fun _ => getGroup_fset _ _ _ _, getGroup_fsets]
    · rfl
  have hy : getGroup y g = getGroup v g := by
    simp only [y]
    exact getGroup_whenS (fun _ => by rw [getGroup_fset, getGroup_fset]) _ _
  split
  · rw [hy, hv, hu]
  · rw [getGroup_setFlag, hy, hv, hu]

/-- The end of a run that a visit made is judged for the visit. -/
theorem execSliceCalRunEnd_visit {g : Fin 16} {m : SliceMeas} {s : State} (hph : fget s (SLC_GSTATE_PHASE g) = 2)
    (hr : (getGroup s g).running < 17) (he : (getGroup s g).runEnd ≤ s.time) :
    execSliceCalRunEnd g m s = ok (visitRunEnd g (getGroup s g).running m s) :=
  if_pos ⟨hph, hr, he⟩

theorem execSliceCalRunEnd_command {g : Fin 16} {m : SliceMeas} {s : State} (hph : fget s (SLC_GSTATE_PHASE g) ≠ 2)
    (hc : (getGroup s g).cmdSlice < 17) (he : (getGroup s g).cmdEnd ≤ s.time) :
    execSliceCalRunEnd g m s = ok (cmdRunEnd g (getGroup s g).cmdSlice m s) :=
  (if_neg fun h => hph h.1).trans (if_pos ⟨hc, he⟩)

/-- The outcome leaves no request in progress where none was. -/
theorem cmdRunOutcome_cmdSlice (g : Fin 16) (i : Nat) (m : SliceMeas) (reinst : Bool) (s : State) :
    (getGroup (cmdRunOutcome g i m reinst s) g).cmdSlice = (getGroup s g).cmdSlice := by
  unfold cmdRunOutcome
  dsimp only
  split
  · split
    · rw [reinstate_cmdSlice, getGroup_clearFails, getGroup_takeTrims]
    · rw [getGroup_clearFails, getGroup_takeTrims]
  · split
    · rw [getGroup_slcFail]
    · split
      · obtain ⟨-, -, hcmd⟩ := retireByRuns_keeps g i (countFail g i (slcFail g i (runResult m).1 (runResult m).2 s)).1
        rw [hcmd, getGroup_countFail, getGroup_slcFail]
      · rw [getGroup_countFail, getGroup_slcFail]

/-- The request is over, with the result of its run (R156). -/
theorem cmdRunEnd_spec (g : Fin 16) (i : Nat) (m : SliceMeas) (s : State) :
    let t := cmdRunEnd g i m s
    flag t SLC_CMDSTAT_BUSY = false ∧ fget t SLC_CMDSTAT_CODE = (runResult m).1 ∧ (getGroup t g).cmdSlice = 17 := by
  have hw (u : State) := cmdRunOutcome_within g i m (getGroup s g).reinstate u
  dsimp only
  rw [cmdRunEnd_eq, (hw _).flag_row SLC_CMDSTAT_BUSY_row rfl, (hw _).fget_row SLC_CMDSTAT_CODE_row rfl,
    cmdRunOutcome_cmdSlice, cmdEnds, getGroup_fsets, getGroup_setGroup]
  exact ⟨cmdEnds_busy _ _, cmdEnds_code (runResult_lt m) _, rfl⟩

/-! The end of an overlap. -/

/-- The guest leaves its tap, and the visit of slice i is over (R144 step 4, R146). -/
def handedBack (g : Fin 16) (i : Nat) (s : State) : State := endVisit g (clearFails g i (releaseGuest g s))

theorem handedBack_spec (g : Fin 16) (i : Nat) (s : State) :
    let t := handedBack g i s
    fget t (SLC_GSTATE_GUEST_TAP g) = 16 ∧ fget t (SLC_GSTATE_VISIT g) = nextVisit s g (fget s (SLC_GSTATE_VISIT g)) ∧
      (getGroup t g).resid = (getGroup s g).resid := by
  have hw : Within 0x200800000000000000000000000000000010000 s (clearFails g i (releaseGuest g s)) :=
    clearFails_within (Sub.of (by decide)) (releaseGuest_within (Sub.of (by decide)) (Within.refl _ s))
  obtain ⟨-, hvisit, htap⟩ := endVisit_spec g (clearFails g i (releaseGuest g s))
  dsimp only [handedBack]
  refine ⟨?_, ?_, ?_⟩
  · rw [htap, clearFails, fget_setGroup, releaseGuest_guestTap]
  · rw [hvisit, nextVisit_of_within hw g _ rfl, clearFails, fget_setGroup, releaseGuest_visit]
  · rw [getGroup_endVisit, getGroup_clearFails, getGroup_releaseGuest]

theorem handedBack_GUEST {g : Fin 16} {i : Nat} {s : State} (h : fget s (SLC_GSTATE_GUEST_TAP g) = i) (hi : i ≠ 16) :
    flag (handedBack g i s) (TAP_STATUS_GUEST (16 * g + i)) = false := by
  rw [handedBack, flag, fget_endVisit g _ (TAP_STATUS_GUEST_row _) rfl, clearFails, fget_setGroup]
  exact releaseGuest_GUEST h hi

/-- What reports a failure stands as the tap is handed back. -/
theorem fget_handedBack (g : Fin 16) (i : Nat) (s : State) {f : Fld} (hf : rowIdx f.off = 124) :
    fget (handedBack g i s) f = fget s f := by
  rw [handedBack, fget_endVisit g _ hf rfl, clearFails, fget_setGroup,
    (releaseGuest_within (Sub.refl _) (Within.refl _ s)).fget_row hf rfl]

/-- The group's record with the residual set of tap i fitted (R145). -/
def withFit (x : GroupSt) (i : Nat) (f : ResidualFit) : GroupSt :=
  { x with resid := tset (fun _ => {}) x.resid i ⟨f.roff, f.rgNum, f.rgDen⟩, fitted := bset x.fitted i true }

/-- The group's record with the residual set of tap i unfitted (R148). -/
def withoutFit (x : GroupSt) (i : Nat) : GroupSt := { x with fitted := bset x.fitted i false }

theorem execGuestHandback_passes {g : Fin 16} {f : ResidualFit} {s : State} (hph : fget s (SLC_GSTATE_PHASE g) = 4)
    (ho : 4 ≤ (getGroup s g).overlap) (hr : (getGroup s g).running < 16) (hn : fitErrors f = 0) (hspan : 8192 ≤ f.span) :
    execGuestHandback g f s = ok (handedBack g (getGroup s g).running
      (setGroup g (withFit (getGroup s g) (getGroup s g).running f) s)) := by
  unfold execGuestHandback
  dsimp only
  rw [if_neg (by omega), if_pos hn, if_pos hspan]
  rfl

theorem execGuestHandback_fails {g : Fin 16} {f : ResidualFit} {s : State} (hph : fget s (SLC_GSTATE_PHASE g) = 4)
    (ho : 4 ≤ (getGroup s g).overlap) (hr : (getGroup s g).running < 16) (hn : fitErrors f ≠ 0) :
    execGuestHandback g f s = ok
      (visitFails g (getGroup s g).running (fun _ => 0) (slcFail g (getGroup s g).running 0x44 (fitErrors f)
        (setGroup g (withoutFit (getGroup s g) (getGroup s g).running) s))) := by
  unfold execGuestHandback visitFails withoutFit
  dsimp only
  rw [if_neg (by omega), if_neg hn]
  split <;> rfl

theorem fitErrors_le (f : ResidualFit) : fitErrors f ≤ 2 := by
  have h (b : Bool) : b2n b ≤ 1 := by cases b <;> decide
  exact Nat.add_le_add (h _) (h _)

/-- SLC_GLAST as an incomplete overlap leaves it (R146). -/
def overlapIncomplete (g i : Nat) (s : State) : State :=
  fsets s [(SLC_GLAST_CODE g, 0x48), (SLC_GLAST_COUNT g, 0), (SLC_GLAST_SLICE g, i)]

/-- Only SLC_GLAST changes, row 124 of the map. -/
theorem overlapIncomplete_within {m : Nat} (g i : Nat) (s : State) (hm : m.testBit 156 = true) :
    Within m s (overlapIncomplete g i s) := by
  refine fsets_within (fun p hp => ?_) (Within.refl _ s)
  simp only [List.mem_cons, List.not_mem_nil, or_false] at hp
  rcases hp with rfl | rfl | rfl <;> exact .of (SLC_GLAST_row g) hm

theorem overlapIncomplete_code (g i : Nat) (s : State) : fget (overlapIncomplete g i s) (SLC_GLAST_CODE g) = 0x48 := by
  simp only [overlapIncomplete, fsets, List.foldl_cons, List.foldl_nil]
  rw [fget_fset_other _ (Fld.apart_of_bits rfl), fget_fset_other _ (Fld.apart_of_bits rfl)]
  exact fget_fset_of_lt (show 0x48 < 256 by decide) rfl

theorem execOverlapTimeout_acts {g : Fin 16} {s : State} (hph : fget s (SLC_GSTATE_PHASE g) = 3 ∨ fget s (SLC_GSTATE_PHASE g) = 4)
    (ho : (getGroup s g).overlap < 4) (hr : (getGroup s g).running < 16) (ht : (getGroup s g).runEnd + 9600000 ≤ s.time)
    (hb : ∀ h, tapOwner s (16 * g + (getGroup s g).running) = some h → atBoundary s h = true) :
    execOverlapTimeout g s = ok (handedBack g (getGroup s g).running
      (setGroup g (withoutFit (getGroup s g) (getGroup s g).running)
        (overlapIncomplete g (getGroup s g).running s))) := by
  unfold execOverlapTimeout
  dsimp only
  rw [if_neg]
  · rfl
  · cases hown : tapOwner s (16 * g + (getGroup s g).running) with
    | none =>
      simp only [reduceCtorEq, or_false]
      omega
    | some h =>
      simp only [hb h hown, reduceCtorEq, or_false]
      omega

end Sys2Proof.Machine

open Sys2Proof Sys2Proof.Machine

/-- Settles O12: a run of a visit passes or is reported, a run of a command answers its request, and an overlap is handed back with
a fit, is reported, or has run out. -/
theorem sliceRunsAndOverlapsAreJudged : Obligations.SliceRunsAndOverlapsAreJudged := by
  refine ⟨fun s g m _ hph hr hend hpass _ => ?_, fun s g m _ hph hr hend hfail => ?_, fun s g m _ hph hc hend => ?_,
    fun s g f _ hph ho hr hn hspan htap _ => ?_, fun s g f _ hph ho hr hn hfails => ?_, fun s g _ hph ho hr ht hb => ?_⟩
  · refine ⟨_, execSliceCalRunEnd_visit hph hr hend, ?_⟩
    by_cases hov : (getGroup s g).running < 16 ∧ fget s (SLC_GSTATE_GUEST_TAP g) = (getGroup s g).running
    · rw [if_pos hov, visitRunEnd_overlaps hpass hov.1 hov.2]
      refine ⟨?_, ?_, mem_agenda_schedule _ _ _⟩
      · rw [getGroup_schedule, getGroup_setGroup, getGroup_takeTrims]
        exact tget_tset
      · rw [fget_schedule, fget_setGroup]
        exact fget_fset_of_lt (show 3 < 8 by decide) rfl
    · have hw : Within 0x11001 s (clearFails g (getGroup s g).running (takeTrims g (getGroup s g).running m s)) :=
        clearFails_within (Sub.of (by decide)) (takeTrims_within_refl g _ m s)
      obtain ⟨hphase, hvisit, -⟩ := endVisit_spec g (clearFails g (getGroup s g).running (takeTrims g (getGroup s g).running m s))
      rw [restPhase_of_within hw g rfl] at hphase
      rw [nextVisit_of_within hw g _ rfl, hw.fget (clearOf_small (by decide))] at hvisit
      rw [if_neg hov, visitRunEnd_ends hpass hov]
      refine ⟨?_, hphase, hvisit⟩
      rw [getGroup_endVisit, getGroup_clearFails, getGroup_takeTrims]
      exact tget_tset
  · refine ⟨_, execSliceCalRunEnd_visit hph hr hend, ?_⟩
    obtain ⟨hevent, hcode, hcount, hslice, htrims, -⟩ := failureReported (g := g) (runResult m).2 GroupSt.overlap s
      (show (getGroup s g).running < 32 by omega) (runResult_lt m)
    rw [visitRunEnd_fails hfail]
    exact ⟨htrims, hevent, hcode, hcount, hslice, fun h =>
      fget_failureReported _ _ _ h (SLC_GSTATE_VISIT_row g) (Fld.apart_of_bits rfl) (Fld.apart_of_bits rfl)⟩
  · exact ⟨_, execSliceCalRunEnd_command hph hc hend, cmdRunEnd_spec g _ m s⟩
  · refine ⟨_, execGuestHandback_passes hph ho hr hn hspan, ?_⟩
    obtain ⟨hguest, hvisit, hresid⟩ := handedBack_spec g (getGroup s g).running
      (setGroup g (withFit (getGroup s g) (getGroup s g).running f) s)
    refine ⟨?_, handedBack_GUEST htap (by omega), hguest, hvisit⟩
    rw [hresid, getGroup_setGroup]
    exact tget_tset
  · refine ⟨_, execGuestHandback_fails hph ho hr hn, ?_⟩
    obtain ⟨hevent, hcode, hcount, -, -, hresid⟩ := failureReported (g := g) (fitErrors f) (fun _ => 0)
      (setGroup g (withoutFit (getGroup s g) (getGroup s g).running) s)
      (show (getGroup s g).running < 32 by omega) (show 0x44 < 256 by decide)
    have hle := fitErrors_le f
    refine ⟨hevent, hcode, hcount.trans (Nat.mod_eq_of_lt (by omega)), ?_, ?_⟩
    · exact fget_failureReported _ _ _ (by rw [getGroup_setGroup]; exact hfails) (SLC_GSTATE_GUEST_TAP_row g)
        (Fld.apart_of_bits rfl) (Fld.apart_of_bits rfl)
    · rw [hresid, getGroup_setGroup, withoutFit]
  · refine ⟨_, execOverlapTimeout_acts hph ho hr ht hb, ?_⟩
    obtain ⟨hguest, hvisit, hresid⟩ := handedBack_spec g (getGroup s g).running
      (setGroup g (withoutFit (getGroup s g) (getGroup s g).running)
        (overlapIncomplete g (getGroup s g).running s))
    have hw : Within (2 ^ 156 ||| 0x10000) s
        (setGroup g (withoutFit (getGroup s g) (getGroup s g).running)
          (overlapIncomplete g (getGroup s g).running s)) :=
      setGroup_within (Sub.of (by decide)) (overlapIncomplete_within g _ s (by decide))
    rw [nextVisit_of_within hw g _ rfl, hw.fget_row (SLC_GSTATE_VISIT_row g) rfl] at hvisit
    refine ⟨?_, ?_, hguest, hvisit⟩
    · rw [fget_handedBack g _ _ (SLC_GLAST_CODE_row g), fget_setGroup, overlapIncomplete_code]
    · rw [hresid, getGroup_setGroup, withoutFit]
end

section
/-! A COMMIT that waits while a calibration run drives its head: the trigger of B0 brings the new band set into force (R84), and the
interval to the next trigger follows from the new NBANDS. -/

namespace Sys2Proof.Machine

/-- A dark run of head 3 as R201 admits it at tick 0: band 0, four lines of period 60000, its first trigger still to come. -/
def darkRunBegun : RunSt :=
  { head := 3, kind := 1, slot := 0, bands := 1, d1Band := 0, f := 2, p1 := 60000, p2 := 0, gap := false, sat := 0, str := 255,
    stage := .measuring, point := 0, line := 0, band := 0, trial := 0, phi0 := [], acc := [], cnt := [], bad := [], failing := 0,
    code := 0x50, todo := [], started := 0 }

/-- CALIBRATE on tick 60000, when the first trigger of the run is due: head 3 is ONLINE with NBANDS 1 in force, and the host has
written NBANDS 2 and, on tick 30000, COMMIT. -/
def commitPending : State :=
  let s : State := { State.reset with
    time := 60000
    mode := { State.reset.mode with mode := .calibrate }
    shd := { State.reset.shd with runs := [darkRunBegun] } }
  let s := fsets s [(CLK_STATUS_ROOT_LOCK, 1), (HEAD_STATUS_STATE 3, 2), (HEAD_TAPS_FIRST_TAP 3, 24), (HEAD_TAPS_LAST_TAP 3, 24),
    (HEAD_READ_PPT 3, 16), (HEAD_READ_DARK 3, 2), (HEAD_CLK_DIV 3, 6), (HEAD_BAND_EXPOSURE 3 0, 600), (HEAD_BAND_EXPOSURE 3 1, 600),
    (HEAD_TRIG_NBANDS 3, 1), (SHD_STATUS_RUN, 8), (SHD_HSTAT_RUN 3, 1)]
  let s := activateAll s (bandSet 3)
  setHead 3 { getHead s 3 with commitAt := 30000 } (fsets s [(HEAD_TRIG_NBANDS 3, 2), (HEAD_CTL_COMMIT 3, 1)])

/-- The deadlines after a command. -/
def agendaAfter (c : Instr) (s : State) : List (Nat × Instr) :=
  match exec c s with
  | .next t => t.agenda
  | _ => []

theorem agendaAfter_of_next {c : Instr} {s t : State} (h : exec c s = .next t) : agendaAfter c s = t.agenda := by
  rw [agendaAfter, h]

theorem commitPending_inv : Inv commitPending :=
  ⟨by decide +kernel, by decide +kernel, by decide +kernel, by decide +kernel, by decide +kernel⟩

/-- The trigger is one that the run may make: its precondition holds, and no band-line is in its way. -/
theorem commitPending_triggers : runOf commitPending 3 = some darkRunBegun ∧ runDrives commitPending 3 = true ∧
    headState commitPending 3 = 2 ∧ kindError commitPending darkRunBegun = 0 ∧
    runPlan commitPending darkRunBegun = some (0, 0, 0, { darkRunBegun with line := 1 }) ∧ isOverrun commitPending 3 = false := by
  decide +kernel

/-- Before the trigger one band is in force, so that the interval is the whole of P1. -/
theorem commitPending_interval : runInterval commitPending darkRunBegun 0 = 60000 := by decide +kernel

/-- After it two are, and the next trigger falls due after half of P1. -/
theorem commitPending_agenda : agendaAfter (.calRunTrigger 3) commitPending =
    [(60000, .driveRecompute), (60004, .triggerFire 3), (90000, .calRunTrigger 3)] := by decide +kernel

end Sys2Proof.Machine

open Sys2Proof Sys2Proof.Machine

/-- Refutes O18: the next trigger of a run whose head has a COMMIT pending does not follow after the interval of the band set that
stood before the trigger, as the third clause has it, but after that of the band set which the trigger brings into force. The clause
lacks the premise that no COMMIT is pending. -/
theorem not_calibrationRunsAreDrivenAndJudged : ¬ Obligations.CalibrationRunsAreDrivenAndJudged := by
  unfold Obligations.CalibrationRunsAreDrivenAndJudged
  intro h
  obtain ⟨-, -, triggers, -⟩ := h
  obtain ⟨hrun, hdrives, hstate, hkind, hplan, hover⟩ := commitPending_triggers
  obtain ⟨t, ht, -, hmem⟩ := triggers commitPending 3 darkRunBegun { darkRunBegun with line := 1 } 0 0 0 commitPending_inv hrun hdrives
    (by decide) hstate hkind hplan hover
  have hdue : (60000 + 60000, Instr.calRunTrigger 3) ∈ agendaAfter (.calRunTrigger 3) commitPending := by
    rw [agendaAfter_of_next ht, ← commitPending_interval]
    exact hmem
  rw [commitPending_agenda] at hdue
  revert hdue
  decide
end

section
/-! Dark and white tracking: what an update of TRK and an accumulation that is complete leave, and the statement of spec/07 that
rests on them (R207 to R210, R217 to R220). -/

namespace Sys2Proof.Machine

/-! The pipeline and the shading state outside the parts of an operation. -/

theorem Within.pipe_eq {m : Nat} {s t : State} (h : Within m s t) (c : m.testBit 17 = false) : t.pipe = s.pipe :=
  h.parts .pipe (by simp [Part.outside, Part.bit, c])

theorem Within.shd_eq {m : Nat} {s t : State} (h : Within m s t) (c : m.testBit 19 = false) : t.shd = s.shd :=
  h.parts .shd (by simp [Part.outside, Part.bit, c])

@[simp] theorem pmcEvent_pipe (ev : Nat) (s : State) : (pmcEvent ev s).pipe = s.pipe :=
  (pmcEvent_within (Sub.refl _) (Within.refl _ s)).pipe_eq rfl

@[simp] theorem raise_pipe (cls src code : Nat) (items : List Nat) (s : State) : (raise cls src code items s).pipe = s.pipe :=
  (raise_within (Sub.refl _) (Within.refl _ s)).pipe_eq rfl

/-! Dark tracking (R207 to R210). -/

@[simp] theorem getTrk_setTrk (t b : Nat) (v : Int) (s : State) : getTrk (setTrk t b v s) t b = v := tget_tset

/-- Of the pipeline an update changes the one TRK, which it clamps (R209). -/
theorem setTrack_pipe (h t b : Nat) (v : Int) (s : State) :
    (setTrack h t b v s).pipe = (setTrk t b (clampInt (-trkLim s h) (trkLim s h) v) s).pipe := by
  unfold setTrack
  dsimp only
  split
  · rw [setFlag_pipe, pmcEvent_pipe]
  · rw [pmcEvent_pipe, whenS]
    split
    · rw [raise_pipe, setFlag_pipe, setFlag_pipe, pmcEvent_pipe]
    · rw [setFlag_pipe, pmcEvent_pipe]

theorem getTrk_setTrack (h t b : Nat) (v : Int) (s : State) :
    getTrk (setTrack h t b v s) t b = clampInt (-trkLim s h) (trkLim s h) v := by
  rw [getTrk, setTrack_pipe]
  exact getTrk_setTrk t b _ s

/-- The codes of the dark samples of tap t that qualify in band-line l (R208). -/
def darkCodes (s : State) (h t : Nat) (l : BandLine) (xs : List Sample) : List Nat :=
  let dark := fget s (HEAD_READ_DARK h)
  let q := t - fget s (HEAD_TAPS_FIRST_TAP h)
  let ys := List.replicate (q * tapSamples s h) ⟨0, false⟩ ++ xs.take dark
  (((List.range dark).map fun k => pixOf s h l ys t q k).filter fun p => !p.ovr && !p.dead).map fun p => p.code

/-- Dark samples that qualify, in a band-line whose readout has ended, move TRK by the fraction 2^-k of its distance (R207). -/
theorem execDarkTrackUpdate_moves {s : State} {t : Fin 256} {b : Fin 8} {h : Nat} {xs : List Sample} {l : BandLine}
    (ho : tapOwner s t = some h) (hen : flag s (SHD_HTRK_TRK_EN h) = true) (hdark : fget s (HEAD_READ_DARK h) ≠ 0)
    (hl : l.stage = .lanes)
    (hlast : ((getHead s h).lines.filter fun l => l.band == b.val && (l.stage == .reading || l.stage == .lanes) &&
      decide (l.readAt + fget s (HEAD_READ_DARK h) * pixTicks s h ≤ s.time)).getLast? = some l)
    (hgood : darkCodes s h t l xs ≠ []) :
    execDarkTrackUpdate t b xs s = ok (setTrack h t b (getTrk s t b +
      roundQ ((16 * darkDrift s h t b (pEff l.hctl l.period) (darkCodes s h t l xs) - getTrk s t b) / 2 ^ trkK s h t)) s) := by
  have hoff : ¬ (fget s (HEAD_READ_DARK h) = 0 ∨ flag s (SHD_HTRK_TRK_EN h) = false) := by simp [hdark, hen]
  have hread : ¬ l.stage = .reading := by simp [hl]
  have hempty : ¬ (darkCodes s h t l xs).isEmpty = true := by simpa using hgood
  unfold execDarkTrackUpdate
  rw [ho]
  dsimp only
  rw [hlast]
  dsimp only
  rw [if_neg hoff, if_neg hread]
  exact if_neg hempty

/-! White tracking (R217 to R220). -/

/-- Npix is told by HEAD_TAPS and HEAD_READ alone (R157). -/
theorem npix_of_within {m : Nat} {s u : State} (h : Within m s u) (k : Nat)
    (htaps : (m.testBit (32 + 94) || m.testBit 31) = false) (hread : (m.testBit (32 + 95) || m.testBit 31) = false) :
    npix u k = npix s k := by
  have hlast : fget u (HEAD_TAPS_LAST_TAP k) = fget s (HEAD_TAPS_LAST_TAP k) :=
    h.fget_row (show rowIdx (HEAD_TAPS_LAST_TAP k).off = 94 from HEAD_TAPS_row k) htaps
  rw [npix, tapsOf, h.fget_row (HEAD_TAPS_FIRST_TAP_row k) htaps, hlast, h.fget_row (HEAD_READ_PPT_row k) hread, npix, tapsOf]

theorem npix_lt (s : State) (h : Nat) : npix s h < 2 ^ 32 := by
  have hlast : fget s (HEAD_TAPS_LAST_TAP h) < 256 := bitsOf_lt _ _ _
  have hppt : fget s (HEAD_READ_PPT h) < 4096 := bitsOf_lt _ _ _
  have hlen : (tapsOf s h).length ≤ 256 := by
    simp only [tapsOf, List.length_map, List.length_range]
    omega
  calc npix s h ≤ 256 * 4096 := Nat.mul_le_mul hlen (Nat.le_of_lt hppt)
    _ < 2 ^ 32 := by decide

/-- No more pixels are outliers than the head has. -/
theorem whiteBlock_outliers_le (s : State) (h b : Nat) (val : Nat → Rat × Nat) : (whiteBlock s h b val).2 ≤ npix s h := by
  have hle := List.length_filter_le (fun p => whiteOutlier (fget s (SHD_HTGT_WTGT h)) (wMin s h) (val p).1 (val p).2)
    (List.range (npix s h))
  rwa [List.length_range] at hle

/-- What the accumulation of a head-band gives: its block and the count of its outliers. -/
def whiteGiven (s : State) (h b : Nat) : List Nat × Nat :=
  whiteBlock s h b fun p => ((getWhite s (headBand h b) p).w, (getWhite s (headBand h b) p).n)

theorem whiteRestart_allowed (hb h : Nat) (s : State) : allowed (whiteRestart hb s) h = npix s h / 1000 := by
  rw [allowed, npix_of_within (whiteRestart_within (Sub.refl _) (Within.refl _ s)) h rfl rfl]

/-- A block with too many outliers is rejected: WFAIL, and the code, the head-band and the count in SHD_LAST and SHD_LASTCNT. -/
def whiteRejected (h b count : Nat) (s : State) : State :=
  raise 2 0xC 0x5C [count] (setRaw (fsets s [(SHD_EVENTS_WFAIL, 1), (SHD_LAST_CODE, 0x5C), (SHD_LAST_KIND, 0), (SHD_LAST_HEAD, h),
    (SHD_LAST_BAND, b)]) SHD_LASTCNT count)

/-- A block that passes waits for staging, and the head-band is due. -/
def whiteDue (h b : Nat) (block : List Nat) (s : State) : State :=
  let s := { s with shd := { s.shd with dueG := s.shd.dueG ++ [(headBand h b, block)] } }
  fset s (SHD_HSTAT_DUE h) (setBit (fget s (SHD_HSTAT_DUE h)) b)

theorem execWhiteTrackDue_eq {s : State} {h : Fin 16} {b : Fin 8} (hn : wMin s h ≤ nget s.shd.incl (headBand h b)) :
    execWhiteTrackDue h b s =
      if npix s h / 1000 < (whiteGiven s h b).2 then ok (whiteRejected h b (whiteGiven s h b).2 (whiteRestart (headBand h b) s))
      else
        let u := whiteDue h b (whiteGiven s h b).1 (whiteRestart (headBand h b) s)
        ok (serveDue (whenS (deferred u) (fun s => setFlag s SHD_EVENTS_DEFERRED true) u)) := by
  unfold execWhiteTrackDue
  dsimp only
  rw [if_neg (Nat.not_lt.2 hn), whiteRestart_allowed]
  rfl

theorem whiteRejected_spec {h b count : Nat} (s : State) (hh : h < 16) (hc : count < 2 ^ 32) :
    let t := whiteRejected h b count s
    flag t SHD_EVENTS_WFAIL = true ∧ fget t SHD_LAST_CODE = 0x5C ∧ fget t SHD_LAST_HEAD = h ∧ raw t SHD_LASTCNT = count := by
  have hw := raise_within (m := 0x88000000000000000001001801) (cls := 2) (src := 0xC) (code := 0x5C) (items := [count])
    (Sub.refl _) (Within.refl _ (setRaw (fsets s [(SHD_EVENTS_WFAIL, 1), (SHD_LAST_CODE, 0x5C), (SHD_LAST_KIND, 0),
      (SHD_LAST_HEAD, h), (SHD_LAST_BAND, b)]) SHD_LASTCNT count))
  have hcnt {u : State} {f : Fld} (hf : SHD_LASTCNT ≠ f.off) : fget (setRaw u SHD_LASTCNT count) f = fget u f := by
    rw [fget, raw_setRaw_other _ hf, fget]
  dsimp only [whiteRejected]
  rw [flag, hw.fget_row SHD_EVENTS_WFAIL_row rfl, hw.fget_row SHD_LAST_CODE_row rfl, hw.fget_row SHD_LAST_HEAD_row rfl,
    hw.raw (clearOf_of_row SHD_LASTCNT_row rfl rfl), hcnt (by decide), hcnt (by decide), hcnt (by decide)]
  simp only [fsets, List.foldl_cons, List.foldl_nil]
  refine ⟨?_, ?_, ?_, (raw_setRaw _ _).trans (Nat.mod_eq_of_lt hc)⟩
  · rw [fget_fset_other _ (by decide), fget_fset_other _ (by decide), fget_fset_other _ (by decide), fget_fset_other _ (by decide)]
    exact beq_iff_eq.2 (fget_fset_of_lt (show 1 < 2 by decide) rfl)
  · rw [fget_fset_other _ (by decide), fget_fset_other _ (by decide), fget_fset_other _ (by decide)]
    exact fget_fset_of_lt (show 0x5C < 256 by decide) rfl
  · rw [fget_fset_other _ (by decide)]
    exact fget_fset_of_lt hh rfl

theorem testBit_setBit (v i : Nat) : (setBit v i).testBit i = true := by
  unfold setBit
  rw [bitOf_eq_testBit]
  split
  · next h => exact h
  · next h =>
    rw [Nat.add_comm, Nat.testBit_two_pow_add_eq, eq_false_of_ne_true h]
    rfl

theorem whiteDue_spec {h b : Nat} (block : List Nat) (s : State) (hb : b < 8) :
    bitOf (fget (whiteDue h b block s) (SHD_HSTAT_DUE h)) b = true ∧ (headBand h b, block) ∈ (whiteDue h b block s).shd.dueG := by
  constructor
  · rw [whiteDue, fget_fset _ (show 31 < 32 by decide), bitOf_eq_testBit, Nat.testBit_mod_two_pow, testBit_setBit, Bool.and_true]
    exact decide_eq_true hb
  · exact List.mem_append_right _ (List.mem_singleton.2 rfl)

/-- That due blocks are deferred is shown in SHD_EVENTS; serving them asks for staging. Neither changes what is due. -/
theorem whiteServed_within (s : State) :
    Within (2 ^ (32 + 142) ||| 0x20000) s (serveDue (whenS (deferred s) (fun s => setFlag s SHD_EVENTS_DEFERRED true) s)) :=
  serveDue_within (Sub.of (by decide)) (whenS_within
    (fun _ => setFlag_within (.of SHD_EVENTS_DEFERRED_row (by decide))) (Within.refl _ s))

end Sys2Proof.Machine

open Sys2Proof Sys2Proof.Machine

/-- Settles O19: an update that moves TRK clamps it and changes no other part of the pipeline, and a complete accumulation gives a
block that is rejected or is due. -/
theorem backgroundTrackingUpdates : Obligations.BackgroundTrackingUpdates := by
  refine ⟨fun s t b h xs l _ ho hen hdark hl hlast => ?_, fun s h b _ hn => ?_⟩
  · intro dark q ys good hgood
    exact ⟨_, execDarkTrackUpdate_moves ho hen hdark hl hlast hgood, getTrk_setTrack h t b _ s⟩
  · intro r
    have hr : r = whiteGiven s h b := rfl
    show ∃ t, execWhiteTrackDue h b s = .next t ∧ _
    rw [execWhiteTrackDue_eq hn, hr]
    by_cases hbad : npix s h / 1000 < (whiteGiven s h b).2
    · simp only [if_pos hbad]
      exact ⟨_, rfl, whiteRejected_spec _ h.isLt (Nat.lt_of_le_of_lt (whiteBlock_outliers_le s h b _) (npix_lt s h))⟩
    · simp only [if_neg hbad]
      obtain ⟨hbit, hmem⟩ := whiteDue_spec (h := h) (whiteGiven s h b).1 (whiteRestart (headBand h b) s) b.isLt
      have hw := whiteServed_within (whiteDue h b (whiteGiven s h b).1 (whiteRestart (headBand h b) s))
      refine ⟨_, rfl, ?_, ?_⟩
      · rwa [hw.fget_row (SHD_HSTAT_DUE_row h) rfl]
      · rwa [hw.shd_eq rfl]
end

section
/-! Saves of the Attic: what the start, each step and the end of a save leave, and the statement of spec/08 that rests on them. -/

namespace Sys2Proof.Machine

theorem Within.att_eq {m : Nat} {s t : State} (h : Within m s t) (c : m.testBit 22 = false) : t.att = s.att :=
  h.parts .att (by simp [Part.outside, Part.bit, c])

@[simp] theorem fsets_att (s : State) (l : List (Fld × Nat)) : (fsets s l).att = s.att :=
  (fsets_within (m := 2 ^ 31) (fun _ _ => .all (by decide)) (Within.refl _ s)).att_eq rfl

/-- A store of another register leaves a field. -/
theorem fget_setRaw_other {s : State} {f : Fld} {off : Nat} (v : Nat) (h : off ≠ f.off) : fget (setRaw s off v) f = fget s f := by
  rw [fget, raw_setRaw_other v h, fget]

@[simp] theorem complete_att (slot result status : Nat) (s : State) : (complete slot result status s).att = s.att :=
  (complete_within (Sub.refl _) (Within.refl _ s)).att_eq rfl

theorem fget_complete (slot result status : Nat) (s : State) (f : Fld) : fget (complete slot result status s) f = fget s f :=
  (complete_within (Sub.refl _) (Within.refl _ s)).fget (clearOf_small (by decide))

theorem Counted.host {s u : State} (h : Counted s u) : u.host = s.host := by
  obtain ⟨p, g, rfl⟩ := h
  rfl

/-- A command in progress that completes leaves the list, and its completion waits (R361, R365). -/
theorem complete_completed {slot : Nat} (result status : Nat) {s : State} {c : CmdEntry}
    (h : s.host.cmds.find? (fun c => decide (c.slot = slot)) = some c) :
    Completed (complete slot result status s) slot result status := by
  unfold complete
  rw [h]
  dsimp only
  rw [Completed, (pmcEvent_counted _ _).host, pmcEvent_time]
  exact ⟨⟨_, List.mem_append_right _ (List.mem_singleton.2 rfl), rfl, rfl, rfl, rfl⟩,
    fun d hd => of_decide_eq_true (List.mem_filter.1 hd).2⟩

/-! ATT_SAVE (R249, R251). -/

/-- The state with another Attic. -/
def setAtt (a : AttSt) (s : State) : State := { s with att := a }

@[simp] theorem setAtt_att (a : AttSt) (s : State) : (setAtt a s).att = a := rfl
@[simp] theorem fget_setAtt (a : AttSt) (s : State) (f : Fld) : fget (setAtt a s) f = fget s f := rfl
@[simp] theorem flag_setAtt (a : AttSt) (s : State) (f : Fld) : flag (setAtt a s) f = flag s f := rfl

/-- The registers as a save begins. -/
def saveShown (s : State) : State := fset (fset s ATT_STATUS_BUSY 1) ATT_STATUS_STEP 1

theorem startSave_eq (slot : Option Nat) (s : State) : startSave slot s =
    setAtt { s.att with step := 1, slot := slot, snap := snapshot (saveShown s), want := false } (saveShown s) := rfl

theorem startSave_spec (slot : Option Nat) (s : State) :
    flag (startSave slot s) ATT_STATUS_BUSY = true ∧ fget (startSave slot s) ATT_STATUS_STEP = 1 ∧ (startSave slot s).att.step = 1 := by
  rw [startSave_eq, flag_setAtt, fget_setAtt, setAtt_att, saveShown]
  refine ⟨?_, ?_, rfl⟩
  · rw [flag_fset_other _ (Fld.apart_of_bits rfl)]
    exact flag_setFlag true (by decide)
  · exact fget_fset_of_lt (by decide) rfl

theorem execAttSave_starts {s : State} {slot : Nat} {c : CmdEntry} (hc : cmdOf s slot 7 = some c) (hstep : s.att.step = 0)
    (hslot : s.att.slot ≠ some slot) : execAttSave slot s = ok (startSave (some slot) s) := by
  simp only [execAttSave, hc, hslot, hstep, if_false, ne_eq, not_true]

theorem execAttSave_refused {s : State} {slot : Nat} {c : CmdEntry} (hc : cmdOf s slot 7 = some c) (hstep : s.att.step ≠ 0)
    (hslot : s.att.slot ≠ some slot) :
    execAttSave slot s = ok (complete slot 0 0x29 (fsets s [(ATT_STATUS_RESULT, 5), (ATT_EVENTS_SAVE_FAIL, 1)])) := by
  simp only [execAttSave, hc, hslot, hstep, if_false, ne_eq, not_false_eq_true, if_true]

/-- RESULT 5 and SAVE_FAIL stand in the registers. -/
theorem fsets_refused (s : State) :
    let t := fsets s [(ATT_STATUS_RESULT, 5), (ATT_EVENTS_SAVE_FAIL, 1)]
    fget t ATT_STATUS_RESULT = 5 ∧ flag t ATT_EVENTS_SAVE_FAIL = true := by
  simp only [fsets, List.foldl_cons, List.foldl_nil]
  constructor
  · rw [fget_fset_other _ (.inl (by decide)), fget_fset_of_lt (by decide) rfl]
  · exact flag_setFlag true (by decide)

/-! Banks. -/

theorem bankOf_setBank (k : Nat) (b : Bank) (s : State) : bankOf (setBank k b s) k = b := by
  unfold bankOf setBank
  split <;> rfl

theorem setBank_bankOf (k : Nat) (s : State) : setBank k (bankOf s k) s = s := by
  unfold bankOf setBank
  split <;> rfl

theorem targetBank_lt (s : State) : targetBank s < 4 := by
  unfold targetBank
  split <;> decide

/-! A step that leads to the next (R249). -/

theorem saveStep_spec {k : Nat} (hk : k < 8) (s : State) :
    (saveStep k s).att.step = k ∧ fget (saveStep k s) ATT_STATUS_STEP = k :=
  ⟨rfl, fget_fset_of_lt (f := ATT_STATUS_STEP) hk rfl⟩

theorem bankOf_saveStep (k j : Nat) (s : State) : bankOf (saveStep k s) j = bankOf s j := rfl

/-- What the target bank holds as the step in progress ends well: erased by step 1, then the header, the records and the commit
record written by steps 3, 4 and 6. -/
def bankWritten (s : State) : Bank :=
  let b := bankOf s (targetBank s)
  match s.att.step with
  | 1 => {}
  | 3 => { b with hdr := bankHeader (attSeq s + 1) s.att.snap }
  | 4 => { b with recs := s.att.snap }
  | 6 => { b with commit := commitRecord (attSeq s + 1) b.hdr b.recs }
  | _ => b

/-- A save makes progress: it runs, in a mode of R251, while the Housekeeper is not paused (R252). -/
theorem saveProceeds_iff (s : State) : ¬ (s.att.step = 0 ∨ modeIn s saveModes = false ∨ s.fw.paused = true) ↔
    1 ≤ s.att.step ∧ modeIn s saveModes = true ∧ s.fw.paused = false := by
  simp only [not_or, Bool.not_eq_false, Bool.not_eq_true, Nat.one_le_iff_ne_zero, ne_eq]

theorem execAttSaveStepDone_proceeds {s : State} (hmode : modeIn s saveModes = true) (hrun : s.fw.paused = false)
    (hlo : 1 ≤ s.att.step) (hhi : s.att.step ≤ 6) (hfit : s.att.step = 1 → recsFit s s.att.snap = true) :
    execAttSaveStepDone true s = ok (saveStep (s.att.step + 1) (setBank (targetBank s) (bankWritten s) s)) := by
  have hcases : s.att.step = 1 ∨ s.att.step = 2 ∨ s.att.step = 3 ∨ s.att.step = 4 ∨ s.att.step = 5 ∨ s.att.step = 6 := by omega
  unfold execAttSaveStepDone
  rw [if_neg ((saveProceeds_iff s).2 ⟨hlo, hmode, hrun⟩)]
  rcases hcases with h | h | h | h | h | h
  · simp only [bankWritten, h, saveErase, hfit h, Bool.not_true, Bool.false_eq_true, if_false]
  all_goals simp only [bankWritten, h, setBank_bankOf]

theorem execAttSaveStepDone_finishes {s : State} (hmode : modeIn s saveModes = true) (hrun : s.fw.paused = false)
    (h7 : s.att.step = 7) (erased : Bool) : execAttSaveStepDone erased s = ok (saveFinish erased s) := by
  unfold execAttSaveStepDone
  rw [if_neg ((saveProceeds_iff s).2 ⟨by omega, hmode, hrun⟩)]
  simp only [h7]

theorem execAttSaveStepDone_fails {s : State} (hmode : modeIn s saveModes = true) (hrun : s.fw.paused = false)
    (hlo : 2 ≤ s.att.step) (hhi : s.att.step ≤ 6) : execAttSaveStepDone false s = ok (endSave 4 0x84 0 s) := by
  unfold execAttSaveStepDone
  rw [if_neg ((saveProceeds_iff s).2 ⟨by omega, hmode, hrun⟩)]
  split
  case h_1 h => omega
  case h_2 h => omega
  case h_3 => rfl
  all_goals contradiction

/-! The end of a save (R249, R250, R256). -/

/-- The event bit with which a save ends. -/
def saveEvent (result : Nat) : Fld := if result = 1 then ATT_EVENTS_SAVE_DONE else ATT_EVENTS_SAVE_FAIL

theorem saveEvent_off (result : Nat) : (saveEvent result).off = ATT_EVENTS := by
  unfold saveEvent
  split <;> rfl

/-- The registers and the completion with which a save ends. -/
def saveAnswered (result status value : Nat) (s : State) : State :=
  let u := setFlag (fsets s [(ATT_STATUS_BUSY, 0), (ATT_STATUS_STEP, 0), (ATT_STATUS_RESULT, result)])
    (saveEvent result) true
  match s.att.slot with
  | some k => complete k value status u
  | none => u

theorem saveAnswered_att (result status value : Nat) (s : State) : (saveAnswered result status value s).att = s.att := by
  unfold saveAnswered
  dsimp only
  split
  · rw [complete_att, setFlag_att, fsets_att]
  · rw [setFlag_att, fsets_att]

/-- Where no change of the retirements waited, the save is over with its answer. -/
theorem endSave_of_late_nil (result status value : Nat) {s : State} (h : s.att.late = []) : endSave result status value s =
    setAtt { s.att with step := 0, slot := none, snap := [], late := [] } (saveAnswered result status value s) := by
  have hatt := saveAnswered_att result status value s
  have e : endSave result status value s = (saveAnswered result status value s).att.late.foldl (fun s p => jrnlAppend p s)
      (setAtt { (saveAnswered result status value s).att with step := 0, slot := none, snap := [], late := [] }
        (saveAnswered result status value s)) := rfl
  rw [e, hatt, h]
  rfl

/-- The completion of the command changes no register. -/
theorem fget_saveAnswered (result status value : Nat) (s : State) (f : Fld) : fget (saveAnswered result status value s) f =
    fget (setFlag (fset (fset (fset s ATT_STATUS_BUSY 0) ATT_STATUS_STEP 0) ATT_STATUS_RESULT result)
      (saveEvent result) true) f := by
  unfold saveAnswered
  dsimp only
  split
  · rw [fget_complete]
    rfl
  · rfl

theorem endSave_spec {result : Nat} (status value : Nat) {s : State} (hr : result < 8) (h : s.att.late = []) :
    let t := endSave result status value s
    t.att.step = 0 ∧ t.att.jrnl = s.att.jrnl ∧ flag t ATT_STATUS_BUSY = false ∧ fget t ATT_STATUS_RESULT = result ∧
      fget t ATT_STATUS_SOURCE = fget s ATT_STATUS_SOURCE ∧
      flag t (saveEvent result) = true := by
  have hevent (f : Fld) (hf : f.off = ATT_STATUS) : (saveEvent result).Apart f := .inl (by rw [saveEvent_off, hf]; decide)
  rw [endSave_of_late_nil result status value h]
  dsimp only
  rw [setAtt_att, flag_setAtt, fget_setAtt, fget_setAtt, flag_setAtt, flag, flag,
    fget_saveAnswered, fget_saveAnswered, fget_saveAnswered, fget_saveAnswered,
    fget_setFlag_other _ (hevent _ rfl), fget_setFlag_other _ (hevent _ rfl), fget_setFlag_other _ (hevent _ rfl)]
  refine ⟨rfl, rfl, ?_, fget_fset_of_lt (f := ATT_STATUS_RESULT) hr rfl, ?_, ?_⟩
  · rw [fget_fset_other _ (Fld.apart_of_bits rfl), fget_fset_other _ (Fld.apart_of_bits rfl), fget_fset_of_lt (by decide) rfl]
    rfl
  · rw [fget_fset_other _ (Fld.apart_of_bits rfl), fget_fset_other _ (Fld.apart_of_bits rfl),
      fget_fset_other _ (Fld.apart_of_bits rfl)]
  · exact flag_setFlag true (by unfold saveEvent; split <;> decide)

/-- Step 7 (R249): the new bank is the source, with its SEQ and its length, and the journal is empty. -/
def newSource (s : State) : State :=
  let u := setPair ATT_SEQ_LO ATT_SEQ_HI (bankOf s (targetBank s)).seq (fset s ATT_STATUS_SOURCE (targetBank s))
  let v := fset (setRaw u ATT_USED (recsEnd s.att.snap)) ATT_JRNL_ENTRIES 0
  setAtt { s.att with jrnl := [] } v

theorem saveFinish_erased (s : State) : saveFinish true s = endSave 1 0 ((bankOf s (targetBank s)).seq % 2 ^ 32) (newSource s) := rfl

theorem newSource_source (s : State) : fget (newSource s) ATT_STATUS_SOURCE = targetBank s := by
  simp only [newSource, setPair, fget_setAtt]
  rw [fget_fset_other _ (.inl (by decide)), fget_setRaw_other _ (by decide), fget_setRaw_other _ (by decide),
    fget_setRaw_other _ (by decide)]
  exact fget_fset_of_lt (f := ATT_STATUS_SOURCE) (targetBank_lt s) rfl

/-! The check of the kept bank after a warm start (R524). -/

theorem execAtticBackgroundCheck_fails {s : State} (hmode : modeIn s saveModes = true) (hwarm : s.start.warm = true)
    (hk : fget s ATT_STATUS_SOURCE = 1 ∨ fget s ATT_STATUS_SOURCE = 2) :
    execAtticBackgroundCheck false s = ok (wantSave (report 0 ATT_EVENTS_BANK_BAD [fget s ATT_STATUS_SOURCE] s)) := by
  unfold execAtticBackgroundCheck
  rcases hk with hk | hk <;> simp [hmode, hwarm, hk]

/-- The save that the failure asks for leaves the event. -/
theorem wantSave_events (s : State) {f : Fld} (h : rowIdx f.off = 158) : flag (wantSave s) f = flag s f :=
  (wantSave_within (Sub.refl _) (Within.refl _ s)).flag_row h rfl

end Sys2Proof.Machine

open Sys2Proof Sys2Proof.Machine

/-- Settles O20: the command starts a save or is refused, each step writes its part of the target bank, and the end of a save is one
operation whose result the last step decides. -/
theorem atticSaveRunsItsSteps : Obligations.AtticSaveRunsItsSteps := by
  refine ⟨fun s slot c _ hc hstep hslot => ?_, fun s slot c _ hc hstep hslot hfind => ?_, fun s _ hm hp hlo hhi hfit => ?_,
    fun s _ hm hp h7 hlate => ?_, fun s _ hm hp hlo hhi hlate => ?_, fun s _ hm hwarm hk => ?_⟩
  · exact ⟨_, execAttSave_starts hc hstep hslot, startSave_spec _ s⟩
  · obtain ⟨hresult, hevent⟩ := fsets_refused s
    refine ⟨_, execAttSave_refused hc hstep hslot, complete_completed _ _ hfind, ?_, ?_, ?_⟩
    · rw [fget_complete, hresult]
    · rw [flag, fget_complete]
      exact hevent
    · rw [complete_att, fsets_att]
  · obtain ⟨hnext, hreg⟩ := saveStep_spec (k := s.att.step + 1) (by omega) (setBank (targetBank s) (bankWritten s) s)
    refine ⟨_, execAttSaveStepDone_proceeds hm hp hlo hhi hfit, hnext, hreg, fun h => ?_, fun h => ?_⟩
    · simp only [bankOf_saveStep, bankOf_setBank, bankWritten, h]
    · simp only [bankOf_saveStep, bankOf_setBank, bankWritten, h]
  · obtain ⟨hstep, hjrnl, hbusy, hresult, hsource, -⟩ :=
      endSave_spec 0 ((bankOf s (targetBank s)).seq % 2 ^ 32) (s := newSource s) (show 1 < 8 by decide) hlate
    refine ⟨_, execAttSaveStepDone_finishes hm hp h7 true, ?_⟩
    rw [saveFinish_erased]
    exact ⟨hstep, hbusy, hresult, hsource.trans (newSource_source s), hjrnl⟩
  · obtain ⟨hstep, -, hbusy, hresult, -, hevent⟩ := endSave_spec 0x84 0 (show 4 < 8 by decide) hlate
    exact ⟨_, execAttSaveStepDone_fails hm hp hlo hhi, hstep, hbusy, hresult, hevent⟩
  · refine ⟨_, execAtticBackgroundCheck_fails hm hwarm hk, ?_⟩
    rw [wantSave_events _ ATT_EVENTS_BANK_BAD_row]
    exact flag_report 0 _ (clearOf_of_row ATT_EVENTS_BANK_BAD_row rfl rfl) (by decide)
end

section
/-! A start leaves its mode while it runs: a step that finds something uncovered waits for READY to reach LIMP (R517, R522). -/

namespace Sys2Proof.Machine

theorem Within.start_eq {m : Nat} {s t : State} (h : Within m s t) (c : m.testBit 9 = false) : t.start = s.start :=
  h.parts .start (by simp [Part.outside, Part.bit, c])

theorem Within.hwy_eq {m : Nat} {s t : State} (h : Within m s t) (c : m.testBit 25 = false) : t.hwy = s.hwy :=
  h.parts .hwy (by simp [Part.outside, Part.bit, c])

/-- Writes of fields change registers only. -/
theorem fsets_within_regs (s : State) (l : List (Fld × Nat)) : Within (2 ^ 31) s (fsets s l) :=
  fsets_within (fun _ _ => .all (by decide)) (Within.refl _ s)

@[simp] theorem fsets_mode (s : State) (l : List (Fld × Nat)) : (fsets s l).mode = s.mode := (fsets_within_regs s l).mode_eq rfl

@[simp] theorem fsets_start (s : State) (l : List (Fld × Nat)) : (fsets s l).start = s.start :=
  (fsets_within_regs s l).start_eq rfl

@[simp] theorem fsets_hwy (s : State) (l : List (Fld × Nat)) : (fsets s l).hwy = s.hwy := (fsets_within_regs s l).hwy_eq rfl

theorem starting_iff (s : State) : starting s = true ↔ s.mode.mode = .coldStart ∨ s.mode.mode = .warmStart := by
  simp [starting]

theorem countFail_mode (g i : Nat) (s : State) : (countFail g i s).1.mode = s.mode := by
  rw [countFail_eq]
  split <;> rfl

/-- The guest takes the tap of slice i, where it has one, and rotation stands still (R150). -/
theorem suspend_commitGuest_mode (g i : Nat) (s : State) :
    (suspend g (if i < 16 then commitGuest g i s else s)).mode = s.mode := by
  split <;> rfl

theorem foldl_mode {α : Type} {m : ModeSt} {f : State → α → State} (k : ∀ u a, u.mode = m → (f u a).mode = m) {l : List α}
    {s : State} (h : s.mode = m) : (l.foldl f s).mode = m :=
  foldl_keeps (P := fun u => u.mode = m) k h

theorem forN_mode {m : ModeSt} {n : Nat} {f : Nat → State → State} (k : ∀ j u, u.mode = m → (f j u).mode = m) {s : State}
    (h : s.mode = m) : (forN n f s).mode = m :=
  foldl_mode (fun u j => k j u) h

section
variable {m : ModeSt} (hm : m.mode = .coldStart ∨ m.mode = .warmStart)
include hm

/-- Only a device that is up changes to LIMP (R517). -/
theorem limpCause_mode_in_start (f : Fld) {s : State} (h : s.mode = m) : (limpCause f s).mode = m := by
  have hno : modeIn (setFlag (setFlag s f true) SYS_EVENTS_LIMP true) [.ready, .scan, .hold, .calibrate] = false := by
    rcases hm with e | e <;> simp [modeIn, modeIs, h, e]
  unfold limpCause
  dsimp only
  rw [hno]
  exact h

theorem uncover_mode_in_start (g i : Nat) (tap : Option Nat) {s : State} (h : s.mode = m) : (uncover g i tap s).mode = m := by
  rw [uncover_eq]
  exact limpCause_mode_in_start hm _ ((report_mode _ _ _ _).trans h)

/-! The lane test and the start pass (R155, R196). -/

theorem laneTest_mode_in_start (l : List Nat) {s : State} (h : s.mode = m) : (laneTest l s).mode = m := by
  unfold laneTest
  extract_lets a
  have ha : a.mode = m := foldl_mode (fun u k hu => (fset_mode u _ _).trans hu) h
  refine foldl_mode (fun u k hu => ?_) ha
  split
  · exact hu
  · extract_lets v
    have hv : v.mode = m := hu
    split
    · exact ((setSpare_within (Sub.refl _) (Within.refl _ v)).mode_eq rfl).trans hv
    · exact limpCause_mode_in_start hm _
        ((report_mode _ _ _ _).trans (((laneDies_within (Sub.refl _) (Within.refl _ v)).mode_eq rfl).trans hv))

theorem retireByRuns_mode_in_start (g i : Nat) {s : State} (h : s.mode = m) : (retireByRuns g i s).mode = m := by
  unfold retireByRuns
  split
  · exact uncover_mode_in_start hm g i _ h
  · extract_lets u
    have hu : u.mode = m :=
      ((raise_within (Sub.refl _) (Within.refl _ _)).mode_eq rfl).trans
        (((noteRetired_within (Sub.refl _) (Within.refl _ s)).mode_eq rfl).trans h)
    exact (suspend_commitGuest_mode g i u).trans hu

theorem startRuns_mode_in_start (g i : Nat) (l : List SliceMeas) {s : State} (h : s.mode = m) : (startRuns g i l s).mode = m := by
  induction l generalizing s with
  | nil => exact h
  | cons x r ih =>
    have hfail : (countFail g i (slcFail g i (runResult x).1 (runResult x).2 s)).1.mode = m := by
      rw [countFail_mode]
      exact ((slcFail_within (Sub.refl _) (Within.refl _ s)).mode_eq rfl).trans h
    unfold startRuns
    dsimp only
    split
    · exact ((takeTrims_within (Sub.refl _) (Within.refl _ s)).mode_eq rfl).trans h
    · split
      · exact retireByRuns_mode_in_start hm g i hfail
      · exact ih hfail

theorem slcStartPass_mode_in_start (runs : List (Nat × Nat × List SliceMeas)) {s : State} (h : s.mode = m) :
    (slcStartPass runs s).mode = m := by
  unfold slcStartPass
  extract_lets a b
  have ha : a.mode = m := forN_mode (fun g u hu => by dsimp only; split <;> exact hu) h
  have hb : b.mode = m := by
    refine foldl_mode (fun u r hu => ?_) ha
    split
    · exact hu
    · exact startRuns_mode_in_start hm _ _ _ hu
  refine forN_mode (fun g u hu => ?_) hb
  split
  · exact (suspend_commitGuest_mode g _ u).trans hu
  · exact hu

/-! The journal (R155, R255, R256). -/

theorem journalStep_mode_in_start {s : State} (h : s.mode = m) : (journalStep s).mode = m := by
  unfold journalStep
  extract_lets a b c d late _ e _ f
  have ha : a.mode = m := by
    simp only [a]
    split
    · exact ((restoreJournal_within (Sub.refl _) (Within.refl _ s)).mode_eq rfl).trans h
    · exact h
  have hb : b.mode = m := by
    refine foldl_mode (fun u p hu => ?_) ha
    split
    · exact (fsets_mode _ _).trans hu
    · split
      · exact hu
      · exact uncover_mode_in_start hm _ _ _ hu
  have hc : c.mode = m := by
    refine forN_mode (fun g u hu => ?_) hb
    dsimp only
    split
    · exact (suspend_commitGuest_mode g _ _).trans hu
    · split
      · exact (fsets_mode _ _).trans (((releaseGuest_within (Sub.refl _) (Within.refl _ u)).mode_eq rfl).trans hu)
      · exact hu
  have hd : d.mode = m := ((countRetired_within (Sub.refl _) (Within.refl _ c)).mode_eq rfl).trans hc
  have hf : f.mode = m := hd
  clear_value f
  split
  · exact hf
  · exact ((jrnlAppend_within (Sub.refl _) (Within.refl _ f)).mode_eq rfl).trans hf

/-! Every step. -/

theorem stepEnds_mode_in_start (n : Nat) (r : StepReport) {s : State} (h : s.mode = m) : (stepEnds n r s).mode = m := by
  unfold stepEnds
  split
  case h_1 => exact h
  case h_2 =>
    split
    · exact ((fuseStep_within (Sub.refl _) (Within.refl _ s)).mode_eq rfl).trans h
    · exact h
  case h_3 =>
    split
    · exact h
    · exact ((firmwareStep_within (Sub.refl _) (Within.refl _ s)).mode_eq rfl).trans h
  case h_4 =>
    exact foldl_mode (fun u _ hu => ((bistRow_within (Sub.refl _) (Within.refl _ u)).mode_eq rfl).trans hu) h
  case h_5 => exact ((cellarStep_within (Sub.refl _) (Within.refl _ s)).mode_eq rfl).trans h
  case h_6 => exact laneTest_mode_in_start hm _ h
  case h_7 => exact slcStartPass_mode_in_start hm _ h
  case h_8 => exact ((earlyStep_within (Sub.refl _) (Within.refl _ s)).mode_eq rfl).trans h
  case h_9 =>
    dsimp only
    rw [(runAgain_within (Sub.refl _) (Within.refl _ _)).mode_eq rfl]
    split
    · exact ((warmStep_within (Sub.refl _) (Within.refl _ s)).mode_eq rfl).trans h
    · exact ((restoreStep_within (Sub.refl _) (Within.refl _ s)).mode_eq rfl).trans h
  case h_10 => exact journalStep_mode_in_start hm h
  case h_11 => exact h

end

end Sys2Proof.Machine
end

section
/-! The steps of a start: the end of a step and what follows it, the record of a failed start, a lost calibration source, the write
that clears the record, and the statement of spec/17 that rests on them (R248, R522, R526). -/

namespace Sys2Proof.Machine

/-! What steps that begin or are skipped leave. -/

/-- What the beginning of a step, its skipping and the field STEP leave, every step that follows leaves. -/
theorem stepsFollow_keeps {P : State → Prop} (begins : ∀ n u, P u → P (stepBegin n u)) (skips : ∀ n u, P u → P (markDone n u))
    (shows : ∀ n u, P u → P (fset u SYS_STARTSTAT_STEP n)) {s : State} (h : P s) : P (stepsFollow s) := by
  unfold stepsFollow
  extract_lets u
  have hu : P u := by
    refine foldl_keeps (fun v _ hv => foldl_keeps (fun w n hw => ?_) hv) h
    split
    · exact hw
    · split
      · exact skips n w hw
      · exact begins n w hw
  split
  · exact shows _ u hu
  · exact hu

theorem stepBegin_start (n : Nat) (s : State) :
    (stepBegin n s).start = { s.start with begun := nset s.start.begun n (s.time + 1) } := by
  unfold stepBegin
  extract_lets _ u
  have hu : u.start = { s.start with begun := nset s.start.begun n (s.time + 1) } := rfl
  clear_value u
  split
  · split
    · exact hu
    · exact (fsets_start _ _).trans hu
  · exact ((enumSend_within (Sub.refl _) (Within.refl _ _)).start_eq rfl).trans hu
  · split
    · exact ((verifyChain_within (Sub.refl _) (Within.refl _ u)).start_eq rfl).trans hu
    · exact ((sizeBegin_within (Sub.refl _) (Within.refl _ u)).start_eq rfl).trans hu
  · exact hu

theorem stepBegin_joined (n : Nat) (s : State) : (stepBegin n s).hwy.joined = s.hwy.joined := by
  unfold stepBegin
  extract_lets _ u
  have hu : u.hwy.joined = s.hwy.joined := rfl
  clear_value u
  split
  · split
    · exact hu
    · rw [fsets_hwy, hu]
  · rw [(enumSend_within (Sub.refl _) (Within.refl _ _)).hwy_eq rfl, ← hu]
  · split
    · rw [(verifyChain_within (Sub.refl _) (Within.refl _ u)).hwy_eq rfl, hu]
    · rw [(sizeBegin_within (Sub.refl _) (Within.refl _ u)).hwy_eq rfl, hu]
  · exact hu

theorem stepDone_markDone (n : Nat) (s : State) : stepDone (markDone n s) n = true := tget_tset

theorem stepDone_markDone_of_done {k : Nat} (n : Nat) {s : State} (h : stepDone s k = true) : stepDone (markDone n s) k = true := by
  by_cases e : k = n
  · subst e
    exact stepDone_markDone k s
  · exact (tget_tset_other e).trans h

theorem stepsFollow_done {k : Nat} {s : State} (h : stepDone s k = true) : stepDone (stepsFollow s) k = true := by
  refine stepsFollow_keeps (P := fun u => stepDone u k = true) (fun n u hu => ?_) (fun n u hu => stepDone_markDone_of_done n hu)
    (fun _ _ hu => hu) h
  rw [stepDone, stepBegin_start]
  exact hu

theorem stepsFollow_warm (s : State) : (stepsFollow s).start.warm = s.start.warm :=
  stepsFollow_keeps (P := fun u => u.start.warm = s.start.warm) (fun n u hu => by rw [stepBegin_start]; exact hu) (fun _ _ hu => hu)
    (fun _ _ hu => hu) rfl

theorem stepsFollow_joined (s : State) : (stepsFollow s).hwy.joined = s.hwy.joined :=
  stepsFollow_keeps (P := fun u => u.hwy.joined = s.hwy.joined) (fun n u hu => (stepBegin_joined n u).trans hu) (fun _ _ hu => hu)
    (fun _ _ hu => hu) rfl

theorem stepsFollow_mode (s : State) : (stepsFollow s).mode = s.mode := (stepsFollow_within (Sub.refl _) (Within.refl _ s)).mode_eq rfl

/-! The end of a step (R522). -/

/-- The state in which step n has ended, and the steps that waited for it have begun. -/
def afterStep (n : Nat) (r : StepReport) (s : State) : State := stepsFollow (markDone n (stepEnds n r s))

/-- The state in which a joined member waits for the others (R487). -/
def waitForAll (s : State) : State := { s with start := { s.start with waitAll := true } }

@[simp] theorem waitForAll_mode (s : State) : (waitForAll s).mode = s.mode := rfl

theorem afterStep_done (n : Nat) (r : StepReport) (s : State) : stepDone (afterStep n r s) n = true :=
  stepsFollow_done (stepDone_markDone n _)

theorem afterStep_mode (n : Nat) (r : StepReport) {s : State} (h : starting s = true) : (afterStep n r s).mode = s.mode :=
  (stepsFollow_mode _).trans (stepEnds_mode_in_start ((starting_iff s).1 h) n r rfl)

theorem stepEnds_last (r : StepReport) (s : State) : stepEnds 16 r s = s := rfl

theorem afterStep_joined_last (r : StepReport) (s : State) : (afterStep 16 r s).hwy.joined = s.hwy.joined := by
  rw [afterStep, stepsFollow_joined, stepEnds_last]
  rfl

section
variable {s : State} {k : Fin 17} {r : StepReport} (hs : starting s = true) (hr : stepRuns s k = true)
  (hw : flag s PWR_STATUS_WARN = false)
include hs hr hw

/-- A report that fails fails the start (R526). -/
theorem execStartStepDone_fails (hc : failCode s k r ≠ 0) : execStartStepDone k r s = ok (startFailed k (failCode s k r) s) := by
  simp [execStartStepDone, hs, hr, hw, hc]

/-- Step 14 of a cold start halts without a calibration source (R248). -/
theorem execStartStepDone_halts (hc : failCode s k r = 0) (hm : stepMayEnd s k = true)
    (hl : k.val = 14 ∧ s.start.warm = false ∧ sourceLost (r.pairs.map fun p => p.1) s = true) :
    execStartStepDone k r s = ok (haltCause haltCal 0xD s) := by
  simp only [execStartStepDone, hs, hr, hw, hc, hm, Bool.not_true, Bool.or_self, Bool.false_eq_true, if_false, ne_eq, not_true]
  exact if_pos hl

/-- Any other step that may end, ends; after the last one the start waits for the ring, or READY is reached (R487, R522). -/
theorem execStartStepDone_ends (hc : failCode s k r = 0) (hm : stepMayEnd s k = true)
    (hl : ¬ (k.val = 14 ∧ s.start.warm = false ∧ sourceLost (r.pairs.map fun p => p.1) s = true)) :
    execStartStepDone k r s =
      if k.val = 16 then
        if (afterStep k r s).hwy.joined then ok (waitForAll (afterStep k r s)) else ok (reachReady (afterStep k r s))
      else ok (afterStep k r s) := by
  simp only [execStartStepDone, hs, hr, hw, hc, hm, hl, Bool.not_true, Bool.or_self, Bool.false_eq_true, if_false, ne_eq, not_true]
  rw [← afterStep]
  rfl

end

/-- The state in which READY is entered, before the banks that failed a check are named. -/
def readyEntered (s : State) : State :=
  enterMode .ready 0 (fsets { s with start := { s.start with on := false, waitAll := false } }
    [(SYS_STARTS_FAILS, 0), (SYS_STARTSTAT_STEP, 16)])

/-- Naming the banks changes the Attic, its events and the Landing. -/
theorem reachReady_within_readyEntered (s : State) :
    Within (0x88000000000000000001001801 ||| 2 ^ 190 ||| 2 ^ 22) (readyEntered s) (reachReady s) :=
  foldl_within (fun _ _ => report_within (Sub.of (by decide)) (.of ATT_EVENTS_BANK_BAD_row (by decide)))
    (Within.set_att (by decide) (Within.refl _ (readyEntered s)))

/-- READY is reached: the start is over, and no failure is counted (R515, R526). -/
theorem reachReady_spec (s : State) :
    (reachReady s).mode.mode = .ready ∧ (reachReady s).start.on = false ∧ fget (reachReady s) SYS_STARTS_FAILS = 0 := by
  have hw := reachReady_within_readyEntered s
  rw [hw.mode_eq rfl, hw.start_eq rfl, hw.fget_row SYS_STARTS_FAILS_row rfl, readyEntered]
  refine ⟨enterMode_mode _ _ _, ?_, ?_⟩
  · rw [(enterMode_within (Sub.refl _) (Within.refl _ _)).start_eq rfl, fsets_start]
  · rw [(enterMode_within (Sub.refl _) (Within.refl _ _)).fget_row SYS_STARTS_FAILS_row rfl]
    simp only [fsets, List.foldl_cons, List.foldl_nil]
    rw [fget_fset_other _ (.inl (by decide)), fget_fset_of_lt (by decide) rfl]

/-! A step that fails (R526). -/

theorem failCode_lt (s : State) (n : Nat) (r : StepReport) : failCode s n r < 256 := by
  unfold failCode
  repeat' split
  all_goals decide

/-- The state in which a failure has been recorded and told, before the device starts again or halts. -/
def failureTold (n code : Nat) (s : State) : State :=
  report 0 SYS_EVENTS_START_FAIL [] (fsets s [(SYS_STARTSTAT_VALID, 1), (SYS_STARTSTAT_FKIND, b2n s.start.warm), (SYS_STARTSTAT_FSTEP, n),
    (SYS_STARTSTAT_CODE, code), (SYS_STARTS_FAILS, min 2 (fget s SYS_STARTS_FAILS + 1))])

theorem startFailed_eq (n code : Nat) (s : State) : startFailed n code s =
    if fget s SYS_STARTS_FAILS != 0 then haltCause haltStart 0 (failureTold n code s) else beginStart false code (failureTold n code s) :=
  rfl

theorem Inv.failureTold {s : State} (i : Inv s) (n code : Nat) : Inv (failureTold n code s) := (i.fsets _).report _ _ _

@[simp] theorem failureTold_mode (n code : Nat) (s : State) : (failureTold n code s).mode = s.mode := by
  rw [failureTold, report_mode, fsets_mode]

theorem failureTold_spec {n : Nat} (code : Nat) (s : State) (hn : n < 32) :
    fget (failureTold n code s) SYS_STARTSTAT_FSTEP = n ∧ flag (failureTold n code s) SYS_STARTSTAT_FKIND = s.start.warm ∧
      fget (failureTold n code s) SYS_STARTS_FAILS = min 2 (fget s SYS_STARTS_FAILS + 1) := by
  have hstat : clearOf 0x88000000000000000001001801 SYS_STARTSTAT = true := clearOf_of_row SYS_STARTSTAT_row rfl rfl
  have hstarts : clearOf 0x88000000000000000001001801 SYS_STARTS = true := clearOf_of_row SYS_STARTS_row rfl rfl
  rw [failureTold, flag, fget_report_other SYS_STARTSTAT_FSTEP _ _ hstat (by decide),
    fget_report_other SYS_STARTSTAT_FKIND _ _ hstat (by decide), fget_report_other SYS_STARTS_FAILS _ _ hstarts (by decide)]
  simp only [fsets, List.foldl_cons, List.foldl_nil]
  refine ⟨?_, ?_, ?_⟩
  · rw [fget_fset_other _ (.inl (by decide)), fget_fset_other _ (Fld.apart_of_bits rfl)]
    exact fget_fset_of_lt (f := SYS_STARTSTAT_FSTEP) hn rfl
  · rw [fget_fset_other _ (.inl (by decide)), fget_fset_other _ (Fld.apart_of_bits rfl), fget_fset_other _ (Fld.apart_of_bits rfl)]
    exact flag_setFlag s.start.warm (by decide)
  · exact fget_fset_of_lt (f := SYS_STARTS_FAILS) (show min 2 _ < 4 by omega) rfl

/-- The next start, and HALT, leave the fields of the record (R16, R526). -/
theorem fget_startFailed {s : State} (i : Inv s) (n code : Nat) {f : Fld} (hf : f.off = SYS_STARTSTAT) (hhi : f.hi < 32) (hlo : 12 < f.lo)
    (hm : ∀ k, k < f.hi + 1 - f.lo → (startMask false SYS_STARTSTAT).testBit (f.lo + k) = true) :
    fget (startFailed n code s) f = fget (failureTold n code s) f := by
  rw [startFailed_eq]
  split
  · exact (haltCause_within (Sub.refl _) (Within.refl _ _)).fget (clearOf_startstat hf rfl rfl)
  · exact fget_beginStart (i.failureTold n code) false code hf hhi hlo hm

/-- The registers that a cold start sets after its reset (R16, R526). -/
def coldShown (s : State) : State :=
  let u := fsets s [
    (PIPE_STATUS_SPARES, sparesFree s), (LMP_STATUS_TABLE, b2n !s.lmp.entries.isEmpty),
    (HWY_STATUS_MASTER, 1 - fget s SYS_STRAP_HWY_MASTER_N), (SYS_STARTSTAT_KIND, b2n false), (SYS_STARTSTAT_STEP, 2)]
  fset u SYS_STARTS_COLD (satAdd 4095 (fget u SYS_STARTS_COLD) 1)

/-- The state in which a cold start is in progress, before the change of mode; the mode is still the old one. -/
def coldUnderWay (old : Mode) (s : State) : State :=
  { s with
    mode := { s.mode with mode := old, origin := .off, heldStart := false, tests := 0 }
    start := { on := true, warm := false, early := [raw s HWY_CTL, raw s LNK_CTL, raw s CLK_CTL] } }

theorem coldUnderWay_warm (old : Mode) (s : State) : (coldUnderWay old s).start.warm = false := rfl
theorem fget_coldUnderWay (old : Mode) (s : State) (f : Fld) : fget (coldUnderWay old s) f = fget s f := rfl

/-- The count of failures shares its register with the count of cold starts only. -/
theorem fails_coldShown (s : State) : fget (coldShown s) SYS_STARTS_FAILS = fget s SYS_STARTS_FAILS := by
  simp only [coldShown, fsets, List.foldl_cons, List.foldl_nil]
  rw [fget_fset_other _ (Fld.apart_of_bits rfl), fget_fset_other _ (.inl (by decide)), fget_fset_other _ (.inl (by decide)),
    fget_fset_other _ (.inl (by decide)), fget_fset_other _ (.inl (by decide)), fget_fset_other _ (.inl (by decide))]

/-- A cold start resets the device, shows itself and enters its mode. -/
theorem beginStart_cold_eq (cause : Nat) (s : State) : beginStart false cause s =
    stepsFollow (enterMode .coldStart cause (coldUnderWay s.mode.mode (coldShown (countRetired (startReset false s))))) := by
  unfold beginStart
  generalize countRetired (startReset false s) = a
  extract_lets old _ b c d e g v
  have hc : c = coldShown a := if_neg Bool.false_ne_true
  have hg : g = coldUnderWay old (coldShown a) := by
    rw [← hc]
    rfl
  have hv : v = g := if_neg Bool.false_ne_true
  rw [hv, hg, if_neg Bool.false_ne_true]

/-- The reset of a start keeps the count of failures (R16). -/
theorem fails_startReset {s : State} (i : Inv s) :
    fget (countRetired (startReset false s)) SYS_STARTS_FAILS = fget s SYS_STARTS_FAILS :=
  ((countRetired_within (Sub.refl _) (Within.refl _ _)).fget_row SYS_STARTS_FAILS_row rfl).trans
    (fget_startReset i false (by decide) (clearOf_of_row SYS_STARTS_FAILS_row rfl rfl) (by decide))

theorem beginStart_cold {s : State} (i : Inv s) (cause : Nat) :
    (beginStart false cause s).mode.mode = .coldStart ∧ (beginStart false cause s).start.warm = false ∧
      fget (beginStart false cause s) SYS_STARTS_FAILS = fget s SYS_STARTS_FAILS := by
  rw [beginStart_cold_eq]
  generalize hv : coldUnderWay s.mode.mode (coldShown (countRetired (startReset false s))) = v
  have hw := enterMode_within (m_ := .coldStart) (cause := cause) (Sub.refl _) (Within.refl _ v)
  rw [stepsFollow_mode, stepsFollow_warm, (stepsFollow_within (Sub.refl _) (Within.refl _ _)).fget_row SYS_STARTS_FAILS_row rfl,
    hw.start_eq rfl, hw.fget_row SYS_STARTS_FAILS_row rfl, ← hv, fget_coldUnderWay, fails_coldShown, fails_startReset i]
  exact ⟨enterMode_mode _ _ _, coldUnderWay_warm _ _, rfl⟩

/-- A failed start is tried once more, cold; a second failure halts the device (R526). -/
theorem startFailed_follows {s : State} (i : Inv s) (n code : Nat) (hn : n < 32) (hoff : s.mode.mode ≠ .off) :
    let t := startFailed n code s
    if fget s SYS_STARTS_FAILS = 0 then t.mode.mode = .coldStart ∧ t.start.warm = false ∧ fget t SYS_STARTS_FAILS = 1
    else t.mode.mode = .halt := by
  obtain ⟨-, -, hfails⟩ := failureTold_spec code s hn
  rw [startFailed_eq]
  by_cases h : fget s SYS_STARTS_FAILS = 0
  · obtain ⟨hmode, hwarm, hkeep⟩ := beginStart_cold (i.failureTold n code) code
    rw [hfails, h] at hkeep
    simp only [h, bne_self_eq_false, Bool.false_eq_true, if_false, if_true]
    exact ⟨hmode, hwarm, hkeep⟩
  · have hagain : (fget s SYS_STARTS_FAILS != 0) = true := bne_iff_ne.2 h
    simp only [h, hagain, if_false, if_true]
    exact haltCause_mode _ _ (by rwa [failureTold_mode])

/-! A cause of HALT (R519). -/

/-- The cause as SYS_FAULT latches it, with the event. -/
def faultLatched (code src : Nat) (s : State) : State :=
  setFlag (fsets s [(SYS_FAULT_VALID, 1), (SYS_FAULT_SRC, src), (SYS_FAULT_CODE, code)]) SYS_EVENTS_HALT true

/-- The state in which no start is in progress. -/
def startOver (s : State) : State := { s with start := { s.start with on := false, waitAll := false } }

theorem fget_startOver (s : State) (f : Fld) : fget (startOver s) f = fget s f := rfl

theorem haltCause_latches {s : State} (code src : Nat) (h : s.mode.mode ≠ .off ∧ s.mode.mode ≠ .halt)
    (hv : flag s SYS_FAULT_VALID = false) :
    haltCause code src s = enterMode .halt code (startOver (stopUnits (faultLatched code src s))) := by
  have hno : ¬ (modeIs s .off || modeIs s .halt) = true := by simp [h]
  have hnew : ¬ flag s SYS_FAULT_VALID = true := by simp [hv]
  unfold haltCause
  dsimp only
  rw [if_neg hno, if_neg hnew, ← faultLatched]
  rfl

/-- The units that stop, and the change of mode, leave the cause. -/
theorem haltCause_fault {s : State} {code src : Nat} (h : s.mode.mode ≠ .off ∧ s.mode.mode ≠ .halt)
    (hv : flag s SYS_FAULT_VALID = false) (hcode : code < 256) (hsrc : src < 64) :
    fget (haltCause code src s) SYS_FAULT_CODE = code ∧ fget (haltCause code src s) SYS_FAULT_SRC = src := by
  have hlatch {f : Fld} (hf : f.off = SYS_FAULT) : fget (haltCause code src s) f =
      fget (fset (fset (fset s SYS_FAULT_VALID 1) SYS_FAULT_SRC src) SYS_FAULT_CODE code) f := by
    have hrow : rowIdx f.off = 8 := by rw [hf, SYS_FAULT_row]
    rw [haltCause_latches code src h hv, (enterMode_within (Sub.refl _) (Within.refl _ _)).fget_row hrow rfl, fget_startOver,
      (stopUnits_within (Sub.refl _) (Within.refl _ _)).fget_row hrow rfl, faultLatched]
    exact fget_setFlag_other true (.inl (by rw [hf]; decide))
  rw [hlatch rfl, hlatch rfl]
  constructor
  · exact fget_fset_of_lt (f := SYS_FAULT_CODE) hcode rfl
  · rw [fget_fset_other _ (Fld.apart_of_bits rfl)]
    exact fget_fset_of_lt (f := SYS_FAULT_SRC) hsrc rfl

/-! Writes of SYS_STARTSTAT (R526). -/

/-- A register below every one of an indexed family is none of them. -/
theorem isOne_of_lt {n : Nat} {f : Nat → Nat} {off : Nat} (h : ∀ k, off < f k) : isOne n f off = false :=
  List.any_eq_false.2 fun k _ e => Nat.ne_of_lt (h k) (eq_of_beq e)

/-- SYS_STARTSTAT lies below every indexed register that has a command of its own. -/
theorem ownRow_STARTSTAT : ownRow SYS_STARTSTAT = false := by
  unfold ownRow
  simp only [Bool.or_eq_false_iff]
  repeat' apply And.intro
  · decide
  all_goals exact isOne_of_lt fun k => Nat.lt_of_lt_of_le (by decide) (Nat.le_add_right _ _)

/-- SYS_STARTSTAT has no command of its own, and no rule discards its write. -/
theorem regWriteEffect_STARTSTAT (v : Nat) (s : State) : regWriteEffect SYS_STARTSTAT v s =
    let u := setRaw (noteBand SYS_STARTSTAT s) SYS_STARTSTAT (written s SYS_STARTSTAT v)
    if flag u SYS_STARTSTAT_VALID then u
    else fsets u [(SYS_STARTSTAT_FKIND, 0), (SYS_STARTSTAT_FSTEP, 0), (SYS_STARTSTAT_CODE, 0)] := by
  have hdis : writeDiscarded SYS_STARTSTAT v = false := rfl
  have hlock : rbaseLocked s SYS_STARTSTAT = false := by
    have hbase : (indexIn 19 HOST_RBASE_LO SYS_STARTSTAT <|> indexIn 19 HOST_RBASE_HI SYS_STARTSTAT) = none := by decide
    rw [rbaseLocked, hbase]
  have haxis : indexIn 8 MOT_ACTL SYS_STARTSTAT = none := by decide
  have hwc : (indexIn 16 AUX_WC_CTL SYS_STARTSTAT <|> indexIn 16 AUX_WC_LO SYS_STARTSTAT <|>
      indexIn 16 AUX_WC_HI SYS_STARTSTAT) = none := by decide
  have hrow : (rowOf SYS_STARTSTAT).isNone = false := by decide
  have hne : SYS_STARTSTAT ≠ LMP_CTL ∧ SYS_STARTSTAT ≠ MOT_CTL := by decide
  rw [regWriteEffect, ownRow_STARTSTAT, hdis, hlock, haxis]
  simp only [Bool.or_self, Bool.false_eq_true, if_false, Option.bind_none, hwc, hrow, writeFollow, hne.1, hne.2, if_true]

/-- A 1 written to VALID clears it, and a 0 leaves it. -/
theorem written_STARTSTAT_valid (s : State) (v : Nat) :
    (written s SYS_STARTSTAT v).testBit 31 = ((raw s SYS_STARTSTAT).testBit 31 && !v.testBit 31) := by
  have hr : ∃ r, rowOf SYS_STARTSTAT = some r ∧ r.rw = 0 ∧ r.rwl = 0 ∧ r.w1c = 0x80000000 :=
    ⟨rowMasks SYS_STARTSTAT, by decide, by decide, by decide, by decide⟩
  obtain ⟨r, hr, hrw, hrwl, hw1c⟩ := hr
  have hbit : (0x80000000 : Nat).testBit 31 = true := by decide
  rw [written_follows_accessCodes s hr v (by decide) (absurd · (by decide)), hrw, hrwl, hw1c]
  simp [hbit]

theorem flag_VALID_eq (s : State) : flag s SYS_STARTSTAT_VALID = (raw s SYS_STARTSTAT).testBit 31 := bitOf_eq_testBit _ _

theorem regWriteEffect_STARTSTAT_spec (v : Nat) (s : State) :
    let t := regWriteEffect SYS_STARTSTAT v s
    if bitOf v 31 then flag t SYS_STARTSTAT_VALID = false ∧ fget t SYS_STARTSTAT_FSTEP = 0 ∧ fget t SYS_STARTSTAT_CODE = 0
    else flag t SYS_STARTSTAT_VALID = flag s SYS_STARTSTAT_VALID := by
  have hstore : flag (setRaw (noteBand SYS_STARTSTAT s) SYS_STARTSTAT (written s SYS_STARTSTAT v)) SYS_STARTSTAT_VALID =
      (flag s SYS_STARTSTAT_VALID && !bitOf v 31) := by
    rw [flag_VALID_eq, raw_setRaw, Nat.testBit_mod_two_pow, written_STARTSTAT_valid, flag_VALID_eq, bitOf_eq_testBit]
    rfl
  rw [regWriteEffect_STARTSTAT]
  generalize setRaw (noteBand SYS_STARTSTAT s) SYS_STARTSTAT (written s SYS_STARTSTAT v) = u at hstore ⊢
  have hclear (f : Fld) (hf : (SYS_STARTSTAT_CODE.Apart f ∧ SYS_STARTSTAT_FSTEP.Apart f ∧ SYS_STARTSTAT_FKIND.Apart f)) :
      fget (fsets u [(SYS_STARTSTAT_FKIND, 0), (SYS_STARTSTAT_FSTEP, 0), (SYS_STARTSTAT_CODE, 0)]) f = fget u f :=
    fget_fsets_other (by simpa using ⟨hf.2.2, hf.2.1, hf.1⟩)
  have hvalid : flag (fsets u [(SYS_STARTSTAT_FKIND, 0), (SYS_STARTSTAT_FSTEP, 0), (SYS_STARTSTAT_CODE, 0)]) SYS_STARTSTAT_VALID =
      flag u SYS_STARTSTAT_VALID := congrArg (· == 1) (hclear _ (by decide))
  cases hv : bitOf v 31 with
  | true =>
    have hoff : flag u SYS_STARTSTAT_VALID = false := by rw [hstore, hv]; simp
    simp only [hoff, Bool.false_eq_true, if_false, if_true]
    refine ⟨hvalid.trans hoff, ?_, ?_⟩
    · simp only [fsets, List.foldl_cons, List.foldl_nil]
      rw [fget_fset_other _ (Fld.apart_of_bits rfl)]
      exact fget_fset_of_lt (by decide) rfl
    · simp only [fsets, List.foldl_cons, List.foldl_nil]
      exact fget_fset_of_lt (by decide) rfl
  | false =>
    have hstay : flag u SYS_STARTSTAT_VALID = flag s SYS_STARTSTAT_VALID := by rw [hstore, hv]; simp
    simp only [Bool.false_eq_true, if_false]
    split
    · exact hstay
    · exact hvalid.trans hstay

end Sys2Proof.Machine

open Sys2Proof Sys2Proof.Machine

/-- Settles O51: a step ends, fails or halts the device by its report, and the record of a failure is one register that its write
clears. -/
theorem startsRunTheirSteps : Obligations.StartsRunTheirSteps := by
  refine ⟨fun s k r hs hr hw hc hm hl => ?_, fun s k r i hs hr hw hc => ?_, fun s r hcold hr hw hm hwarm hl => ?_, fun s v hm => ?_⟩
  · have hnot : ¬ (k.val = 14 ∧ s.start.warm = false ∧ sourceLost (r.pairs.map fun p => p.1) s = true) :=
      fun ⟨hk, hwarm, hlost⟩ => Bool.false_ne_true ((hl hk hwarm).symm.trans hlost)
    have e := execStartStepDone_ends hs hr hw hc hm hnot
    by_cases hk : k.val = 16
    · have hj : (afterStep k r s).hwy.joined = s.hwy.joined := by rw [hk, afterStep_joined_last]
      rw [hj] at e
      simp only [hk, if_true] at e ⊢
      by_cases hjoin : s.hwy.joined = true
      · simp only [hjoin, if_true] at e ⊢
        exact ⟨_, e, rfl, (waitForAll_mode _).trans (afterStep_mode 16 r hs)⟩
      · simp only [hjoin, Bool.false_eq_true, if_false] at e ⊢
        exact ⟨_, e, reachReady_spec _⟩
    · simp only [hk, if_false] at e ⊢
      exact ⟨_, e, afterStep_done k r s, congrArg ModeSt.prev (afterStep_mode k r hs)⟩
  · have hn : k.val < 32 := by omega
    have hoff : s.mode.mode ≠ .off := by rcases (starting_iff s).1 hs with e | e <;> simp [e]
    obtain ⟨hvalid, hcode⟩ := startFailed_recorded i k (failCode_lt s k r)
    obtain ⟨hstep, hkind, -⟩ := failureTold_spec (failCode s k r) s hn
    refine ⟨_, execStartStepDone_fails hs hr hw hc, hvalid, ?_, hcode, ?_, startFailed_follows i k _ hn hoff⟩
    · rw [fget_startFailed i k _ rfl (by decide) (by decide) (by decide), hstep]
    · rw [flag, fget_startFailed i k _ rfl (by decide) (by decide) (by decide)]
      exact hkind
  · have hs : starting s = true := (starting_iff s).2 (.inl hcold)
    have hc : failCode s 14 r = 0 := by simp [failCode, hwarm]
    have hup : s.mode.mode ≠ .off ∧ s.mode.mode ≠ .halt := by simp [hcold]
    have hlost : (14 : Fin 17).val = 14 ∧ s.start.warm = false ∧ sourceLost (r.pairs.map fun p => p.1) s = true := ⟨rfl, hwarm, hl⟩
    refine ⟨_, execStartStepDone_halts hs hr hw hc hm hlost, haltCause_mode _ _ hup.1, fun hv => ?_⟩
    exact haltCause_fault hup hv (by decide) (by decide)
  · refine exec_onWrite (f := regWriteEffect SYS_STARTSTAT v.toNat) rfl hm fun u hu => ?_
    rw [← flag_counted hu]
    exact regWriteEffect_STARTSTAT_spec v.toNat u
end

section
/-! Axes that move and rest: the fields and the records that a rest, a stop and a begin of a move leave, and the statement of spec/09
that rests on them (R281 to R283, R291, R293). -/

namespace Sys2Proof.Machine

/-! One write of several fields, and a register that is one field. -/

/-- The first of several fields written reads its value, where no later one shares a bit with it. -/
theorem fget_fsets_head {s : State} {f : Fld} {x : Nat} {l : List (Fld × Nat)} (hx : x < 2 ^ (f.hi + 1 - f.lo))
    (hf : decide (f.hi < 32) = true) (h : ∀ g ∈ l.map Prod.fst, g.Apart f) : fget (fsets s ((f, x) :: l)) f = x :=
  (fget_fsets_other h).trans (fget_fset_of_lt hx hf)

theorem flag_event {s : State} {f : Fld} (h : (decide (f.hi < 32) && decide (f.lo ≤ f.hi)) = true) :
    flag (setFlag s f true) f = true := by
  simp only [Bool.and_eq_true, decide_eq_true_eq] at h
  exact flag_setFlag true h

theorem fget_MOT_AVEL_VEL (s : State) (m : Nat) : fget s (MOT_AVEL_VEL m) = raw s (MOT_AVEL m) := by
  simp only [fget, MOT_AVEL_VEL, bitsOf, Nat.pow_zero, Nat.div_one]
  exact Nat.mod_eq_of_lt (raw_lt s _)

theorem finOf_val {n : Nat} (i : Fin n) : finOf n i = some i := dif_pos i.isLt

@[simp] theorem fsets_mot (s : State) (l : List (Fld × Nat)) : (fsets s l).mot = s.mot :=
  (fsets_within_regs s l).parts .mot rfl

theorem getAxis_of_mot_eq {s t : State} (h : t.mot = s.mot) (m : Nat) : getAxis t m = getAxis s m := by
  rw [getAxis, h, getAxis]

/-! An axis comes to rest (R283, R291). -/

/-- MOT_ASTATUS and MOT_AVEL of axis m show that it rests. -/
def restShown (m : Nat) (s : State) : State :=
  fsets s [(MOT_ASTATUS_REST m, 1), (MOT_ASTATUS_MOVE m, 0), (MOT_AVEL_VEL m, 0)]

/-- The velocity stands in another register than the status. -/
theorem MOT_AVEL_VEL_apart (m : Nat) : (MOT_AVEL_VEL m).Apart (MOT_ASTATUS_STATE m) ∧ (MOT_AVEL_VEL m).Apart (MOT_ASTATUS_REST m) ∧
    (MOT_AVEL_VEL m).Apart (MOT_ASTATUS_MOVE m) :=
  have h {f : Fld} (hf : rowIdx f.off = 181) : (MOT_AVEL_VEL m).Apart f := Fld.apart_of_rows (MOT_AVEL_VEL_row m) hf rfl
  ⟨h (MOT_ASTATUS_STATE_row m), h (MOT_ASTATUS_REST_row m), h (MOT_ASTATUS_MOVE_row m)⟩

theorem restShown_spec (m : Nat) (s : State) :
    flag (restShown m s) (MOT_ASTATUS_REST m) = true ∧ fget (restShown m s) (MOT_ASTATUS_MOVE m) = 0 ∧
      raw (restShown m s) (MOT_AVEL m) = 0 ∧ fget (restShown m s) (MOT_ASTATUS_STATE m) = fget s (MOT_ASTATUS_STATE m) := by
  obtain ⟨hstate, hrest, hmove⟩ := MOT_AVEL_VEL_apart m
  have hone : fget (restShown m s) (MOT_ASTATUS_REST m) = 1 :=
    fget_fsets_head (show 1 < 2 ^ 1 by decide) rfl (by simpa using ⟨Fld.apart_of_bits rfl, hrest⟩)
  refine ⟨by rw [flag, hone]; rfl, ?_, ?_, fget_fsets_other ?_⟩
  · exact fget_fsets_head (s := fset s (MOT_ASTATUS_REST m) 1) (Nat.two_pow_pos _) rfl (by simpa using hmove)
  · rw [← fget_MOT_AVEL_VEL]
    exact fget_fset_of_lt (Nat.two_pow_pos _) rfl
  · simpa using ⟨Fld.apart_of_bits rfl, Fld.apart_of_bits rfl, hstate⟩

/-- The record of an axis that comes to rest at TIME t. -/
def AxisSt.rested (x : AxisSt) (t : Nat) : AxisSt := { x with moveLeft := 0, takeUp := 0, lastMove := t }

theorem whenS_mot {f : State → State} (h : ∀ u, (f u).mot = u.mot) (b : Bool) (s : State) : (whenS b f s).mot = s.mot := by
  cases b
  · rfl
  · exact h s

theorem axisRests_mot (m : Nat) (s : State) : (axisRests m s).mot = (setAxis m ((getAxis s m).rested s.time) s).mot := by
  have hshown (u : State) : (whenS (axisMoving u m) (fun u => fset u (MOT_ASTATUS_STATE m) 1) u).mot = u.mot :=
    whenS_mot (f := fun u => fset u (MOT_ASTATUS_STATE m) 1) (fun _ => rfl) _ u
  unfold axisRests
  cases finOf 8 m with
  | none => exact (hshown _).trans (fsets_mot _ _)
  | some i => exact (schedule_mot _ _ _).trans ((hshown _).trans (fsets_mot _ _))

theorem axisRests_eq (m : Fin 8) (s : State) :
    axisRests m s =
      let u := restShown m (setAxis m ((getAxis s m).rested s.time) s)
      let v := whenS (axisMoving u m) (fun u => fset u (MOT_ASTATUS_STATE m) 1) u
      schedule v (v.time + 6000000 * fget v (MOT_AIREF_STBY_DLY m)) (.irefStandby m) := by
  unfold axisRests
  rw [finOf_val]
  rfl

theorem axisRests_spec (m : Fin 8) (s : State) :
    flag (axisRests m s) (MOT_ASTATUS_REST m) = true ∧ fget (axisRests m s) (MOT_ASTATUS_MOVE m) = 0 ∧
      raw (axisRests m s) (MOT_AVEL m) = 0 ∧ (axisMoving s m = true → fget (axisRests m s) (MOT_ASTATUS_STATE m) = 1) := by
  obtain ⟨hrest, hmove, hvel, hstate⟩ := restShown_spec m (setAxis m ((getAxis s m).rested s.time) s)
  have hmoving : axisMoving (restShown m (setAxis m ((getAxis s m).rested s.time) s)) m = axisMoving s m := by
    rw [axisMoving, hstate, fget_setAxis, axisMoving]
  have hne : (MOT_ASTATUS_STATE m).off ≠ MOT_AVEL m := ne_of_rowIdx (MOT_ASTATUS_row m) (MOT_AVEL_row m)
  rw [axisRests_eq]
  dsimp only
  rw [hmoving, flag_schedule, fget_schedule, raw_schedule, fget_schedule]
  generalize restShown m (setAxis m ((getAxis s m).rested s.time) s) = u at hrest hmove hvel
  cases axisMoving s m with
  | false => exact ⟨hrest, hmove, hvel, fun h => absurd h Bool.false_ne_true⟩
  | true =>
    refine ⟨?_, ?_, ?_, fun _ => fget_fset_of_lt (show 1 < 2 ^ 2 by decide) rfl⟩
    · exact (flag_fset_other 1 (Fld.apart_of_bits rfl)).trans hrest
    · exact (fget_fset_other 1 (Fld.apart_of_bits rfl)).trans hmove
    · exact (raw_setRaw_other _ hne).trans hvel

theorem getAxis_axisRests (m : Nat) (s : State) : getAxis (axisRests m s) m = (getAxis s m).rested s.time :=
  (getAxis_of_mot_eq (axisRests_mot m s) m).trans (getAxis_setAxis s m _)

theorem stopNow_of_moving {m : Nat} {s : State} (h : axisMoving s m = true) :
    stopNow m s = setFlag (axisRests m (setAxis m { getAxis s m with segs := [], owesRunup := false } s))
      (MOT_AEVENTS_PROF_DONE m) true :=
  if_pos h

/-- An event bit of an axis is set, and leaves its status. -/
theorem setFlag_AEVENTS {f g : Fld} (s : State) (hf : rowIdx f.off = 182) (hg : rowIdx g.off = 181) :
    fget (setFlag s f true) g = fget s g :=
  fget_setFlag_other true (Fld.apart_of_rows hf hg rfl)

/-- A moving axis that stops at once is idle, and its profile has ended (R285, R291). -/
theorem stopNow_spec {m : Fin 8} {s : State} (h : axisMoving s m = true) :
    fget (stopNow m s) (MOT_ASTATUS_STATE m) = 1 ∧ flag (stopNow m s) (MOT_ASTATUS_REST m) = true ∧
      raw (stopNow m s) (MOT_AVEL m) = 0 ∧ flag (stopNow m s) (MOT_AEVENTS_PROF_DONE m) = true ∧
      (getAxis (stopNow m s) m).segs = [] := by
  have hne : (MOT_AEVENTS_PROF_DONE m).off ≠ MOT_AVEL m := ne_of_rowIdx (MOT_AEVENTS_row m) (MOT_AVEL_row m)
  obtain ⟨hrest, -, hvel, hstate⟩ := axisRests_spec m (setAxis m { getAxis s m with segs := [], owesRunup := false } s)
  rw [stopNow_of_moving h]
  refine ⟨?_, ?_, ?_, flag_event rfl, ?_⟩
  · exact (setFlag_AEVENTS _ (MOT_AEVENTS_PROF_DONE_row m) (MOT_ASTATUS_STATE_row m)).trans (hstate h)
  · rwa [flag, setFlag_AEVENTS _ (MOT_AEVENTS_PROF_DONE_row m) (MOT_ASTATUS_REST_row m)]
  · exact (raw_setRaw_other _ hne).trans hvel
  · rw [getAxis_setFlag, getAxis_axisRests, getAxis_setAxis]
    rfl

theorem stopNow_pstate (m : Nat) (s : State) : fget (stopNow m s) MOT_STATUS_PSTATE = fget s MOT_STATUS_PSTATE :=
  (stopNow_within (Sub.refl _) (Within.refl _ s)).fget_row MOT_STATUS_PSTATE_row rfl

theorem axisRests_pstate (m : Nat) (s : State) : fget (axisRests m s) MOT_STATUS_PSTATE = fget s MOT_STATUS_PSTATE :=
  (axisRests_within (Sub.refl _) (Within.refl _ s)).fget_row MOT_STATUS_PSTATE_row rfl

/-! An axis begins to move (R282, R291). -/

theorem startMove_eq (m : Fin 8) (kind dir : Nat) (s : State) :
    startMove m kind dir s =
      let u := fsets s [(MOT_ASTATUS_STATE m, 2), (MOT_ASTATUS_REST m, 0), (MOT_ASTATUS_MOVE m, kind), (MOT_ASTATUS_DIR m, dir)]
      cancel (setAxis m { getAxis u m with iref := fget u (MOT_AIREF_RUN_DUTY m) } u) (.irefStandby m) := by
  unfold startMove
  rw [finOf_val]

theorem startMove_spec (m : Fin 8) {kind : Nat} (dir : Nat) (s : State) (hk : kind < 4) :
    fget (startMove m kind dir s) (MOT_ASTATUS_STATE m) = 2 ∧ flag (startMove m kind dir s) (MOT_ASTATUS_REST m) = false ∧
      fget (startMove m kind dir s) (MOT_ASTATUS_MOVE m) = kind ∧
      (getAxis (startMove m kind dir s) m).segs = (getAxis s m).segs := by
  rw [startMove_eq]
  dsimp only
  rw [flag, fget_cancel, fget_setAxis, fget_cancel, fget_setAxis, fget_cancel, fget_setAxis, getAxis_cancel, getAxis_setAxis]
  have hrest : fget (fsets s [(MOT_ASTATUS_STATE m, 2), (MOT_ASTATUS_REST m, 0), (MOT_ASTATUS_MOVE m, kind),
      (MOT_ASTATUS_DIR m, dir)]) (MOT_ASTATUS_REST m) = 0 :=
    fget_fsets_head (s := fset s (MOT_ASTATUS_STATE m) 2) (Nat.two_pow_pos _) rfl (by
      simpa using ⟨Fld.apart_of_bits rfl, Fld.apart_of_bits rfl⟩)
  have hsegs (u : State) (h : u.mot = s.mot) : (getAxis u m).segs = (getAxis s m).segs := by rw [getAxis_of_mot_eq h]
  refine ⟨?_, by rw [hrest]; rfl, ?_, hsegs _ (fsets_mot _ _)⟩
  · exact fget_fsets_head (show 2 < 2 ^ 2 by decide) rfl (by
      simpa using ⟨Fld.apart_of_bits rfl, Fld.apart_of_bits rfl, Fld.apart_of_bits rfl⟩)
  · exact fget_fsets_head (s := fset (fset s (MOT_ASTATUS_STATE m) 2) (MOT_ASTATUS_REST m) 0) hk rfl (by
      simpa using Fld.apart_of_bits rfl)

/-! The commands. -/

/-- A moving axis that makes no back-up or run-up move comes to rest; in the state STOPPING a hold may follow (R281, R291). -/
theorem execAxisAtRest_rests {m : Fin 8} {s : State} (h : axisMoving s m = true) (h1 : fget s (MOT_ASTATUS_MOVE m) ≠ 1)
    (h2 : fget s (MOT_ASTATUS_MOVE m) ≠ 2) (hp : fget s MOT_STATUS_PSTATE ≠ 2) :
    exec (.axisAtRest m) s = .next (if fget s (MOT_ASTATUS_MOVE m) = 3 then stopNow m s else axisRests m s) := by
  have hno : (!axisMoving s m || fget s (MOT_ASTATUS_MOVE m) == 1 || fget s (MOT_ASTATUS_MOVE m) == 2) = false := by
    simp [h, h1, h2]
  have hkeep : fget (if fget s (MOT_ASTATUS_MOVE m) = 3 then stopNow m s else axisRests m s) MOT_STATUS_PSTATE ≠ 2 := by
    split
    · rwa [stopNow_pstate]
    · rwa [axisRests_pstate]
  show execAxisAtRest m s = _
  unfold execAxisAtRest
  dsimp only
  rw [hno, if_neg Bool.false_ne_true, holdCheck_of_not_stopping hkeep]

theorem execBackupMoveDone_done {m : Fin 8} {s : State} (hk : fget s (MOT_ASTATUS_MOVE m) = 1) (hl : (getAxis s m).moveLeft = 0)
    (ht : (getAxis s m).takeUp = 0) (hh : s.mode.mode = .hold) :
    exec (.backupMoveDone m) s = .next (setFlag (axisRests m s) (MOT_AEVENTS_BACKUP_DONE m) true) := by
  have hmode : modeIs (setFlag (axisRests m s) (MOT_AEVENTS_BACKUP_DONE m) true) .hold = true := by
    rw [modeIs, setFlag_mode, (axisRests_within (Sub.refl _) (Within.refl _ s)).mode_eq rfl, hh, decide_eq_true rfl]
  show execBackupMoveDone m s = _
  unfold execBackupMoveDone
  dsimp only
  rw [if_pos ⟨hk, hl, ht⟩, if_pos hmode]

theorem execRunupDone_done {m : Fin 8} {s : State} (hk : fget s (MOT_ASTATUS_MOVE m) = 2) (hl : (getAxis s m).moveLeft = 0) :
    exec (.runupDone m) s = .next (match (getAxis s m).segs with
      | g :: _ => startMove m 0 (b2n (decide (g.vEnd < 0))) s
      | [] => axisRests m s) := by
  show execRunupDone m s = _
  unfold execRunupDone
  dsimp only
  rw [if_pos ⟨hk, hl⟩]
  cases (getAxis s m).segs <;> rfl

theorem execIrefStandby_due {m : Fin 8} {s : State} (hon : flag s (MOT_ACTL_EN m) = true)
    (hr : flag s (MOT_ASTATUS_REST m) = true) (ht : (getAxis s m).lastMove + 6000000 * fget s (MOT_AIREF_STBY_DLY m) ≤ s.time) :
    exec (.irefStandby m) s = .next (setAxis m { getAxis s m with iref := fget s (MOT_AIREF_STBY_DUTY m) } s) :=
  if_pos (by simp [hon, hr, ht])

end Sys2Proof.Machine

open Sys2Proof Sys2Proof.Machine

/-- Settles O24: an axis that rests shows it, and each of the four commands leaves what a rest, a stop or the begin of a move leaves. -/
theorem axisComesToRestByRule : Obligations.AxisComesToRestByRule := by
  refine ⟨fun s m _ hmoving h1 h2 hp => ?_, fun s m _ hk hl ht hh => ?_, fun s m _ hk hl => ?_, fun s m _ hon hr ht => ?_⟩
  · refine ⟨_, execAxisAtRest_rests hmoving h1 h2 hp, ?_⟩
    by_cases hk : fget s (MOT_ASTATUS_MOVE m) = 3
    · obtain ⟨hstate, hrest, hvel, hdone, hsegs⟩ := stopNow_spec hmoving
      rw [if_pos hk, hk]
      exact ⟨hstate, hrest, hvel, fun _ => ⟨hdone, hsegs⟩, fun h => absurd h (by decide)⟩
    · obtain ⟨hrest, -, hvel, hstate⟩ := axisRests_spec m s
      rw [if_neg hk]
      exact ⟨hstate hmoving, hrest, hvel, fun h => absurd h hk, fun _ => (congrArg AxisSt.segs (getAxis_axisRests m s) :)⟩
  · obtain ⟨hrest, hmove, -, -⟩ := axisRests_spec m s
    refine ⟨_, execBackupMoveDone_done hk hl ht hh, flag_event rfl, ?_, ?_⟩
    · rwa [setFlag_AEVENTS _ (MOT_AEVENTS_BACKUP_DONE_row m) (MOT_ASTATUS_MOVE_row m)]
    · rwa [flag, setFlag_AEVENTS _ (MOT_AEVENTS_BACKUP_DONE_row m) (MOT_ASTATUS_REST_row m)]
  · refine ⟨_, execRunupDone_done hk hl, ?_⟩
    cases hs : (getAxis s m).segs with
    | nil => exact ⟨(axisRests_spec m s).2.1, fun h => absurd rfl h⟩
    | cons g r =>
      obtain ⟨hstate, hrest, hmove, -⟩ := startMove_spec m (kind := 0) (b2n (decide (g.vEnd < 0))) s (by decide)
      exact ⟨hmove, fun _ => ⟨hstate, hrest⟩⟩
  · exact ⟨_, execIrefStandby_due hon hr ht, congrArg AxisSt.iref (getAxis_setAxis s m _), rfl⟩
end

section
/-! Profiles and axis faults: a profile that is loaded, started and stopped, what stays of a faulted axis as the device halts or holds,
and the statement of spec/09 that rests on them (R289 to R291, R294, R295). -/

namespace Sys2Proof.Machine

theorem Counted.mot {s u : State} (h : Counted s u) : u.mot = s.mot := by
  obtain ⟨p, g, rfl⟩ := h
  rfl

theorem fget_counted {s u : State} (h : Counted s u) (f : Fld) : fget u f = fget s f := fget_of_regs_eq h.regs f

theorem getAxis_counted {s u : State} (h : Counted s u) (m : Nat) : getAxis u m = getAxis s m := getAxis_of_mot_eq h.mot m

theorem axisMoving_counted {s u : State} (h : Counted s u) (m : Nat) : axisMoving u m = axisMoving s m := by
  rw [axisMoving, fget_counted h, axisMoving]

theorem Within.mot_eq {m : Nat} {s t : State} (h : Within m s t) (c : m.testBit 20 = false) : t.mot = s.mot :=
  h.parts .mot (by simp [Part.outside, Part.bit, c])

/-- What every step of a loop keeps, the loop keeps. -/
theorem forN_keeps {P : State → Prop} {f : Nat → State → State} {n : Nat} (h : ∀ j u, P u → P (f j u)) {s : State} (p : P s) :
    P (forN n f s) :=
  foldl_keeps (fun u j => h j u) p

/-! Profiles (R289, R290). -/

/-- The segments of a profile block. -/
def blockSegs (b : List Byte) : List Seg := (List.range (byteAt b 5)).map fun n => segOf b n

/-- The last segment is a ramp that ends moving. -/
def endsMoving (gs : List Seg) : Bool := gs.getLast?.any fun g => g.kind == 0 && g.vEnd != 0

/-- The status with which a profile that is not loaded completes; 0 for one that is. -/
def profileStatus (s : State) (b : List Byte) : Nat :=
  if profileOk s b = false then 0x24
  else if rampsFit 0 (blockSegs b) = false then 0x25
  else if endsMoving (blockSegs b) = true then 0x26
  else 0

/-- The state in which the axis of a profile block has its segments loaded. -/
def profileLoaded (b : List Byte) (s : State) : State :=
  setAxis (byteAt b 4) { getAxis s (byteAt b 4) with loaded := blockSegs b } s

theorem execMotProfile_eq {slot : Nat} {c : CmdEntry} {s : State} (b : List Byte) (hc : cmdOf s slot 6 = some c) :
    exec (.motProfile slot b) s = .next (if profileStatus s b = 0 then complete slot (blockSegs b).length 0 (profileLoaded b s)
      else complete slot 0 (profileStatus s b) s) := by
  show execMotProfile slot b s = _
  unfold execMotProfile
  rw [hc]
  dsimp only
  rw [← blockSegs, profileStatus]
  cases profileOk s b with
  | false => rfl
  | true =>
    cases rampsFit 0 (blockSegs b) with
    | false => rfl
    | true =>
      rw [endsMoving]
      cases (blockSegs b).getLast? with
      | none => rfl
      | some g => cases hg : (g.kind == 0 && g.vEnd != 0) <;> simp [hg, profileLoaded]

theorem complete_loaded {slot : Nat} {b : List Byte} {s : State} {c : CmdEntry}
    (h : s.host.cmds.find? (fun c => decide (c.slot = slot)) = some c) :
    Completed (complete slot (blockSegs b).length 0 (profileLoaded b s)) slot (blockSegs b).length 0 ∧
      (getAxis (complete slot (blockSegs b).length 0 (profileLoaded b s)) (byteAt b 4)).loaded = blockSegs b := by
  refine ⟨complete_completed _ _ h, ?_⟩
  rw [getAxis_of_mot_eq ((complete_within (Sub.refl _) (Within.refl _ _)).mot_eq rfl), profileLoaded, getAxis_setAxis]

/-! START, STOP and IMMEDIATE_STOP (R291). -/

/-- The state in which axis m runs its loaded profile from the first segment on. -/
def profileBegun (m : Fin 8) (s : State) : State :=
  setAxis m { getAxis s m with segs := (getAxis s m).loaded, made := 0, owesRunup := false } (fset s (MOT_ASTATUS_SEG m) 0)

/-- START may set axis m moving. -/
def MayStart (s : State) (m : Fin 8) : Prop :=
  (getAxis s m).loaded ≠ [] ∧ modeIn s [.scan, .calibrate, .service] = true ∧ flag s (MOT_ACTL_EN m) = true ∧
    fget s (MOT_ASTATUS_STATE m) = 1

theorem mayStart_counted {s u : State} (h : Counted s u) (m : Fin 8) : MayStart u m ↔ MayStart s m := by
  rw [MayStart, getAxis_counted h, modeIn_counted h, flag_counted h, fget_counted h, MayStart]

/-- A START that the mode admits sets the axis moving with its loaded profile, or is rejected. -/
theorem exec_motAcmdStart {m : Fin 8} {s : State} (hm : hostMay s (MOT_ACMD m) = true) {P : State → Prop}
    (hstart : MayStart s m → ∀ u, Counted s u → ∀ dir, P (startMove m 0 dir (profileBegun m u)))
    (hreject : ¬ MayStart s m → ∀ u, Counted s u → P (setFlag u MOT_EVENTS_CFG_REJ true)) :
    ∃ t, exec (.motAcmdStart m) s = .next t ∧ P t := by
  refine exec_onWrite rfl hm fun u hu => ?_
  dsimp only
  cases hl : (getAxis u m).loaded with
  | nil => exact hreject (fun h => ((mayStart_counted hu m).2 h).1 hl) u hu
  | cons g r =>
    have hiff : (modeIn u [.scan, .calibrate, .service] && flag u (MOT_ACTL_EN m) && fget u (MOT_ASTATUS_STATE m) == 1) = true ↔
        MayStart s m := by
      rw [← mayStart_counted hu]
      simp [MayStart, hl, and_assoc]
    dsimp only
    split
    · next h =>
      have e := hstart (hiff.1 h) u hu (b2n (decide (g.vEnd < 0)))
      simpa only [profileBegun, hl] using e
    · next h => exact hreject (fun k => h (hiff.2 k)) u hu

/-- A profile that an axis executes while it moves stays. -/
theorem dropProfile_of_moving {m : Nat} {s : State} (h : axisMoving s m = true) : dropProfile m s = s :=
  if_pos (by rw [h, Bool.true_or])

theorem dropProfile_of_nil {m : Nat} {s : State} (h : (getAxis s m).segs = []) : dropProfile m s = s :=
  if_pos (by rw [h, List.isEmpty_nil, Bool.or_true])

theorem controlledStop_of_moving {m : Nat} {s : State} (h : axisMoving s m = true) :
    controlledStop m s = fset s (MOT_ASTATUS_MOVE m) 3 := by
  rw [controlledStop, h]
  rfl

/-- A controlled stop leaves the states of the axes. -/
theorem controlledStop_state (j m : Nat) (s : State) :
    fget (controlledStop j s) (MOT_ASTATUS_STATE m) = fget s (MOT_ASTATUS_STATE m) := by
  rw [controlledStop]
  cases axisMoving s j
  · rfl
  · exact fget_fset_other 3 (Fld.apart_of_bits rfl)

/-! Axis faults (R294, R295). -/

/-- Axis m has stopped by a fault: its state shows it, and its driver is off. -/
def Faulted (m : Nat) (s : State) : Prop := fget s (MOT_ASTATUS_STATE m) = 3 ∧ (getAxis s m).enPin = false

theorem faultStop_faulted (m : Nat) (s : State) : Faulted m (faultStop m s) := by
  have hstate : fget (faultStop m s) (MOT_ASTATUS_STATE m) = 3 :=
    fget_fsets_head (show 3 < 2 ^ 2 by decide) rfl (by
      simpa using ⟨Fld.apart_of_bits rfl, Fld.apart_of_bits rfl, (MOT_AVEL_VEL_apart m).1⟩)
  refine ⟨hstate, ?_⟩
  rw [faultStop, getAxis_of_mot_eq (fsets_mot _ _), getAxis_setAxis]

/-- Operations outside MOT_ASTATUS and the motion block leave a faulted axis as it is. -/
theorem Faulted.of_within {m k : Nat} {s t : State} (h : Faulted m s) (w : Within k s t)
    (c : ((k.testBit (32 + 181) || k.testBit 31) || k.testBit 20) = false) : Faulted m t := by
  obtain ⟨hrow, hmot⟩ := Bool.or_eq_false_iff.1 c
  rw [Faulted, w.fget_row (MOT_ASTATUS_STATE_row m) hrow, getAxis_of_mot_eq (w.mot_eq hmot)]
  exact h

theorem Faulted.of_eq {m : Nat} {s t : State} (h : Faulted m s) (hr : t.regs = s.regs) (ha : t.mot.axes = s.mot.axes) :
    Faulted m t := by
  rw [Faulted, fget_of_regs_eq hr, getAxis, ha]
  exact h

/-- An update of the record of an axis that leaves its driver keeps every faulted axis. -/
theorem Faulted.setAxis {m : Nat} {s : State} (h : Faulted m s) (j : Nat) {x : AxisSt} (hx : x.enPin = (getAxis s j).enPin) :
    Faulted m (setAxis j x s) := by
  obtain ⟨hstate, hpin⟩ := h
  refine ⟨hstate, ?_⟩
  by_cases e : m = j
  · rw [e, getAxis_setAxis, hx, ← e, hpin]
  · rw [getAxis_setAxis_other s x e, hpin]

theorem Faulted.controlledStop {m : Nat} {s : State} (h : Faulted m s) (j : Nat) : Faulted m (controlledStop j s) := by
  have hmot : (Machine.controlledStop j s).mot = s.mot := whenS_mot (f := fun s => fset s (MOT_ASTATUS_MOVE j) 3) (fun _ => rfl) _ s
  rw [Faulted, controlledStop_state, getAxis_of_mot_eq hmot]
  exact h

theorem Faulted.startMove {m : Nat} {s : State} (h : Faulted m s) {j : Nat} (hne : MOT_ASTATUS j ≠ MOT_ASTATUS m) (kind dir : Nat) :
    Faulted m (startMove j kind dir s) := by
  obtain ⟨hstate, hpin⟩ := h
  have hother (f : Fld) (hf : f.off = MOT_ASTATUS j) : f.Apart (MOT_ASTATUS_STATE m) := .inl (hf ▸ hne)
  have hfields : Faulted m (fsets s [(MOT_ASTATUS_STATE j, 2), (MOT_ASTATUS_REST j, 0), (MOT_ASTATUS_MOVE j, kind),
      (MOT_ASTATUS_DIR j, dir)]) := by
    rw [Faulted, getAxis_of_mot_eq (fsets_mot _ _), fget_fsets_other]
    · exact ⟨hstate, hpin⟩
    · simpa using ⟨hother _ rfl, hother _ rfl, hother _ rfl, hother _ rfl⟩
  unfold Machine.startMove
  dsimp only
  have hduty := hfields.setAxis j (x := { getAxis (fsets s [(MOT_ASTATUS_STATE j, 2), (MOT_ASTATUS_REST j, 0),
    (MOT_ASTATUS_MOVE j, kind), (MOT_ASTATUS_DIR j, dir)]) j with iref := fget (fsets s [(MOT_ASTATUS_STATE j, 2),
    (MOT_ASTATUS_REST j, 0), (MOT_ASTATUS_MOVE j, kind), (MOT_ASTATUS_DIR j, dir)]) (MOT_AIREF_RUN_DUTY j) }) rfl
  cases finOf 8 j with
  | none => exact hduty
  | some i => exact hduty.of_within (cancel_within (Sub.refl _) (Within.refl _ _)) rfl

/-- Only an idle axis makes a back-up move (R282). -/
theorem Faulted.startBackup {m : Nat} {s : State} (h : Faulted m s) (j : Nat) : Faulted m (startBackup j s) := by
  unfold Machine.startBackup
  dsimp only
  split
  · next hb =>
    have hidle : fget s (MOT_ASTATUS_STATE j) = 1 := by
      simp only [Bool.and_eq_true, beq_iff_eq] at hb
      exact hb.1.2
    have hne : MOT_ASTATUS j ≠ MOT_ASTATUS m := fun e => by
      have : fget s (MOT_ASTATUS_STATE j) = 3 := by rw [MOT_ASTATUS_STATE, e]; exact h.1
      omega
    exact (h.startMove hne 1 1).setAxis j rfl
  · exact h

theorem Faulted.whenS {m : Nat} {s : State} (h : Faulted m s) (b : Bool) {f : State → State}
    (k : ∀ u, Faulted m u → Faulted m (f u)) : Faulted m (whenS b f s) := by
  cases b
  · exact h
  · exact k s h

/-- The runs that the new mode does not permit are aborted (R205). -/
def runsAborted (s : State) : State :=
  s.shd.runs.foldl (fun s r => if (runModes r).contains s.mode.mode then s else abortRun r.head 0x59 s) s

/-- Moving axes stop where the transport rests (R296), and HOLD was a standstill of every axis (R283). -/
def axesSettled (old : Mode) (s : State) : State :=
  whenS (old = .hold) (forN 8 fun m s => setAxis m { getAxis s m with still := some s.time } s)
    (whenS ([Mode.scan, .hold, .calibrate, .service].contains old && modeIn s restModes) stopAllAxes s)

/-- A lamp test in progress is over (R339). -/
def lampTestOver (s : State) : State :=
  whenS (flag s LMP_CMDSTAT_BUSY && !modeIs s .ready) (fun s =>
    fsets { s with lmp := { s.lmp with test := [], testPulses := 0 } } [(LMP_CMDSTAT_BUSY, 0), (LMP_CMDSTAT_CODE, 2)]) s

theorem afterMode_eq (old : Mode) (s : State) :
    afterMode old s = railFollow (lampTestOver (axesSettled old (runsAborted s))) := rfl

theorem runsAborted_within (s : State) : Within 0x80001 s (runsAborted s) :=
  foldl_within (fun u r hu => by
    split
    · exact hu
    · exact abortRun_within (Sub.refl _) hu) (Within.refl _ s)

theorem Faulted.axesSettled {m : Nat} {s : State} (h : Faulted m s) (old : Mode) : Faulted m (axesSettled old s) := by
  have stops (u : State) (hu : Faulted m u) : Faulted m (stopAllAxes u) := forN_keeps (fun j _ k => k.controlledStop j) hu
  have stands (u : State) (hu : Faulted m u) :
      Faulted m (forN 8 (fun m s => Machine.setAxis m { getAxis s m with still := some s.time } s) u) :=
    forN_keeps (fun j _ k => k.setAxis j rfl) hu
  exact (h.whenS _ stops).whenS _ stands

theorem lampTestOver_within (s : State) : Within (2 ^ (32 + 215) ||| 0x200000) s (lampTestOver s) :=
  whenS_within (fun _ hu => fsets_within
    (List.forall_mem_cons.2 ⟨.of LMP_CMDSTAT_BUSY_row rfl,
      List.forall_mem_cons.2 ⟨.of LMP_CMDSTAT_CODE_row rfl, List.forall_mem_nil _⟩⟩)
    (Within.set_lmp rfl hu)) (Within.refl _ s)

theorem Faulted.afterMode {m : Nat} {s : State} (h : Faulted m s) (old : Mode) : Faulted m (afterMode old s) := by
  have hruns : Faulted m (runsAborted s) := h.of_within (runsAborted_within s) rfl
  have htest := (hruns.axesSettled old).of_within (lampTestOver_within _) rfl
  rw [afterMode_eq]
  exact htest.of_within (railFollow_within (Sub.refl _) (Within.refl _ _)) rfl

theorem Faulted.enterMode {m : Nat} {s : State} (h : Faulted m s) (mode : Mode) (cause : Nat) : Faulted m (enterMode mode cause s) := by
  have hset : Faulted m (setMode mode cause s) := h.of_within (setMode_within (Sub.refl _) (Within.refl _ s)) rfl
  unfold Machine.enterMode
  dsimp only
  refine Faulted.afterMode ?_ _
  split
  · exact hset.of_eq rfl rfl
  · exact hset

/-- A hold that begins leaves a faulted axis as it is (R281, R282). -/
theorem Faulted.holdCheck {m : Nat} {s : State} (h : Faulted m s) : Faulted m (holdCheck s) := by
  have hpace : Faulted m (fset s MOT_STATUS_PSTATE 3) :=
    h.of_within (fset_within (m := 2 ^ (32 + 168)) (.of MOT_STATUS_PSTATE_row rfl) (Within.refl _ s)) rfl
  have hold : Faulted m (Machine.enterMode .hold 0 (fset s MOT_STATUS_PSTATE 3)) := hpace.enterMode .hold 0
  unfold Machine.holdCheck
  dsimp only
  split
  · exact h
  split
  · exact hpace
  split
  · refine Faulted.of_eq (forN_keeps (P := Faulted m) (fun j _ k => k.startBackup j) ?_) rfl rfl
    exact hold.of_eq rfl rfl
  · exact h

/-! The device halts (R296, R519). -/

/-- The step output of axis m stops, and its driver goes off; the state FAULT stays (R296). -/
def axisOff (m : Nat) (s : State) : State :=
  let x := getAxis s m
  let s := setAxis m { x with enPin := false, iref := 0, segs := [], moveLeft := 0, takeUp := 0, owesRunup := false } s
  fsets s [(MOT_ACTL_EN m, 0), (MOT_ASTATUS_STATE m, if fget s (MOT_ASTATUS_STATE m) = 3 then 3 else 0), (MOT_ASTATUS_REST m, 1),
    (MOT_ASTATUS_MOVE m, 0), (MOT_AVEL_VEL m, 0)]

theorem axesOff_eq (s : State) : axesOff s =
    let u := setRaw (forN 8 axisOff s) MOT_TO 0
    { u with mot := { u.mot with relEnd := 0, relOut := [] } } := rfl

theorem axisOff_enPin (j i : Nat) (s : State) (h : j = i ∨ (getAxis s i).enPin = false) : (getAxis (axisOff j s) i).enPin = false := by
  unfold axisOff
  dsimp only
  rw [getAxis_of_mot_eq (fsets_mot _ _)]
  by_cases e : i = j
  · rw [e, getAxis_setAxis]
  · rw [getAxis_setAxis_other _ _ e]
    exact h.resolve_left (Ne.symm e)

theorem axisOff_state {m : Nat} (j : Nat) {s : State} (h : fget s (MOT_ASTATUS_STATE m) = 3) :
    fget (axisOff j s) (MOT_ASTATUS_STATE m) = 3 := by
  have hrows {f : Fld} (k : rowIdx f.off = 180 ∨ rowIdx f.off = 185) : f.Apart (MOT_ASTATUS_STATE m) :=
    k.elim (fun k => Fld.apart_of_rows k (MOT_ASTATUS_STATE_row m) rfl) (fun k => Fld.apart_of_rows k (MOT_ASTATUS_STATE_row m) rfl)
  unfold axisOff
  dsimp only
  by_cases e : MOT_ASTATUS j = MOT_ASTATUS m
  · have hf : MOT_ASTATUS_STATE j = MOT_ASTATUS_STATE m := by rw [MOT_ASTATUS_STATE, e, MOT_ASTATUS_STATE]
    rw [hf, fget_setAxis, if_pos h]
    refine fget_fsets_head (s := fset _ (MOT_ACTL_EN j) 0) (show 3 < 2 ^ 2 by decide) rfl ?_
    simpa using ⟨Fld.apart_of_bits rfl, Fld.apart_of_bits rfl, hrows (.inr (MOT_AVEL_VEL_row j))⟩
  · have hother (f : Fld) (hf : f.off = MOT_ASTATUS j) : f.Apart (MOT_ASTATUS_STATE m) := .inl (hf ▸ e)
    rw [fget_fsets_other, fget_setAxis, h]
    simpa using ⟨hrows (.inl (MOT_ACTL_EN_row j)), hother _ rfl, hother _ rfl, hother _ rfl, hrows (.inr (MOT_AVEL_VEL_row j))⟩

theorem axesOff_faulted (m : Fin 8) {s : State} (h : fget s (MOT_ASTATUS_STATE m) = 3) : Faulted m (axesOff s) := by
  have hloop : Faulted m (forN 8 axisOff s) :=
    ⟨forN_keeps (P := fun u => fget u (MOT_ASTATUS_STATE m) = 3) (fun j _ k => axisOff_state j k) h,
      forN_makes (P := fun i u => (getAxis u i).enPin = false) (fun i u => axisOff_enPin i i u (.inl rfl))
        (fun i j u k => axisOff_enPin j i u (.inr k)) s m.isLt⟩
  have hto : Faulted m (setRaw (forN 8 axisOff s) MOT_TO 0) :=
    hloop.of_within (setRaw_within (m := 2 ^ (32 + 179)) (.of MOT_TO_row rfl) (Within.refl _ _)) rfl
  rw [axesOff_eq]
  exact hto.of_eq rfl rfl

theorem stopUnits_faulted (m : Fin 8) {s : State} (h : fget s (MOT_ASTATUS_STATE m) = 3) : Faulted m (stopUnits s) := by
  have hstate : fget (lampsDark (abandonVisits (headsStop s))) (MOT_ASTATUS_STATE m) = 3 := by
    rw [(lampsDark_within (Sub.refl _) (Within.refl _ _)).fget_row (MOT_ASTATUS_STATE_row m) rfl,
      (abandonVisits_within (Sub.refl _) (Within.refl _ _)).fget_row (MOT_ASTATUS_STATE_row m) rfl,
      (headsStop_within (Sub.refl _) (Within.refl _ _)).fget_row (MOT_ASTATUS_STATE_row m) rfl, h]
  exact ((axesOff_faulted m hstate).of_within (abortCommands_within (Sub.refl _) (Within.refl _ _)) rfl).of_within
    (abandonSave_within (Sub.refl _) (Within.refl _ _)) rfl

theorem haltCause_faulted {m : Fin 8} (code src : Nat) {s : State} (h : Faulted m s) : Faulted m (haltCause code src s) := by
  have hfault (f : Fld) (hf : f.off = SYS_FAULT) : f.Apart (MOT_ASTATUS_STATE m) :=
    Fld.apart_of_rows ((congrArg rowIdx hf).trans SYS_FAULT_row) (MOT_ASTATUS_STATE_row m) rfl
  have hlatch : fget (setFlag (if flag s SYS_FAULT_VALID then s
      else fsets s [(SYS_FAULT_VALID, 1), (SYS_FAULT_SRC, src), (SYS_FAULT_CODE, code)]) SYS_EVENTS_HALT true)
      (MOT_ASTATUS_STATE m) = 3 := by
    rw [fget_setFlag_other true (Fld.apart_of_rows SYS_EVENTS_HALT_row (MOT_ASTATUS_STATE_row m) rfl)]
    split
    · exact h.1
    · rw [fget_fsets_other, h.1]
      simpa using ⟨hfault _ rfl, hfault _ rfl, hfault _ rfl⟩
  have hstop := stopUnits_faulted m hlatch
  unfold haltCause
  dsimp only
  split
  · exact h
  · generalize stopUnits _ = u at hstop ⊢
    refine Faulted.enterMode ?_ _ _
    exact hstop.of_eq rfl rfl

/-! The fault of an axis (R294, R295). -/

/-- The event of a fault of the driver of axis m, or of its following error. -/
def faultEvent (m : Nat) (drv : Bool) : Fld := if drv then MOT_AEVENTS_DRV_FAULT m else MOT_AEVENTS_FE_FAULT m

theorem faultEvent_row (m : Nat) (drv : Bool) : rowIdx (faultEvent m drv).off = 182 := by
  cases drv <;> exact MOT_AEVENTS_row m

/-- The state in which axis m has stopped by a fault, which its event and a message tell. -/
def faultTold (m : Fin 8) (drv : Bool) (s : State) : State :=
  report 0 MOT_EVENTS_AXIS_FAULT [m] (setFlag (faultStop m s) (faultEvent m drv) true)

/-- With FE_ACT = 1 the fault halts the device; with 0 a hold may begin (R295). -/
def faultAnswered (m : Fin 8) (drv : Bool) (s : State) : State :=
  let u := faultTold m drv s
  if flag u (MOT_ACTL_FE_ACT m) then haltCause haltAxis 0xE u else holdCheck u

theorem execAxisFault_stops {m : Fin 8} {drv : Bool} {s : State} (h : drv = true ∨ followFails s m = true) :
    exec (.axisFault m drv) s = .next (faultAnswered m drv s) := by
  have hacts : ¬ (!drv && !followFails s m) = true := by
    rcases h with h | h <;> simp [h]
  show execAxisFault m drv s = _
  unfold execAxisFault
  rw [if_neg hacts]
  exact (apply_ite ok _ _ _).symm

theorem faultTold_faulted (m : Fin 8) (drv : Bool) (s : State) : Faulted m (faultTold m drv s) := by
  have hset : Faulted m (setFlag (faultStop m s) (faultEvent m drv) true) := (faultStop_faulted m s).of_within
    (setFlag_within (m := 2 ^ (32 + 182)) (.of (faultEvent_row m drv) rfl) (Within.refl _ _)) rfl
  exact hset.of_within (report_within (m := 2 ^ (32 + 170) ||| 0x88000000000000000001001801) (Sub.of rfl)
    (.of MOT_EVENTS_AXIS_FAULT_row rfl) (Within.refl _ _)) rfl

theorem faultTold_event (m : Fin 8) (drv : Bool) (s : State) : flag (faultTold m drv s) MOT_EVENTS_AXIS_FAULT = true :=
  flag_report 0 _ (clearOf_of_row MOT_EVENTS_AXIS_FAULT_row rfl rfl) ⟨of_decide_eq_true rfl, Nat.le_refl _⟩

/-- The parts of faultStop, an event of the axis, MOT_EVENTS and the Landing: neither MOT_ACTL nor the mode. -/
theorem faultTold_within (m : Fin 8) (drv : Bool) (s : State) :
    Within (0x2200000000000000000000000000000000000000000000000100000 ||| 2 ^ (32 + 182) ||| 2 ^ (32 + 170) |||
      0x88000000000000000001001801) s (faultTold m drv s) :=
  report_within (Sub.of rfl) (.of MOT_EVENTS_AXIS_FAULT_row rfl)
    (setFlag_within (.of (faultEvent_row m drv) rfl) (faultStop_within (Sub.of rfl) (Within.refl _ s)))

theorem faultAnswered_spec (m : Fin 8) (drv : Bool) {s : State} (hoff : s.mode.mode ≠ .off) :
    Faulted m (faultAnswered m drv s) ∧ flag (faultAnswered m drv s) MOT_EVENTS_AXIS_FAULT = true ∧
      (flag s (MOT_ACTL_FE_ACT m) = true → (faultAnswered m drv s).mode.mode = .halt) := by
  have hact : flag (faultTold m drv s) (MOT_ACTL_FE_ACT m) = flag s (MOT_ACTL_FE_ACT m) :=
    (faultTold_within m drv s).flag_row (MOT_ACTL_FE_ACT_row m) rfl
  have hmode : (faultTold m drv s).mode = s.mode := (faultTold_within m drv s).mode_eq rfl
  unfold faultAnswered
  dsimp only
  rw [hact]
  split
  · refine ⟨haltCause_faulted _ _ (faultTold_faulted m drv s), ?_, fun _ => haltCause_mode _ _ (hmode ▸ hoff)⟩
    rw [(haltCause_within (Sub.refl _) (Within.refl _ _)).flag_row MOT_EVENTS_AXIS_FAULT_row rfl, faultTold_event]
  · next hno =>
    refine ⟨(faultTold_faulted m drv s).holdCheck, ?_, fun h => absurd h hno⟩
    rw [(holdCheck_within (Sub.refl _) (Within.refl _ _)).flag_row MOT_EVENTS_AXIS_FAULT_row rfl, faultTold_event]

end Sys2Proof.Machine

open Sys2Proof Sys2Proof.Machine

/-- Settles O25: a profile completes by its status or is loaded, each write of MOT_ACMD acts by what the axis does, and a fault leaves
its axis faulted whether the device halts or holds. -/
theorem profilesStartAndStop : Obligations.ProfilesStartAndStop := by
  refine ⟨fun s slot b c _ hc hf => ?_, fun s m _ hm => ?_, fun s m _ hm hmoving => ?_, fun s m _ hm hmoving hp => ?_,
    fun s m drv _ hfails hoff _ => ?_⟩
  · refine ⟨_, execMotProfile_eq b hc, ?_⟩
    rw [profileStatus]
    show if profileOk s b = false then _ else if rampsFit 0 (blockSegs b) = false then _
      else if endsMoving (blockSegs b) = true then _ else _
    split
    · exact complete_completed 0 0x24 hf
    split
    · exact complete_completed 0 0x25 hf
    split
    · exact complete_completed 0 0x26 hf
    · exact complete_loaded hf
  · refine exec_motAcmdStart hm (fun hmay u hu dir => ?_) (fun hmay u hu => ?_)
    · obtain ⟨hstate, hrest, -, hsegs⟩ := startMove_spec m (kind := 0) dir (profileBegun m u) (by decide)
      unfold MayStart at hmay
      rw [if_pos hmay]
      refine ⟨hstate, hrest, hsegs.trans ?_⟩
      rw [profileBegun, getAxis_setAxis, getAxis_counted hu]
    · unfold MayStart at hmay
      rw [if_neg hmay]
      exact ⟨flag_event rfl, hu.mot⟩
  · refine exec_onWrite rfl hm fun u hu => ?_
    have hmv : axisMoving u m = true := (axisMoving_counted hu m).trans hmoving
    have hstop : axisMoving (controlledStop m u) m = true := by rwa [axisMoving, controlledStop_state]
    rw [dropProfile_of_moving hstop]
    refine ⟨?_, hstop⟩
    rw [controlledStop_of_moving hmv]
    exact fget_fset_of_lt (show 3 < 2 ^ 2 by decide) rfl
  · refine exec_onWrite rfl hm fun u hu => ?_
    have hmv : axisMoving u m = true := (axisMoving_counted hu m).trans hmoving
    obtain ⟨hstate, hrest, -, hdone, hsegs⟩ := stopNow_spec hmv
    have hps : fget (stopNow m u) MOT_STATUS_PSTATE ≠ 2 := by rwa [stopNow_pstate, fget_counted hu]
    rw [holdCheck_of_not_stopping hps, dropProfile_of_nil hsegs]
    exact ⟨hstate, hrest, hdone, hsegs⟩
  · obtain ⟨⟨hstate, hpin⟩, hevent, hhalt⟩ := faultAnswered_spec m drv hoff
    exact ⟨_, execAxisFault_stops hfails, hstate, hpin, hevent, hhalt⟩
end

section
/-! Document sensors, admission and the end of documents: what an edge, a grant, a release pulse and a write of MOT_HDOC leave, and the
statement of spec/09 that rests on them (R273, R286, R287, R596). -/

namespace Sys2Proof.Machine

/-! Document sensors (R273). -/

/-- COVERED with the new level of sensor k. -/
def coveredAfter (k : Nat) (level : Bool) (c : Nat) : Nat := if level then setBit c k else clearBit c k

theorem bitOf_clearBit (v i : Nat) : bitOf (clearBit v i) i = false := by
  unfold clearBit
  split
  · next h =>
    have hdiv : (v - 2 ^ i) / 2 ^ i = v / 2 ^ i - 1 := by
      simpa using Nat.sub_mul_div v (2 ^ i) 1
    have hodd : v / 2 ^ i % 2 = 1 := eq_of_beq h
    rw [bitOf, hdiv, beq_eq_false_iff_ne]
    omega
  · next h => exact Bool.eq_false_iff.2 h

theorem bitOf_coveredAfter (k : Nat) (level : Bool) (c : Nat) : bitOf (coveredAfter k level c) k = level := by
  cases level
  · exact bitOf_clearBit c k
  · exact (bitOf_eq_testBit _ _).trans (testBit_setBit c k)

/-- What an edge of sensor k does to the segments that wait for it, to the documents and to the guarded runs. -/
def edgeServed (k : Nat) (level : Bool) (p : List Int) (s : State) : State :=
  forN 16 (fun h s => guardEdge k level p h (docEdge k level p h s)) (sensorSegs k level s)

theorem edgeServed_within (k : Nat) (level : Bool) (p : List Int) (s : State) :
    Within (0x2600000000000000000000000000000000000000000000000100001 ||| 0x400000000000000000000000000000000000000000000100000 |||
      0x80001) s (edgeServed k level p s) :=
  forN_within (fun _ _ hu => guardEdge_within (Sub.of rfl) (docEdge_within (Sub.of rfl) hu))
    (sensorSegs_within (Sub.of rfl) (Within.refl _ s))

/-- The state with an edge of sensor k shown and served. -/
def edgeTaken (k : Fin 16) (level : Bool) (p : List Int) (s : State) : State :=
  edgeServed k level p (fset s MOT_DSSTATE_COVERED (coveredAfter k level (fget s MOT_DSSTATE_COVERED)))

theorem execDocSensorEdge_edge {k : Fin 16} {level : Bool} {s : State} (u : Nat) (p : List Int)
    (h : bitOf (fget s MOT_DSSTATE_COVERED) k ≠ level) :
    exec (.docSensorEdge k level u p) s =
      .next (let t := edgeTaken k level p s
        if !level && fget t MOT_CTL_PACE_MODE == 2 && fget t MOT_ADM_FEED_DS == k.val then admRequest t else t) := by
  show execDocSensorEdge k level u p s = _
  unfold execDocSensorEdge
  dsimp only
  rw [if_neg h]
  exact (apply_ite ok _ _ _).symm

theorem edgeTaken_spec (k : Fin 16) (level : Bool) (p : List Int) (s : State) :
    bitOf (fget (edgeTaken k level p s) MOT_DSSTATE_COVERED) k = level ∧
      fget (edgeTaken k level p s) MOT_CTL_PACE_MODE = fget s MOT_CTL_PACE_MODE ∧
      fget (edgeTaken k level p s) MOT_ADM_FEED_DS = fget s MOT_ADM_FEED_DS := by
  have hw := edgeServed_within k level p (fset s MOT_DSSTATE_COVERED (coveredAfter k level (fget s MOT_DSSTATE_COVERED)))
  refine ⟨?_, ?_, ?_⟩
  · rw [edgeTaken, hw.fget_row MOT_DSSTATE_COVERED_row rfl, fget_fset _ (show 15 < 32 by decide), bitOf_eq_testBit,
      Nat.testBit_mod_two_pow, ← bitOf_eq_testBit, bitOf_coveredAfter]
    exact (congrArg (· && level) (decide_eq_true k.isLt)).trans (Bool.true_and level)
  · rw [edgeTaken, hw.fget_row MOT_CTL_PACE_MODE_row rfl]
    exact fget_fset_other _ (Fld.apart_of_rows MOT_DSSTATE_COVERED_row MOT_CTL_PACE_MODE_row rfl)
  · rw [edgeTaken, hw.fget_row MOT_ADM_FEED_DS_row rfl]
    exact fget_fset_other _ (Fld.apart_of_rows MOT_DSSTATE_COVERED_row MOT_ADM_FEED_DS_row rfl)

/-- A request waits until it is granted (R286). -/
theorem admRequest_admReq (s : State) : (admRequest s).mot.admReq = true := by
  unfold admRequest
  dsimp only
  split
  · rfl
  · exact congrArg MotSt.admReq (fsets_mot _ _)

/-! Admission (R286, R287). -/

/-- TIME at which the release pulse of a grant ends. -/
def releaseEnd (s : State) : Nat := s.time + 600 * max 1 (fget s MOT_ADM_REL_W)

/-- The motion block with the request granted: the release pulse and the reservation. -/
def granted (s : State) : MotSt :=
  { s.mot with
    admReq := false, relOut := bset [] (fget s MOT_ADM_TO_SEL) true, relEnd := releaseEnd s
    resv := (if (docHeads s).isEmpty then [] else s.mot.resv) ++ [⟨1024 * raw s MOT_ADMKIB, [], []⟩] }

/-- The state with the grant counted in ADMITTED. -/
def grantCounted (s : State) : State :=
  pmcEvent 0x26 (fset { s with mot := granted s } MOT_ADMSTAT_ADMITTED (satAdd 0xFFFF (fget s MOT_ADMSTAT_ADMITTED) 1))

theorem execAdmissionGrant_grants {s : State} (h : admMay s = true) :
    exec .admissionGrant s = .next (schedule (grantCounted s) (releaseEnd s) .releasePulseEnd) := by
  have hno : ¬ (!admMay s) = true := by simp [h]
  exact if_neg hno

/-- The output that TO_SEL selects carries the pulse. -/
theorem granted_relOut (s : State) : bget (granted s).relOut (fget s MOT_ADM_TO_SEL) = true := by
  rw [granted, bget, bset, tget_tset]

theorem grantCounted_mot (s : State) : (grantCounted s).mot = granted s := (pmcEvent_counted _ _).mot

theorem satAdd_le {top v n : Nat} : satAdd top v n ≤ top := by
  unfold satAdd
  split <;> omega

theorem grantCounted_ADMITTED (s : State) :
    fget (grantCounted s) MOT_ADMSTAT_ADMITTED = satAdd 0xFFFF (fget s MOT_ADMSTAT_ADMITTED) 1 := by
  rw [grantCounted, fget_pmcEvent]
  exact fget_fset_of_lt (Nat.lt_succ_of_le satAdd_le) rfl

theorem execReleasePulseEnd_due {s : State} (h : s.mot.relEnd ≠ 0 ∧ s.mot.relEnd ≤ s.time) :
    exec .releasePulseEnd s = .next { s with mot := { s.mot with relEnd := 0, relOut := [] } } :=
  if_pos h

/-! The end of documents (R596). -/

/-- The state after a write of MOT_HDOC. -/
def hdocWritten (h : Fin 16) (v : Nat) (s : State) : State :=
  writeRw (MOT_HDOC h) v (whenS (docEn s h && !bitOf v 31) (docDisable h) s)

theorem reg_hdocWritten (h : Fin 16) (v : Nat) (s : State) :
    reg (hdocWritten h v s) (MOT_HDOC h) = reg (writeRw (MOT_HDOC h) v s) (MOT_HDOC h) := by
  rw [hdocWritten]
  cases docEn s h && !bitOf v 31 <;> rfl

/-- Clearing DOC_EN ends the open document, and no edge waits (R596). -/
theorem getDoc_hdocWritten {h : Fin 16} {v : Nat} {s : State} (hen : docEn s h = true) (hv : bitOf v 31 = false)
    (hopen : docOpen s h = true) :
    (getDoc (hdocWritten h v s) h).endNow = true ∧ (getDoc (hdocWritten h v s) h).edges = [] := by
  have hoff : (docEn s h && !bitOf v 31) = true := by rw [hen, hv]; rfl
  have e : getDoc (hdocWritten h v s) h = { getDoc s h with edges := [], syncPend := [], endNow := (getDoc s h).cur.isSome } := by
    rw [hdocWritten, hoff]
    exact getDoc_setDoc s h _
  rw [e]
  exact ⟨hopen, rfl⟩

end Sys2Proof.Machine

open Sys2Proof Sys2Proof.Machine

/-- Settles O22: an edge is shown and served before it may ask for admission, a grant leaves the granted motion block, and the write of
MOT_HDOC ends the document before it stores. -/
theorem sensorsAndAdmission : Obligations.SensorsAndAdmission := by
  refine ⟨fun s k level u p _ h => ?_, fun s _ h => ?_, fun s h0 ht => ?_, fun s h v _ hm => ?_⟩
  · obtain ⟨hcov, hmode, hfeed⟩ := edgeTaken_spec k level p s
    refine ⟨_, execDocSensorEdge_edge u p h, ?_⟩
    dsimp only
    rw [hmode, hfeed]
    split
    · have hkeep : fget (admRequest (edgeTaken k level p s)) MOT_DSSTATE_COVERED = fget (edgeTaken k level p s) MOT_DSSTATE_COVERED :=
        (admRequest_within (Sub.refl _) (Within.refl _ _)).fget_row MOT_DSSTATE_COVERED_row rfl
      exact ⟨hkeep ▸ hcov, fun _ _ _ => admRequest_admReq _⟩
    · next hno =>
      refine ⟨hcov, fun hl hp hf => absurd ?_ hno⟩
      simp [hl, hp, hf]
  · have hmot := grantCounted_mot s
    refine ⟨_, execAdmissionGrant_grants h, ?_⟩
    rw [schedule_mot, hmot, fget_schedule, grantCounted_ADMITTED]
    exact ⟨rfl, rfl, granted_relOut s, rfl, List.getLast?_concat, mem_agenda_schedule _ _ _⟩
  · exact ⟨_, execReleasePulseEnd_due ⟨h0, ht⟩, rfl, rfl⟩
  · refine exec_onWrite rfl hm fun u hu => ?_
    have hdoc (k : Nat) : getDoc u k = getDoc s k := by rw [getDoc, hu.mot, getDoc]
    refine ⟨(reg_hdocWritten h v.toNat u).trans (reg_writeRw_counted hu _ _), fun hen hv hopen => ?_⟩
    refine getDoc_hdocWritten (s := u) ?_ ?_ ?_
    · rw [docEn, flag_counted hu]; exact hen
    · rw [bitOf_eq_testBit]; exact hv
    · rw [docOpen, hdoc]; exact hopen
end

section
/-! The axes through a trigger cause: neither the documents, nor the causes of the heads, nor the tokens of a joined system change the
record of an axis (R269 to R277, R463). -/

namespace Sys2Proof.Machine

/-- t has the axes of s. -/
def SameAxes (s t : State) : Prop := t.mot.axes = s.mot.axes

namespace SameAxes

variable {s t : State}

theorem refl (s : State) : SameAxes s s := rfl

theorem getAxis (k : SameAxes s t) (m : Nat) : getAxis t m = getAxis s m :=
  congrArg (fun a => tget (fun _ => ({} : AxisSt)) a m) k

/-- Operations outside the motion block leave the axes. -/
theorem within {u : State} {m : Nat} (k : SameAxes s t) (h : Within m t u) (c : m.testBit 20 = false) : SameAxes s u :=
  (congrArg MotSt.axes (h.mot_eq c)).trans k

theorem whenS (k : SameAxes s t) (b : Bool) {f : State → State} (h : ∀ u, SameAxes s u → SameAxes s (f u)) :
    SameAxes s (whenS b f t) := by
  cases b
  · exact k
  · exact h t k

/-! Single writes. -/

theorem setRaw (k : SameAxes s t) (off v : Nat) : SameAxes s (setRaw t off v) := k
theorem fset (k : SameAxes s t) (f : Fld) (x : Nat) : SameAxes s (fset t f x) := k
theorem setFlag (k : SameAxes s t) (f : Fld) (b : Bool) : SameAxes s (setFlag t f b) := k
theorem setDoc (k : SameAxes s t) (h : Nat) (x : DocSt) : SameAxes s (setDoc h x t) := k
theorem setHead (k : SameAxes s t) (h : Nat) (x : HeadSt) : SameAxes s (setHead h x t) := k
theorem schedule (k : SameAxes s t) (n : Nat) (c : Instr) : SameAxes s (schedule t n c) := k

theorem pmcEvent (k : SameAxes s t) (ev : Nat) : SameAxes s (pmcEvent ev t) :=
  (congrArg MotSt.axes (pmcEvent_counted ev t).mot).trans k

theorem raise (k : SameAxes s t) (cls src code : Nat) (items : List Nat) : SameAxes s (raise cls src code items t) :=
  k.within (raise_within (Sub.refl _) (Within.refl _ t)) rfl

/-! Documents and grids (R267 to R277, R287). -/

theorem resvStart (k : SameAxes s t) (h : Nat) : SameAxes s (resvStart h t) := by
  unfold Machine.resvStart
  dsimp only
  split <;> exact k

theorem resvEnd (k : SameAxes s t) (h : Nat) : SameAxes s (resvEnd h t) := by
  unfold Machine.resvEnd
  dsimp only
  split <;> exact k

theorem skipFinish (k : SameAxes s t) (h doc : Nat) : SameAxes s (skipFinish h doc t) :=
  k.within (skipFinish_within (Sub.refl _) (Within.refl _ t)) rfl

theorem markEnd (k : SameAxes s t) (h doc : Nat) : SameAxes s (markEnd h doc t) :=
  k.within (markEnd_within (Sub.refl _) (Within.refl _ t)) rfl

theorem gridAdvance (k : SameAxes s t) (h : Nat) : SameAxes s (gridAdvance h t) := by
  unfold Machine.gridAdvance
  dsimp only
  split
  · exact k.setDoc h _
  · split <;> exact k.setDoc h _

theorem resync (k : SameAxes s t) (h c : Nat) : SameAxes s (resync h c t) := by
  unfold Machine.resync
  dsimp only
  split
  · exact k
  split
  · split <;> exact k.setDoc h _
  · exact k.setFlag _ _

theorem docStart (k : SameAxes s t) (h tag : Nat) : SameAxes s (docStart h tag t) := by
  unfold Machine.docStart
  dsimp only
  split
  · exact k
  · exact (((k.setDoc h _).setRaw _ _).resvStart h).raise _ _ _ _

theorem docFinish (k : SameAxes s t) (h tag : Nat) : SameAxes s (docFinish h tag t) :=
  ((k.setDoc h _).raise _ _ _ _).resvEnd h

theorem docAfterEnd (k : SameAxes s t) (h : Nat) : SameAxes s (docAfterEnd h t) := by
  unfold Machine.docAfterEnd
  dsimp only
  split
  · exact k
  split
  · exact k
  · exact (k.setDoc h _).resync h _

theorem docLine (k : SameAxes s t) (h tag : Nat) : SameAxes s (docLine h tag t) := by
  have hline := fun x => k.setDoc h x
  unfold Machine.docLine
  dsimp only
  split
  · split
    · exact (((hline _).markEnd h _).docFinish h _).docAfterEnd h
    · exact hline _
  · exact hline _

theorem docAccept (k : SameAxes s t) (h b tag : Nat) : SameAxes s (docAccept h b tag t).1 := by
  unfold Machine.docAccept
  split
  · exact k
  extract_lets d starts u last d' v n
  have hu : SameAxes s u := by
    show SameAxes s (if starts then Machine.docStart h tag t else t)
    split
    · exact k.docStart h tag
    · exact k
  have hv : SameAxes s v := hu.setDoc h _
  split
  · exact hv
  split
  · exact hv.docFinish h tag
  · exact hv

theorem docOverrun (k : SameAxes s t) (h b tag : Nat) : SameAxes s (docOverrun h b tag t) := by
  unfold Machine.docOverrun
  dsimp only
  split
  · exact ((k.setDoc h _).docFinish h tag).skipFinish h _
  · exact k.setDoc h _

/-! Causes of a head (R73 to R79, R269 to R271). -/

theorem lineBegin (k : SameAxes s t) (h tag : Nat) (run : Bool) : SameAxes s (lineBegin h tag run t) := by
  have hlamps : SameAxes s (lampsAtB0 h (commitBandSet h t)) :=
    (k.within (commitBandSet_within (Sub.refl _) (Within.refl _ t)) rfl).within
      (lampsAtB0_within (Sub.refl _) (Within.refl _ _)) rfl
  unfold Machine.lineBegin
  dsimp only
  split
  · exact hlamps
  · exact ((hlamps.setRaw _ _).setHead h _).docLine h tag

theorem overrun (k : SameAxes s t) (h b tag : Nat) (run : Bool) : SameAxes s (overrun h b tag run t) := by
  unfold Machine.overrun
  extract_lets first t1 t2 t3 t4 t5
  have hevent : SameAxes s t2 := (k.fset _ _).setFlag _ _
  have htold : SameAxes s t4 := (hevent.whenS first fun u hu => hu.raise _ _ _ _).pmcEvent _
  have hdoc : SameAxes s t5 := htold.whenS _ fun u hu => hu.docOverrun h b tag
  exact (hdoc.fset _ _).within (busOverrun_within (Sub.refl _) (Within.refl _ _)) rfl

theorem acceptCause (k : SameAxes s t) (h : Fin 16) (b tag : Nat) (run : Bool) : SameAxes s (acceptCause h b tag run t) := by
  unfold Machine.acceptCause
  extract_lets r u l x v w
  have hr : SameAxes s u := by
    show SameAxes s (if run then (t, ({} : DocTag)) else Machine.docAccept h b tag t).1
    split
    · exact k
    · exact k.docAccept h b tag
  have hw : SameAxes s w := (hr.setHead h _).schedule _ _
  exact (hw.within (busHold_within (Sub.refl _) (Within.refl _ _)) rfl).fset _ _

theorem causeAt (k : SameAxes s t) (h : Fin 16) (b tag : Nat) (run : Bool) : SameAxes s (causeAt h b tag run t) := by
  unfold Machine.causeAt
  extract_lets u
  have hu : SameAxes s u := by
    show SameAxes s (if b = 0 then Machine.lineBegin h tag run t else t)
    split
    · exact k.lineBegin h tag run
    · exact k
  split
  · exact hu.overrun h b tag run
  · exact hu.acceptCause h b tag run

theorem headCause (k : SameAxes s t) (h : Fin 16) (b tag : Nat) : SameAxes s (headCause h b tag t) := by
  unfold Machine.headCause
  split
  · exact k
  split
  · exact k.fset _ _
  · split
    · exact k.fset _ _
    · exact k.causeAt h b tag false
  · exact k

theorem gridCause (k : SameAxes s t) (h : Fin 16) : SameAxes s (gridCause h t) :=
  (((k.pmcEvent 0x23).headCause h _ _).gridAdvance h).docAfterEnd h

theorem crossings (k : SameAxes s t) (m : Nat) : SameAxes s (crossings m t) :=
  foldl_keeps (P := SameAxes s) (fun u h hu => by
    split
    · split
      · exact hu.gridCause _
      · exact hu
    · exact hu) k

end SameAxes

end Sys2Proof.Machine
end

section
/-! Positions: a step, a count of an encoder and an illegal transition, what each leaves of the places of the axes, and the statement of
spec/09 that rests on them (R262 to R266, R294). -/

namespace Sys2Proof.Machine

/-- Every axis has in t the position and the commanded steps that it has in s. -/
def SamePlaces (s t : State) : Prop :=
  ∀ k, (getAxis t k).pos = (getAxis s k).pos ∧ (getAxis t k).cmdSteps = (getAxis s k).cmdSteps

namespace SamePlaces

variable {s t : State}

theorem refl (s : State) : SamePlaces s s := fun _ => ⟨rfl, rfl⟩

theorem axes {u : State} (k : SamePlaces s t) (h : SameAxes t u) : SamePlaces s u := fun j => by
  rw [h.getAxis]
  exact k j

theorem within {u : State} {m : Nat} (k : SamePlaces s t) (h : Within m t u) (c : m.testBit 20 = false) : SamePlaces s u :=
  k.axes ((SameAxes.refl t).within h c)

/-- An update of the record of an axis that leaves its place. -/
theorem setAxis (k : SamePlaces s t) (j : Nat) {x : AxisSt} (hp : x.pos = (getAxis t j).pos)
    (hc : x.cmdSteps = (getAxis t j).cmdSteps) : SamePlaces s (setAxis j x t) := fun i => by
  by_cases e : i = j
  · rw [e, getAxis_setAxis, hp, hc]
    exact k j
  · rw [getAxis_setAxis_other t x e]
    exact k i

theorem noteMove (k : SamePlaces s t) (m : Nat) : SamePlaces s (noteMove m t) := k.setAxis m rfl rfl

theorem moveUnit (k : SamePlaces s t) (m : Nat) : SamePlaces s (moveUnit m t) := by
  have hleft (n u : Nat) : SamePlaces s (Machine.setAxis m { getAxis t m with moveLeft := n, takeUp := u } t) := k.setAxis m rfl rfl
  unfold Machine.moveUnit
  dsimp only
  split
  · exact k
  split
  · exact hleft _ (getAxis t m).takeUp
  split
  · exact hleft _ 0
  split
  · exact hleft 0 (getAxis t m).takeUp
  · exact hleft 0 (getAxis t m).takeUp

theorem axisRests (k : SamePlaces s t) (m : Nat) : SamePlaces s (axisRests m t) :=
  (k.setAxis m rfl rfl : SamePlaces s (Machine.setAxis m ((getAxis t m).rested t.time) t)).axes
    (congrArg MotSt.axes (axisRests_mot m t))

theorem controlledStop (k : SamePlaces s t) (m : Nat) : SamePlaces s (controlledStop m t) :=
  k.within (controlledStop_within (Sub.refl _) (Within.refl _ t)) rfl

theorem segEnd (k : SamePlaces s t) (m : Nat) : SamePlaces s (segEnd m t) := by
  unfold Machine.segEnd
  dsimp only
  split
  · exact k
  · next g rest _ =>
    have hnext : SamePlaces s (Machine.setAxis m { getAxis t m with segs := rest, made := 0 } t) := k.setAxis m rfl rfl
    split
    · split <;> exact hnext.axes rfl
    · split
      · refine SamePlaces.axisRests ?_ m
        exact hnext.axes rfl
      · refine SamePlaces.controlledStop ?_ m
        exact hnext.axes rfl

end SamePlaces

/-! A unit of a position (R262, R263). -/

/-- Plus or minus one, by the direction. -/
def unitOf (fwd : Bool) : Int := if fwd then 1 else -1

/-- The state with POS of axis m moved by one. -/
def posShifted (m : Nat) (fwd : Bool) (s : State) : State :=
  setAxis m { getAxis s m with pos := posAdd (getAxis s m).pos (unitOf fwd) } s

theorem posMove_eq (m : Nat) (fwd : Bool) (s : State) : posMove m fwd s =
    let u := auxPosTrigger m fwd (moveUnit m (posShifted m fwd (noteMove m s)))
    if axisShared u m then forwardCause m fwd false u else if fwd then crossings m u else u := rfl

/-- What follows a change of POS, the aux passes, the crossings and the token, changes no place. -/
theorem posMove_samePlaces (m : Nat) (fwd : Bool) (s : State) :
    SamePlaces (posShifted m fwd (noteMove m s)) (posMove m fwd s) := by
  have hpass := ((SamePlaces.refl (posShifted m fwd (noteMove m s))).moveUnit m).within
    (auxPosTrigger_within (m_ := m) (fwd := fwd) (Sub.refl _) (Within.refl _ _)) rfl
  rw [posMove_eq]
  dsimp only
  generalize auxPosTrigger m fwd (moveUnit m (posShifted m fwd (noteMove m s))) = u at hpass
  cases axisShared u m with
  | true => exact hpass.within (forwardCause_within (Sub.refl _) (Within.refl _ u)) rfl
  | false =>
    cases fwd with
    | true => exact hpass.axes ((SameAxes.refl u).crossings m)
    | false => exact hpass

theorem posMove_pos (m k : Nat) (fwd : Bool) (s : State) :
    (getAxis (posMove m fwd s) k).pos = if k = m then posAdd (getAxis s m).pos (unitOf fwd) else (getAxis s k).pos := by
  have hnote := fun j => ((SamePlaces.refl s).noteMove m j).1
  rw [(posMove_samePlaces m fwd s k).1, posShifted, hnote m]
  split
  · next e => rw [e, getAxis_setAxis]
  · next e => rw [getAxis_setAxis_other _ _ e, hnote k]

theorem posMove_cmdSteps (m k : Nat) (fwd : Bool) (s : State) :
    (getAxis (posMove m fwd s) k).cmdSteps = (getAxis s k).cmdSteps := by
  have hshift : SamePlaces (posShifted m fwd (noteMove m s)) (posMove m fwd s) := posMove_samePlaces m fwd s
  have hnote := fun j => ((SamePlaces.refl s).noteMove m j).2
  rw [(hshift k).2, posShifted]
  by_cases e : k = m
  · rw [e, getAxis_setAxis, hnote m]
  · rw [getAxis_setAxis_other _ _ e, hnote k]

/-! A step (R262, R290, R294). -/

/-- The state in which a step of axis m is commanded: its direction shown, and counted in its segment and since the bind. -/
def stepCommanded (m : Nat) (fwd : Bool) (s : State) : State :=
  let u := pmcEvent 0x20 (fset s (MOT_ASTATUS_DIR m) (b2n (!fwd)))
  let x := getAxis s m
  setAxis m { x with
    made := if fget u (MOT_ASTATUS_MOVE m) == 0 then x.made + 1 else x.made, cmdSteps := x.cmdSteps + unitOf fwd } u

/-- The state in which POS has followed the step, unless an encoder is bound. -/
def stepMoved (m : Nat) (fwd : Bool) (s : State) : State :=
  let u := stepCommanded m fwd s
  if flag u (MOT_ACTL_BIND m) then showErr m u else posMove m fwd u

theorem axisStep_samePlaces (m : Nat) (fwd : Bool) (s : State) : SamePlaces (stepMoved m fwd s) (axisStep m fwd s) := by
  unfold axisStep
  extract_lets x u prof v w
  have hw : w = stepMoved m fwd s := rfl
  rw [hw]
  split
  · unfold whenS
    split
    · exact (SamePlaces.refl _).segEnd m
    · exact .refl _
  · exact .refl _

theorem stepCommanded_spec (m : Nat) (fwd : Bool) (s : State) :
    (getAxis (stepCommanded m fwd s) m).pos = (getAxis s m).pos ∧
      (getAxis (stepCommanded m fwd s) m).cmdSteps = (getAxis s m).cmdSteps + unitOf fwd ∧
      flag (stepCommanded m fwd s) (MOT_ACTL_BIND m) = flag s (MOT_ACTL_BIND m) := by
  unfold stepCommanded
  dsimp only
  rw [getAxis_setAxis, flag_setAxis, flag_pmcEvent]
  exact ⟨rfl, rfl, flag_fset_other _ (Fld.apart_of_rows (MOT_ASTATUS_DIR_row m) (MOT_ACTL_BIND_row m) rfl)⟩

theorem axisStep_spec (m : Nat) (fwd : Bool) (s : State) :
    (getAxis (axisStep m fwd s) m).cmdSteps = (getAxis s m).cmdSteps + unitOf fwd ∧
      (getAxis (axisStep m fwd s) m).pos =
        if flag s (MOT_ACTL_BIND m) = true then (getAxis s m).pos else posAdd (getAxis s m).pos (unitOf fwd) := by
  obtain ⟨hpos, hcmd, hbind⟩ := stepCommanded_spec m fwd s
  obtain ⟨hp, hc⟩ := axisStep_samePlaces m fwd s m
  rw [hp, hc, stepMoved, hbind]
  split
  · exact ⟨hcmd, hpos⟩
  · rw [posMove_cmdSteps, posMove_pos, if_pos rfl, hpos]
    exact ⟨hcmd, rfl⟩

theorem execPosChange_steps {m : Fin 8} {s : State} (fwd : Bool) (hm : axisMoving s m = true) (hp : (getAxis s m).enPin = true)
    (ht : (getAxis s m).readyAt ≤ s.time) : exec (.posChange m fwd) s = .next (axisStep m fwd s) :=
  if_pos (by simp [hm, hp, ht])

/-! Counts of an encoder (R262, R264, R294). -/

/-- Axis m is bound to encoder e (R263). -/
def boundTo (s : State) (e m : Nat) : Bool := flag s (MOT_ACTL_BIND m) && fget s (MOT_ACTL_ENC m) == e

/-- The state with one count of encoder e in MOT_ECNT. -/
def countShown (e : Nat) (fwd : Bool) (s : State) : State :=
  pmcEvent 0x21 (setRaw s (MOT_ECNT e) (if fwd then (raw s (MOT_ECNT e) + 1) % 2 ^ 32 else (raw s (MOT_ECNT e) + 2 ^ 32 - 1) % 2 ^ 32))

/-- Axis m follows one count of encoder e where it is bound to it. -/
def countFollowed (e : Nat) (fwd : Bool) (m : Nat) (s : State) : State :=
  if boundTo s e m then
    posMove m fwd (showErr m (setAxis m { getAxis s m with encCounts := (getAxis s m).encCounts + unitOf fwd } s))
  else s

theorem encoderCount_eq (e : Nat) (fwd : Bool) (s : State) :
    encoderCount e fwd s = forN 8 (countFollowed e fwd) (countShown e fwd s) := rfl

/-- The parts that a bound axis and its count change: not MOT_ACTL, not MOT_ECNT. -/
theorem countFollowed_within {p : Nat} {s t : State} (e : Nat) (fwd : Bool) (m : Nat)
    (hp : Sub (0x12c0201040014000020040004000000000004c038000088000000000000020003b87829 |||
      0x80000000000000000000000000000000000000000000000000000000) p) (h : Within p s t) : Within p s (countFollowed e fwd m t) := by
  unfold countFollowed
  split
  · exact posMove_within (hp.up rfl) (showErr_within (hp.up rfl) (setAxis_within (hp.up rfl) h))
  · exact h

theorem boundTo_of_within {p : Nat} {s t : State} (h : Within p s t) (hp : (p.testBit (32 + 180) || p.testBit 31) = false) (e m : Nat) :
    boundTo t e m = boundTo s e m := by
  rw [boundTo, h.flag_row (MOT_ACTL_BIND_row m) hp, h.fget_row (MOT_ACTL_ENC_row m) hp, boundTo]

theorem countFollowed_pos (e : Nat) (fwd : Bool) (m k : Nat) (s : State) :
    (getAxis (countFollowed e fwd m s) k).pos =
      if k = m ∧ boundTo s e m = true then posAdd (getAxis s k).pos (unitOf fwd) else (getAxis s k).pos := by
  unfold countFollowed
  cases hb : boundTo s e m with
  | false => simp
  | true =>
    have hset : SamePlaces s (setAxis m { getAxis s m with encCounts := (getAxis s m).encCounts + unitOf fwd } s) :=
      (SamePlaces.refl s).setAxis m rfl rfl
    have hcounted := hset.within (showErr_within (m_ := m) (Sub.refl _) (Within.refl _ _)) rfl
    rw [if_pos rfl, posMove_pos, (hcounted m).1, (hcounted k).1]
    by_cases hk : k = m
    · simp [hk]
    · simp [hk]

theorem forN_succ (n : Nat) (f : Nat → State → State) (s : State) : forN (n + 1) f s = f n (forN n f s) := by
  rw [forN, List.range_succ, List.foldl_append, List.foldl_cons, List.foldl_nil, forN]

/-- The axes below n that are bound to encoder e have followed its count, and no other axis has. -/
theorem countsFollowed_pos (e : Nat) (fwd : Bool) (n k : Nat) (s : State) :
    (getAxis (forN n (countFollowed e fwd) s) k).pos =
      if k < n ∧ boundTo s e k = true then posAdd (getAxis s k).pos (unitOf fwd) else (getAxis s k).pos := by
  induction n with
  | zero => simp [forN]
  | succ n ih =>
    have hbound : boundTo (forN n (countFollowed e fwd) s) e n = boundTo s e n :=
      boundTo_of_within (forN_within (fun m _ h => countFollowed_within e fwd m (Sub.refl _) h) (Within.refl _ s)) rfl e n
    rw [forN_succ, countFollowed_pos, hbound, ih]
    by_cases hk : k = n
    · subst hk
      simp
    · have hlt : k < n + 1 ↔ k < n := by omega
      simp [hk, hlt]

theorem countShown_spec (e : Nat) (fwd : Bool) (s : State) :
    raw (countShown e fwd s) (MOT_ECNT e) = (raw s (MOT_ECNT e) + if fwd = true then 1 else 2 ^ 32 - 1) % 2 ^ 32 ∧
      (countShown e fwd s).mot = s.mot ∧ ∀ m, boundTo (countShown e fwd s) e m = boundTo s e m := by
  have hw : Within (2 ^ (32 + 196)) s (setRaw s (MOT_ECNT e)
      (if fwd then (raw s (MOT_ECNT e) + 1) % 2 ^ 32 else (raw s (MOT_ECNT e) + 2 ^ 32 - 1) % 2 ^ 32)) :=
    setRaw_within (.of (MOT_ECNT_row e) rfl) (Within.refl _ s)
  refine ⟨?_, (pmcEvent_counted _ _).mot, fun m => ?_⟩
  · rw [countShown, raw_counted (pmcEvent_counted _ _), raw_setRaw]
    cases fwd
    · simp only [Bool.false_eq_true, if_false]
      omega
    · simp only [if_true]
      omega
  · rw [← boundTo_of_within hw rfl e m, boundTo, boundTo, countShown, flag_pmcEvent, fget_pmcEvent]

theorem encoderCount_spec (e : Nat) (fwd : Bool) (s : State) :
    raw (encoderCount e fwd s) (MOT_ECNT e) = (raw s (MOT_ECNT e) + if fwd = true then 1 else 2 ^ 32 - 1) % 2 ^ 32 ∧
      ∀ m < 8, boundTo s e m = true → (getAxis (encoderCount e fwd s) m).pos = posAdd (getAxis s m).pos (unitOf fwd) := by
  obtain ⟨hcount, hmot, hbound⟩ := countShown_spec e fwd s
  rw [encoderCount_eq]
  refine ⟨?_, fun m hm hb => ?_⟩
  · have hw := forN_within (n := 8) (fun m _ h => countFollowed_within e fwd m (Sub.refl _) h) (Within.refl _ (countShown e fwd s))
    rw [hw.raw (clearOf_of_row (MOT_ECNT_row e) rfl rfl), hcount]
  · rw [countsFollowed_pos, if_pos ⟨hm, (hbound m).trans hb⟩, getAxis_of_mot_eq hmot]

/-! Edges of an encoder (R264 to R266). -/

/-- The present record of encoder e. -/
def getEnc (s : State) (e : Nat) : EncSt := tget (fun _ => {}) s.mot.encs e

/-- The state with the accepted levels of encoder e. -/
def levelsTaken (e : Nat) (a b i : Bool) (s : State) : State :=
  { s with mot := { s.mot with encs := tset (fun _ => {}) s.mot.encs e ⟨a, b, i⟩ } }

/-- The index input rises where it is enabled, and MOT_EIDX takes the count (R266); i0 is its level before. -/
def indexTaken (e : Nat) (i i0 : Bool) (s : State) : State :=
  if flag s (MOT_ECTL_IDX_EN e) && i && !i0 then setRaw s (MOT_EIDX e) (raw s (MOT_ECNT e)) else s

theorem indexTaken_within (e : Nat) (i i0 : Bool) (s : State) : Within (2 ^ (32 + 197)) s (indexTaken e i i0 s) := by
  unfold indexTaken
  split
  · exact setRaw_within (.of (MOT_EIDX_row e) rfl) (Within.refl _ s)
  · exact .refl _ s

theorem indexTaken_raw (e : Nat) {i i0 : Bool} {s : State} (hen : flag s (MOT_ECTL_IDX_EN e) = true) (hi : i = true) (hi0 : i0 = false) :
    raw (indexTaken e i i0 s) (MOT_EIDX e) = raw s (MOT_ECNT e) := by
  rw [indexTaken, if_pos (by simp [hen, hi, hi0]), raw_setRaw]
  exact Nat.mod_eq_of_lt (raw_lt s _)

theorem execEncoderEdge_counts {e : Fin 4} {a b i fwd : Bool} {s : State} (hen : flag s (MOT_ECTL_EN e) = true)
    (hone : (getEnc s e).a.xor a ≠ (getEnc s e).b.xor b) (hc : encCount s e ((getEnc s e).a != a) a b = some fwd) :
    exec (.encoderEdge e a b i) s =
      .next (indexTaken e i (getEnc s e).i (encoderCount e fwd (levelsTaken e a b i s))) := by
  have hnot : ((getEnc s e).a != a) = !((getEnc s e).b != b) := Bool.eq_not.2 hone
  have hboth : ((getEnc s e).a != a && (getEnc s e).b != b) = false := by rw [hnot, Bool.not_and_self]
  have hany : ((getEnc s e).a != a || (getEnc s e).b != b) = true := by rw [hnot, Bool.not_or_self]
  have hc' : encCount (levelsTaken e a b i s) e ((getEnc s e).a != a) a b = some fwd := hc
  have hen' : flag (levelsTaken e a b i s) (MOT_ECTL_EN e) = true := hen
  show execEncoderEdge e a b i s = _
  unfold execEncoderEdge
  dsimp only
  rw [← levelsTaken, ← getEnc, hen', hboth, hany, hc']
  exact (apply_ite ok _ _ _).symm

theorem execEncoderEdge_illegal {e : Fin 4} {a b i : Bool} {s : State} (hen : flag s (MOT_ECTL_EN e) = true)
    (ha : (getEnc s e).a ≠ a) (hb : (getEnc s e).b ≠ b) :
    exec (.encoderEdge e a b i) s = .next (indexTaken e i (getEnc s e).i (encoderIllegal e (levelsTaken e a b i s))) := by
  have hboth : ((getEnc s e).a != a && (getEnc s e).b != b) = true := by simp [ha, hb]
  have hen' : flag (levelsTaken e a b i s) (MOT_ECTL_EN e) = true := hen
  show execEncoderEdge e a b i s = _
  unfold execEncoderEdge
  dsimp only
  rw [← levelsTaken, ← getEnc, hen', hboth]
  exact (apply_ite ok _ _ _).symm

/-- The state with an illegal transition of encoder e counted and shown. -/
def illegalShown (e : Nat) (s : State) : State :=
  pmcEvent 0x22 (setFlag (setRaw s (MOT_EERR e) (satAdd 0xFFFFFFFF (raw s (MOT_EERR e)) 1)) MOT_EVENTS_ENC_ERR true)

theorem encoderIllegal_eq (e : Nat) (s : State) :
    encoderIllegal e s = whenS (!flag s MOT_EVENTS_ENC_ERR) (raise 0 0xE 0x87 [e]) (illegalShown e s) := rfl

/-- An illegal transition is counted, up to the full count, and shown (R265). -/
theorem encoderIllegal_spec (e : Nat) (s : State) :
    raw (encoderIllegal e s) (MOT_EERR e) = satAdd 0xFFFFFFFF (raw s (MOT_EERR e)) 1 ∧
      flag (encoderIllegal e s) MOT_EVENTS_ENC_ERR = true := by
  have hne : MOT_EVENTS_ENC_ERR.off ≠ MOT_EERR e := ne_of_rowIdx MOT_EVENTS_row (MOT_EERR_row e)
  have hle : satAdd 0xFFFFFFFF (raw s (MOT_EERR e)) 1 < 2 ^ 32 := Nat.lt_succ_of_le satAdd_le
  have hw : Within 0x88000000000000000001001801 (illegalShown e s) (encoderIllegal e s) := by
    rw [encoderIllegal_eq]
    exact whenS_within (fun _ hu => raise_within (Sub.refl _) hu) (Within.refl _ _)
  rw [hw.raw (clearOf_of_row (MOT_EERR_row e) rfl rfl), hw.flag_row MOT_EVENTS_ENC_ERR_row rfl, illegalShown,
    raw_counted (pmcEvent_counted _ _), flag_pmcEvent]
  exact ⟨(raw_setRaw_other _ hne).trans ((raw_setRaw _ _).trans (Nat.mod_eq_of_lt hle)), flag_event rfl⟩

end Sys2Proof.Machine

open Sys2Proof Sys2Proof.Machine

/-- Settles O21: a step moves POS unless the axis is bound, a count reaches every axis bound to its encoder and no other, and an illegal
transition is counted only. -/
theorem positionFollowsStepsOrCounts : Obligations.PositionFollowsStepsOrCounts := by
  refine ⟨fun s m fwd _ hm hp ht => ?_, fun s e a b i fwd _ hen => ?_, fun s e a b i _ hen => ?_⟩
  · obtain ⟨hcmd, hpos⟩ := axisStep_spec m fwd s
    exact ⟨_, execPosChange_steps fwd hm hp ht, hcmd, hpos⟩
  · intro x hone hc
    obtain ⟨hcount, hfollow⟩ := encoderCount_spec e fwd (levelsTaken e a b i s)
    have hw := indexTaken_within e i (getEnc s e).i (encoderCount e fwd (levelsTaken e a b i s))
    have hcnt := hw.raw (clearOf_of_row (MOT_ECNT_row e) rfl rfl)
    refine ⟨_, execEncoderEdge_counts hen hone hc, hcnt.trans hcount, fun m hm hb he => ?_, fun hidx hi hi0 => ?_⟩
    · rw [getAxis_of_mot_eq (hw.mot_eq rfl)]
      have hbound : boundTo (levelsTaken e a b i s) e m = true := Bool.and_eq_true_iff.2 ⟨hb, beq_iff_eq.2 he⟩
      exact hfollow m hm hbound
    · rw [hcnt]
      refine indexTaken_raw e ?_ hi hi0
      have hshown := (encoderCount_within (Sub.refl _) (Within.refl _ (levelsTaken e a b i s)) (e := e) (fwd := fwd)).flag_row
        (MOT_ECTL_IDX_EN_row e) rfl
      exact hshown.trans hidx
  · intro x ha hb
    obtain ⟨herr, hevent⟩ := encoderIllegal_spec e (levelsTaken e a b i s)
    have hw := indexTaken_within e i (getEnc s e).i (encoderIllegal e (levelsTaken e a b i s))
    have hi := encoderIllegal_within (Sub.refl _) (Within.refl _ (levelsTaken e a b i s)) (e := e)
    refine ⟨_, execEncoderEdge_illegal hen ha hb, ?_, ?_, ?_, ?_⟩
    · rw [hw.raw (clearOf_of_row (MOT_EERR_row e) rfl rfl), herr]
      rfl
    · rw [hw.flag_row MOT_EVENTS_ENC_ERR_row rfl, hevent]
    · rw [hw.raw (clearOf_of_row (MOT_ECNT_row e) rfl rfl), hi.raw (clearOf_of_row (MOT_ECNT_row e) rfl rfl)]
      rfl
    · rw [hw.mot_eq rfl, hi.mot_eq rfl]
      rfl
end
